-- ==== Sys2Proof/Word.lean ====
section
/-!
DEFINITION. Word.lean: the word types of the model, the shape of a register field, of a register and of a layout field,
and sparse tables.
-/

namespace Sys2Proof

/-- A byte of memory. -/
abbrev Byte := BitVec 8

/-- A 32-bit word: an FP32 lane, an accumulator word, a scalar register (R65, R88, R150). -/
abbrev W32 := BitVec 32

/-- A 64-bit word of a descriptor, command, record, packet or instruction. -/
abbrev W64 := BitVec 64

/-- The words of a descriptor, command, record or packet, word 0 first. -/
abbrev Words := List W64

/-- A sparse table: entries by key, keys strictly rising. A key that is not listed holds the table's default. -/
abbrev SMap (α : Type) := List (Nat × α)

/-- One field of one register: the register's key (see Machine/Regs.lean), the field's lowest bit, its width and its
reset value (R16). -/
structure Fld where
  addr  : Nat
  lo    : Nat
  width : Nat
  rst   : Nat
deriving DecidableEq, Repr

/-- One field of a layout: word, lowest bit, width. -/
structure BF where
  word  : Nat
  lo    : Nat
  width : Nat
deriving DecidableEq, Repr

/-- Access types (R15). `ringProd` and `ringCons` are the two index registers of a radio ring, whose access depends on
the ring's parity (R341). -/
inductive Acc where
  | rw | ro | wo | w1c | rc | w1s | ringProd | ringCons
deriving DecidableEq, Repr

/-- One field of a register table. -/
structure FRow where
  acc   : Acc
  lo    : Nat
  width : Nat
  rst   : Nat
deriving DecidableEq, Repr

/-- One register of a register table: name, key of its first copy, the (stride, count) of each index, whether it is
64-bit, and its fields. -/
structure RegRow where
  name   : String
  base   : Nat
  dims   : List (Nat × Nat)
  is64   : Bool
  fields : List FRow
deriving DecidableEq, Repr

end Sys2Proof
end

