-- ==== Sys2Proof/Syntax.lean ====
section
/-!
DEFINITION. Syntax.lean: the commands of the block, one constructor of `Instr` per row of spec/opcode_table.json, in the
table's order, and the shapes of their operands.

The block is driven by register accesses and by events on its links, pins and clocks. An operand that is an agent says who
makes the access (R460, R461). Tile commands carry the tile, the chuck and the command's two words as they stand in tile
SRAM (R150). Reading commands carry the upsets that the read meets in the stored lines: which errors nature plants is an
input, what the block does about them is its behaviour.
-/

namespace Sys2Proof

/-- The agents of R460. `vf n` is the tenant of instance n; the PF is instance 0. -/
inductive Agent where
  | pf
  | vf (n : Nat)
  | i3c
  | faceplate
  | tailstock
deriving DecidableEq, Repr

/-- The PF's register windows (R445); a VF's accesses to its BAR0 reach its instance page. -/
inductive Space where
  | bar0
  | bar2
deriving DecidableEq, Repr

/-- A packet of the fabric: header words (R256) and payload bytes. -/
structure Packet where
  hdr     : Words
  payload : List Byte
deriving DecidableEq, Repr

/-- Errors that a read finds in the stored line at a unified offset: (symbol position 0-71, error value) (R243). -/
structure Upset where
  off  : Nat
  errs : List (Nat × Nat)
deriving DecidableEq, Repr

/-- A wrong value in one accumulator update (R132, R174): the word (MAC row, column; plane 1 the imaginary set of a complex pair),
where it arises (0 the layer combination, 1 the sum of the update, 2 the rounded significand), and the error `err * 2 ^ exp` (in units of
the significand's last bit at place 2, of the integer sum for complex words). -/
structure ResErr where
  row   : Nat
  col   : Nat
  plane : Nat
  place : Nat
  err   : Int
  exp   : Int
deriving DecidableEq, Repr

/-- What is wrong in one layer's sums of a step (R172, R175): words P as (MAC row, column, error of the real part, of the imaginary part), row checks by
column, and column checks by MAC row. -/
structure SumErr where
  prods : List (Nat × Nat × Int × Int) := []
  cols  : List Nat := []
  rows  : List Nat := []
deriving DecidableEq, Repr

/-- A hardware error in one tile step (R145, R175): wrong sums of layer 0 and of layer 1, wrong values of accumulator updates, a wrong tag copy, an operand parity error, an accumulator parity error, or a
single-bit error that a read of SRAM bank `bank` corrects. -/
inductive StepErr where
  | sums (l0 l1 : SumErr)
  | residue (words : List ResErr)
  | sramSingle (bank : Nat)
  | tag
  | operand (layer : Nat)
  | accParity
deriving DecidableEq, Repr

/-- The cube in which a step's error lies, and the error. -/
structure StepFault where
  cube : Nat
  err  : StepErr
deriving DecidableEq, Repr

/-- What a step slot meets: whether its operand block is late (R98), and the error of the step that issues. -/
structure StepIn where
  late  : Bool
  fault : Option StepFault
deriving DecidableEq, Repr

/-- The tile whose accumulator set drains, and the cube in which a read of accumulator storage fails its parity check (R175). -/
structure DrainIn where
  tile   : Fin 320
  parity : Option (Fin 8)
deriving DecidableEq, Repr

/-- The port that replays, and how many of its packets were acknowledged first (R271). -/
structure PortReplay where
  port  : Fin 12
  acked : Nat
deriving DecidableEq, Repr

/-- What a Uneis port gives back: credits in units of 64 bytes (R274) and link acknowledgements of packets (R271). -/
structure Credit where
  units : Nat
  acked : Nat
deriving DecidableEq, Repr

/-- The column of the router whose flit is in error, and whether it is a single-bit error, which is corrected and logged (R24). -/
structure MeshHit where
  pcol   : Fin 21
  single : Bool
deriving DecidableEq, Repr

/-- The SRAM bank whose word is in error, and whether it is a single-bit error, which is corrected and counted (R145). -/
structure BankHit where
  bank   : Fin 16
  single : Bool
deriving DecidableEq, Repr

/-- Who submits an item descriptor (R49, R452): a tenant's ring, the step builder, or the radio front end for the radio tile of
an LTH_RADIO_TILE entry. -/
inductive Submitter where
  | host (i : Nat)
  | serving
  | radio (entry : Nat)
deriving DecidableEq, Repr

/-- An item of the radio path (R43): item `i` of a radio tile, a Gouge item (modulation or demodulation) or a coding item
(downlink or uplink) of a cell. -/
inductive RadioUnit where
  | tile (t i : Nat)
  | gouge (n : Nat) (mod : Bool)
  | coding (n : Nat) (dl : Bool)
deriving DecidableEq, Repr

/-- The configuration registers of a serving queue (R200). -/
inductive QReg where
  | ctrl
  | rate
  | burst
deriving DecidableEq, Repr

/-- Who meets a failed read of a tier 3 or 4 extent (R246): the DMA descriptor at the head of a tile's engine, or another
reader. -/
inductive OriginUser where
  | dma (tile : Nat)
  | other
deriving DecidableEq, Repr

/-- An Ethernet frame as a fronthaul port receives it (R282): destination and source address, 802.1Q tags as (TPID, tag control
information), EtherType, payload, and whether the FCS is good. -/
structure Frame where
  dst  : Nat
  src  : Nat
  tags : List (Nat × Nat)
  etype : Nat
  payload : List Byte
  fcsOk : Bool
deriving DecidableEq, Repr

/-- The commands of the block, in the order of spec/opcode_table.json: those with operands, then those without. -/
inductive Instr where
  /-- REGISTER_WRITE (R15): A write to a BAR0 or BAR2 register that has no row of its own, applied under its access type, R12, R13 and R14, and journalled where R462 requires. -/
  | registerWrite (a : Agent) (sp : Space) (off len value : Nat)
  /-- REGISTER_READ_CLEAR (R15): A read of a register holding RC fields, which returns the value and then clears those fields, latching the high word under R13. -/
  | registerReadClear (a : Agent) (sp : Space) (off len : Nat)
  /-- RADIO_DEADLINE_CUT (R43): A radio, Gouge or coding item that reaches its DEADLINE is cut and becomes a slot miss. -/
  | radioDeadlineCut (u : RadioUnit)
  /-- LTH_CTRL_WRITE (R40): A write to LTH_CTRL sets RUN, or clears it at the next boundary, and is refused while a cell is on air. -/
  | lthCtrlWrite (a : Agent) (value : W32)
  /-- LTH_TICK_CFG_WRITE (R40): A write to LTH_TICK_CFG takes effect only while RUN is 0, and otherwise sets CFG_REFUSED. -/
  | lthTickCfgWrite (a : Agent) (value : W32)
  /-- ITEM_SUBMIT (R50): An item descriptor is submitted to the Lathe, which checks it and refuses it with REFUSED_STATE or queues it. -/
  | itemSubmit (src : Submitter) (w0 w1 w2 w3 : W64)
  /-- ITEM_START (R52): A tile starts the next ready inference item of its list once the previous one has ended, switching chuck where needed and setting the state of R151. -/
  | itemStart (t : Fin 320)
  /-- RADIO_ITEM_READY (R64): A radio item becomes ready at the later of its release and its input's arrival, preempting the running inference item within 96 cycles. -/
  | radioItemReady (t : Fin 320) (i : Nat)
  /-- CTX_LOAD (R58): Context command LOAD checks the context entry, sets VALID and returns a result in LTH_CTX_RESULT. -/
  | ctxLoad (a : Agent) (value : W64)
  /-- CTX_UNLOAD_SAVE (R59): Context command UNLOAD_SAVE stops placing the context's items and schedules its removal with its partition saved. -/
  | ctxUnloadSave (a : Agent) (value : W64)
  /-- CTX_UNLOAD_DISCARD (R59): Context command UNLOAD_DISCARD stops placing the context's items and schedules its removal with its partition dropped. -/
  | ctxUnloadDiscard (a : Agent) (value : W64)
  /-- CTX_REMOVAL (R59): At the first boundary with no item of the context in progress, the partition is saved or dropped, bindings are released, VALID is cleared and the result is written. -/
  | ctxRemoval (c : Fin 4096)
  /-- LTH_CTX_RESULT_POP (R13): A read of the low word of LTH_CTX_RESULT removes the oldest context-command result and latches its high word. -/
  | lthCtxResultPop (a : Agent) (wide : Bool)
  /-- QUANTUM_EXPIRY (R69): A runnable context that has waited QUANTUM ticks widens eviction to chucks that are not blocked. -/
  | quantumExpiry (c : Fin 4096)
  /-- SWAP_EVICTION_DONE (R70): The DMA transfer of an evicted partition to its save home completes and the banks become free. -/
  | swapEvictionDone (c : Fin 4096)
  /-- SWAP_BRING_IN_DONE (R70): The incoming partition has arrived from its save home, and the context becomes ready at the next boundary. -/
  | swapBringInDone (c : Fin 4096) (ups : List Upset)
  /-- NOP (R159): Tile command NOP does nothing. -/
  | nop (t : Fin 320) (c : Fin 4) (w0 w1 : W64)
  /-- END (R156): Tile command END ends the item, committing it first if it has not committed. -/
  | end_ (t : Fin 320) (c : Fin 4) (w0 w1 : W64)
  /-- COMMIT (R154): Tile command COMMIT waits for drains and DMA, commits the item, applies held semaphore changes and starts the tail. -/
  | commit (t : Fin 320) (c : Fin 4) (w0 w1 : W64)
  /-- WAIT_SEMAPHORE (R171): WAIT with KIND 0 holds the chuck until semaphore SEM reaches VALUE, letting other chucks run meanwhile. -/
  | waitSemaphore (t : Fin 320) (c : Fin 4) (w0 w1 : W64)
  /-- WAIT_MATRIX_DRAIN (R159): WAIT with KIND 1 holds the chuck until every matrix operation of the chuck has drained. -/
  | waitMatrixDrain (t : Fin 320) (c : Fin 4) (w0 w1 : W64)
  /-- WAIT_DMA (R267): WAIT with KIND 2 holds the chuck until every DMA descriptor of the chuck is complete, acting as the chuck's fabric fence. -/
  | waitDma (t : Fin 320) (c : Fin 4) (w0 w1 : W64)
  /-- SEMREL (R170): SEMREL decrements an inbound semaphore at the commit point, or at once in the tail. -/
  | semrel (t : Fin 320) (c : Fin 4) (w0 w1 : W64)
  /-- CFG (R114): CFG sets the chuck's format, dataflow, HOLD, SHIFT, MASK_M and MASK_N for later steps. -/
  | cfg (t : Fin 320) (c : Fin 4) (w0 w1 : W64)
  /-- CFGK (R114): CFGK sets the chuck's MASK_K. -/
  | cfgk (t : Fin 320) (c : Fin 4) (w0 w1 : W64)
  /-- OPA (R152): OPA loads the A operand registers. -/
  | opa (t : Fin 320) (c : Fin 4) (w0 w1 : W64)
  /-- OPB (R152): OPB loads the B operand registers. -/
  | opb (t : Fin 320) (c : Fin 4) (w0 w1 : W64)
  /-- OPC (R152): OPC loads the C and output registers. -/
  | opc (t : Fin 320) (c : Fin 4) (w0 w1 : W64)
  /-- MATMUL (R163): MATMUL checks legality and queues a matrix operation with copies of the operand registers and configuration. -/
  | matmul (t : Fin 320) (c : Fin 4) (w0 w1 : W64)
  /-- TILE_STEP_ISSUE (R100): A valid tile step issues once its operands, any C load and its set are ready, runs through S0–S3 and updates its accumulator set. -/
  | tileStepIssue (t : Fin 320) (f : StepIn)
  /-- C_LOAD (R97): An accumulator set is initialised from a C operand through the reverse drain path. -/
  | cLoad (t : Fin 320)
  /-- DRAIN_SET (R96): Once every step targeting a set has passed S3, the drain converts the set and writes it to tile SRAM. -/
  | drainSet (t : DrainIn)
  /-- ITEM_RERUN (R179): After a detection and the completion of in-progress descriptors, the item re-runs from its first command on the same tile. -/
  | itemRerun (t : Fin 320)
  /-- MIRROR_SWEEP_DONE (R189): The bank sweep of a mirror tick ends 3,072 cycles after it began. -/
  | mirrorSweepDone (t : Fin 320)
  /-- VOP_FADD (R138): VOP FADD adds FP32 lanes. -/
  | vopFadd (t : Fin 320) (c : Fin 4) (w0 w1 : W64)
  /-- VOP_FSUB (R138): VOP FSUB subtracts FP32 lanes. -/
  | vopFsub (t : Fin 320) (c : Fin 4) (w0 w1 : W64)
  /-- VOP_FMUL (R138): VOP FMUL multiplies FP32 lanes. -/
  | vopFmul (t : Fin 320) (c : Fin 4) (w0 w1 : W64)
  /-- VOP_FMA (R138): VOP FMA computes VA × VB + VC with one rounding. -/
  | vopFma (t : Fin 320) (c : Fin 4) (w0 w1 : W64)
  /-- VOP_FMIN (R138): VOP FMIN takes the lane minimum. -/
  | vopFmin (t : Fin 320) (c : Fin 4) (w0 w1 : W64)
  /-- VOP_FMAX (R138): VOP FMAX takes the lane maximum. -/
  | vopFmax (t : Fin 320) (c : Fin 4) (w0 w1 : W64)
  /-- VOP_FDIV (R138): VOP FDIV divides FP32 lanes, correctly rounded. -/
  | vopFdiv (t : Fin 320) (c : Fin 4) (w0 w1 : W64)
  /-- VOP_FSQRT (R138): VOP FSQRT takes the lane square root, correctly rounded. -/
  | vopFsqrt (t : Fin 320) (c : Fin 4) (w0 w1 : W64)
  /-- VOP_FEXP (R139): VOP FEXP computes the correctly rounded exponential. -/
  | vopFexp (t : Fin 320) (c : Fin 4) (w0 w1 : W64)
  /-- VOP_FLOG (R139): VOP FLOG computes the correctly rounded natural logarithm. -/
  | vopFlog (t : Fin 320) (c : Fin 4) (w0 w1 : W64)
  /-- VOP_FRSQRT (R139): VOP FRSQRT computes the correctly rounded reciprocal square root. -/
  | vopFrsqrt (t : Fin 320) (c : Fin 4) (w0 w1 : W64)
  /-- VOP_FTANH (R139): VOP FTANH computes the correctly rounded hyperbolic tangent. -/
  | vopFtanh (t : Fin 320) (c : Fin 4) (w0 w1 : W64)
  /-- VOP_FRCP (R139): VOP FRCP computes the correctly rounded reciprocal. -/
  | vopFrcp (t : Fin 320) (c : Fin 4) (w0 w1 : W64)
  /-- VOP_FCMPLT (R160): VOP FCMPLT writes a mask of VA < VB. -/
  | vopFcmplt (t : Fin 320) (c : Fin 4) (w0 w1 : W64)
  /-- VOP_FCMPLE (R160): VOP FCMPLE writes a mask of VA ≤ VB. -/
  | vopFcmple (t : Fin 320) (c : Fin 4) (w0 w1 : W64)
  /-- VOP_FCMPEQ (R160): VOP FCMPEQ writes a mask of VA = VB. -/
  | vopFcmpeq (t : Fin 320) (c : Fin 4) (w0 w1 : W64)
  /-- VOP_RSUM (R142): VOP RSUM sums the lanes in a fixed pairwise tree and writes the result to every lane. -/
  | vopRsum (t : Fin 320) (c : Fin 4) (w0 w1 : W64)
  /-- VOP_RMAX (R142): VOP RMAX takes the cross-lane maximum. -/
  | vopRmax (t : Fin 320) (c : Fin 4) (w0 w1 : W64)
  /-- VOP_RMIN (R142): VOP RMIN takes the cross-lane minimum. -/
  | vopRmin (t : Fin 320) (c : Fin 4) (w0 w1 : W64)
  /-- VOP_IADD (R140): VOP IADD adds 32-bit integer lanes with wrap-around. -/
  | vopIadd (t : Fin 320) (c : Fin 4) (w0 w1 : W64)
  /-- VOP_ISUB (R140): VOP ISUB subtracts 32-bit integer lanes. -/
  | vopIsub (t : Fin 320) (c : Fin 4) (w0 w1 : W64)
  /-- VOP_AND (R140): VOP AND performs a lane bitwise AND. -/
  | vopAnd (t : Fin 320) (c : Fin 4) (w0 w1 : W64)
  /-- VOP_OR (R140): VOP OR performs a lane bitwise OR. -/
  | vopOr (t : Fin 320) (c : Fin 4) (w0 w1 : W64)
  /-- VOP_XOR (R140): VOP XOR performs a lane bitwise XOR. -/
  | vopXor (t : Fin 320) (c : Fin 4) (w0 w1 : W64)
  /-- VOP_SHL (R140): VOP SHL shifts lanes left. -/
  | vopShl (t : Fin 320) (c : Fin 4) (w0 w1 : W64)
  /-- VOP_SHR (R140): VOP SHR shifts lanes right, logically. -/
  | vopShr (t : Fin 320) (c : Fin 4) (w0 w1 : W64)
  /-- VOP_SAR (R140): VOP SAR shifts lanes right, arithmetically. -/
  | vopSar (t : Fin 320) (c : Fin 4) (w0 w1 : W64)
  /-- VOP_ROL (R140): VOP ROL rotates lanes left. -/
  | vopRol (t : Fin 320) (c : Fin 4) (w0 w1 : W64)
  /-- VOP_MULLO (R140): VOP MULLO returns the low 32 bits of the product. -/
  | vopMullo (t : Fin 320) (c : Fin 4) (w0 w1 : W64)
  /-- VOP_MULHI (R140): VOP MULHI returns the high 32 bits of the signed product. -/
  | vopMulhi (t : Fin 320) (c : Fin 4) (w0 w1 : W64)
  /-- VOP_MULHIU (R140): VOP MULHIU returns the high 32 bits of the unsigned product. -/
  | vopMulhiu (t : Fin 320) (c : Fin 4) (w0 w1 : W64)
  /-- VOP_CVTF2I (R140): VOP CVTF2I converts FP32 to INT32 with clamping. -/
  | vopCvtf2i (t : Fin 320) (c : Fin 4) (w0 w1 : W64)
  /-- VOP_CVTI2F (R140): VOP CVTI2F converts INT32 to FP32. -/
  | vopCvti2f (t : Fin 320) (c : Fin 4) (w0 w1 : W64)
  /-- VOP_MOV (R160): VOP MOV copies VA to VD. -/
  | vopMov (t : Fin 320) (c : Fin 4) (w0 w1 : W64)
  /-- VOP_SEL (R160): VOP SEL selects VA or VB by mask. -/
  | vopSel (t : Fin 320) (c : Fin 4) (w0 w1 : W64)
  /-- VOP_LANEID (R160): VOP LANEID writes each lane's number. -/
  | vopLaneid (t : Fin 320) (c : Fin 4) (w0 w1 : W64)
  /-- VLD (R160): VLD loads a vector register from SRAM, converting BF16 or FP16 exactly. -/
  | vld (t : Fin 320) (c : Fin 4) (w0 w1 : W64)
  /-- VST (R160): VST stores a vector register to SRAM, rounding under R137. -/
  | vst (t : Fin 320) (c : Fin 4) (w0 w1 : W64)
  /-- QMX (R143): QMX quantises 32-lane groups to an MX format and writes the elements and scales. -/
  | qmx (t : Fin 320) (c : Fin 4) (w0 w1 : W64)
  /-- SOP_ADD (R159): SOP ADD adds scalar registers. -/
  | sopAdd (t : Fin 320) (c : Fin 4) (w0 w1 : W64)
  /-- SOP_SUB (R159): SOP SUB subtracts scalar registers. -/
  | sopSub (t : Fin 320) (c : Fin 4) (w0 w1 : W64)
  /-- SOP_MUL (R159): SOP MUL multiplies scalar registers, keeping the low 32 bits. -/
  | sopMul (t : Fin 320) (c : Fin 4) (w0 w1 : W64)
  /-- SOP_AND (R159): SOP AND performs a scalar AND. -/
  | sopAnd (t : Fin 320) (c : Fin 4) (w0 w1 : W64)
  /-- SOP_OR (R159): SOP OR performs a scalar OR. -/
  | sopOr (t : Fin 320) (c : Fin 4) (w0 w1 : W64)
  /-- SOP_XOR (R159): SOP XOR performs a scalar XOR. -/
  | sopXor (t : Fin 320) (c : Fin 4) (w0 w1 : W64)
  /-- SOP_SHL (R159): SOP SHL shifts a scalar left. -/
  | sopShl (t : Fin 320) (c : Fin 4) (w0 w1 : W64)
  /-- SOP_SHR (R159): SOP SHR shifts a scalar right, logically. -/
  | sopShr (t : Fin 320) (c : Fin 4) (w0 w1 : W64)
  /-- SOP_MOVI (R159): SOP MOVI loads an immediate into a scalar register. -/
  | sopMovi (t : Fin 320) (c : Fin 4) (w0 w1 : W64)
  /-- SOP_CMPEQ (R159): SOP CMPEQ sets a flag on equality. -/
  | sopCmpeq (t : Fin 320) (c : Fin 4) (w0 w1 : W64)
  /-- SOP_CMPLT (R159): SOP CMPLT sets a flag on signed less-than. -/
  | sopCmplt (t : Fin 320) (c : Fin 4) (w0 w1 : W64)
  /-- SOP_CMPLTU (R159): SOP CMPLTU sets a flag on unsigned less-than. -/
  | sopCmpltu (t : Fin 320) (c : Fin 4) (w0 w1 : W64)
  /-- LOOP (R159): LOOP runs the following body COUNT times on a loop counter. -/
  | loop (t : Fin 320) (c : Fin 4) (w0 w1 : W64)
  /-- BR (R159): BR branches by a signed offset on a flag or unconditionally. -/
  | br (t : Fin 320) (c : Fin 4) (w0 w1 : W64)
  /-- DMA (R168): The DMA command reads and checks its descriptors and queues them all, or none if any is illegal. -/
  | dma (t : Fin 320) (c : Fin 4) (w0 w1 : W64)
  /-- DMA_DESCRIPTOR_START (R166): A queued descriptor starts in queue order, chuck 0 first, and issues its transfers or fabric requests. -/
  | dmaDescriptorStart (t : Fin 320) (ups : List Upset)
  /-- DMA_DESCRIPTOR_COMPLETE (R166): A descriptor completes when its writes are visible or its acknowledgements have returned, and its semaphore is incremented. -/
  | dmaDescriptorComplete (t : Fin 320) (c : Fin 4)
  /-- NOTIFY_SERVING_RECORD (R224): NOTIFY with KIND 0 sends a token payload to the serving engine. -/
  | notifyServingRecord (t : Fin 320) (c : Fin 4) (w0 w1 : W64)
  /-- NOTIFY_INTERRUPT (R459): NOTIFY with KIND 1 requests an MSI-X message of the context's instance. -/
  | notifyInterrupt (t : Fin 320) (c : Fin 4) (w0 w1 : W64)
  /-- CYCLE_BOUND_EXCEEDED (R158): An item whose cycle count exceeds CYCLE_BOUND is stopped with cause BOUND and completes ABORTED. -/
  | cycleBoundExceeded (t : Fin 320) (c : Fin 4)
  /-- TAIL_LIMIT_REACHED (R155): A tail beyond 1,024 commands or 1,024 cycles ends as END with cause TAIL_TRUNC. -/
  | tailLimitReached (t : Fin 320) (c : Fin 4)
  /-- SQ_DOORBELL (R452): A write to SQ_PROD advances the submission ring producer, or is discarded with SQ_BAD. -/
  | sqDoorbell (a : Agent) (value : W32)
  /-- SQ_REQUEST (R206): A fetched REQUEST entry is checked and either moves its sequence entry from FREE to QUEUED with ACCEPT or is refused. -/
  | sqRequest (i : Fin 128)
  /-- SQ_ITEM (R452): A fetched ITEM entry passes its item descriptor to the Lathe. -/
  | sqItem (i : Fin 128)
  /-- SQ_BAD_KIND (R452): A fetched entry of any other kind writes a REFUSED record to the CQ. -/
  | sqBadKind (i : Fin 128)
  /-- STEP_END (R212): When every item of a step's chain has written its final record, the step ends and, on failure, its rows without tokens are restored. -/
  | stepEnd (p : Fin 16)
  /-- TOKEN_NOTIFICATION (R214): A token notification matching an ACTIVE entry writes TOKEN and possibly FINAL, or is discarded. -/
  | tokenNotification (w0 w1 : W64)
  /-- SRV_ABORT (R213): A write to SRV_ABORT aborts a sequence at the update port and writes an ABORT_RESULT. -/
  | srvAbort (a : Agent) (value : W64)
  /-- SRV_Q_CONFIG_WRITE (R201): A write to SRV_Q_CTRL, SRV_Q_RATE or SRV_Q_BURST resets the queue's credit and ends QUEUED entries whose cost exceeds BURST. -/
  | srvQConfigWrite (a : Agent) (q : Fin 15360) (reg : QReg) (value : W32)
  /-- SRV_CTRL_WRITE (R217): A write to SRV_CTRL enables the engine after checking its memory and initialises the free stack, or requests the engine be disabled. -/
  | srvCtrlWrite (a : Agent) (value : W32)
  /-- SRV_PROF_WRITE (R217): A write to a profile register, including VALID 1 with its step-buffer check, is applied or refused with CFG_REFUSED. -/
  | srvProfWrite (a : Agent) (off len value : Nat)
  /-- SRV_ADAPTER_WRITE (R220): A write to an adapter entry is discarded with ADAPTER_BUSY while REFS is nonzero. -/
  | srvAdapterWrite (a : Agent) (n : Fin 4096) (word : Fin 4) (value : W64)
  /-- CREATE (R237): Memory command CREATE validates an object, allocates or maps its extents, fetches origins and records REF_DIGEST. -/
  | create (a : Agent) (w0 w1 w2 : W64) (originOk : Bool)
  /-- DESTROY (R237): Memory command DESTROY unmaps an object's extents, frees its slots and clears VALID. -/
  | destroy (a : Agent) (w0 w1 w2 : W64) (originOk : Bool)
  /-- SEAL (R237): Memory command SEAL makes an object read-only and records its REF_DIGEST. -/
  | seal (a : Agent) (w0 w1 w2 : W64) (originOk : Bool)
  /-- SET_ORIGIN (R237): Memory command SET_ORIGIN registers a read-only object's origin. -/
  | setOrigin (a : Agent) (w0 w1 w2 : W64) (originOk : Bool)
  /-- MIGRATE (R239): Memory command MIGRATE checks each extent, allocates target slots and starts the moves. -/
  | migrate (a : Agent) (w0 w1 w2 : W64) (originOk : Bool)
  /-- DIGEST (R242): Memory command DIGEST computes the object digest into LAST_DIGEST and compares it with REF_DIGEST. -/
  | digest (a : Agent) (w0 w1 w2 : W64) (originOk : Bool)
  /-- MEM_CMD_RESULT_POP (R236): A read of the low word of MEM_CMD_RESULT removes the oldest memory-command result. -/
  | memCmdResultPop (a : Agent) (wide : Bool)
  /-- EXTENT_COPY_DONE (R239): A migration engine finishes copying an extent, and the controller switches its tier-map entry, invalidates the caches and applies held writes. -/
  | extentCopyDone (ext : Nat) (originOk : Bool)
  /-- OLD_SLOT_FREE (R239): The old slot of a migrated extent is freed once the caches have acknowledged and no access to it is outstanding. -/
  | oldSlotFree (tier stack slot : Nat)
  /-- REFETCH_DONE (R247): A re-fetch from the origin completes: the slot is rewritten and read back, retired if needed, and the held accesses proceed. -/
  | refetchDone (ext : Nat) (originOk readBackOk : Bool)
  /-- ORIGIN_READ_FAIL (R246): A read served from tier 3 or 4 fails: ORIGIN_FAIL is set and a tile item is treated as cut. -/
  | originReadFail (off : Nat) (hit : OriginUser)
  /-- SCRUB_READ (R249): The base die's patrol scrubber reads the next line, correcting or poisoning it. -/
  | scrubRead (stack : Fin 16) (errs : List (Nat × Nat))
  /-- HOST_BAR4_READ (R447): A host read through PF or VF BAR4 is translated and served or returns all ones. -/
  | hostBar4Read (fn : Fin 128) (off len : Nat) (ups : List Upset)
  /-- HOST_BAR4_WRITE (R447): A host write through PF or VF BAR4 is translated and applied or discarded. -/
  | hostBar4Write (fn : Fin 128) (off : Nat) (bytes : List Byte)
  /-- FABRIC_LOAD (R258): A received LOAD request is checked for generation and order, applied at the home and answered with DATA. -/
  | fabricLoad (port : Fin 12) (pk : Packet) (ups : List Upset)
  /-- FABRIC_STORE (R258): A received STORE is applied at the home after any invalidations and acknowledged. -/
  | fabricStore (port : Fin 12) (pk : Packet) (ups : List Upset)
  /-- FABRIC_GETS (R279): A received GETS fills a line to a quad member and updates the directory. -/
  | fabricGets (port : Fin 12) (pk : Packet) (ups : List Upset)
  /-- FABRIC_ADD (R261): A received ADD atomic, combined or not, is applied once at the home line and acknowledged. -/
  | fabricAdd (port : Fin 12) (pk : Packet) (ups : List Upset)
  /-- FABRIC_MIN (R261): A received MIN atomic is applied at the home line. -/
  | fabricMin (port : Fin 12) (pk : Packet) (ups : List Upset)
  /-- FABRIC_MAX (R261): A received MAX atomic is applied at the home line. -/
  | fabricMax (port : Fin 12) (pk : Packet) (ups : List Upset)
  /-- FABRIC_CAS (R261): A received CAS compares and conditionally writes and returns OLD. -/
  | fabricCas (port : Fin 12) (pk : Packet) (ups : List Upset)
  /-- FABRIC_ACK (R266): A received ACK completes the matching outstanding operation, or is discarded. -/
  | fabricAck (port : Fin 12) (pk : Packet)
  /-- FABRIC_DATA (R266): A received DATA completes a load or line fill. -/
  | fabricData (port : Fin 12) (pk : Packet)
  /-- FABRIC_OLD (R260): A received OLD completes a CAS and writes the found value over the compare element. -/
  | fabricOld (port : Fin 12) (pk : Packet)
  /-- INVAL (R279): A received INVAL drops the quad-cache line and is acknowledged. -/
  | inval (port : Fin 12) (pk : Packet)
  /-- INVAL_ACK (R279): A received INVAL_ACK completes a W state once all acks have arrived, applying the waiting write. -/
  | invalAck (port : Fin 12) (pk : Packet)
  /-- ANNOUNCE (R252): A received ANNOUNCE records a new generation, forwards it once and handles a reset quad member. -/
  | announce (port : Fin 12) (pk : Packet)
  /-- GEN_QUERY (R254): A received GEN_QUERY is answered with an ANNOUNCE to the querier. -/
  | genQuery (port : Fin 12) (pk : Packet)
  /-- PACKET_FORWARD (R273): A packet for another node is forwarded on the first up port of its route, or returned NODE_LOST when HOPS is exhausted. -/
  | packetForward (port : Fin 12) (pk : Packet)
  /-- GEN_QUERY_TIMEOUT (R254): No reply to a GEN_QUERY within 10 ms completes the held operations with NODE_LOST. -/
  | genQueryTimeout (dst : Nat)
  /-- ROUTE_LOSS_TIMEOUT (R269): No usable route to a destination for 10 ms completes outstanding operations with NODE_LOST and advances the stream epoch. -/
  | routeLossTimeout (dst : Nat)
  /-- FORWARD_HOLD_TIMEOUT (R269): A forwarder's held packets with no route after 10 ms are returned with NODE_LOST. -/
  | forwardHoldTimeout (dst : Nat)
  /-- REQUEST_TIMEOUT (R269): A request outstanding 20 ms completes with NODE_LOST. -/
  | requestTimeout (tag : Nat)
  /-- COMBINING_WINDOW_CLOSE (R276): A combining entry closes at the end of its window or at 256 constituents and sends one combined request. -/
  | combiningWindowClose (k : Nat)
  /-- FLIT_REPLAY (R271): A NAK or 2 µs without acknowledgement makes the sender replay from the first unacknowledged flit; `acked`: flits that
  are acknowledged with it. -/
  | flitReplay (port : PortReplay)
  /-- PORT_RETRAIN (R271): After 16 replays without progress the port retrains. -/
  | portRetrain (port : Fin 12)
  /-- PORT_TRAINING_DONE (R271): Training ends with the port up at some width, sending ANNOUNCE, or down, switching routes and re-sending replay-buffer packets. -/
  | portTrainingDone (port : Fin 12) (lanes : Nat)
  /-- UNL_OP_LOAD (R267): Register-port operation LOAD issues a fabric load. -/
  | unlOpLoad (a : Agent) (w0 offset data cmp : W64)
  /-- UNL_OP_STORE (R267): Register-port operation STORE issues a fabric store. -/
  | unlOpStore (a : Agent) (w0 offset data cmp : W64)
  /-- UNL_OP_ADD (R267): Register-port operation ADD issues a fabric atomic add. -/
  | unlOpAdd (a : Agent) (w0 offset data cmp : W64)
  /-- UNL_OP_MIN (R267): Register-port operation MIN issues a fabric atomic minimum. -/
  | unlOpMin (a : Agent) (w0 offset data cmp : W64)
  /-- UNL_OP_MAX (R267): Register-port operation MAX issues a fabric atomic maximum. -/
  | unlOpMax (a : Agent) (w0 offset data cmp : W64)
  /-- UNL_OP_CAS (R267): Register-port operation CAS issues a fabric compare-and-swap. -/
  | unlOpCas (a : Agent) (w0 offset data cmp : W64)
  /-- UNL_OP_FENCE (R268): Register-port operation FENCE holds later operations until earlier ones complete, then reports their status. -/
  | unlOpFence (a : Agent) (w0 offset data cmp : W64)
  /-- UNL_OP_RESULT_POP (R13): A read of UNL_OP_RESULT's low word removes the oldest result, releases its queue entry and latches UNL_OP_DATA. -/
  | unlOpResultPop (a : Agent) (wide : Bool)
  /-- UNL_ERR_POP (R270): A read of UNL_ERR_POP's low word removes the oldest fabric error-log entry and latches its offset. -/
  | unlErrPop (a : Agent) (wide : Bool)
  /-- FRONTHAUL_FRAME_RX (R282): An ingress Ethernet frame is filtered and sent to eCPRI, to PTP, or discarded and counted. -/
  | fronthaulFrameRx (p : Fin 4) (f : Frame)
  /-- FRONTHAUL_LINK_CHANGE (R281): A fronthaul port's link goes up or down and RAD_PORT_CFG.UP follows. -/
  | fronthaulLinkChange (p : Fin 4) (up : Bool)
  /-- IQ_DATA_MESSAGE (R286): A received eCPRI IQ data message is checked and its samples are staged for the cell, antenna and interval, or it is discarded. -/
  | iqDataMessage (p : Fin 4) (f : Frame)
  /-- ONE_WAY_DELAY_REQUEST (R288): A type-5 request (action 0x00) is answered with a response. -/
  | oneWayDelayRequest (p : Fin 4) (f : Frame)
  /-- REQUEST_WITH_FOLLOW_UP (R288): A type-5 request with follow-up (0x01) is held for its follow-up. -/
  | requestWithFollowUp (p : Fin 4) (f : Frame)
  /-- FOLLOW_UP (R288): A type-5 follow-up (0x05) triggers the response to its request. -/
  | followUp (p : Fin 4) (f : Frame)
  /-- REMOTE_REQUEST (R288): A type-5 remote request (0x03 or 0x04) makes the device send a one-step request. -/
  | remoteRequest (p : Fin 4) (f : Frame)
  /-- ONE_WAY_DELAY_RESPONSE (R288): A type-5 response to the device's own request writes RAD_PORT_DELAY, or is discarded. -/
  | oneWayDelayResponse (p : Fin 4) (f : Frame)
  /-- INGRESS_WINDOW_CLOSE (R294): At the U1 release the ingress window closes, missing samples are zero-filled and an incomplete interval becomes a slot miss. -/
  | ingressWindowClose (n : Fin 512)
  /-- RADIO_INPUT_ARRIVAL (R312): The stream mover finishes writing a radio item's input into chuck 0. -/
  | radioInputArrival (t : Fin 320) (i : Nat)
  /-- DL_IQ_EGRESS (R287): The device sends a cell's downlink IQ data messages for the coming interval in OFFSET order. -/
  | dlIqEgress (n : Fin 512)
  /-- RAD_CFG_COMMIT (R300): A write of 1 to RAD_CFG_CTRL.COMMIT validates the staged set, computes its load and presents it for admission. -/
  | radCfgCommit (a : Agent) (value : W32)
  /-- GOUGE_IMAGE_LOAD_DONE (R372): A cluster's Gouge image loads complete. -/
  | gougeImageLoadDone (n : Fin 512)
  /-- RAD_ROLE_CMD (R303): A write to RAD_ROLE_CMD requests a role change of an active cell, or is refused. -/
  | radRoleCmd (a : Agent) (value : W32)
  /-- ROLE_CHANGE_EFFECT (R303): The cell's new role takes effect at the first frame boundary at least one tick later, acting on submissions under R350. -/
  | roleChangeEffect (n : Fin 512)
  /-- RING_DOORBELL (R348): A write to the PROD of a downlink ring starts the fetching of new submissions. -/
  | ringDoorbell (a : Agent) (q : Fin 1024) (value : W32)
  /-- RADIO_RING_CFG_WRITE (R341): A write of VALID 1 to RAD_RING_CFG is accepted only for a ring inside a valid writable PF object. -/
  | radioRingCfgWrite (a : Agent) (q : Fin 1024) (value : W32)
  /-- SUBMISSION_FETCH (R348): The front end fetches one submission into the cell's buffer, checks it and advances CONS, or returns it with TX_RETURN. -/
  | submissionFetch (n : Fin 512)
  /-- CODING_ITEM (R339): A coding engine runs a cell's coding item: the Viterbi passes and decoding with record writing in the uplink, or encoding in the downlink. -/
  | codingItem (n : Fin 512) (dl : Bool)
  /-- GOUGE_ITEM_START (R369): A Gouge core starts a MOD or DEMOD item, clearing its state and setting P7 and the PC. -/
  | gougeItemStart (n : Fin 512) (mod : Bool)
  /-- SYNC_SEARCH_TIMEOUT (R331): No sync match within the bit limit abandons the detection and counts FALSE_PRE. -/
  | syncSearchTimeout (n : Fin 512) (ch : Fin 320) (o : Fin 2)
  /-- NOISE_MEASUREMENT (R338): After NF_INTERVALS idle intervals the receiver writes a NOISE record and restarts its count. -/
  | noiseMeasurement (n : Fin 512) (ch : Fin 320) (o : Fin 2)
  /-- GOUGE_NOP (R360): Gouge NOP performs its moves only. -/
  | gougeNop (n : Fin 512) (w : W64)
  /-- GOUGE_MOV (R360): Gouge MOV copies SA to DST. -/
  | gougeMov (n : Fin 512) (w : W64)
  /-- ADD2 (R360): ADD2 adds the two lanes with saturation. -/
  | add2 (n : Fin 512) (w : W64)
  /-- SUB2 (R360): SUB2 subtracts the two lanes with saturation. -/
  | sub2 (n : Fin 512) (w : W64)
  /-- GOUGE_AND (R360): Gouge AND performs a 32-bit AND. -/
  | gougeAnd (n : Fin 512) (w : W64)
  /-- GOUGE_OR (R360): Gouge OR performs a 32-bit OR. -/
  | gougeOr (n : Fin 512) (w : W64)
  /-- GOUGE_XOR (R360): Gouge XOR performs a 32-bit XOR. -/
  | gougeXor (n : Fin 512) (w : W64)
  /-- ASR2 (R360): ASR2 shifts each lane right, truncating or rounding. -/
  | asr2 (n : Fin 512) (w : W64)
  /-- PACK (R360): PACK combines the lo lanes of SA and SB. -/
  | pack (n : Fin 512) (w : W64)
  /-- CMP (R360): CMP sets EQ and LT from the lo lanes. -/
  | cmp (n : Fin 512) (w : W64)
  /-- SLICE (R360): SLICE returns the nearest 2- or 4-level decision. -/
  | slice (n : Fin 512) (w : W64)
  /-- ATAN (R360): ATAN returns the argument of a complex word. -/
  | atan (n : Fin 512) (w : W64)
  /-- CMAC (R360): CMAC accumulates a complex product into two accumulators. -/
  | cmac (n : Fin 512) (w : W64)
  /-- RDOT2 (R360): RDOT2 accumulates a two-term dot product. -/
  | rdot2 (n : Fin 512) (w : W64)
  /-- RDOT4 (R360): RDOT4 accumulates a four-term dot product. -/
  | rdot4 (n : Fin 512) (w : W64)
  /-- RMUL4 (R360): RMUL4 accumulates four lane products into four accumulators. -/
  | rmul4 (n : Fin 512) (w : W64)
  /-- DUPD (R360): DUPD updates each lane by a rounded, shifted product with saturation. -/
  | dupd (n : Fin 512) (w : W64)
  /-- EXT (R360): EXT extracts a rounded, saturated accumulator into one lane. -/
  | ext (n : Fin 512) (w : W64)
  /-- EXTC (R360): EXTC extracts two accumulators into a complex word. -/
  | extc (n : Fin 512) (w : W64)
  /-- LDI (R360): LDI loads an immediate into a D register. -/
  | ldi (n : Fin 512) (w : W64)
  /-- LDC (R360): LDC loads an immediate into a control register. -/
  | ldc (n : Fin 512) (w : W64)
  /-- MVTC (R360): MVTC moves a D register to a control register. -/
  | mvtc (n : Fin 512) (w : W64)
  /-- MVFC (R360): MVFC moves a control register to a D register. -/
  | mvfc (n : Fin 512) (w : W64)
  /-- ADDC (R360): ADDC adds an immediate to a control register. -/
  | addc (n : Fin 512) (w : W64)
  /-- GOUGE_BR (R365): Gouge BR branches on a condition after two delay slots. -/
  | gougeBr (n : Fin 512) (w : W64)
  /-- CALL (R360): CALL pushes the return index and branches after two delay slots. -/
  | call (n : Fin 512) (w : W64)
  /-- RET (R360): RET pops the return index and branches after two delay slots. -/
  | ret (n : Fin 512) (w : W64)
  /-- REP (R363): REP executes the next instruction COUNT times. -/
  | rep (n : Fin 512) (w : W64)
  /-- GOUGE_LOOP (R364): Gouge LOOP runs the following body COUNT times, using the repeat cache and rotating RRB if ROT is set. -/
  | gougeLoop (n : Fin 512) (w : W64)
  /-- RTI (R366): RTI restores the shadow set and unmasks interrupts after two delay slots. -/
  | rti (n : Fin 512) (w : W64)
  /-- SWI (R366): SWI raises interrupt source 1. -/
  | swi (n : Fin 512) (w : W64)
  /-- HALT (R370): HALT ends the Gouge item and the mover collects OUT_LEN bytes. -/
  | halt (n : Fin 512) (w : W64)
  /-- GOUGE_TIMER (R366): CYC reaches TMR and sets the TIMER interrupt pending. -/
  | gougeTimer (n : Fin 512)
  /-- GGC_DOORBELL (R366): A write to GGC_DOORBELL sets the DOORBELL interrupt pending on a core. -/
  | ggcDoorbell (a : Agent) (value : W32)
  /-- INTERRUPT_TAKE (R366): An enabled pending interrupt is taken at an allowed instruction boundary, saving the shadow set and branching to its vector. -/
  | interruptTake (n : Fin 512)
  /-- TSU_STEP (R379): A write of TSU_STEP's high word with REF 1 steps time once, sets VALID and cancels slews and pulses, or is refused. -/
  | tsuStep (a : Agent) (value : W64)
  /-- TSU_RATE_WRITE (R380): A write to TSU_RATE changes the rate of T and ends REF-1 holdover. -/
  | tsuRateWrite (a : Agent) (value : W32)
  /-- TSU_SLEW_WRITE (R380): A write to TSU_SLEW replaces the remaining slew amount and ends REF-1 holdover. -/
  | tsuSlewWrite (a : Agent) (value : W32)
  /-- TSU_HOLD (R382): A write of 1 to TSU_CTRL.HOLD enters holdover with REF 1 after the step, and is ignored otherwise. -/
  | tsuHold (a : Agent) (value : W32)
  /-- TSU_NS_READ (R378): A read of TSU_NS latches T for the reading agent's next TSU_SEC, TSU_FRAC and TSU_TIME reads. -/
  | tsuNsRead (a : Agent) (wide : Bool)
  /-- TSU_TXTS_POP (R388): A read of TSU_TXTS_POP's low word removes the oldest egress timestamp and latches TSU_TXTS_TIME. -/
  | tsuTxtsPop (a : Agent) (wide : Bool)
  /-- TSU_PULSE_CTRL_WRITE (R390): A write to TSU_PULSE_CTRL arms, disarms or refuses a pulse output. -/
  | tsuPulseCtrlWrite (a : Agent) (o : Fin 4) (value : W32)
  /-- PULSE_EDGE (R390): A pulse output reaches its programmed active or inactive edge time. -/
  | pulseEdge (o : Fin 4)
  /-- TLS_WDOG_WRITE (R398): The Tailstock firmware restarts the watchdog by writing TLS_WDOG. -/
  | tlsWdogWrite (value : W32)
  /-- MESH_DOUBLE_BIT_ERROR (R24): A double-bit mesh flit error is logged and contained by chip reset. -/
  | meshDoubleBitError (die : Fin 2) (row : Fin 8) (pcol : MeshHit)
  /-- SRAM_DOUBLE_BIT_ERROR (R145): A double-bit tile SRAM error is logged and contained by chip reset. -/
  | sramDoubleBitError (t : Fin 320) (bank : BankHit)
  /-- DIE_LINK_FLIT_FAILURE (R27): A die-to-die flit still in error after 8 replays is logged and contained by chip reset. -/
  | dieLinkFlitFailure (link : Fin 3)
  /-- RETEST_START (R405): A conditioned retest starts once the die reaches the recorded temperature, under PRT_VCORE and PRT_LOAD. -/
  | retestStart (unit : Nat)
  /-- RETEST_WAIT_EXPIRY (R405): After RETEST_WAIT hours without the recorded temperature, the retest runs at the current one and is marked COND_PARTIAL. -/
  | retestWaitExpiry (unit : Nat)
  /-- UNIT_TEST_DONE (R408): An in-field test or retest ends, and the unit passes to HEALTHY or FAULTY. -/
  | unitTestDone (unit : Nat) (pass : Bool)
  /-- HELLO (R410): A received HELLO compares replay classes and sets CLASS_DIFF. -/
  | hello (pk : Packet)
  /-- COMPARE (R412): A received COMPARE is matched against own digests, counting MATCH or MISMATCH and refreshing HEARD. -/
  | compare (pk : Packet)
  /-- MATCH_WAIT_EXPIRY (R412): An entry unreported by the partner after MATCH_WAIT ticks counts ONE_SIDED. -/
  | matchWaitExpiry (n : Fin 512)
  /-- RELINQUISH (R415): A received RELINQUISH triggers a takeover or an event, according to MODE. -/
  | relinquish (pk : Packet)
  /-- MISS_TICKS_EXPIRY (R415): No COMPARE from the partner for MISS_TICKS ticks triggers a takeover in MODE 2, or an event. -/
  | missTicksExpiry (n : Fin 512)
  /-- TAKEOVER (R416): A received TAKEOVER makes a PRIMARY cell SHADOW at the named boundary. -/
  | takeover (pk : Packet)
  /-- TAKEOVER_EFFECT (R416): A shadow cell becomes PRIMARY at its frame boundary and sends TAKEOVER. -/
  | takeoverEffect (n : Fin 512)
  /-- REPLICA_ROUND (R419): At every N-th step the Tailstock computes the object digest and sends REPLICA_DIGEST to its peers. -/
  | replicaRound (r : Nat)
  /-- REPLICA_DIGEST (R420): A received REPLICA_DIGEST is compared by majority and may expel a member, which re-fetches its object. -/
  | replicaDigest (pk : Packet)
  /-- WINDOW_SEAL (R422): A collective window seals once LINES distinct lines are written, and a send window sends WIN_DIGEST. -/
  | windowSeal (w : Nat)
  /-- WIN_DIGEST (R422): A sealed receive window compares a received WIN_DIGEST and writes OK, DEFERRED or DIGEST_MISMATCH. -/
  | winDigest (pk : Packet)
  /-- WIN_RESULT (R422): A received WIN_RESULT sets the send window's status and re-arms or clears it. -/
  | winResult (pk : Packet)
  /-- FLAG (R422): A received FLAG records unconfirmed detections against the producing tile and the route's port. -/
  | flag (pk : Packet)
  /-- STRAGGLER_DETECTED (R424): A member lagging for WAIT_TICKS ticks makes the Tailstock send BACKUP to the spare. -/
  | stragglerDetected (g mem : Nat)
  /-- BACKUP (R424): A received BACKUP writes the member and step into the group's go word. -/
  | backup (pk : Packet)
  /-- TLS_SEQ_LOST (R427): A write to TLS_SEQ_LOST aborts a sequence with reason STATE_LOST. -/
  | tlsSeqLost (a : Agent) (value : W64)
  /-- TLS_JRNL_POP (R428): A read of TLS_JRNL_POP's low word removes the oldest fault-journal entry. -/
  | tlsJrnlPop (a : Agent) (wide : Bool)
  /-- FPL_DET_CFG_WRITE (R434): A write changing DET_STRICT is accepted only while RUN and UNL_CTRL.EN are 0, and otherwise sets REFUSED. -/
  | fplDetCfgWrite (a : Agent) (value : W32)
  /-- VF_FUNCTION_LEVEL_RESET (R457): A VF Function Level Reset starts an instance reset. -/
  | vfFunctionLevelReset (i : Fin 128)
  /-- VF_REMOVAL (R457): Clearing VF Enable or lowering NumVFs resets the removed instances. -/
  | vfRemoval (num : Fin 128)
  /-- VIR_INST_RESET (R457): A write of VIR_INST_CTRL.RESET starts an instance reset: GEN increments and entries get instance-reset events. -/
  | virInstReset (a : Agent) (i : Fin 128) (value : W32)
  /-- INSTANCE_RESET_COMPLETE (R457): At the second boundary after a reset, the instance's contexts are unloaded, its rings and MSI-X table cleared and its STATE set. -/
  | instanceResetComplete (i : Fin 128)
  /-- VIR_INST_ENABLE (R449): A write of VIR_INST_CTRL.EN enables an instance, or is refused on overlapping ranges. -/
  | virInstEnable (a : Agent) (i : Fin 128) (value : W32)
  /-- RING_CFG_WRITE (R451): A write to an instance page's SQ_CFG, CQ_CFG or IQ_CFG enables a ring only inside a valid writable object. -/
  | ringCfgWrite (a : Agent) (i : Fin 128) (ring : Fin 3) (value : W64)
  /-- MAILBOX_SEND (R455): The write of MBOX_OUT's high word sends an ABORT or MSG and reports SEND_STATUS. -/
  | mailboxSend (a : Agent) (w0 w1 w2 w3 w4 w5 w6 w7 : W64)
  /-- MAILBOX_POP (R454): A write of MBOX_CTRL.POP removes the message shown in MBOX_IN. -/
  | mailboxPop (a : Agent) (value : W32)
  /-- MSIX_COALESCE_EXPIRY (R459): Events merged on a vector within 2 µs of a message are sent as one message at the end of that interval. -/
  | msixCoalesceExpiry (i : Fin 128) (v : Nat)
  /-- VIR_JRNL_POP (R462): A read of VIR_JRNL_POP's low word removes the oldest configuration-write journal entry. -/
  | virJrnlPop (a : Agent) (wide : Bool)
  /-- IMAGE_WRITE32 (R471): An image WRITE32 record performs 32-bit BAR0 writes. -/
  | imageWrite32 (pairs : List (Nat × W32))
  /-- IMAGE_WRITE64 (R471): An image WRITE64 record performs 64-bit BAR0 writes. -/
  | imageWrite64 (pairs : List (Nat × W64))
  /-- IMAGE_BLOCK (R471): An image BLOCK record writes ascending words into BAR0 or BAR2. -/
  | imageBlock (sp : Space) (off : Nat) (values : List W32)
  /-- IMAGE_GOUGE (R471): An image GOUGE record writes one Gouge image to every core in its mask. -/
  | imageGouge (mask : List Bool) (img : List Byte)
  /-- IMAGE_MEMCMD (R471): An image MEMCMD record issues a memory command and waits for its result. -/
  | imageMemcmd (w0 w1 w2 : W64) (originOk : Bool)
  /-- ATTEST_GO (R474): A write of FPL_ATTEST_CTRL.GO starts signing a report over the nonce, or is refused. -/
  | attestGo (a : Agent) (value : W32)
  /-- I3C_READ32 (R475): An I3C READ32 reads a 32-bit BAR0 register. -/
  | i3cRead32 (off : Nat)
  /-- I3C_READ64 (R475): An I3C READ64 reads a 64-bit BAR0 register. -/
  | i3cRead64 (off : Nat)
  /-- I3C_WRITE32 (R475): An I3C WRITE32 writes a 32-bit BAR0 register. -/
  | i3cWrite32 (off : Nat) (value : W32)
  /-- I3C_WRITE64 (R475): An I3C WRITE64 writes a 64-bit BAR0 register. -/
  | i3cWrite64 (off : Nat) (value : W64)
  /-- CONFIRM (R479): A write of FPL_FW_CTRL.CONFIRM marks the booted slot CONFIRMED and raises MIN_SVN. -/
  | confirm (a : Agent)
  /-- HOST_OK (R479): A write of FPL_FW_CTRL.HOST_OK gives software's consent to confirmation. -/
  | hostOk (a : Agent)
  /-- OWNER_LOCK_WRITE (R480): A change of FPL_FW_CTRL.OWNER_LOCK is written to flash and governs updates and activation. -/
  | ownerLockWrite (a : Agent) (value : Bool)
  /-- ACTIVATE (R484): A write of FPL_FW_CTRL.ACTIVATE makes the other slot ACTIVE, resetting at once with RESET_NOW, or is refused. -/
  | activate (a : Agent) (resetNow : Bool)
  /-- UPDATE_START (R480): A write of FPL_UPD_CTRL.START checks the update's refusal states and begins receiving the image. -/
  | updateStart (a : Agent) (value : W32)
  /-- UPDATE_END (R481): A write of FPL_UPD_CTRL.END closes an image received through the data port. -/
  | updateEnd (a : Agent)
  /-- UPDATE_ABORT (R483): A write of FPL_UPD_CTRL.ABORT ends an update that is receiving or verifying, and is ignored during writing. -/
  | updateAbort (a : Agent)
  /-- FPL_UPD_DATA_WRITE (R481): The write of FPL_UPD_DATA's high word appends 8 image bytes. -/
  | fplUpdDataWrite (a : Agent) (value : W64)
  /-- UPDATE_WRITE_DONE (R481): Programming and read-back of the target end, and the slot becomes VALID or the update completes UNCORRECTABLE. -/
  | updateWriteDone (ok : Bool)
  /-- FW_OFFER (R482): A received FW_OFFER is checked under R480 and answered with FW_NAK or FW_RESULT. -/
  | fwOffer (pk : Packet)
  /-- FW_CHUNK (R482): A received FW_CHUNK stores 128 image bytes at its offset. -/
  | fwChunk (pk : Packet)
  /-- FW_NAK (R482): A received FW_NAK accepts an offer or makes the sender resend from the named offset. -/
  | fwNak (pk : Packet)
  /-- FW_RESULT (R482): A received FW_RESULT records the downstream node's outcome in FPL_CHAIN_STATUS. -/
  | fwResult (pk : Packet)
  /-- PRT_CTRL_WRITE (R487): A write to PRT_CTRL sets perturbations and their lease from the next boundary, or is refused while HELD. -/
  | prtCtrlWrite (a : Agent) (value : W32)
  /-- PRT_INJ_ECC (R491): A write to PRT_INJ_ECC arms an ECC injection on a line, or is refused. -/
  | prtInjEcc (a : Agent) (value : W64)
  /-- PRT_INJ_CHK (R491): A write to PRT_INJ_CHK arms a checksum injection on a tile, or is refused. -/
  | prtInjChk (a : Agent) (value : W32)
  /-- PRT_INJ_DIG (R491): A write to PRT_INJ_DIG arms a digest injection, or is refused. -/
  | prtInjDig (a : Agent) (value : W32)
  /-- PRT_INJ_LINK (R491): A write to PRT_INJ_LINK arms a link CRC injection on a Uneis port, or is refused. -/
  | prtInjLink (a : Agent) (value : W32)
  /-- THERMAL_ALERT (R505): A sensor crossing the alert or release threshold drives or releases THERM_ALERT_N. -/
  | thermalAlert (sensor : Nat) (temp : Int)
  /-- THERMAL_TRIP (R505): A sensor at the trip level causes containment and holds the device in reset until it cools. -/
  | thermalTrip (sensor : Nat) (temp : Int)
  /-- SAMPLE_PRELOAD (R506): JTAG instruction SAMPLE/PRELOAD samples or preloads the boundary-scan register. -/
  | samplePreload (preload : List Bool)
  /-- CREDIT_RETURN (R274): A credit return arrives on a Uneis port for a class and virtual channel, letting packets held for lack of credits leave;
  `acked`: flits that the receiver acknowledges (R271). -/
  | creditReturn (port : Fin 12) (cls vc : Nat) (units : Credit)
  /-- MARGIN_OK_CHANGE (R480): FPL_SUPPLY.MARGIN_OK falls when the input rail drops below VMIN, or rises after it has stayed at or above VMIN for 1 s, stopping a flash write in progress with REASON SUPPLY. -/
  | marginOkChange (ok : Bool)
  /-- UNEIS_PTP_MESSAGE (R386): A PTP event message arrives on a Uneis port in the MGMT class, is time-stamped and passed to the Faceplate firmware. -/
  | uneisPtpMessage (port : Fin 12) (bytes : List Byte)
  /-- VF_ENABLE_SET (R444): The host sets VF Enable and NumVFs in the SR-IOV capability, bringing the virtual functions and their windows into being. -/
  | vfEnableSet (num : Fin 128)
  /-- DYNAMIC_ADDRESS_ASSIGNMENT (R475): The I3C controller assigns the device a dynamic address, answered with its provisioned ID. -/
  | dynamicAddressAssignment (addr : Fin 128)
  /-- TICK_BOUNDARY (R72): The tick boundary runs its actions in order: map and withholding changes take effect, swaps begin, the new work lists become active, SPINDLE_SYNC is driven, and the tick count advances. -/
  | tickBoundary
  /-- GUARD_START (R41): The guard begins 1,200 cycles before the boundary: inference items not yet committed are cut and write DEFERRED, and items not yet started are carried to the next tick. -/
  | guardStart
  /-- SPINDLE_SYNC_EDGE (R81): A follower places its tick boundary at the SPINDLE_SYNC rising edge plus DELAY. -/
  | spindleSyncEdge
  /-- SYNC_LOSS (R83): A follower that misses LOSS_EDGES expected edges sets SYNC_LOST, sends an event record and runs on the grid or free-runs. -/
  | syncLoss
  /-- SRV_DISABLE_EFFECT (R218): A cleared EN takes effect at the first boundary with no step in flight, stopping submissions, admission and step builds. -/
  | srvDisableEffect
  /-- HEAT_HALVING (R230): Every PERIOD ticks the HEAT field of every tier-map entry is halved. -/
  | heatHalving
  /-- CONFIG_ACTIVATE (R300): A pending admitted set becomes active at the first frame boundary allowed once its evictions are done, restarting changed cells and loading Gouge images. -/
  | configActivate
  /-- CELLS_ON_AIR (R84): Cells go on air at the first frame boundary after time is valid and LOCKED is 1. -/
  | cellsOnAir
  /-- PPS_IN_EDGE (R384): A PPS_IN rising edge steps time under REF 2, or is captured, judged and used to correct rate and slew. -/
  | ppsInEdge
  /-- SLEW_DONE (R380): The slew amount has been fully applied and the rate returns to RATE. -/
  | slewDone
  /-- SERVO_TIMEOUT (R382): No TSU_RATE or TSU_SLEW write for TIMEOUT × 0.25 s enters holdover. -/
  | servoTimeout
  /-- PPS_TIMEOUT (R382): With REF 2, no accepted edge for 2.5 s enters holdover. -/
  | ppsTimeout
  /-- PPS_OUT_EDGE (R392): PPS_OUT rises at a whole second of T and falls after PPS_WIDTH. -/
  | ppsOutEdge
  /-- FAULT_RECORD_RECEIVE (R403): The Tailstock receives a detection or fault event record, classifies the unit and schedules retests. -/
  | faultRecordReceive
  /-- WATCHDOG_EXPIRY (R398): The Tailstock watchdog expires, restarting the Tailstock core or halting it at the third expiry in 60 s. -/
  | watchdogExpiry
  /-- SWEEP_TEST_DUE (R408): A periodic sweep test falls due on the next tile in logical order. -/
  | sweepTestDue
  /-- HISTORY_RECORD_WRITE (R407): A fault-history record is written to flash within 50 ms of its event. -/
  | historyRecordWrite
  /-- POS_SAVE (R403): Every 60 s the Tailstock writes TLS_POS to flash. -/
  | posSave
  /-- PERST_N_ASSERT (R444): PERST_N resets the PCIe controller, clears VF Enable and resets every instance. -/
  | perstNAssert
  /-- PCIE_LINK_DOWN (R444): A PCIe link-down event acts as PERST_N. -/
  | pcieLinkDown
  /-- PCIE_HOT_RESET (R444): A PCIe hot reset acts as PERST_N. -/
  | pcieHotReset
  /-- PF_FUNCTION_LEVEL_RESET (R444): A PF Function Level Reset acts as PERST_N. -/
  | pfFunctionLevelReset
  /-- BUS_MASTER_ENABLE_SET (R443): The host sets Bus Master Enable, allowing host reads and releasing pending MSI-X messages. -/
  | busMasterEnableSet
  /-- BOOT_ROM_START (R463): At time 0 the boot ROM locks clocks, samples the PUF SRAM, sets up the flash and chooses the firmware slot. -/
  | bootRomStart
  /-- FLASH_READ_DONE (R467): The start-up flash read completes: the container and configuration are verified, identity is derived and firmware is released. -/
  | flashReadDone
  /-- MEMORY_TRAINING_DONE (R463): Stack training and zero-initialisation complete and memory is ready. -/
  | memoryTrainingDone
  /-- CONFIG_IMAGE_APPLY (R472): The Faceplate applies the selected configuration image record by record, then sets IN_SERVICE. -/
  | configImageApply
  /-- IMAGE_RADIO_COMMIT (R471): An image RADIO_COMMIT record commits the staged radio set and waits for RESULT. -/
  | imageRadioCommit
  /-- IMAGE_END (R471): The image END record ends application. -/
  | imageEnd
  /-- ATTEST_DONE (R474): The signed attestation report is placed in FPL_ATTEST_REPORT. -/
  | attestDone
  /-- CONFIRM_TIMEOUT (R479): An unconfirmed slot after 120 s is marked FAILED, the other slot becomes ACTIVE and the chip is reset. -/
  | confirmTimeout
  /-- UPDATE_VERIFY_DONE (R481): The received image's digest and signature are checked, and writing and forwarding begin or the update fails. -/
  | updateVerifyDone
  /-- FW_RESEND_TIMEOUT (R482): A chain sender hearing nothing for 1 s resends from the last FW_NAK. -/
  | fwResendTimeout
  /-- FW_TRANSFER_TIMEOUT (R482): A chain transfer with no progress for 10 s ends ABORTED with REASON TRANSFER. -/
  | fwTransferTimeout
  /-- FW_CHAIN_RESULT_TIMEOUT (R482): 300 s after forwarding began, unreported downstream nodes count as ABORTED and FW_RESULT is sent. -/
  | fwChainResultTimeout
  /-- LEASE_EXPIRY (R487): At the last leased boundary all delays and PRT_VCORE are cleared, EN is cleared and EXPIRED set. -/
  | leaseExpiry
  /-- PWR_GOOD_LOW (R499): PWR_GOOD low for 600 ns or more causes chip reset at once with nothing retained. -/
  | pwrGoodLow
  /-- SYS_RST_N_LOW (R503): SYS_RST_N low for 10 µs causes chip reset, keeping the retention buffer. -/
  | sysRstNLow
  /-- TRST_N_LOW (R503): TRST_N low resets the JTAG TAP only. -/
  | trstNLow
  /-- BYPASS (R506): JTAG instruction BYPASS selects the bypass register. -/
  | bypass
  /-- IDCODE (R506): JTAG instruction IDCODE shifts out 0x2164_8A4D. -/
  | idcode
  /-- EXTEST (R506): JTAG instruction EXTEST drives the pins from boundary scan while SYS_RST_N is low, and otherwise acts as BYPASS. -/
  | extest
  /-- CLAMP (R506): JTAG instruction CLAMP holds the pins while SYS_RST_N is low, and otherwise acts as BYPASS. -/
  | clamp
  /-- HIGHZ (R506): JTAG instruction HIGHZ floats the outputs while SYS_RST_N is low, and otherwise acts as BYPASS. -/
  | highz
  /-- TAILSTOCK_RESTART_DONE (R398): The Tailstock core finishes its restart after a watchdog expiry and resumes cures, tests, comparisons and the queued records. -/
  | tailstockRestartDone
  /-- PERST_N_DEASSERT (R463): PERST_N goes high and PCIe link training starts. -/
  | perstNDeassert
  /-- UPDATE_RECEIVE_DONE (R481): The image read from the unified range at FPL_UPD_SRC is complete in the buffer, and verification begins. -/
  | updateReceiveDone
deriving DecidableEq, Repr

end Sys2Proof
end

