-- ==== Sys2Proof/Machine/Layouts.lean ====
section
/-!
DEFINITION. Machine/Layouts.lean: the bit fields of every descriptor, command, record and packet layout of the spec, as
(word, lowest bit, width), read with `Words.fld` and written with `Words.setFld`, and for each layout the mask of its
reserved bits word by word (R14, R50, R157).
-/

namespace Sys2Proof.Machine

/-! ### ITEM (R49) -/

/-- R49 CONTEXT: word 0, [11:0]. -/
def ITEM_CONTEXT : BF := ⟨0, 0, 12⟩

/-- R49 CHAIN: word 0, [47:16]. -/
def ITEM_CHAIN : BF := ⟨0, 16, 32⟩

/-- R49 INDEX: word 0, [63:48]. -/
def ITEM_INDEX : BF := ⟨0, 48, 16⟩

/-- R49 STREAM_OFF: word 1, [21:0]. -/
def ITEM_STREAM_OFF : BF := ⟨1, 0, 22⟩

/-- R49 CYCLE_BOUND: word 1, [51:32]. -/
def ITEM_CYCLE_BOUND : BF := ⟨1, 32, 20⟩

/-- R49 RADIO: word 1, [52]. -/
def ITEM_RADIO : BF := ⟨1, 52, 1⟩

/-- R49 RELEASE: word 2, [19:0]. -/
def ITEM_RELEASE : BF := ⟨2, 0, 20⟩

/-- R49 DEADLINE: word 2, [39:20]. -/
def ITEM_DEADLINE : BF := ⟨2, 20, 20⟩

/-- R49 TAG: word 3, [63:0]. -/
def ITEM_TAG : BF := ⟨3, 0, 64⟩

/-- Bits of each word of R49 that carry a field; the others are reserved. -/
def ITEM_USED : List Nat := [0xFFFFFFFFFFFF0FFF, 0x1FFFFF003FFFFF, 0xFFFFFFFFFF, 0xFFFFFFFFFFFFFFFF]

/-! ### IREC (R51) -/

/-- R51 NS: word 0, [31:0]. -/
def IREC_NS : BF := ⟨0, 0, 32⟩

/-- R51 SOURCE: word 0, [47:32]. -/
def IREC_SOURCE : BF := ⟨0, 32, 16⟩

/-- R51 STATUS: word 0, [55:48]. -/
def IREC_STATUS : BF := ⟨0, 48, 8⟩

/-- R51 ATTEMPT: word 0, [63:56]. -/
def IREC_ATTEMPT : BF := ⟨0, 56, 8⟩

/-- R51 TAG: word 1, [63:0]. -/
def IREC_TAG : BF := ⟨1, 0, 64⟩

/-- Bits of each word of R51 that carry a field; the others are reserved. -/
def IREC_USED : List Nat := [0xFFFFFFFFFFFFFFFF, 0xFFFFFFFFFFFFFFFF]

/-! ### CFG (R159) -/

/-- R159 FMT_A: word 0, [11:8]. -/
def CFG_FMT_A : BF := ⟨0, 8, 4⟩

/-- R159 FMT_B: word 0, [15:12]. -/
def CFG_FMT_B : BF := ⟨0, 12, 4⟩

/-- R159 DATAFLOW: word 0, [16]. -/
def CFG_DATAFLOW : BF := ⟨0, 16, 1⟩

/-- R159 HOLD: word 0, [19:17]. -/
def CFG_HOLD : BF := ⟨0, 17, 3⟩

/-- R159 SHIFT: word 0, [23:20]. -/
def CFG_SHIFT : BF := ⟨0, 20, 4⟩

/-- R159 MASK_M: word 1, [15:0]. -/
def CFG_MASK_M : BF := ⟨1, 0, 16⟩

/-- R159 MASK_N: word 1, [31:16]. -/
def CFG_MASK_N : BF := ⟨1, 16, 16⟩

/-- Bits of each word of R159 that carry a field; the others are reserved. -/
def CFG_USED : List Nat := [0xFFFF00, 0xFFFFFFFF]

/-! ### OPAB (R159) -/

/-- R159 XREG: word 0, [13:8]. -/
def OPAB_XREG : BF := ⟨0, 8, 6⟩

/-- R159 BASE: word 0, [35:14]. -/
def OPAB_BASE : BF := ⟨0, 14, 22⟩

/-- R159 STRIDE: word 0, [51:36]. -/
def OPAB_STRIDE : BF := ⟨0, 36, 16⟩

/-- R159 SSTRIDE: word 0, [63:52]. -/
def OPAB_SSTRIDE : BF := ⟨0, 52, 12⟩

/-- R159 SBASE: word 1, [21:0]. -/
def OPAB_SBASE : BF := ⟨1, 0, 22⟩

/-- R159 L2BASE: word 1, [43:22]. -/
def OPAB_L2BASE : BF := ⟨1, 22, 22⟩

/-- R159 L2STRIDE: word 1, [55:44]. -/
def OPAB_L2STRIDE : BF := ⟨1, 44, 12⟩

/-- R159 L2S: word 1, [56]. -/
def OPAB_L2S : BF := ⟨1, 56, 1⟩

/-- Bits of each word of R159 that carry a field; the others are reserved. -/
def OPAB_USED : List Nat := [0xFFFFFFFFFFFFFF00, 0x1FFFFFFFFFFFFFF]

/-! ### OPC (R159) -/

/-- R159 XREG: word 0, [13:8]. -/
def OPC_XREG : BF := ⟨0, 8, 6⟩

/-- R159 OBASE: word 0, [35:14]. -/
def OPC_OBASE : BF := ⟨0, 14, 22⟩

/-- R159 OSTRIDE: word 0, [51:36]. -/
def OPC_OSTRIDE : BF := ⟨0, 36, 16⟩

/-- R159 OUT_FMT: word 0, [55:52]. -/
def OPC_OUT_FMT : BF := ⟨0, 52, 4⟩

/-- R159 SAT: word 0, [56]. -/
def OPC_SAT : BF := ⟨0, 56, 1⟩

/-- R159 ACC_SHIFT: word 0, [60:57]. -/
def OPC_ACC_SHIFT : BF := ⟨0, 57, 4⟩

/-- R159 CBASE: word 1, [21:0]. -/
def OPC_CBASE : BF := ⟨1, 0, 22⟩

/-- R159 CSTRIDE: word 1, [37:22]. -/
def OPC_CSTRIDE : BF := ⟨1, 22, 16⟩

/-- R159 C_FMT: word 1, [41:38]. -/
def OPC_C_FMT : BF := ⟨1, 38, 4⟩

/-- R159 INIT: word 1, [42]. -/
def OPC_INIT : BF := ⟨1, 42, 1⟩

/-- R159 OUT_SHIFT: word 1, [47:43]. -/
def OPC_OUT_SHIFT : BF := ⟨1, 43, 5⟩

/-- Bits of each word of R159 that carry a field; the others are reserved. -/
def OPC_USED : List Nat := [0x1FFFFFFFFFFFFF00, 0xFFFFFFFFFFFF]

/-! ### MM (R159) -/

/-- R159 M: word 0, [15:8]. -/
def MM_M : BF := ⟨0, 8, 8⟩

/-- R159 N: word 0, [23:16]. -/
def MM_N : BF := ⟨0, 16, 8⟩

/-- R159 K: word 0, [43:24]. -/
def MM_K : BF := ⟨0, 24, 20⟩

/-- R159 SET_FIRST: word 0, [46:44]. -/
def MM_SET_FIRST : BF := ⟨0, 44, 3⟩

/-- Bits of each word of R159 that carry a field; the others are reserved. -/
def MM_USED : List Nat := [0x7FFFFFFFFF00]

/-! ### VOP (R160) -/

/-- R160 FUNC: word 0, [15:8]. -/
def VOP_FUNC : BF := ⟨0, 8, 8⟩

/-- R160 VD: word 0, [20:16]. -/
def VOP_VD : BF := ⟨0, 16, 5⟩

/-- R160 VA: word 0, [25:21]. -/
def VOP_VA : BF := ⟨0, 21, 5⟩

/-- R160 VB: word 0, [30:26]. -/
def VOP_VB : BF := ⟨0, 26, 5⟩

/-- R160 VC: word 0, [35:31]. -/
def VOP_VC : BF := ⟨0, 31, 5⟩

/-- R160 VM: word 0, [38:36]. -/
def VOP_VM : BF := ⟨0, 36, 3⟩

/-- R160 IMM_B: word 0, [39]. -/
def VOP_IMM_B : BF := ⟨0, 39, 1⟩

/-- R160 IMM: word 1, [31:0]. -/
def VOP_IMM : BF := ⟨1, 0, 32⟩

/-- Bits of each word of R160 that carry a field; the others are reserved. -/
def VOP_USED : List Nat := [0xFFFFFFFF00, 0xFFFFFFFF]

/-! ### VMEM (R160) -/

/-- R160 XREG: word 0, [13:8]. -/
def VMEM_XREG : BF := ⟨0, 8, 6⟩

/-- R160 ADDR: word 0, [35:14]. -/
def VMEM_ADDR : BF := ⟨0, 14, 22⟩

/-- R160 VREG: word 0, [40:36]. -/
def VMEM_VREG : BF := ⟨0, 36, 5⟩

/-- R160 EFMT: word 0, [42:41]. -/
def VMEM_EFMT : BF := ⟨0, 41, 2⟩

/-- R160 VM: word 0, [45:43]. -/
def VMEM_VM : BF := ⟨0, 43, 3⟩

/-- Bits of each word of R160 that carry a field; the others are reserved. -/
def VMEM_USED : List Nat := [0x3FFFFFFFFF00, 0x0]

/-! ### QMX (R160) -/

/-- R160 XREG: word 0, [13:8]. -/
def QMX_XREG : BF := ⟨0, 8, 6⟩

/-- R160 VA: word 0, [18:14]. -/
def QMX_VA : BF := ⟨0, 14, 5⟩

/-- R160 TFMT: word 0, [22:19]. -/
def QMX_TFMT : BF := ⟨0, 19, 4⟩

/-- R160 EBASE: word 0, [44:23]. -/
def QMX_EBASE : BF := ⟨0, 23, 22⟩

/-- R160 ESTRIDE: word 0, [60:45]. -/
def QMX_ESTRIDE : BF := ⟨0, 45, 16⟩

/-- R160 SBASE: word 1, [21:0]. -/
def QMX_SBASE : BF := ⟨1, 0, 22⟩

/-- R160 SSTEP: word 1, [37:22]. -/
def QMX_SSTEP : BF := ⟨1, 22, 16⟩

/-- Bits of each word of R160 that carry a field; the others are reserved. -/
def QMX_USED : List Nat := [0x1FFFFFFFFFFFFF00, 0x3FFFFFFFFF]

/-! ### SOP (R159) -/

/-- R159 FUNC: word 0, [11:8]. -/
def SOP_FUNC : BF := ⟨0, 8, 4⟩

/-- R159 SD: word 0, [17:12]. -/
def SOP_SD : BF := ⟨0, 12, 6⟩

/-- R159 SA: word 0, [23:18]. -/
def SOP_SA : BF := ⟨0, 18, 6⟩

/-- R159 SB: word 0, [29:24]. -/
def SOP_SB : BF := ⟨0, 24, 6⟩

/-- R159 IMM_B: word 0, [30]. -/
def SOP_IMM_B : BF := ⟨0, 30, 1⟩

/-- Bits of each word of R159 that carry a field; the others are reserved. -/
def SOP_USED : List Nat := [0x7FFFFF00]

/-! ### LOOPC (R159) -/

/-- R159 LC: word 0, [9:8]. -/
def LOOPC_LC : BF := ⟨0, 8, 2⟩

/-- R159 COUNT: word 0, [29:10]. -/
def LOOPC_COUNT : BF := ⟨0, 10, 20⟩

/-- R159 BODY: word 0, [45:30]. -/
def LOOPC_BODY : BF := ⟨0, 30, 16⟩

/-- Bits of each word of R159 that carry a field; the others are reserved. -/
def LOOPC_USED : List Nat := [0x3FFFFFFFFF00]

/-! ### BRC (R159) -/

/-- R159 FLAG: word 0, [9:8]. -/
def BRC_FLAG : BF := ⟨0, 8, 2⟩

/-- R159 SENSE: word 0, [10]. -/
def BRC_SENSE : BF := ⟨0, 10, 1⟩

/-- R159 ALWAYS: word 0, [11]. -/
def BRC_ALWAYS : BF := ⟨0, 11, 1⟩

/-- R159 OFFSET: word 0, [43:12]. -/
def BRC_OFFSET : BF := ⟨0, 12, 32⟩

/-- Bits of each word of R159 that carry a field; the others are reserved. -/
def BRC_USED : List Nat := [0xFFFFFFFFF00]

/-! ### WAITC (R159) -/

/-- R159 KIND: word 0, [11:8]. -/
def WAITC_KIND : BF := ⟨0, 8, 4⟩

/-- R159 SEM: word 0, [15:12]. -/
def WAITC_SEM : BF := ⟨0, 12, 4⟩

/-- R159 VALUE: word 0, [47:16]. -/
def WAITC_VALUE : BF := ⟨0, 16, 32⟩

/-- Bits of each word of R159 that carry a field; the others are reserved. -/
def WAITC_USED : List Nat := [0xFFFFFFFFFF00]

/-! ### DMAC (R159) -/

/-- R159 KIND: word 0, [11:8]. -/
def DMAC_KIND : BF := ⟨0, 8, 4⟩

/-- R159 ADDR: word 0, [35:14]. -/
def DMAC_ADDR : BF := ⟨0, 14, 22⟩

/-- R159 COUNT: word 0, [42:36]. -/
def DMAC_COUNT : BF := ⟨0, 36, 7⟩

/-- R159 ARG: word 1, [63:0]. -/
def DMAC_ARG : BF := ⟨1, 0, 64⟩

/-- Bits of each word of R159 that carry a field; the others are reserved. -/
def DMAC_USED : List Nat := [0x7FFFFFFCF00, 0xFFFFFFFFFFFFFFFF]

/-! ### DD (R164) -/

/-- R164 SRC: word 0, [63:0]. -/
def DD_SRC : BF := ⟨0, 0, 64⟩

/-- R164 DST: word 1, [63:0]. -/
def DD_DST : BF := ⟨1, 0, 64⟩

/-- R164 ROW_BYTES: word 2, [19:0]. -/
def DD_ROW_BYTES : BF := ⟨2, 0, 20⟩

/-- R164 ROWS: word 2, [35:20]. -/
def DD_ROWS : BF := ⟨2, 20, 16⟩

/-- R164 SRC_STRIDE: word 2, [63:36]. -/
def DD_SRC_STRIDE : BF := ⟨2, 36, 28⟩

/-- R164 DST_STRIDE: word 3, [27:0]. -/
def DD_DST_STRIDE : BF := ⟨3, 0, 28⟩

/-- R164 SRC_SPACE: word 3, [30:28]. -/
def DD_SRC_SPACE : BF := ⟨3, 28, 3⟩

/-- R164 DST_SPACE: word 3, [33:31]. -/
def DD_DST_SPACE : BF := ⟨3, 31, 3⟩

/-- R164 SEM: word 3, [37:34]. -/
def DD_SEM : BF := ⟨3, 34, 4⟩

/-- R164 SEM_EN: word 3, [38]. -/
def DD_SEM_EN : BF := ⟨3, 38, 1⟩

/-- R164 OP: word 3, [42:39]. -/
def DD_OP : BF := ⟨3, 39, 4⟩

/-- R164 ATYPE: word 3, [46:43]. -/
def DD_ATYPE : BF := ⟨3, 43, 4⟩

/-- Bits of each word of R164 that carry a field; the others are reserved. -/
def DD_USED : List Nat := [0xFFFFFFFFFFFFFFFF, 0xFFFFFFFFFFFFFFFF, 0xFFFFFFFFFFFFFFFF, 0x7FFFFFFFFFFF]

/-! ### DREC (R183) -/

/-- R183 NS: word 0, [31:0]. -/
def DREC_NS : BF := ⟨0, 0, 32⟩

/-- R183 SOURCE: word 0, [47:32]. -/
def DREC_SOURCE : BF := ⟨0, 32, 16⟩

/-- R183 KIND: word 0, [51:48]. -/
def DREC_KIND : BF := ⟨0, 48, 4⟩

/-- R183 RUN: word 0, [52]. -/
def DREC_RUN : BF := ⟨0, 52, 1⟩

/-- R183 LOCAL: word 0, [53]. -/
def DREC_LOCAL : BF := ⟨0, 53, 1⟩

/-- R183 SPARE: word 0, [54]. -/
def DREC_SPARE : BF := ⟨0, 54, 1⟩

/-- R183 CUBE: word 0, [57:55]. -/
def DREC_CUBE : BF := ⟨0, 55, 3⟩

/-- R183 MROW: word 0, [60:58]. -/
def DREC_MROW : BF := ⟨0, 58, 3⟩

/-- R183 CHUCK: word 0, [62:61]. -/
def DREC_CHUCK : BF := ⟨0, 61, 2⟩

/-- R183 RADIO: word 0, [63]. -/
def DREC_RADIO : BF := ⟨0, 63, 1⟩

/-- R183 DIE: word 1, [0]. -/
def DREC_DIE : BF := ⟨1, 0, 1⟩

/-- R183 ROW: word 1, [3:1]. -/
def DREC_ROW : BF := ⟨1, 1, 3⟩

/-- R183 PCOL: word 1, [8:4]. -/
def DREC_PCOL : BF := ⟨1, 4, 5⟩

/-- R183 COLS: word 1, [23:16]. -/
def DREC_COLS : BF := ⟨1, 16, 8⟩

/-- R183 ROWS: word 1, [31:24]. -/
def DREC_ROWS : BF := ⟨1, 24, 8⟩

/-- R183 LAYERS: word 1, [33:32]. -/
def DREC_LAYERS : BF := ⟨1, 32, 2⟩

/-- R183 FMT_A: word 1, [37:34]. -/
def DREC_FMT_A : BF := ⟨1, 34, 4⟩

/-- R183 FMT_B: word 1, [41:38]. -/
def DREC_FMT_B : BF := ⟨1, 38, 4⟩

/-- R183 STEP: word 1, [63:42]. -/
def DREC_STEP : BF := ⟨1, 42, 22⟩

/-- R183 TAG: word 2, [63:0]. -/
def DREC_TAG : BF := ⟨2, 0, 64⟩

/-- R183 OP_HASH: word 3, [63:0]. -/
def DREC_OP_HASH : BF := ⟨3, 0, 64⟩

/-- Bits of each word of R183 that carry a field; the others are reserved. -/
def DREC_USED : List Nat := [0xFFFFFFFFFFFFFFFF, 0xFFFFFFFFFFFF01FF, 0xFFFFFFFFFFFFFFFF, 0xFFFFFFFFFFFFFFFF]

/-! ### STEP (R216) -/

/-- R216 STEP: word 0, [63:0]. -/
def STEP_HEA_STEP : BF := ⟨0, 0, 64⟩

/-- R216 ROWS: word 1, [12:0]. -/
def STEP_HEA_ROWS : BF := ⟨1, 0, 13⟩

/-- R216 GROUPS: word 1, [25:13]. -/
def STEP_HEA_GROUPS : BF := ⟨1, 13, 13⟩

/-- R216 PROFILE: word 1, [29:26]. -/
def STEP_HEA_PROFILE : BF := ⟨1, 26, 4⟩

/-- R216 PREFILL: word 2, [31:0]. -/
def STEP_HEA_PREFILL : BF := ⟨2, 0, 32⟩

/-- R216 SEQ: word 0, [15:0]. -/
def STEP_ROW_SEQ : BF := ⟨0, 0, 16⟩

/-- R216 SGEN: word 0, [23:16]. -/
def STEP_ROW_SGEN : BF := ⟨0, 16, 8⟩

/-- R216 KIND: word 0, [24]. -/
def STEP_ROW_KIND : BF := ⟨0, 24, 1⟩

/-- R216 ADAPTER_EN: word 0, [25]. -/
def STEP_ROW_ADAPTER_EN : BF := ⟨0, 25, 1⟩

/-- R216 ADAPTER: word 0, [37:26]. -/
def STEP_ROW_ADAPTER : BF := ⟨0, 26, 12⟩

/-- R216 BUCKET: word 0, [41:38]. -/
def STEP_ROW_BUCKET : BF := ⟨0, 38, 4⟩

/-- R216 STEP_CNT: word 0, [61:42]. -/
def STEP_ROW_STEP_CNT : BF := ⟨0, 42, 20⟩

/-- R216 CTX_LEN: word 1, [31:0]. -/
def STEP_ROW_CTX_LEN : BF := ⟨1, 0, 32⟩

/-- R216 NEW: word 1, [63:32]. -/
def STEP_ROW_NEW : BF := ⟨1, 32, 32⟩

/-- R216 FIRST: word 0, [12:0]. -/
def STEP_GRO_FIRST : BF := ⟨0, 0, 13⟩

/-- R216 COUNT: word 0, [25:13]. -/
def STEP_GRO_COUNT : BF := ⟨0, 13, 13⟩

/-- R216 ADAPTER: word 0, [37:26]. -/
def STEP_GRO_ADAPTER : BF := ⟨0, 26, 12⟩

/-- R216 ADAPTER_EN: word 0, [38]. -/
def STEP_GRO_ADAPTER_EN : BF := ⟨0, 38, 1⟩

/-- R216 BUCKET: word 0, [42:39]. -/
def STEP_GRO_BUCKET : BF := ⟨0, 39, 4⟩

/-- Bits of each word of STEP_GRO that carry a field; the others are reserved. -/
def STEP_GRO_USED : List Nat := [0x7FFFFFFFFFF]

/-- Bits of each word of STEP_HEA that carry a field; the others are reserved. -/
def STEP_HEA_USED : List Nat := [0xFFFFFFFFFFFFFFFF, 0x3FFFFFFF, 0xFFFFFFFF, 0x0, 0x0, 0x0, 0x0, 0x0]

/-- Bits of each word of STEP_ROW that carry a field; the others are reserved. -/
def STEP_ROW_USED : List Nat := [0x3FFFFFFFFFFFFFFF, 0xFFFFFFFFFFFFFFFF]

/-! ### NTF (R224) -/

/-- R224 SEQ: word 0, [15:0]. -/
def NTF_SEQ : BF := ⟨0, 0, 16⟩

/-- R224 SGEN: word 0, [23:16]. -/
def NTF_SGEN : BF := ⟨0, 16, 8⟩

/-- R224 NAN_LOGITS: word 0, [24]. -/
def NTF_NAN_LOGITS : BF := ⟨0, 24, 1⟩

/-- R224 TOKEN: word 0, [55:32]. -/
def NTF_TOKEN : BF := ⟨0, 32, 24⟩

/-- R224 STEP_CNT: word 1, [19:0]. -/
def NTF_STEP_CNT : BF := ⟨1, 0, 20⟩

/-- R224 STEP: word 1, [63:20]. -/
def NTF_STEP : BF := ⟨1, 20, 44⟩

/-- Bits of each word of R224 that carry a field; the others are reserved. -/
def NTF_USED : List Nat := [0xFFFFFF01FFFFFF, 0xFFFFFFFFFFFFFFFF]

/-! ### SREC (R225) -/

/-- R225 NS: word 0, [31:0]. -/
def SREC_NS : BF := ⟨0, 0, 32⟩

/-- R225 SOURCE: word 0, [47:32]. -/
def SREC_SOURCE : BF := ⟨0, 32, 16⟩

/-- R225 STATUS: word 0, [55:48]. -/
def SREC_STATUS : BF := ⟨0, 48, 8⟩

/-- R225 KIND: word 0, [59:56]. -/
def SREC_KIND : BF := ⟨0, 56, 4⟩

/-- R225 SEQ: word 1, [15:0]. -/
def SREC_SEQ : BF := ⟨1, 0, 16⟩

/-- R225 SGEN: word 1, [23:16]. -/
def SREC_SGEN : BF := ⟨1, 16, 8⟩

/-- R225 REASON: word 1, [31:24]. -/
def SREC_REASON : BF := ⟨1, 24, 8⟩

/-- R225 TOKEN: word 1, [55:32]. -/
def SREC_TOKEN : BF := ⟨1, 32, 24⟩

/-- R225 NAN_LOGITS: word 1, [56]. -/
def SREC_NAN_LOGITS : BF := ⟨1, 56, 1⟩

/-- R225 STEP_CNT: word 2, [19:0]. -/
def SREC_STEP_CNT : BF := ⟨2, 0, 20⟩

/-- R225 CTX_LEN: word 2, [51:20]. -/
def SREC_CTX_LEN : BF := ⟨2, 20, 32⟩

/-- R225 TAG: word 3, [63:0]. -/
def SREC_TAG : BF := ⟨3, 0, 64⟩

/-- Bits of each word of R225 that carry a field; the others are reserved. -/
def SREC_USED : List Nat := [0xFFFFFFFFFFFFFFF, 0x1FFFFFFFFFFFFFF, 0xFFFFFFFFFFFFF, 0xFFFFFFFFFFFFFFFF]

/-! ### MCMD (R236) -/

/-- R236 OP: word 0, [7:0]. -/
def MCMD_OP : BF := ⟨0, 0, 8⟩

/-- R236 OBJECT: word 0, [31:16]. -/
def MCMD_OBJECT : BF := ⟨0, 16, 16⟩

/-- R236 TAG: word 0, [47:32]. -/
def MCMD_TAG : BF := ⟨0, 32, 16⟩

/-- R236 FIRST: word 1, [21:0]. -/
def MCMD_FIRST : BF := ⟨1, 0, 22⟩

/-- R236 COUNT: word 1, [43:22]. -/
def MCMD_COUNT : BF := ⟨1, 22, 22⟩

/-- R236 TIER: word 1, [46:44]. -/
def MCMD_TIER : BF := ⟨1, 44, 3⟩

/-- R236 STACK_MASK: word 1, [62:47]. -/
def MCMD_STACK_MASK : BF := ⟨1, 47, 16⟩

/-- R236 ARG: word 2, [63:0]. -/
def MCMD_ARG : BF := ⟨2, 0, 64⟩

/-- Bits of each word of R236 that carry a field; the others are reserved. -/
def MCMD_USED : List Nat := [0xFFFFFFFF00FF, 0x7FFFFFFFFFFFFFFF, 0xFFFFFFFFFFFFFFFF]

/-! ### PKT (R256) -/

/-- R256 DST: word 0, [15:0]. -/
def PKT_DST : BF := ⟨0, 0, 16⟩

/-- R256 SRC: word 0, [31:16]. -/
def PKT_SRC : BF := ⟨0, 16, 16⟩

/-- R256 TAG: word 0, [47:32]. -/
def PKT_TAG : BF := ⟨0, 32, 16⟩

/-- R256 SEQ: word 0, [63:48]. -/
def PKT_SEQ : BF := ⟨0, 48, 16⟩

/-- R256 OFFSET: word 1, [47:0]. -/
def PKT_OFFSET : BF := ⟨1, 0, 48⟩

/-- R256 CLASS: word 1, [50:48]. -/
def PKT_CLASS : BF := ⟨1, 48, 3⟩

/-- R256 VC: word 1, [51]. -/
def PKT_VC : BF := ⟨1, 51, 1⟩

/-- R256 OP: word 1, [56:52]. -/
def PKT_OP : BF := ⟨1, 52, 5⟩

/-- R256 SIZE: word 1, [59:57]. -/
def PKT_SIZE : BF := ⟨1, 57, 3⟩

/-- R256 NOCOMBINE: word 1, [60]. -/
def PKT_NOCOMBINE : BF := ⟨1, 60, 1⟩

/-- R256 EPOCH: word 1, [63:61]. -/
def PKT_EPOCH : BF := ⟨1, 61, 3⟩

/-- R256 SRC_GEN: word 2, [15:0]. -/
def PKT_SRC_GEN : BF := ⟨2, 0, 16⟩

/-- R256 DST_GEN: word 2, [31:16]. -/
def PKT_DST_GEN : BF := ⟨2, 16, 16⟩

/-- R256 ATYPE: word 2, [35:32]. -/
def PKT_ATYPE : BF := ⟨2, 32, 4⟩

/-- R256 COUNT: word 2, [44:36]. -/
def PKT_COUNT : BF := ⟨2, 36, 9⟩

/-- R256 STATUS: word 2, [52:45]. -/
def PKT_STATUS : BF := ⟨2, 45, 8⟩

/-- R256 HOPS: word 2, [57:53]. -/
def PKT_HOPS : BF := ⟨2, 53, 5⟩

/-- Bits of each word of R256 that carry a field; the others are reserved. -/
def PKT_USED : List Nat := [0xFFFFFFFFFFFFFFFF, 0xFFFFFFFFFFFFFFFF, 0x3FFFFFFFFFFFFFF]

/-! ### MODE (R320) -/

/-- R320 VALID: word 0, [0]. -/
def MODE_VALID : BF := ⟨0, 0, 1⟩

/-- R320 STD: word 0, [1]. -/
def MODE_STD : BF := ⟨0, 1, 1⟩

/-- R320 LEVELS: word 0, [2]. -/
def MODE_LEVELS : BF := ⟨0, 2, 1⟩

/-- R320 BT: word 0, [4:3]. -/
def MODE_BT : BF := ⟨0, 3, 2⟩

/-- R320 H: word 0, [14:5]. -/
def MODE_H : BF := ⟨0, 5, 10⟩

/-- R320 SPS: word 0, [30:15]. -/
def MODE_SPS : BF := ⟨0, 15, 16⟩

/-- R320 PRE_BITS: word 0, [40:32]. -/
def MODE_PRE_BITS : BF := ⟨0, 32, 9⟩

/-- R320 PRE_DET: word 0, [46:41]. -/
def MODE_PRE_DET : BF := ⟨0, 41, 6⟩

/-- R320 SYNC_BITS: word 0, [53:47]. -/
def MODE_SYNC_BITS : BF := ⟨0, 47, 7⟩

/-- R320 SYNC_N: word 0, [55:54]. -/
def MODE_SYNC_N : BF := ⟨0, 54, 2⟩

/-- R320 SYNC_ERR: word 0, [58:56]. -/
def MODE_SYNC_ERR : BF := ⟨0, 56, 3⟩

/-- R320 SYNC0: word 1, [63:0]. -/
def MODE_SYNC0 : BF := ⟨1, 0, 64⟩

/-- R320 SYNC1: word 2, [63:0]. -/
def MODE_SYNC1 : BF := ⟨2, 0, 64⟩

/-- R320 SYNC2: word 3, [63:0]. -/
def MODE_SYNC2 : BF := ⟨3, 0, 64⟩

/-- R320 SYNC3: word 4, [63:0]. -/
def MODE_SYNC3 : BF := ⟨4, 0, 64⟩

/-- R320 FEC: word 5, [1:0]. -/
def MODE_FEC : BF := ⟨5, 0, 2⟩

/-- R320 RSC: word 5, [2]. -/
def MODE_RSC : BF := ⟨5, 2, 1⟩

/-- R320 RS_EN: word 5, [3]. -/
def MODE_RS_EN : BF := ⟨5, 3, 1⟩

/-- R320 CRC: word 5, [5:4]. -/
def MODE_CRC : BF := ⟨5, 4, 2⟩

/-- R320 WHITE_EN: word 5, [6]. -/
def MODE_WHITE_EN : BF := ⟨5, 6, 1⟩

/-- R320 WHITE_SEED: word 5, [15:7]. -/
def MODE_WHITE_SEED : BF := ⟨5, 7, 9⟩

/-- R320 ILV: word 5, [21:16]. -/
def MODE_ILV : BF := ⟨5, 16, 6⟩

/-- R320 HDR_EN: word 5, [22]. -/
def MODE_HDR_EN : BF := ⟨5, 22, 1⟩

/-- R320 FIXED_LEN: word 5, [33:23]. -/
def MODE_FIXED_LEN : BF := ⟨5, 23, 11⟩

/-- R320 SFD_SET: word 5, [34]. -/
def MODE_SFD_SET : BF := ⟨5, 34, 1⟩

/-- R320 AGC_TARGET: word 6, [7:0]. -/
def MODE_AGC_TARGET : BF := ⟨6, 0, 8⟩

/-- R320 AGC_HYST: word 6, [11:8]. -/
def MODE_AGC_HYST : BF := ⟨6, 8, 4⟩

/-- R320 AGC_SHIFT: word 6, [15:12]. -/
def MODE_AGC_SHIFT : BF := ⟨6, 12, 4⟩

/-- R320 PRE_THR: word 6, [23:16]. -/
def MODE_PRE_THR : BF := ⟨6, 16, 8⟩

/-- R320 NF: word 6, [27:24]. -/
def MODE_NF : BF := ⟨6, 24, 4⟩

/-- R320 NB: word 6, [31:28]. -/
def MODE_NB : BF := ⟨6, 28, 4⟩

/-- R320 MU_F: word 6, [35:32]. -/
def MODE_MU_F : BF := ⟨6, 32, 4⟩

/-- R320 MU_B: word 6, [39:36]. -/
def MODE_MU_B : BF := ⟨6, 36, 4⟩

/-- R320 TRAIN: word 6, [41:40]. -/
def MODE_TRAIN : BF := ⟨6, 40, 2⟩

/-- R320 DFE_EN: word 6, [42]. -/
def MODE_DFE_EN : BF := ⟨6, 42, 1⟩

/-- R320 NF_INTERVALS: word 7, [7:0]. -/
def MODE_NF_INTERVALS : BF := ⟨7, 0, 8⟩

/-- Bits of each word of R320 that carry a field; the others are reserved. -/
def MODE_USED : List Nat := [0x7FFFFFF7FFFFFFF, 0xFFFFFFFFFFFFFFFF, 0xFFFFFFFFFFFFFFFF, 0xFFFFFFFFFFFFFFFF, 0xFFFFFFFFFFFFFFFF, 0x7FFFFFFFF, 0x7FFFFFFFFFF, 0xFF]

/-! ### UREC (R343) -/

/-- R343 NS: word 0, [31:0]. -/
def UREC_NS : BF := ⟨0, 0, 32⟩

/-- R343 SOURCE: word 0, [47:32]. -/
def UREC_SOURCE : BF := ⟨0, 32, 16⟩

/-- R343 STATUS: word 0, [55:48]. -/
def UREC_STATUS : BF := ⟨0, 48, 8⟩

/-- R343 KIND: word 0, [59:56]. -/
def UREC_KIND : BF := ⟨0, 56, 4⟩

/-- R343 CHANNEL: word 1, [8:0]. -/
def UREC_CHANNEL : BF := ⟨1, 0, 9⟩

/-- R343 OUTPUT: word 1, [9]. -/
def UREC_OUTPUT : BF := ⟨1, 9, 1⟩

/-- R343 MODE: word 1, [17:10]. -/
def UREC_MODE : BF := ⟨1, 10, 8⟩

/-- R343 SYNC_IDX: word 1, [19:18]. -/
def UREC_SYNC_IDX : BF := ⟨1, 18, 2⟩

/-- R343 HDR_BAD: word 1, [20]. -/
def UREC_HDR_BAD : BF := ⟨1, 20, 1⟩

/-- R343 CRC_BAD: word 1, [21]. -/
def UREC_CRC_BAD : BF := ⟨1, 21, 1⟩

/-- R343 RS_FAIL: word 1, [22]. -/
def UREC_RS_FAIL : BF := ⟨1, 22, 1⟩

/-- R343 TRUNC: word 1, [23]. -/
def UREC_TRUNC : BF := ⟨1, 23, 1⟩

/-- R343 REASON: word 1, [31:24]. -/
def UREC_REASON : BF := ⟨1, 24, 8⟩

/-- R343 INTERVAL: word 2, [31:0]. -/
def UREC_INTERVAL : BF := ⟨2, 0, 32⟩

/-- R343 LEN: word 2, [42:32]. -/
def UREC_LEN : BF := ⟨2, 32, 11⟩

/-- R343 USER: word 2, [47:43]. -/
def UREC_USER : BF := ⟨2, 43, 5⟩

/-- R343 COUNT: word 2, [63:48]. -/
def UREC_COUNT : BF := ⟨2, 48, 16⟩

/-- R343 RSSI: word 3, [15:0]. -/
def UREC_RSSI : BF := ⟨3, 0, 16⟩

/-- R343 CFO: word 3, [31:16]. -/
def UREC_CFO : BF := ⟨3, 16, 16⟩

/-- R343 QUALITY: word 3, [47:32]. -/
def UREC_QUALITY : BF := ⟨3, 32, 16⟩

/-- R343 BIT_CORR: word 3, [63:48]. -/
def UREC_BIT_CORR : BF := ⟨3, 48, 16⟩

/-- R343 DIGEST: word 4, [63:0]. -/
def UREC_DIGEST : BF := ⟨4, 0, 64⟩

/-- R343 LOST: word 5, [15:0]. -/
def UREC_LOST : BF := ⟨5, 0, 16⟩

/-- R343 TAG: word 6, [63:0]. -/
def UREC_TAG : BF := ⟨6, 0, 64⟩

/-- Bits of each word of R343 that carry a field; the others are reserved. -/
def UREC_USED : List Nat := [0xFFFFFFFFFFFFFFF, 0xFFFFFFFF, 0xFFFFFFFFFFFFFFFF, 0xFFFFFFFFFFFFFFFF, 0xFFFFFFFFFFFFFFFF, 0xFFFF, 0xFFFFFFFFFFFFFFFF, 0x0]

/-! ### SUBM (R347) -/

/-- R347 KIND: word 0, [3:0]. -/
def SUBM_KIND : BF := ⟨0, 0, 4⟩

/-- R347 CHANNEL: word 0, [12:4]. -/
def SUBM_CHANNEL : BF := ⟨0, 4, 9⟩

/-- R347 MODE: word 0, [20:13]. -/
def SUBM_MODE : BF := ⟨0, 13, 8⟩

/-- R347 ANT_MASK: word 0, [24:21]. -/
def SUBM_ANT_MASK : BF := ⟨0, 21, 4⟩

/-- R347 LEN: word 0, [35:25]. -/
def SUBM_LEN : BF := ⟨0, 25, 11⟩

/-- R347 USER: word 0, [40:36]. -/
def SUBM_USER : BF := ⟨0, 36, 5⟩

/-- R347 SYNC_SEL: word 0, [42:41]. -/
def SUBM_SYNC_SEL : BF := ⟨0, 41, 2⟩

/-- R347 START_INTERVAL: word 1, [31:0]. -/
def SUBM_START_INTERVAL : BF := ⟨1, 0, 32⟩

/-- R347 OFFSET_NS: word 1, [51:32]. -/
def SUBM_OFFSET_NS : BF := ⟨1, 32, 20⟩

/-- R347 AMPL: word 2, [15:0]. -/
def SUBM_AMPL : BF := ⟨2, 0, 16⟩

/-- R347 TAG: word 3, [63:0]. -/
def SUBM_TAG : BF := ⟨3, 0, 64⟩

/-- Bits of each word of R347 that carry a field; the others are reserved. -/
def SUBM_USED : List Nat := [0x7FFFFFFFFFF, 0xFFFFFFFFFFFFF, 0xFFFF, 0xFFFFFFFFFFFFFFFF, 0x0, 0x0, 0x0, 0x0]

/-! ### GA (R357) -/

/-- R357 OP: word 0, [63:58]. -/
def GA_OP : BF := ⟨0, 58, 6⟩

/-- R357 DST: word 0, [57:53]. -/
def GA_DST : BF := ⟨0, 53, 5⟩

/-- R357 SA: word 0, [52:48]. -/
def GA_SA : BF := ⟨0, 48, 5⟩

/-- R357 SB: word 0, [47:43]. -/
def GA_SB : BF := ⟨0, 43, 5⟩

/-- R357 ACC: word 0, [42:40]. -/
def GA_ACC : BF := ⟨0, 40, 3⟩

/-- R357 MODF: word 0, [39:37]. -/
def GA_MODF : BF := ⟨0, 37, 3⟩

/-- R357 RT: word 0, [36]. -/
def GA_RT : BF := ⟨0, 36, 1⟩

/-- R357 MOVE_K: word 0, [35:24]. -/
def GA_MOVE_K : BF := ⟨0, 24, 12⟩

/-- R357 MOVE_Y: word 0, [23:12]. -/
def GA_MOVE_Y : BF := ⟨0, 12, 12⟩

/-- R357 MOVE_X: word 0, [11:0]. -/
def GA_MOVE_X : BF := ⟨0, 0, 12⟩

/-- Bits of each word of R357 that carry a field; the others are reserved. -/
def GA_USED : List Nat := [0xFFFFFFFFFFFFFFFF]

/-! ### GBC (R358) -/

/-- R358 CREG: word 0, [57:52]. -/
def GBC_CREG : BF := ⟨0, 52, 6⟩

/-- R358 DREG: word 0, [51:47]. -/
def GBC_DREG : BF := ⟨0, 47, 5⟩

/-- R358 IMM: word 0, [31:0]. -/
def GBC_IMM : BF := ⟨0, 0, 32⟩

/-- R358 COND: word 0, [57:54]. -/
def GBC_COND : BF := ⟨0, 54, 4⟩

/-- R358 ROT: word 0, [53]. -/
def GBC_ROT : BF := ⟨0, 53, 1⟩

/-- R358 RCNT: word 0, [52]. -/
def GBC_RCNT : BF := ⟨0, 52, 1⟩

/-- R358 COUNT: word 0, [51:32]. -/
def GBC_COUNT : BF := ⟨0, 32, 20⟩

/-- R358 BODY: word 0, [23:12]. -/
def GBC_BODY : BF := ⟨0, 12, 12⟩

/-- R358 TARGET: word 0, [11:0]. -/
def GBC_TARGET : BF := ⟨0, 0, 12⟩

/-- Bits of each word of R358 that carry a field; the others are reserved. -/
def GBC_USED : List Nat := [0x3FFFFFFFFFFFFFF]

/-! ### GARG (R369) -/

/-- R369 KIND: word 0, [3:0]. -/
def GARG_KIND : BF := ⟨0, 0, 4⟩

/-- R369 RESTART: word 0, [4]. -/
def GARG_RESTART : BF := ⟨0, 4, 1⟩

/-- R369 MISS: word 0, [12:5]. -/
def GARG_MISS : BF := ⟨0, 5, 8⟩

/-- R369 INTERVAL: word 0, [63:32]. -/
def GARG_INTERVAL : BF := ⟨0, 32, 32⟩

/-- R369 TICK: word 1, [31:0]. -/
def GARG_TICK : BF := ⟨1, 0, 32⟩

/-- R369 FRAMES: word 1, [47:32]. -/
def GARG_FRAMES : BF := ⟨1, 32, 16⟩

/-- R369 IN_ADDR: word 2, [17:0]. -/
def GARG_IN_ADDR : BF := ⟨2, 0, 18⟩

/-- R369 IN_LEN: word 2, [49:32]. -/
def GARG_IN_LEN : BF := ⟨2, 32, 18⟩

/-- R369 OUT_ADDR: word 3, [17:0]. -/
def GARG_OUT_ADDR : BF := ⟨3, 0, 18⟩

/-- R369 OUT_LIMIT: word 3, [49:32]. -/
def GARG_OUT_LIMIT : BF := ⟨3, 32, 18⟩

/-- R369 OUT_LEN: word 4, [17:0]. -/
def GARG_OUT_LEN : BF := ⟨4, 0, 18⟩

/-- R369 NS: word 5, [31:0]. -/
def GARG_NS : BF := ⟨5, 0, 32⟩

/-- Bits of each word of R369 that carry a field; the others are reserved. -/
def GARG_USED : List Nat := [0xFFFFFFFF00001FFF, 0xFFFFFFFFFFFF, 0x3FFFF0003FFFF, 0x3FFFF0003FFFF, 0x3FFFF, 0xFFFFFFFF, 0x0, 0x0]

/-! ### HREC (R406) -/

/-- R406 POS: word 0, [31:0]. -/
def HREC_POS : BF := ⟨0, 0, 32⟩

/-- R406 BOOT: word 0, [47:32]. -/
def HREC_BOOT : BF := ⟨0, 32, 16⟩

/-- R406 TIME: word 1, [63:0]. -/
def HREC_TIME : BF := ⟨1, 0, 64⟩

/-- R406 UNIT: word 2, [31:0]. -/
def HREC_UNIT : BF := ⟨2, 0, 32⟩

/-- R406 EVENT: word 2, [35:32]. -/
def HREC_EVENT : BF := ⟨2, 32, 4⟩

/-- R406 DKIND: word 2, [43:36]. -/
def HREC_DKIND : BF := ⟨2, 36, 8⟩

/-- R406 COND_PARTIAL: word 2, [44]. -/
def HREC_COND_PARTIAL : BF := ⟨2, 44, 1⟩

/-- R406 TEMP: word 3, [15:0]. -/
def HREC_TEMP : BF := ⟨3, 0, 16⟩

/-- R406 VCORE: word 3, [31:16]. -/
def HREC_VCORE : BF := ⟨3, 16, 16⟩

/-- R406 LOAD_SIG: word 3, [63:32]. -/
def HREC_LOAD_SIG : BF := ⟨3, 32, 32⟩

/-- R406 DETAIL: word 4, [63:0]. -/
def HREC_DETAIL : BF := ⟨4, 0, 64⟩

/-- R406 TAG: word 5, [63:0]. -/
def HREC_TAG : BF := ⟨5, 0, 64⟩

/-- Bits of each word of R406 that carry a field; the others are reserved. -/
def HREC_USED : List Nat := [0xFFFFFFFFFFFF, 0xFFFFFFFFFFFFFFFF, 0x1FFFFFFFFFFF, 0xFFFFFFFFFFFFFFFF, 0xFFFFFFFFFFFFFFFF, 0xFFFFFFFFFFFFFFFF, 0x0, 0x0]

/-! ### MSG (R454) -/

/-- R454 TYPE: word 0, [7:0]. -/
def MSG_TYPE : BF := ⟨0, 0, 8⟩

/-- R454 TARGET: word 0, [14:8]. -/
def MSG_TARGET : BF := ⟨0, 8, 7⟩

/-- R454 IGEN: word 0, [31:16]. -/
def MSG_IGEN : BF := ⟨0, 16, 16⟩

/-- R454 SENDER: word 0, [38:32]. -/
def MSG_SENDER : BF := ⟨0, 32, 7⟩

/-- R454 SEQ: word 1, [15:0]. -/
def MSG_SEQ : BF := ⟨1, 0, 16⟩

/-- R454 SGEN: word 1, [23:16]. -/
def MSG_SGEN : BF := ⟨1, 16, 8⟩

/-- R454 PAYLOAD: word 1, [63:0]. -/
def MSG_PAYLOAD : BF := ⟨1, 0, 64⟩

/-- Bits of each word of R454 that carry a field; the others are reserved. -/
def MSG_USED : List Nat := [0x7FFFFF7FFF, 0xFFFFFFFFFFFFFFFF, 0xFFFFFFFFFFFFFFFF, 0xFFFFFFFFFFFFFFFF, 0xFFFFFFFFFFFFFFFF, 0xFFFFFFFFFFFFFFFF, 0xFFFFFFFFFFFFFFFF, 0xFFFFFFFFFFFFFFFF]

/-! ### PST (R468) -/

/-- R468 COUNT: word 0, [31:0]. -/
def PST_COUNT : BF := ⟨0, 0, 32⟩

/-- R468 BOOT: word 0, [47:32]. -/
def PST_BOOT : BF := ⟨0, 32, 16⟩

/-- R468 GEN: word 0, [63:48]. -/
def PST_GEN : BF := ⟨0, 48, 16⟩

/-- R468 POS: word 1, [31:0]. -/
def PST_POS : BF := ⟨1, 0, 32⟩

/-- R468 MIN_SVN: word 1, [47:32]. -/
def PST_MIN_SVN : BF := ⟨1, 32, 16⟩

/-- R468 ACTIVE: word 1, [48]. -/
def PST_ACTIVE : BF := ⟨1, 48, 1⟩

/-- R468 OWNER_LOCK: word 1, [49]. -/
def PST_OWNER_LOCK : BF := ⟨1, 49, 1⟩

/-- R468 VERSION_A: word 2, [15:0]. -/
def PST_VERSION_A : BF := ⟨2, 0, 16⟩

/-- R468 STATE_A: word 2, [17:16]. -/
def PST_STATE_A : BF := ⟨2, 16, 2⟩

/-- R468 TRIES_A: word 2, [19:18]. -/
def PST_TRIES_A : BF := ⟨2, 18, 2⟩

/-- R468 SLOT_B: word 2, [63:32]. -/
def PST_SLOT_B : BF := ⟨2, 32, 32⟩

/-- R468 CRC: word 7, [63:32]. -/
def PST_CRC : BF := ⟨7, 32, 32⟩

/-- Bits of each word of R468 that carry a field; the others are reserved. -/
def PST_USED : List Nat := [0xFFFFFFFFFFFFFFFF, 0x3FFFFFFFFFFFF, 0xFFFFFFFF000FFFFF, 0x0, 0x0, 0x0, 0x0, 0xFFFFFFFF00000000]

/-! ### CIMG (R470) -/

/-- R470 MAGIC: word 0, [31:0]. -/
def CIMG_MAGIC : BF := ⟨0, 0, 32⟩

/-- R470 FORMAT: word 0, [47:32]. -/
def CIMG_FORMAT : BF := ⟨0, 32, 16⟩

/-- R470 SEQ: word 1, [31:0]. -/
def CIMG_SEQ : BF := ⟨1, 0, 32⟩

/-- R470 LENGTH: word 1, [63:32]. -/
def CIMG_LENGTH : BF := ⟨1, 32, 32⟩

/-- R470 RECORDS: word 2, [31:0]. -/
def CIMG_RECORDS : BF := ⟨2, 0, 32⟩

/-- Bits of each word of R470 that carry a field; the others are reserved. -/
def CIMG_USED : List Nat := [0xFFFFFFFFFFFF, 0xFFFFFFFFFFFFFFFF, 0xFFFFFFFF, 0x0, 0x0, 0x0, 0x0, 0x0]

/-! ### ATT (R474) -/

/-- R474 FORMAT: word 0, [15:0]. -/
def ATT_FORMAT : BF := ⟨0, 0, 16⟩

/-- R474 FW_VERSION: word 0, [31:16]. -/
def ATT_FW_VERSION : BF := ⟨0, 16, 16⟩

/-- R474 BOOT: word 0, [47:32]. -/
def ATT_BOOT : BF := ⟨0, 32, 16⟩

/-- R474 GEN: word 0, [63:48]. -/
def ATT_GEN : BF := ⟨0, 48, 16⟩

/-- R474 NODE: word 1, [15:0]. -/
def ATT_NODE : BF := ⟨1, 0, 16⟩

/-- R474 SLOT: word 1, [16]. -/
def ATT_SLOT : BF := ⟨1, 16, 1⟩

/-- R474 CONFIRMED: word 1, [17]. -/
def ATT_CONFIRMED : BF := ⟨1, 17, 1⟩

/-- R474 OWNER_LOCK: word 1, [18]. -/
def ATT_OWNER_LOCK : BF := ⟨1, 18, 1⟩

/-- R474 REPLAY_CLASS: word 2, [63:0]. -/
def ATT_REPLAY_CLASS : BF := ⟨2, 0, 64⟩

/-- R474 TIME: word 3, [63:0]. -/
def ATT_TIME : BF := ⟨3, 0, 64⟩

/-- R474 NONCE: word 4, [63:0]. -/
def ATT_NONCE : BF := ⟨4, 0, 64⟩

/-- R474 PUBKEY: word 8, [63:0]. -/
def ATT_PUBKEY : BF := ⟨8, 0, 64⟩

/-- R474 FW_DIGEST: word 12, [63:0]. -/
def ATT_FW_DIGEST : BF := ⟨12, 0, 64⟩

/-- R474 CFG_DIGEST: word 16, [63:0]. -/
def ATT_CFG_DIGEST : BF := ⟨16, 0, 64⟩

/-- R474 SIGNATURE: word 24, [63:0]. -/
def ATT_SIGNATURE : BF := ⟨24, 0, 64⟩

/-- Bits of each word of R474 that carry a field; the others are reserved. -/
def ATT_USED : List Nat := [0xFFFFFFFFFFFFFFFF, 0x7FFFF, 0xFFFFFFFFFFFFFFFF, 0xFFFFFFFFFFFFFFFF, 0xFFFFFFFFFFFFFFFF, 0xFFFFFFFFFFFFFFFF, 0xFFFFFFFFFFFFFFFF, 0xFFFFFFFFFFFFFFFF, 0xFFFFFFFFFFFFFFFF, 0xFFFFFFFFFFFFFFFF, 0xFFFFFFFFFFFFFFFF, 0xFFFFFFFFFFFFFFFF, 0xFFFFFFFFFFFFFFFF, 0xFFFFFFFFFFFFFFFF, 0xFFFFFFFFFFFFFFFF, 0xFFFFFFFFFFFFFFFF, 0xFFFFFFFFFFFFFFFF, 0xFFFFFFFFFFFFFFFF, 0xFFFFFFFFFFFFFFFF, 0xFFFFFFFFFFFFFFFF, 0x0, 0x0, 0x0, 0x0, 0xFFFFFFFFFFFFFFFF, 0xFFFFFFFFFFFFFFFF, 0xFFFFFFFFFFFFFFFF, 0xFFFFFFFFFFFFFFFF, 0xFFFFFFFFFFFFFFFF, 0xFFFFFFFFFFFFFFFF, 0xFFFFFFFFFFFFFFFF, 0xFFFFFFFFFFFFFFFF]

/-! ### FWH (R476) -/

/-- R476 MAGIC: word 0, [31:0]. -/
def FWH_MAGIC : BF := ⟨0, 0, 32⟩

/-- R476 FORMAT: word 0, [39:32]. -/
def FWH_FORMAT : BF := ⟨0, 32, 8⟩

/-- R476 KEY_INDEX: word 0, [47:40]. -/
def FWH_KEY_INDEX : BF := ⟨0, 40, 8⟩

/-- R476 FW_VERSION: word 0, [63:48]. -/
def FWH_FW_VERSION : BF := ⟨0, 48, 16⟩

/-- R476 LENGTH: word 1, [31:0]. -/
def FWH_LENGTH : BF := ⟨1, 0, 32⟩

/-- R476 SVN: word 1, [47:32]. -/
def FWH_SVN : BF := ⟨1, 32, 16⟩

/-- R476 SECTIONS: word 1, [63:48]. -/
def FWH_SECTIONS : BF := ⟨1, 48, 16⟩

/-- Bits of each word of R476 that carry a field; the others are reserved. -/
def FWH_USED : List Nat := [0xFFFFFFFFFFFFFFFF, 0xFFFFFFFFFFFFFFFF, 0x0, 0x0, 0x0, 0x0, 0x0, 0x0]

end Sys2Proof.Machine
end

