-- ==== Sys2Proof/Config.lean ====
section
/-!
DEFINITION. Config.lean: what one part or one implementation fixes and the spec leaves open. Every constant here is a
free value: it has no body, so no proof can see what it is.
-/

namespace Sys2Proof

/-- FPL_REPLAY_CLASS.STEPPING of this part (R430: "Per part"). -/
opaque Config.stepping : BitVec 8

/-- FPL_REPLAY_CLASS.SPEED of this part, from the factory record (R430, R473). -/
opaque Config.speed : BitVec 4

/-- The byte of host memory at an address, as the device reads it (R233: an origin does not change while an object names
it). -/
opaque Config.hostByte : Nat → Byte

/-- The byte at an offset of a peer node's range, as the device reads it from an origin (R233). -/
opaque Config.peerByte : Nat → Nat → Byte

/-- A byte of a chuck's save area as it is written to the save home (R53, R65: the spec gives the sizes of what it holds, not
its form). -/
opaque Config.saveAreaByte : Nat → Nat → Byte

/-- The TAG of an item that the radio front end builds (R51: the record returns it; the spec gives it no value). -/
opaque Config.radioTag : Nat → BitVec 64

/-- Latencies that the spec bounds and does not fix (R64, R95): a fresh value for each use. -/
opaque Config.latency : Nat → Nat

/-- Which of the 16,384 sets of a stack's directory holds a line (R279 gives the ways, not the index). -/
opaque Config.dirSet : Nat → Nat

/-- Bit `i` of the preamble of IEEE 802.15.4 SUN FSK (R316, R322: the spec refers to the standard). -/
opaque Config.sunPreamble : Nat → Bool

/-- The SFD of SUN FSK for a mode's SFD set: index 0 the uncoded, 1 the coded one (R322). -/
opaque Config.sunSfd : Nat → Nat → Nat

/-- The bits on air after the SFD of a SUN FSK frame that carries a PSDU (without its FCS), for a mode descriptor (R316, R322). -/
opaque Config.sunFrame : Words → List Byte → List Bool

/-- Bits on air of the PHR of SUN FSK, for a mode descriptor and the received SFD's index. -/
opaque Config.sunHeaderBits : Words → Nat → Nat

/-- A PHR of SUN FSK from its soft bits: octets of the PSDU without its FCS, bits on air of the PSDU, and whether it is a header
failure (R316). -/
opaque Config.sunHeader : Words → Nat → List Int → Nat × Nat × Bool

/-- Whether a PHR of SUN FSK has the mode-switch bit set (R316). -/
opaque Config.sunModeSwitch : Words → Nat → List Int → Bool

/-- The time of a one-way delay message at a port whose messages are not stamped (R288, R386: the spec gives none): a fresh value for each
message. -/
opaque Config.unstamped : Nat → Nat

/-- The PTP message, if any, that the firmware sends after one has reached it on a port (the protocol stack is the firmware's own): a fresh
value for each message. -/
opaque Config.ptpReply : Nat → Nat → List Byte → Option (List Byte)

/-- The local byte address in chuck 0's partition at which the mover places an operand of a radio item, for a fresh count (R312 gives the form,
not the place). -/
opaque Config.radioBase : Nat → Nat

/-- RSSI where the sum with CAL lies outside 16 bits (R337 gives no result there). -/
opaque Config.rssiOut : Int → Nat

/-- A PSDU of SUN FSK from its soft bits: the octets without the FCS, whether the FCS fails, and the coded bits that differ from the
re-encoded decision. -/
opaque Config.sunBody : Words → Nat → Nat → List Int → List Byte × Bool × Nat

/-- Whether a decision on a value of exactly 0 between two levels of the same magnitude is the positive one (R331, R333, R360: a tie
goes to the smaller magnitude, and there both magnitudes are equal). -/
opaque Config.zeroPositive : Bool

/-- Whether a part of a downlink bin is rounded up (R319: each part lies within one unit of the exact value). -/
opaque Config.binUp : Nat → Bool

/-- What a voltage or activity sensor reads (R404): a fresh value for each use. -/
opaque Config.sensor : Nat → Nat

/-- The lease that the Tailstock sets after a conditioned retest (R489: "a lease of its own"). -/
opaque Config.tlsLease : Nat

/-- Which of two results that reach one place in the same cycle of a Gouge core stands (R359 gives no order): a fresh value for each
use. -/
opaque Config.lastStands : Nat → Bool

/-- The entry instruction index of the modulation (true) and of the demodulation items that the front end builds (R368: the descriptor
carries it, and the spec does not say from where). -/
opaque Config.gougeEntry : Bool → Nat

/-- Boot ROM signature keys 0 and 1 (R476: their values are not given). -/
opaque Config.romKey : Nat → List Byte

/-- Whether the PUF reading of a start can be corrected, and the 256-bit key that it then gives (R473). -/
opaque Config.pufOk : Nat → Bool
opaque Config.pufKey : List Byte

/-- Whether the factory record's signature verifies (R473). -/
opaque Config.factoryGood : Bool

/-- The low 48 bits of the Device Serial Number (R475). -/
opaque Config.serial : Nat

/-- The rate and the width that the PCIe link trains at (R442), by draw: what the host offers is no part of the device. -/
opaque Config.pcieLink : Nat → Nat × Nat

/-- The level that SAMPLE finds at an input pin (R506), by draw and pin. -/
opaque Config.pinIn : Nat → Nat → Bool

/-- The results of a memory training (R464), by draw; the spec gives no form for them. -/
opaque Config.trainingResults : Nat → List Byte

/-- SVN of the container with which the device was delivered. -/
opaque Config.shippedSvn : Nat

/-- Whether the origin that a memory command of the configuration image reads answers (R237, R471): a fresh value for each use. -/
opaque Config.originUp : Nat → Bool

/-- UNIT (even index) and EVENT (odd index) of journal entries for which the spec names neither (R428): 0 takeover, 2 watchdog expiry, 4
expulsion. -/
opaque Config.journalCode : Nat → Nat

/-- DKIND of the history record of a containment whose cause has no detection kind (R400, R479, R505: the cause is recorded, and no code is
given): 0 thermal, 1 firmware fallback. -/
opaque Config.causeCode : Nat → Nat

/-- The coding engine that forms a record (R339: any engine of the pool): a fresh value for each use. -/
opaque Config.engine : Nat → Nat

/-- Byte `i` of the SHA-512 digest of the container with which the device was delivered (R476). -/
opaque Config.shippedDigest : Nat → Byte

end Sys2Proof
end

