-- ==== Sys2Proof/Machine/Regs.lean ====
section
/-!
DEFINITION. Machine/Regs.lean: every register of BAR0 and BAR2 and of the instance pages, as the spec's register tables
give them (R10-R16): its address, its width, its fields with their bits, access types (R15) and reset values (R16).

An address here is a key: a BAR0 offset stands for itself, a BAR2 offset for 0x1000_0000 plus itself, and the register at
page offset `o` of instance `n` for 0x2000_0000 + 0x1_0000 * n + o. Three windows of the spec show one of several
backing stores (R296, R372): the key of a channel entry is 0x4000_0000 + 8 * (320 * cell + c), and `Fld.active` is the
active set's copy of a staged radio field.
-/

namespace Sys2Proof.Machine

/-- LTH_CTRL.RUN, [0]. -/
def LTH_CTRL_RUN : Fld := ⟨0x40000, 0, 1, 0⟩

/-- LTH_STATUS.RUNNING, [0]. -/
def LTH_STATUS_RUNNING : Fld := ⟨0x40004, 0, 1, 0⟩

/-- LTH_STATUS.LOCKED, [1]. -/
def LTH_STATUS_LOCKED : Fld := ⟨0x40004, 1, 1, 0⟩

/-- LTH_STATUS.SYNC_LOST, [2]. -/
def LTH_STATUS_SYNC_LOST : Fld := ⟨0x40004, 2, 1, 0⟩

/-- LTH_STATUS.ON_GRID, [3]. -/
def LTH_STATUS_ON_GRID : Fld := ⟨0x40004, 3, 1, 0⟩

/-- LTH_STATUS.CFG_REFUSED, [4]. -/
def LTH_STATUS_CFG_REFUSED : Fld := ⟨0x40004, 4, 1, 0⟩

/-- LTH_STATUS.LAST_ADMIT, [15:8]. -/
def LTH_STATUS_LAST_ADMIT : Fld := ⟨0x40004, 8, 8, 0⟩

/-- LTH_TICK_CFG.PERIOD, [3:0]. -/
def LTH_TICK_CFG_PERIOD : Fld := ⟨0x40008, 0, 4, 2⟩

/-- LTH_TICK_CFG.SYNC_MODE, [5:4]. -/
def LTH_TICK_CFG_SYNC_MODE : Fld := ⟨0x40008, 4, 2, 0⟩

/-- LTH_ADMIT_DETAIL.INDEX, [9:0]. -/
def LTH_ADMIT_DETAIL_INDEX : Fld := ⟨0x4000C, 0, 10, 0⟩

/-- LTH_ADMIT_DETAIL.KIND, [12:10]. -/
def LTH_ADMIT_DETAIL_KIND : Fld := ⟨0x4000C, 10, 3, 0⟩

/-- LTH_TICK_COUNT.COUNT, [63:0]. -/
def LTH_TICK_COUNT_COUNT : Fld := ⟨0x40010, 0, 64, 0⟩

/-- LTH_TICK_EPOCH.EPOCH_NS, [63:0]. -/
def LTH_TICK_EPOCH_EPOCH_NS : Fld := ⟨0x40018, 0, 64, 0⟩

/-- LTH_SYNC_CFG.DELAY, [15:0]. -/
def LTH_SYNC_CFG_DELAY : Fld := ⟨0x40020, 0, 16, 0⟩

/-- LTH_SYNC_CFG.LOSS_EDGES, [19:16]. -/
def LTH_SYNC_CFG_LOSS_EDGES : Fld := ⟨0x40020, 16, 4, 3⟩

/-- LTH_SYNC_STATUS.PHASE_ERR, [15:0]. -/
def LTH_SYNC_STATUS_PHASE_ERR : Fld := ⟨0x40024, 0, 16, 0⟩

/-- LTH_SYNC_STATUS.STRETCHED, [31:16]. -/
def LTH_SYNC_STATUS_STRETCHED : Fld := ⟨0x40024, 16, 16, 0⟩

/-- LTH_RADIO_CFG.RESERVE_PCT, [6:0]. -/
def LTH_RADIO_CFG_RESERVE_PCT : Fld := ⟨0x40028, 0, 7, 25⟩

/-- LTH_RADIO_CFG.MARGIN_PCT, [14:8]. -/
def LTH_RADIO_CFG_MARGIN_PCT : Fld := ⟨0x40028, 8, 7, 20⟩

/-- LTH_SWAP_CFG.QUANTUM, [11:0]. -/
def LTH_SWAP_CFG_QUANTUM : Fld := ⟨0x40030, 0, 12, 40⟩

/-- LTH_SLOT_MISS_CNT.COUNT, [31:0]. -/
def LTH_SLOT_MISS_CNT_COUNT : Fld := ⟨0x40034, 0, 32, 0⟩

/-- LTH_CUT_CNT.COUNT, [31:0]. -/
def LTH_CUT_CNT_COUNT : Fld := ⟨0x40038, 0, 32, 0⟩

/-- LTH_SWAP_CNT.COUNT, [31:0]. -/
def LTH_SWAP_CNT_COUNT : Fld := ⟨0x4003C, 0, 32, 0⟩

/-- LTH_PREEMPT_MAX.SAVE, [7:0]. -/
def LTH_PREEMPT_MAX_SAVE : Fld := ⟨0x40040, 0, 8, 0⟩

/-- LTH_PREEMPT_MAX.RESTORE, [15:8]. -/
def LTH_PREEMPT_MAX_RESTORE : Fld := ⟨0x40040, 8, 8, 0⟩

/-- LTH_RADIO_TILE.TILE, [8:0]. -/
def LTH_RADIO_TILE_TILE (t : Nat) : Fld := ⟨0x40100 + 0x4 * t, 0, 9, 0⟩

/-- LTH_RADIO_TILE.CHUCK0_BANKS, [15:12]. -/
def LTH_RADIO_TILE_CHUCK0_BANKS (t : Nat) : Fld := ⟨0x40100 + 0x4 * t, 12, 4, 0⟩

/-- LTH_RADIO_TILE.VALID, [31]. -/
def LTH_RADIO_TILE_VALID (t : Nat) : Fld := ⟨0x40100 + 0x4 * t, 31, 1, 0⟩

/-- LTH_RADIO_LOAD.LOAD, [19:0]. -/
def LTH_RADIO_LOAD_LOAD (t : Nat) : Fld := ⟨0x40180 + 0x4 * t, 0, 20, 0⟩

/-- LTH_CTX_CMD.CONTEXT, [11:0]. -/
def LTH_CTX_CMD_CONTEXT : Fld := ⟨0x40048, 0, 12, 0⟩

/-- LTH_CTX_CMD.OP, [15:12]. -/
def LTH_CTX_CMD_OP : Fld := ⟨0x40048, 12, 4, 0⟩

/-- LTH_CTX_CMD.TAG, [31:16]. -/
def LTH_CTX_CMD_TAG : Fld := ⟨0x40048, 16, 16, 0⟩

/-- LTH_CTX_RESULT.STATUS, [7:0]. -/
def LTH_CTX_RESULT_STATUS : Fld := ⟨0x40050, 0, 8, 0⟩

/-- LTH_CTX_RESULT.OP, [11:8]. -/
def LTH_CTX_RESULT_OP : Fld := ⟨0x40050, 8, 4, 0⟩

/-- LTH_CTX_RESULT.CONTEXT, [23:12]. -/
def LTH_CTX_RESULT_CONTEXT : Fld := ⟨0x40050, 12, 12, 0⟩

/-- LTH_CTX_RESULT.TAG, [39:24]. -/
def LTH_CTX_RESULT_TAG : Fld := ⟨0x40050, 24, 16, 0⟩

/-- LTH_CTX_RESULT.VALID, [63]. -/
def LTH_CTX_RESULT_VALID : Fld := ⟨0x40050, 63, 1, 0⟩

/-- CUB_GATE_CFG.GATE_EN, [0]. -/
def CUB_GATE_CFG_GATE_EN : Fld := ⟨0x80000, 0, 1, 1⟩

/-- CUB_LAT_SUMMARY.LAT5_TILES, [8:0]. -/
def CUB_LAT_SUMMARY_LAT5_TILES : Fld := ⟨0x80004, 0, 9, 0⟩

/-- CUB_TILE_STATUS.BUSY, [0]. -/
def CUB_TILE_STATUS_BUSY (t : Nat) : Fld := ⟨0x81000 + 0x400 * t, 0, 1, 0⟩

/-- CUB_TILE_STATUS.CHUCK, [2:1]. -/
def CUB_TILE_STATUS_CHUCK (t : Nat) : Fld := ⟨0x81000 + 0x400 * t, 1, 2, 0⟩

/-- CUB_TILE_STATUS.K_ZERO, [3]. -/
def CUB_TILE_STATUS_K_ZERO (t : Nat) : Fld := ⟨0x81000 + 0x400 * t, 3, 1, 0⟩

/-- CUB_TILE_STATUS.CFG_ILLEGAL, [4]. -/
def CUB_TILE_STATUS_CFG_ILLEGAL (t : Nat) : Fld := ⟨0x81000 + 0x400 * t, 4, 1, 0⟩

/-- CUB_TILE_LAT.PIPE_LAT, [3:0]. -/
def CUB_TILE_LAT_PIPE_LAT (t : Nat) : Fld := ⟨0x81004 + 0x400 * t, 0, 4, 4⟩

/-- CUB_TILE_LAT.READ_LAT_MAX, [7:4]. -/
def CUB_TILE_LAT_READ_LAT_MAX (t : Nat) : Fld := ⟨0x81004 + 0x400 * t, 4, 4, 0⟩

/-- CUB_TILE_LAT.SPARE_CUBES, [15:8]. -/
def CUB_TILE_LAT_SPARE_CUBES (t : Nat) : Fld := ⟨0x81004 + 0x400 * t, 8, 8, 0⟩

/-- CUB_TILE_SPARE.ROW0, [3:0]. -/
def CUB_TILE_SPARE_ROW0 (t : Nat) : Fld := ⟨0x81008 + 0x400 * t, 0, 4, 15⟩

/-- CUB_TILE_SPARE.ROW1, [7:4]. -/
def CUB_TILE_SPARE_ROW1 (t : Nat) : Fld := ⟨0x81008 + 0x400 * t, 4, 4, 15⟩

/-- CUB_TILE_SPARE.ROW2, [11:8]. -/
def CUB_TILE_SPARE_ROW2 (t : Nat) : Fld := ⟨0x81008 + 0x400 * t, 8, 4, 15⟩

/-- CUB_TILE_SPARE.ROW3, [15:12]. -/
def CUB_TILE_SPARE_ROW3 (t : Nat) : Fld := ⟨0x81008 + 0x400 * t, 12, 4, 15⟩

/-- CUB_TILE_SPARE.ROW4, [19:16]. -/
def CUB_TILE_SPARE_ROW4 (t : Nat) : Fld := ⟨0x81008 + 0x400 * t, 16, 4, 15⟩

/-- CUB_TILE_SPARE.ROW5, [23:20]. -/
def CUB_TILE_SPARE_ROW5 (t : Nat) : Fld := ⟨0x81008 + 0x400 * t, 20, 4, 15⟩

/-- CUB_TILE_SPARE.ROW6, [27:24]. -/
def CUB_TILE_SPARE_ROW6 (t : Nat) : Fld := ⟨0x81008 + 0x400 * t, 24, 4, 15⟩

/-- CUB_TILE_SPARE.ROW7, [31:28]. -/
def CUB_TILE_SPARE_ROW7 (t : Nat) : Fld := ⟨0x81008 + 0x400 * t, 28, 4, 15⟩

/-- CUB_TILE_SKEW.ADJ, [0]. -/
def CUB_TILE_SKEW_ADJ (t : Nat) : Fld := ⟨0x8100C + 0x400 * t, 0, 1, 0⟩

/-- CUB_TILE_STEPS.COUNT, [63:0]. -/
def CUB_TILE_STEPS_COUNT (t : Nat) : Fld := ⟨0x81010 + 0x400 * t, 0, 64, 0⟩

/-- CUB_TILE_BUBBLES.COUNT, [63:0]. -/
def CUB_TILE_BUBBLES_COUNT (t : Nat) : Fld := ⟨0x81018 + 0x400 * t, 0, 64, 0⟩

/-- CUB_CFG.FMT_A, [3:0]. -/
def CUB_CFG_FMT_A (t : Nat) (i : Nat) : Fld := ⟨0x81100 + 0x400 * t + 0x20 * i, 0, 4, 3⟩

/-- CUB_CFG.FMT_B, [7:4]. -/
def CUB_CFG_FMT_B (t : Nat) (i : Nat) : Fld := ⟨0x81100 + 0x400 * t + 0x20 * i, 4, 4, 3⟩

/-- CUB_CFG.DATAFLOW, [8]. -/
def CUB_CFG_DATAFLOW (t : Nat) (i : Nat) : Fld := ⟨0x81100 + 0x400 * t + 0x20 * i, 8, 1, 0⟩

/-- CUB_CFG.HOLD, [11:9]. -/
def CUB_CFG_HOLD (t : Nat) (i : Nat) : Fld := ⟨0x81100 + 0x400 * t + 0x20 * i, 9, 3, 0⟩

/-- CUB_CFG.SHIFT, [15:12]. -/
def CUB_CFG_SHIFT (t : Nat) (i : Nat) : Fld := ⟨0x81100 + 0x400 * t + 0x20 * i, 12, 4, 0⟩

/-- CUB_MASK_MN.MASK_M, [15:0]. -/
def CUB_MASK_MN_MASK_M (t : Nat) (i : Nat) : Fld := ⟨0x81104 + 0x400 * t + 0x20 * i, 0, 16, 65535⟩

/-- CUB_MASK_MN.MASK_N, [31:16]. -/
def CUB_MASK_MN_MASK_N (t : Nat) (i : Nat) : Fld := ⟨0x81104 + 0x400 * t + 0x20 * i, 16, 16, 65535⟩

/-- CUB_MASK_K.MASK_K, [63:0]. -/
def CUB_MASK_K_MASK_K (t : Nat) (i : Nat) : Fld := ⟨0x81108 + 0x400 * t + 0x20 * i, 0, 64, 0xFFFFFFFFFFFFFFFF⟩

/-- CUB_TILE_NUM.ACC_INF, [0]. -/
def CUB_TILE_NUM_ACC_INF (t : Nat) : Fld := ⟨0x81020 + 0x400 * t, 0, 1, 0⟩

/-- CUB_TILE_NUM.ACC_NAN, [1]. -/
def CUB_TILE_NUM_ACC_NAN (t : Nat) : Fld := ⟨0x81020 + 0x400 * t, 1, 1, 0⟩

/-- CUB_TILE_NUM.CPX_SAT, [2]. -/
def CUB_TILE_NUM_CPX_SAT (t : Nat) : Fld := ⟨0x81020 + 0x400 * t, 2, 1, 0⟩

/-- CUB_TILE_NUM.DRAIN_SAT, [3]. -/
def CUB_TILE_NUM_DRAIN_SAT (t : Nat) : Fld := ⟨0x81020 + 0x400 * t, 3, 1, 0⟩

/-- CUB_TILE_NUM.VEC_INVALID, [4]. -/
def CUB_TILE_NUM_VEC_INVALID (t : Nat) : Fld := ⟨0x81020 + 0x400 * t, 4, 1, 0⟩

/-- CUB_TILE_NUM.SCALE_NAN, [5]. -/
def CUB_TILE_NUM_SCALE_NAN (t : Nat) : Fld := ⟨0x81020 + 0x400 * t, 5, 1, 0⟩

/-- CUB_SEQ_PART.BANKS, [15:0]. -/
def CUB_SEQ_PART_BANKS (t : Nat) (i : Nat) : Fld := ⟨0x81200 + 0x400 * t + 0x10 * i, 0, 16, 0⟩

/-- CUB_SEQ_PART.CONTEXT, [27:16]. -/
def CUB_SEQ_PART_CONTEXT (t : Nat) (i : Nat) : Fld := ⟨0x81200 + 0x400 * t + 0x10 * i, 16, 12, 0⟩

/-- CUB_SEQ_PART.VALID, [31]. -/
def CUB_SEQ_PART_VALID (t : Nat) (i : Nat) : Fld := ⟨0x81200 + 0x400 * t + 0x10 * i, 31, 1, 0⟩

/-- CUB_SEQ_FAULT.OFFSET, [21:0]. -/
def CUB_SEQ_FAULT_OFFSET (t : Nat) (i : Nat) : Fld := ⟨0x81204 + 0x400 * t + 0x10 * i, 0, 22, 0⟩

/-- CUB_SEQ_FAULT.CAUSE, [27:22]. -/
def CUB_SEQ_FAULT_CAUSE (t : Nat) (i : Nat) : Fld := ⟨0x81204 + 0x400 * t + 0x10 * i, 22, 6, 0⟩

/-- CUB_SEQ_FAULT.TAIL, [28]. -/
def CUB_SEQ_FAULT_TAIL (t : Nat) (i : Nat) : Fld := ⟨0x81204 + 0x400 * t + 0x10 * i, 28, 1, 0⟩

/-- CUB_SEQ_FAULT.VALID, [31]. -/
def CUB_SEQ_FAULT_VALID (t : Nat) (i : Nat) : Fld := ⟨0x81204 + 0x400 * t + 0x10 * i, 31, 1, 0⟩

/-- CUB_SEQ_SEM.COUNT, [31:0]. -/
def CUB_SEQ_SEM_COUNT (t : Nat) (i : Nat) (j : Nat) : Fld := ⟨0x81240 + 0x400 * t + 0x20 * i + 0x4 * j, 0, 32, 0⟩

/-- CUB_SRAM_ECC.CORRECTED, [15:0]. -/
def CUB_SRAM_ECC_CORRECTED (t : Nat) : Fld := ⟨0x812C0 + 0x400 * t, 0, 16, 0⟩

/-- CUB_SRAM_ECC.LAST_BANK, [19:16]. -/
def CUB_SRAM_ECC_LAST_BANK (t : Nat) : Fld := ⟨0x812C0 + 0x400 * t, 16, 4, 0⟩

/-- CUB_CHK_CFG.AUTO_ROW, [0]. -/
def CUB_CHK_CFG_AUTO_ROW : Fld := ⟨0x80008, 0, 1, 1⟩

/-- CUB_CHK_CFG.AUTO_TILE, [1]. -/
def CUB_CHK_CFG_AUTO_TILE : Fld := ⟨0x80008, 1, 1, 1⟩

/-- CUB_CHK_COUNT.DETECT, [15:0]. -/
def CUB_CHK_COUNT_DETECT : Fld := ⟨0x8000C, 0, 16, 0⟩

/-- CUB_CHK_COUNT.RETRY_OK, [31:16]. -/
def CUB_CHK_COUNT_RETRY_OK : Fld := ⟨0x8000C, 16, 16, 0⟩

/-- CUB_ROW_MAP.SUBST, [4:0]. -/
def CUB_ROW_MAP_SUBST (t : Nat) : Fld := ⟨0x80040 + 0x4 * t, 0, 5, 31⟩

/-- CUB_ROW_MAP.STATE, [7:5]. -/
def CUB_ROW_MAP_STATE (t : Nat) : Fld := ⟨0x80040 + 0x4 * t, 5, 3, 0⟩

/-- CUB_ROW_MAP.RETIRED, [28:8]. -/
def CUB_ROW_MAP_RETIRED (t : Nat) : Fld := ⟨0x80040 + 0x4 * t, 8, 21, 0⟩

/-- CUB_DISABLED.TILES, [31:0]. -/
def CUB_DISABLED_TILES (t : Nat) : Fld := ⟨0x80080 + 0x4 * t, 0, 32, 0⟩

/-- CUB_LIVE_TILES.COUNT, [8:0]. -/
def CUB_LIVE_TILES_COUNT : Fld := ⟨0x800A8, 0, 9, 320⟩

/-- CUB_TILE_CHK.DETECT, [15:0]. -/
def CUB_TILE_CHK_DETECT (t : Nat) : Fld := ⟨0x81028 + 0x400 * t, 0, 16, 0⟩

/-- CUB_TILE_CHK.LAST_KIND, [19:16]. -/
def CUB_TILE_CHK_LAST_KIND (t : Nat) : Fld := ⟨0x81028 + 0x400 * t, 16, 4, 0⟩

/-- CUB_TILE_CHK.LAST_RUN, [20]. -/
def CUB_TILE_CHK_LAST_RUN (t : Nat) : Fld := ⟨0x81028 + 0x400 * t, 20, 1, 0⟩

/-- CUB_TILE_PHYS.PCOL, [4:0]. -/
def CUB_TILE_PHYS_PCOL (t : Nat) : Fld := ⟨0x8102C + 0x400 * t, 0, 5, t % 20⟩

/-- CUB_TILE_PHYS.DISABLED, [5]. -/
def CUB_TILE_PHYS_DISABLED (t : Nat) : Fld := ⟨0x8102C + 0x400 * t, 5, 1, 0⟩

/-- SRV_CTRL.EN, [0]. -/
def SRV_CTRL_EN : Fld := ⟨0x100000, 0, 1, 0⟩

/-- SRV_CTRL.ADMIT_EN, [1]. -/
def SRV_CTRL_ADMIT_EN : Fld := ⟨0x100000, 1, 1, 0⟩

/-- SRV_STATUS.RUNNING, [0]. -/
def SRV_STATUS_RUNNING : Fld := ⟨0x100004, 0, 1, 0⟩

/-- SRV_STATUS.CFG_REFUSED, [1]. -/
def SRV_STATUS_CFG_REFUSED : Fld := ⟨0x100004, 1, 1, 0⟩

/-- SRV_STATUS.ADAPTER_BUSY, [2]. -/
def SRV_STATUS_ADAPTER_BUSY : Fld := ⟨0x100004, 2, 1, 0⟩

/-- SRV_STATUS.NOTIFY_DROP, [18:3]. -/
def SRV_STATUS_NOTIFY_DROP : Fld := ⟨0x100004, 3, 16, 0⟩

/-- SRV_ADMIT_CFG.ADMIT_PER_TICK, [8:0]. -/
def SRV_ADMIT_CFG_ADMIT_PER_TICK : Fld := ⟨0x100008, 0, 9, 64⟩

/-- SRV_ADMIT_CFG.PENDING_MAX, [25:9]. -/
def SRV_ADMIT_CFG_PENDING_MAX : Fld := ⟨0x100008, 9, 17, 4096⟩

/-- SRV_KV_CFG.TOTAL, [24:0]. -/
def SRV_KV_CFG_TOTAL : Fld := ⟨0x10000C, 0, 25, 0⟩

/-- SRV_VTIME.V, [63:0]. -/
def SRV_VTIME_V : Fld := ⟨0x100010, 0, 64, 0⟩

/-- SRV_STEP_COUNT.STEP, [63:0]. -/
def SRV_STEP_COUNT_STEP : Fld := ⟨0x100018, 0, 64, 0⟩

/-- SRV_KV_BASE.BASE, [40:16]. -/
def SRV_KV_BASE_BASE : Fld := ⟨0x100020, 16, 25, 0⟩

/-- SRV_KV_LIST.BASE, [40:0]. -/
def SRV_KV_LIST_BASE : Fld := ⟨0x100028, 0, 41, 0⟩

/-- SRV_KV_FREE.FREE, [24:0]. -/
def SRV_KV_FREE_FREE : Fld := ⟨0x100030, 0, 25, 0⟩

/-- SRV_KV_LOW.LOW, [24:0]. -/
def SRV_KV_LOW_LOW : Fld := ⟨0x100034, 0, 25, 0⟩

/-- SRV_PAUSE_CNT.COUNT, [31:0]. -/
def SRV_PAUSE_CNT_COUNT : Fld := ⟨0x100038, 0, 32, 0⟩

/-- SRV_JOIN_WAIT_CNT.COUNT, [31:0]. -/
def SRV_JOIN_WAIT_CNT_COUNT : Fld := ⟨0x10003C, 0, 32, 0⟩

/-- SRV_ABORT.SEQ, [15:0]. -/
def SRV_ABORT_SEQ : Fld := ⟨0x100040, 0, 16, 0⟩

/-- SRV_ABORT.SGEN, [23:16]. -/
def SRV_ABORT_SGEN : Fld := ⟨0x100040, 16, 8, 0⟩

/-- SRV_PROF_CFG.TPB, [8:0]. -/
def SRV_PROF_CFG_TPB (t : Nat) : Fld := ⟨0x100100 + 0x20 * t, 0, 9, 16⟩

/-- SRV_PROF_CFG.PPB, [16:9]. -/
def SRV_PROF_CFG_PPB (t : Nat) : Fld := ⟨0x100100 + 0x20 * t, 9, 8, 1⟩

/-- SRV_PROF_CFG.VALID, [17]. -/
def SRV_PROF_CFG_VALID (t : Nat) : Fld := ⟨0x100100 + 0x20 * t, 17, 1, 0⟩

/-- SRV_PROF_LIMIT.PREFILL_TOKENS, [19:0]. -/
def SRV_PROF_LIMIT_PREFILL_TOKENS (t : Nat) : Fld := ⟨0x100108 + 0x20 * t, 0, 20, 8192⟩

/-- SRV_PROF_LIMIT.MAX_CTX, [51:32]. -/
def SRV_PROF_LIMIT_MAX_CTX (t : Nat) : Fld := ⟨0x100108 + 0x20 * t, 32, 20, 32768⟩

/-- SRV_PROF_CHAIN.BASE, [40:0]. -/
def SRV_PROF_CHAIN_BASE (t : Nat) : Fld := ⟨0x100110 + 0x20 * t, 0, 41, 0⟩

/-- SRV_PROF_CHAIN.COUNT, [55:41]. -/
def SRV_PROF_CHAIN_COUNT (t : Nat) : Fld := ⟨0x100110 + 0x20 * t, 41, 15, 0⟩

/-- SRV_PROF_STEPBUF.BASE, [40:0]. -/
def SRV_PROF_STEPBUF_BASE (t : Nat) : Fld := ⟨0x100118 + 0x20 * t, 0, 41, 0⟩

/-- SRV_Q_CTRL.INSTANCE, [6:0]. -/
def SRV_Q_CTRL_INSTANCE (t : Nat) : Fld := ⟨0x110000 + 0x10 * t, 0, 7, 0⟩

/-- SRV_Q_CTRL.VALID, [7]. -/
def SRV_Q_CTRL_VALID (t : Nat) : Fld := ⟨0x110000 + 0x10 * t, 7, 1, 0⟩

/-- SRV_Q_CTRL.RESET_FULL, [8]. -/
def SRV_Q_CTRL_RESET_FULL (t : Nat) : Fld := ⟨0x110000 + 0x10 * t, 8, 1, 0⟩

/-- SRV_Q_CTRL.PROFILE, [12:9]. -/
def SRV_Q_CTRL_PROFILE (t : Nat) : Fld := ⟨0x110000 + 0x10 * t, 9, 4, 0⟩

/-- SRV_Q_CTRL.WEIGHT, [31:16]. -/
def SRV_Q_CTRL_WEIGHT (t : Nat) : Fld := ⟨0x110000 + 0x10 * t, 16, 16, 1⟩

/-- SRV_Q_RATE.RATE, [23:0]. -/
def SRV_Q_RATE_RATE (t : Nat) : Fld := ⟨0x110004 + 0x10 * t, 0, 24, 0⟩

/-- SRV_Q_BURST.BURST, [23:0]. -/
def SRV_Q_BURST_BURST (t : Nat) : Fld := ⟨0x110008 + 0x10 * t, 0, 24, 0⟩

/-- SRV_Q_CREDIT.CREDIT, [31:0]. -/
def SRV_Q_CREDIT_CREDIT (t : Nat) : Fld := ⟨0x11000C + 0x10 * t, 0, 32, 0⟩

/-- MEM_CTRL.SCRUB_EN, [0]. -/
def MEM_CTRL_SCRUB_EN : Fld := ⟨0x180000, 0, 1, 1⟩

/-- MEM_STATUS.CFG_REFUSED, [0]. -/
def MEM_STATUS_CFG_REFUSED : Fld := ⟨0x180004, 0, 1, 0⟩

/-- MEM_STATUS.RO_WRITE, [1]. -/
def MEM_STATUS_RO_WRITE : Fld := ⟨0x180004, 1, 1, 0⟩

/-- MEM_STATUS.UNMAPPED, [2]. -/
def MEM_STATUS_UNMAPPED : Fld := ⟨0x180004, 2, 1, 0⟩

/-- MEM_STATUS.CMD_OVERFLOW, [3]. -/
def MEM_STATUS_CMD_OVERFLOW : Fld := ⟨0x180004, 3, 1, 0⟩

/-- MEM_STATUS.CMD_BUSY, [4]. -/
def MEM_STATUS_CMD_BUSY : Fld := ⟨0x180004, 4, 1, 0⟩

/-- MEM_STATUS.CMD_DEPTH, [11:5]. -/
def MEM_STATUS_CMD_DEPTH : Fld := ⟨0x180004, 5, 7, 0⟩

/-- MEM_SCRUB_CFG.HOURS, [7:0]. -/
def MEM_SCRUB_CFG_HOURS : Fld := ⟨0x180008, 0, 8, 24⟩

/-- MEM_HEAT_CFG.PERIOD, [11:0]. -/
def MEM_HEAT_CFG_PERIOD : Fld := ⟨0x18000C, 0, 12, 4000⟩

/-- MEM_CMD_RESULT.STATUS, [7:0]. -/
def MEM_CMD_RESULT_STATUS : Fld := ⟨0x180028, 0, 8, 0⟩

/-- MEM_CMD_RESULT.OP, [15:8]. -/
def MEM_CMD_RESULT_OP : Fld := ⟨0x180028, 8, 8, 0⟩

/-- MEM_CMD_RESULT.TAG, [31:16]. -/
def MEM_CMD_RESULT_TAG : Fld := ⟨0x180028, 16, 16, 0⟩

/-- MEM_CMD_RESULT.DONE, [53:32]. -/
def MEM_CMD_RESULT_DONE : Fld := ⟨0x180028, 32, 22, 0⟩

/-- MEM_CMD_RESULT.VALID, [63]. -/
def MEM_CMD_RESULT_VALID : Fld := ⟨0x180028, 63, 1, 0⟩

/-- MEM_LAST_UE.OFFSET, [40:0]. -/
def MEM_LAST_UE_OFFSET : Fld := ⟨0x180030, 0, 41, 0⟩

/-- MEM_LAST_UE.STACK, [44:41]. -/
def MEM_LAST_UE_STACK : Fld := ⟨0x180030, 41, 4, 0⟩

/-- MEM_LAST_UE.ACTION, [47:45]. -/
def MEM_LAST_UE_ACTION : Fld := ⟨0x180030, 45, 3, 0⟩

/-- MEM_LAST_UE.TIER, [48]. -/
def MEM_LAST_UE_TIER : Fld := ⟨0x180030, 48, 1, 0⟩

/-- MEM_STACK_ECC.CORRECTED, [15:0]. -/
def MEM_STACK_ECC_CORRECTED (t : Nat) : Fld := ⟨0x180100 + 0x4 * t, 0, 16, 0⟩

/-- MEM_STACK_ECC.UNCORRECTABLE, [23:16]. -/
def MEM_STACK_ECC_UNCORRECTABLE (t : Nat) : Fld := ⟨0x180100 + 0x4 * t, 16, 8, 0⟩

/-- MEM_STACK_ECC.REFETCHED, [31:24]. -/
def MEM_STACK_ECC_REFETCHED (t : Nat) : Fld := ⟨0x180100 + 0x4 * t, 24, 8, 0⟩

/-- MEM_STACK_FREE.T1_FREE, [6:0]. -/
def MEM_STACK_FREE_T1_FREE (t : Nat) : Fld := ⟨0x180140 + 0x4 * t, 0, 7, 64⟩

/-- MEM_STACK_FREE.T2_FREE, [24:8]. -/
def MEM_STACK_FREE_T2_FREE (t : Nat) : Fld := ⟨0x180140 + 0x4 * t, 8, 17, 0x10000⟩

/-- MEM_STACK_RETIRED.T1, [6:0]. -/
def MEM_STACK_RETIRED_T1 (t : Nat) : Fld := ⟨0x180180 + 0x4 * t, 0, 7, 0⟩

/-- MEM_STACK_RETIRED.T2, [24:8]. -/
def MEM_STACK_RETIRED_T2 (t : Nat) : Fld := ⟨0x180180 + 0x4 * t, 8, 17, 0⟩

/-- MEM_CTX_BIND.OBJECT, [15:0]. -/
def MEM_CTX_BIND_OBJECT (t : Nat) (i : Nat) : Fld := ⟨0x1C0000 + 0x20 * t + 0x4 * i, 0, 16, 0⟩

/-- MEM_CTX_BIND.VALID, [31]. -/
def MEM_CTX_BIND_VALID (t : Nat) (i : Nat) : Fld := ⟨0x1C0000 + 0x20 * t + 0x4 * i, 31, 1, 0⟩

/-- UNL_CTRL.EN, [0]. -/
def UNL_CTRL_EN : Fld := ⟨0x200000, 0, 1, 0⟩

/-- UNL_STATUS.PORT_UP, [11:0]. -/
def UNL_STATUS_PORT_UP : Fld := ⟨0x200004, 0, 12, 0⟩

/-- UNL_STATUS.CFG_REFUSED, [12]. -/
def UNL_STATUS_CFG_REFUSED : Fld := ⟨0x200004, 12, 1, 0⟩

/-- UNL_STATUS.OP_OVERFLOW, [13]. -/
def UNL_STATUS_OP_OVERFLOW : Fld := ⟨0x200004, 13, 1, 0⟩

/-- UNL_NODE.NODE, [15:0]. -/
def UNL_NODE_NODE : Fld := ⟨0x200008, 0, 16, 0⟩

/-- UNL_NODE.GEN, [31:16]. -/
def UNL_NODE_GEN : Fld := ⟨0x200008, 16, 16, 0⟩

/-- UNL_COMBINE_CFG.WINDOW, [6:0]. -/
def UNL_COMBINE_CFG_WINDOW : Fld := ⟨0x20000C, 0, 7, 64⟩

/-- UNL_COMBINE_CFG.FP_EN, [7]. -/
def UNL_COMBINE_CFG_FP_EN : Fld := ⟨0x20000C, 7, 1, 1⟩

/-- UNL_QUAD.NODE, [15:0]. -/
def UNL_QUAD_NODE (t : Nat) : Fld := ⟨0x200010 + 0x4 * t, 0, 16, 0⟩

/-- UNL_QUAD.VALID, [31]. -/
def UNL_QUAD_VALID (t : Nat) : Fld := ⟨0x200010 + 0x4 * t, 31, 1, 0⟩

/-- UNL_QCACHE_CFG.SLOTS, [4:0]. -/
def UNL_QCACHE_CFG_SLOTS : Fld := ⟨0x200020, 0, 5, 0⟩

/-- UNL_OP_W0.OP, [7:0]. -/
def UNL_OP_W0_OP : Fld := ⟨0x200040, 0, 8, 0⟩

/-- UNL_OP_W0.ATYPE, [11:8]. -/
def UNL_OP_W0_ATYPE : Fld := ⟨0x200040, 8, 4, 0⟩

/-- UNL_OP_W0.SIZE8, [12]. -/
def UNL_OP_W0_SIZE8 : Fld := ⟨0x200040, 12, 1, 0⟩

/-- UNL_OP_W0.NODE, [31:16]. -/
def UNL_OP_W0_NODE : Fld := ⟨0x200040, 16, 16, 0⟩

/-- UNL_OP_W1.OFFSET, [47:0]. -/
def UNL_OP_W1_OFFSET : Fld := ⟨0x200048, 0, 48, 0⟩

/-- UNL_OP_W2.DATA, [63:0]. -/
def UNL_OP_W2_DATA : Fld := ⟨0x200050, 0, 64, 0⟩

/-- UNL_OP_W3.COMPARE, [63:0]. -/
def UNL_OP_W3_COMPARE : Fld := ⟨0x200058, 0, 64, 0⟩

/-- UNL_OP_RESULT.STATUS, [7:0]. -/
def UNL_OP_RESULT_STATUS : Fld := ⟨0x200060, 0, 8, 0⟩

/-- UNL_OP_RESULT.OP, [15:8]. -/
def UNL_OP_RESULT_OP : Fld := ⟨0x200060, 8, 8, 0⟩

/-- UNL_OP_RESULT.NODE, [31:16]. -/
def UNL_OP_RESULT_NODE : Fld := ⟨0x200060, 16, 16, 0⟩

/-- UNL_OP_RESULT.VALID, [63]. -/
def UNL_OP_RESULT_VALID : Fld := ⟨0x200060, 63, 1, 0⟩

/-- UNL_OP_DATA.DATA, [63:0]. -/
def UNL_OP_DATA_DATA : Fld := ⟨0x200068, 0, 64, 0⟩

/-- UNL_ERR_POP.STATUS, [7:0]. -/
def UNL_ERR_POP_STATUS : Fld := ⟨0x200070, 0, 8, 0⟩

/-- UNL_ERR_POP.CLIENT, [23:8]. -/
def UNL_ERR_POP_CLIENT : Fld := ⟨0x200070, 8, 16, 0⟩

/-- UNL_ERR_POP.NODE, [39:24]. -/
def UNL_ERR_POP_NODE : Fld := ⟨0x200070, 24, 16, 0⟩

/-- UNL_ERR_POP.LOST, [47:40]. -/
def UNL_ERR_POP_LOST : Fld := ⟨0x200070, 40, 8, 0⟩

/-- UNL_ERR_POP.VALID, [63]. -/
def UNL_ERR_POP_VALID : Fld := ⟨0x200070, 63, 1, 0⟩

/-- UNL_ERR_OFFSET.OFFSET, [47:0]. -/
def UNL_ERR_OFFSET_OFFSET : Fld := ⟨0x200078, 0, 48, 0⟩

/-- UNL_DISCARD_CNT.STALE, [15:0]. -/
def UNL_DISCARD_CNT_STALE : Fld := ⟨0x200080, 0, 16, 0⟩

/-- UNL_DISCARD_CNT.DUP, [31:16]. -/
def UNL_DISCARD_CNT_DUP : Fld := ⟨0x200080, 16, 16, 0⟩

/-- UNL_PORT_CFG.EN, [0]. -/
def UNL_PORT_CFG_EN (t : Nat) : Fld := ⟨0x200100 + 0x20 * t, 0, 1, 0⟩

/-- UNL_PORT_CFG.DATELINE, [1]. -/
def UNL_PORT_CFG_DATELINE (t : Nat) : Fld := ⟨0x200100 + 0x20 * t, 1, 1, 0⟩

/-- UNL_PORT_STATUS.STATE, [1:0]. -/
def UNL_PORT_STATUS_STATE (t : Nat) : Fld := ⟨0x200104 + 0x20 * t, 0, 2, 0⟩

/-- UNL_PORT_STATUS.WIDTH, [4:2]. -/
def UNL_PORT_STATUS_WIDTH (t : Nat) : Fld := ⟨0x200104 + 0x20 * t, 2, 3, 0⟩

/-- UNL_PORT_STATUS.PEER, [20:5]. -/
def UNL_PORT_STATUS_PEER (t : Nat) : Fld := ⟨0x200104 + 0x20 * t, 5, 16, 0⟩

/-- UNL_PORT_REPLAY.REPLAYS, [15:0]. -/
def UNL_PORT_REPLAY_REPLAYS (t : Nat) : Fld := ⟨0x200108 + 0x20 * t, 0, 16, 0⟩

/-- UNL_PORT_REPLAY.RETRAINS, [23:16]. -/
def UNL_PORT_REPLAY_RETRAINS (t : Nat) : Fld := ⟨0x200108 + 0x20 * t, 16, 8, 0⟩

/-- UNL_PORT_REPLAY.BAD, [31:24]. -/
def UNL_PORT_REPLAY_BAD (t : Nat) : Fld := ⟨0x200108 + 0x20 * t, 24, 8, 0⟩

/-- UNL_GEN_PAIR.GEN_EVEN, [15:0]. -/
def UNL_GEN_PAIR_GEN_EVEN (t : Nat) : Fld := ⟨0x220000 + 0x4 * t, 0, 16, 0⟩

/-- UNL_GEN_PAIR.GEN_ODD, [31:16]. -/
def UNL_GEN_PAIR_GEN_ODD (t : Nat) : Fld := ⟨0x220000 + 0x4 * t, 16, 16, 0⟩

/-- UNL_ROUTE.PRIMARY, [3:0]. -/
def UNL_ROUTE_PRIMARY (t : Nat) : Fld := ⟨0x240000 + 0x4 * t, 0, 4, 15⟩

/-- UNL_ROUTE.ALT1, [7:4]. -/
def UNL_ROUTE_ALT1 (t : Nat) : Fld := ⟨0x240000 + 0x4 * t, 4, 4, 15⟩

/-- UNL_ROUTE.ALT2, [11:8]. -/
def UNL_ROUTE_ALT2 (t : Nat) : Fld := ⟨0x240000 + 0x4 * t, 8, 4, 15⟩

/-- UNL_ROUTE.VALID, [12]. -/
def UNL_ROUTE_VALID (t : Nat) : Fld := ⟨0x240000 + 0x4 * t, 12, 1, 0⟩

/-- RAD_CTRL.EN, [0]. -/
def RAD_CTRL_EN : Fld := ⟨0x280000, 0, 1, 0⟩

/-- RAD_STATUS.ON_AIR, [9:0]. -/
def RAD_STATUS_ON_AIR : Fld := ⟨0x280004, 0, 10, 0⟩

/-- RAD_STATUS.CFG_REFUSED, [10]. -/
def RAD_STATUS_CFG_REFUSED : Fld := ⟨0x280004, 10, 1, 0⟩

/-- RAD_FRAME_CFG.FRAME_TICKS, [11:0]. -/
def RAD_FRAME_CFG_FRAME_TICKS : Fld := ⟨0x280008, 0, 12, 40⟩

/-- RAD_FRAME_CFG.ITEM_CELLS, [17:12]. -/
def RAD_FRAME_CFG_ITEM_CELLS : Fld := ⟨0x280008, 12, 6, 2⟩

/-- RAD_FRAME_CFG.DL_MSG_SAMPLES, [29:18]. -/
def RAD_FRAME_CFG_DL_MSG_SAMPLES : Fld := ⟨0x280008, 18, 12, 1024⟩

/-- RAD_TIMING.UL_REL, [9:0]. -/
def RAD_TIMING_UL_REL : Fld := ⟨0x280010, 0, 10, 160⟩

/-- RAD_TIMING.UL_DEAD, [19:10]. -/
def RAD_TIMING_UL_DEAD : Fld := ⟨0x280010, 10, 10, 560⟩

/-- RAD_TIMING.DL_REL, [29:20]. -/
def RAD_TIMING_DL_REL : Fld := ⟨0x280010, 20, 10, 600⟩

/-- RAD_TIMING.DL_DEAD, [39:30]. -/
def RAD_TIMING_DL_DEAD : Fld := ⟨0x280010, 30, 10, 950⟩

/-- RAD_CFG_CTRL.COMMIT, [0]. -/
def RAD_CFG_CTRL_COMMIT : Fld := ⟨0x280018, 0, 1, 0⟩

/-- RAD_CFG_CTRL.VIEW, [1]. -/
def RAD_CFG_CTRL_VIEW : Fld := ⟨0x280018, 1, 1, 0⟩

/-- RAD_CFG_CTRL.PENDING, [2]. -/
def RAD_CFG_CTRL_PENDING : Fld := ⟨0x280018, 2, 1, 0⟩

/-- RAD_CFG_CTRL.RESULT, [15:8]. -/
def RAD_CFG_CTRL_RESULT : Fld := ⟨0x280018, 8, 8, 0⟩

/-- RAD_CFG_ERR.CELL, [8:0]. -/
def RAD_CFG_ERR_CELL : Fld := ⟨0x28001C, 0, 9, 0⟩

/-- RAD_CFG_ERR.CH, [17:9]. -/
def RAD_CFG_ERR_CH : Fld := ⟨0x28001C, 9, 9, 0⟩

/-- RAD_CFG_ERR.CHECK, [21:18]. -/
def RAD_CFG_ERR_CHECK : Fld := ⟨0x28001C, 18, 4, 0⟩

/-- RAD_CH_SEL.CELL, [8:0]. -/
def RAD_CH_SEL_CELL : Fld := ⟨0x280020, 0, 9, 0⟩

/-- RAD_ROLE_CMD.CELL, [8:0]. -/
def RAD_ROLE_CMD_CELL : Fld := ⟨0x280024, 0, 9, 0⟩

/-- RAD_ROLE_CMD.ROLE, [10:9]. -/
def RAD_ROLE_CMD_ROLE : Fld := ⟨0x280024, 9, 2, 0⟩

/-- RAD_ROLE_CMD.RESULT, [23:16]. -/
def RAD_ROLE_CMD_RESULT : Fld := ⟨0x280024, 16, 8, 0⟩

/-- RAD_PROTO_CFG.T, [2:0]. -/
def RAD_PROTO_CFG_T (t : Nat) : Fld := ⟨0x280200 + 0x4 * t, 0, 3, 3⟩

/-- RAD_PROTO.H_EVEN, [15:0]. -/
def RAD_PROTO_H_EVEN (t : Nat) (i : Nat) : Fld := ⟨0x28A000 + 0x1000 * t + 0x4 * i, 0, 16, 0⟩

/-- RAD_PROTO.H_ODD, [31:16]. -/
def RAD_PROTO_H_ODD (t : Nat) (i : Nat) : Fld := ⟨0x28A000 + 0x1000 * t + 0x4 * i, 16, 16, 0⟩

/-- RAD_PORT_CFG.EN, [0]. -/
def RAD_PORT_CFG_EN (t : Nat) : Fld := ⟨0x280100 + 0x40 * t, 0, 1, 0⟩

/-- RAD_PORT_CFG.UP, [1]. -/
def RAD_PORT_CFG_UP (t : Nat) : Fld := ⟨0x280100 + 0x40 * t, 1, 1, 0⟩

/-- RAD_PORT_MAC.MAC, [47:0]. -/
def RAD_PORT_MAC_MAC (t : Nat) : Fld := ⟨0x280108 + 0x40 * t, 0, 48, 0⟩

/-- RAD_PORT_DISC.FCS, [15:0]. -/
def RAD_PORT_DISC_FCS (t : Nat) : Fld := ⟨0x280110 + 0x40 * t, 0, 16, 0⟩

/-- RAD_PORT_DISC.OTHER, [31:16]. -/
def RAD_PORT_DISC_OTHER (t : Nat) : Fld := ⟨0x280110 + 0x40 * t, 16, 16, 0⟩

/-- RAD_PORT_DISC.ECPRI, [47:32]. -/
def RAD_PORT_DISC_ECPRI (t : Nat) : Fld := ⟨0x280110 + 0x40 * t, 32, 16, 0⟩

/-- RAD_PORT_DISC.LATE, [63:48]. -/
def RAD_PORT_DISC_LATE (t : Nat) : Fld := ⟨0x280110 + 0x40 * t, 48, 16, 0⟩

/-- RAD_PORT_DELAY.DELAY_NS, [31:0]. -/
def RAD_PORT_DELAY_DELAY_NS (t : Nat) : Fld := ⟨0x280118 + 0x40 * t, 0, 32, 0⟩

/-- RAD_PORT_DELAY.MEAS_ID, [39:32]. -/
def RAD_PORT_DELAY_MEAS_ID (t : Nat) : Fld := ⟨0x280118 + 0x40 * t, 32, 8, 0⟩

/-- RAD_PORT_DELAY.VALID, [63]. -/
def RAD_PORT_DELAY_VALID (t : Nat) : Fld := ⟨0x280118 + 0x40 * t, 63, 1, 0⟩

/-- RAD_CELL_STAT.MISS, [15:0]. -/
def RAD_CELL_STAT_MISS (t : Nat) : Fld := ⟨0x285000 + 0x8 * t, 0, 16, 0⟩

/-- RAD_CELL_STAT.SAT, [31:16]. -/
def RAD_CELL_STAT_SAT (t : Nat) : Fld := ⟨0x285000 + 0x8 * t, 16, 16, 0⟩

/-- RAD_CELL_STAT.DISC, [47:32]. -/
def RAD_CELL_STAT_DISC (t : Nat) : Fld := ⟨0x285000 + 0x8 * t, 32, 16, 0⟩

/-- RAD_RING_BASE.BASE, [40:12]. -/
def RAD_RING_BASE_BASE (t : Nat) : Fld := ⟨0x2A0000 + 0x20 * t, 12, 29, 0⟩

/-- RAD_RING_CFG.ORDER, [4:0]. -/
def RAD_RING_CFG_ORDER (t : Nat) : Fld := ⟨0x2A0008 + 0x20 * t, 0, 5, 0⟩

/-- RAD_RING_CFG.ESIZE, [7:5]. -/
def RAD_RING_CFG_ESIZE (t : Nat) : Fld := ⟨0x2A0008 + 0x20 * t, 5, 3, 0⟩

/-- RAD_RING_CFG.INT_EN, [8]. -/
def RAD_RING_CFG_INT_EN (t : Nat) : Fld := ⟨0x2A0008 + 0x20 * t, 8, 1, 0⟩

/-- RAD_RING_CFG.VALID, [31]. -/
def RAD_RING_CFG_VALID (t : Nat) : Fld := ⟨0x2A0008 + 0x20 * t, 31, 1, 0⟩

/-- RAD_RING_PROD.PROD, [31:0]. -/
def RAD_RING_PROD_PROD (t : Nat) : Fld := ⟨0x2A000C + 0x20 * t, 0, 32, 0⟩

/-- RAD_RING_CONS.CONS, [31:0]. -/
def RAD_RING_CONS_CONS (t : Nat) : Fld := ⟨0x2A0010 + 0x20 * t, 0, 32, 0⟩

/-- RAD_RING_LOST.LOST, [31:0]. -/
def RAD_RING_LOST_LOST (t : Nat) : Fld := ⟨0x2A0014 + 0x20 * t, 0, 32, 0⟩

/-- RAD_RSSI_CAL.CAL0, [15:0]. -/
def RAD_RSSI_CAL_CAL0 (t : Nat) : Fld := ⟨0x2B0000 + 0x4 * t, 0, 16, 0⟩

/-- RAD_RSSI_CAL.CAL1, [31:16]. -/
def RAD_RSSI_CAL_CAL1 (t : Nat) : Fld := ⟨0x2B0000 + 0x4 * t, 16, 16, 0⟩

/-- RAD_MODEM_STAT.BURSTS, [15:0]. -/
def RAD_MODEM_STAT_BURSTS (t : Nat) : Fld := ⟨0x2B1000 + 0x8 * t, 0, 16, 0⟩

/-- RAD_MODEM_STAT.BAD, [31:16]. -/
def RAD_MODEM_STAT_BAD (t : Nat) : Fld := ⟨0x2B1000 + 0x8 * t, 16, 16, 0⟩

/-- RAD_MODEM_STAT.FALSE_PRE, [47:32]. -/
def RAD_MODEM_STAT_FALSE_PRE (t : Nat) : Fld := ⟨0x2B1000 + 0x8 * t, 32, 16, 0⟩

/-- RAD_MODEM_STAT.LATE_SUB, [63:48]. -/
def RAD_MODEM_STAT_LATE_SUB (t : Nat) : Fld := ⟨0x2B1000 + 0x8 * t, 48, 16, 0⟩

/-- RAD_CE_LOAD.BITS, [31:0]. -/
def RAD_CE_LOAD_BITS : Fld := ⟨0x2B2000, 0, 32, 0⟩

/-- RAD_CE_PEAK.BITS, [31:0]. -/
def RAD_CE_PEAK_BITS : Fld := ⟨0x2B2004, 0, 32, 0⟩

/-- GGC_CTRL.EN, [0]. -/
def GGC_CTRL_EN : Fld := ⟨0x300000, 0, 1, 0⟩

/-- GGC_STATUS.LOADING, [0]. -/
def GGC_STATUS_LOADING : Fld := ⟨0x300004, 0, 1, 0⟩

/-- GGC_STATUS.WIN_REFUSED, [1]. -/
def GGC_STATUS_WIN_REFUSED : Fld := ⟨0x300004, 1, 1, 0⟩

/-- GGC_WIN_SEL.CORE, [8:0]. -/
def GGC_WIN_SEL_CORE : Fld := ⟨0x300008, 0, 9, 0⟩

/-- GGC_WIN_SEL.VIEW, [9]. -/
def GGC_WIN_SEL_VIEW : Fld := ⟨0x300008, 9, 1, 0⟩

/-- GGC_DOORBELL.CORE, [8:0]. -/
def GGC_DOORBELL_CORE : Fld := ⟨0x30000C, 0, 9, 0⟩

/-- GGC_CORE_STAT.BUSY, [0]. -/
def GGC_CORE_STAT_BUSY (t : Nat) : Fld := ⟨0x301000 + 0x10 * t, 0, 1, 0⟩

/-- GGC_CORE_STAT.ITEM, [5:1]. -/
def GGC_CORE_STAT_ITEM (t : Nat) : Fld := ⟨0x301000 + 0x10 * t, 1, 5, 0⟩

/-- GGC_CORE_STAT.PC, [17:6]. -/
def GGC_CORE_STAT_PC (t : Nat) : Fld := ⟨0x301000 + 0x10 * t, 6, 12, 0⟩

/-- GGC_FAULT.PC, [11:0]. -/
def GGC_FAULT_PC (t : Nat) : Fld := ⟨0x301004 + 0x10 * t, 0, 12, 0⟩

/-- GGC_FAULT.CAUSE, [15:12]. -/
def GGC_FAULT_CAUSE (t : Nat) : Fld := ⟨0x301004 + 0x10 * t, 12, 4, 0⟩

/-- GGC_FAULT.VALID, [31]. -/
def GGC_FAULT_VALID (t : Nat) : Fld := ⟨0x301004 + 0x10 * t, 31, 1, 0⟩

/-- GGC_INT_MAX.HOLDOFF, [23:0]. -/
def GGC_INT_MAX_HOLDOFF (t : Nat) : Fld := ⟨0x301008 + 0x10 * t, 0, 24, 0⟩

/-- GGC_LOAD.LOAD, [20:0]. -/
def GGC_LOAD_LOAD (t : Nat) : Fld := ⟨0x30100C + 0x10 * t, 0, 21, 0⟩

/-- GGC_IN_CFG.BASE, [17:0]. -/
def GGC_IN_CFG_BASE (t : Nat) : Fld := ⟨0x304000 + 0x8 * t, 0, 18, 0⟩

/-- GGC_IN_CFG.SIZE, [31:18]. -/
def GGC_IN_CFG_SIZE (t : Nat) : Fld := ⟨0x304000 + 0x8 * t, 18, 14, 0⟩

/-- GGC_OUT_CFG.BASE, [17:0]. -/
def GGC_OUT_CFG_BASE (t : Nat) : Fld := ⟨0x304004 + 0x8 * t, 0, 18, 0⟩

/-- GGC_OUT_CFG.SIZE, [31:18]. -/
def GGC_OUT_CFG_SIZE (t : Nat) : Fld := ⟨0x304004 + 0x8 * t, 18, 14, 0⟩

/-- TSU_CTRL.EN, [0]. -/
def TSU_CTRL_EN : Fld := ⟨0x380000, 0, 1, 1⟩

/-- TSU_CTRL.REF, [2:1]. -/
def TSU_CTRL_REF : Fld := ⟨0x380000, 1, 2, 0⟩

/-- TSU_CTRL.HOLD, [3]. -/
def TSU_CTRL_HOLD : Fld := ⟨0x380000, 3, 1, 0⟩

/-- TSU_STATUS.VALID, [0]. -/
def TSU_STATUS_VALID : Fld := ⟨0x380004, 0, 1, 0⟩

/-- TSU_STATUS.STEPPED, [1]. -/
def TSU_STATUS_STEPPED : Fld := ⟨0x380004, 1, 1, 0⟩

/-- TSU_STATUS.HOLDOVER, [2]. -/
def TSU_STATUS_HOLDOVER : Fld := ⟨0x380004, 2, 1, 0⟩

/-- TSU_STATUS.PPS_LOCKED, [3]. -/
def TSU_STATUS_PPS_LOCKED : Fld := ⟨0x380004, 3, 1, 0⟩

/-- TSU_STATUS.STEP_REFUSED, [4]. -/
def TSU_STATUS_STEP_REFUSED : Fld := ⟨0x380004, 4, 1, 0⟩

/-- TSU_NS.NS, [31:0]. -/
def TSU_NS_NS : Fld := ⟨0x380008, 0, 32, 0⟩

/-- TSU_FRAC.NS_IN_SEC, [29:0]. -/
def TSU_FRAC_NS_IN_SEC : Fld := ⟨0x38000C, 0, 30, 0⟩

/-- TSU_SEC.SEC, [47:0]. -/
def TSU_SEC_SEC : Fld := ⟨0x380010, 0, 48, 0⟩

/-- TSU_TIME.T, [63:0]. -/
def TSU_TIME_T : Fld := ⟨0x380018, 0, 64, 0⟩

/-- TSU_STEP.T, [63:0]. -/
def TSU_STEP_T : Fld := ⟨0x380020, 0, 64, 0⟩

/-- TSU_STEP_OLD.T, [63:0]. -/
def TSU_STEP_OLD_T : Fld := ⟨0x380028, 0, 64, 0⟩

/-- TSU_RATE.RATE, [31:0]. -/
def TSU_RATE_RATE : Fld := ⟨0x380030, 0, 32, 0⟩

/-- TSU_SLEW.AMOUNT, [31:0]. -/
def TSU_SLEW_AMOUNT : Fld := ⟨0x380034, 0, 32, 0⟩

/-- TSU_SLEW_LOST.AMOUNT, [31:0]. -/
def TSU_SLEW_LOST_AMOUNT : Fld := ⟨0x380038, 0, 32, 0⟩

/-- TSU_SERVO_CFG.SLEW_MAX, [7:0]. -/
def TSU_SERVO_CFG_SLEW_MAX : Fld := ⟨0x38003C, 0, 8, 100⟩

/-- TSU_SERVO_CFG.TIMEOUT, [15:8]. -/
def TSU_SERVO_CFG_TIMEOUT : Fld := ⟨0x38003C, 8, 8, 16⟩

/-- TSU_SERVO_CFG.KI, [19:16]. -/
def TSU_SERVO_CFG_KI : Fld := ⟨0x38003C, 16, 4, 3⟩

/-- TSU_SERVO_CFG.PPS_WINDOW, [31:20]. -/
def TSU_SERVO_CFG_PPS_WINDOW : Fld := ⟨0x38003C, 20, 12, 1000⟩

/-- TSU_PPS_TOD.SEC, [47:0]. -/
def TSU_PPS_TOD_SEC : Fld := ⟨0x380040, 0, 48, 0⟩

/-- TSU_PPS_CAP.T, [63:0]. -/
def TSU_PPS_CAP_T : Fld := ⟨0x380048, 0, 64, 0⟩

/-- TSU_PPS_ERR.E, [31:0]. -/
def TSU_PPS_ERR_E : Fld := ⟨0x380050, 0, 32, 0⟩

/-- TSU_PPS_CNT.EDGES, [15:0]. -/
def TSU_PPS_CNT_EDGES : Fld := ⟨0x380054, 0, 16, 0⟩

/-- TSU_PPS_CNT.REJECT, [31:16]. -/
def TSU_PPS_CNT_REJECT : Fld := ⟨0x380054, 16, 16, 0⟩

/-- TSU_PPS_OUT_CFG.PPS_WIDTH, [9:0]. -/
def TSU_PPS_OUT_CFG_PPS_WIDTH : Fld := ⟨0x380058, 0, 10, 100⟩

/-- TSU_PPS_OUT_CFG.OUT_BEFORE_VALID, [10]. -/
def TSU_PPS_OUT_CFG_OUT_BEFORE_VALID : Fld := ⟨0x380058, 10, 1, 0⟩

/-- TSU_TXTS_POP.SEQ_ID, [15:0]. -/
def TSU_TXTS_POP_SEQ_ID : Fld := ⟨0x380060, 0, 16, 0⟩

/-- TSU_TXTS_POP.MSG_TYPE, [19:16]. -/
def TSU_TXTS_POP_MSG_TYPE : Fld := ⟨0x380060, 16, 4, 0⟩

/-- TSU_TXTS_POP.PORT, [23:20]. -/
def TSU_TXTS_POP_PORT : Fld := ⟨0x380060, 20, 4, 0⟩

/-- TSU_TXTS_POP.ECPRI, [24]. -/
def TSU_TXTS_POP_ECPRI : Fld := ⟨0x380060, 24, 1, 0⟩

/-- TSU_TXTS_POP.FRAC, [47:32]. -/
def TSU_TXTS_POP_FRAC : Fld := ⟨0x380060, 32, 16, 0⟩

/-- TSU_TXTS_POP.LOST, [55:48]. -/
def TSU_TXTS_POP_LOST : Fld := ⟨0x380060, 48, 8, 0⟩

/-- TSU_TXTS_POP.VALID, [63]. -/
def TSU_TXTS_POP_VALID : Fld := ⟨0x380060, 63, 1, 0⟩

/-- TSU_TXTS_TIME.T, [63:0]. -/
def TSU_TXTS_TIME_T : Fld := ⟨0x380068, 0, 64, 0⟩

/-- TSU_PORT_CFG.EN, [0]. -/
def TSU_PORT_CFG_EN (t : Nat) : Fld := ⟨0x380100 + 0x10 * t, 0, 1, 0⟩

/-- TSU_PORT_CFG.ONE_STEP, [1]. -/
def TSU_PORT_CFG_ONE_STEP (t : Nat) : Fld := ⟨0x380100 + 0x10 * t, 1, 1, 0⟩

/-- TSU_PORT_ADJ.ING, [15:0]. -/
def TSU_PORT_ADJ_ING (t : Nat) : Fld := ⟨0x380104 + 0x10 * t, 0, 16, 0⟩

/-- TSU_PORT_ADJ.EGR, [31:16]. -/
def TSU_PORT_ADJ_EGR (t : Nat) : Fld := ⟨0x380104 + 0x10 * t, 16, 16, 0⟩

/-- TSU_PULSE_START.T, [63:0]. -/
def TSU_PULSE_START_T (t : Nat) : Fld := ⟨0x380200 + 0x20 * t, 0, 64, 0⟩

/-- TSU_PULSE_PERIOD.NS, [31:0]. -/
def TSU_PULSE_PERIOD_NS (t : Nat) : Fld := ⟨0x380208 + 0x20 * t, 0, 32, 0x3B9ACA00⟩

/-- TSU_PULSE_WIDTH.NS, [31:0]. -/
def TSU_PULSE_WIDTH_NS (t : Nat) : Fld := ⟨0x38020C + 0x20 * t, 0, 32, 1000⟩

/-- TSU_PULSE_CTRL.MODE, [1:0]. -/
def TSU_PULSE_CTRL_MODE (t : Nat) : Fld := ⟨0x380210 + 0x20 * t, 0, 2, 0⟩

/-- TSU_PULSE_CTRL.POL, [2]. -/
def TSU_PULSE_CTRL_POL (t : Nat) : Fld := ⟨0x380210 + 0x20 * t, 2, 1, 0⟩

/-- TSU_PULSE_CTRL.ARMED, [3]. -/
def TSU_PULSE_CTRL_ARMED (t : Nat) : Fld := ⟨0x380210 + 0x20 * t, 3, 1, 0⟩

/-- TSU_PULSE_CTRL.LATE, [4]. -/
def TSU_PULSE_CTRL_LATE (t : Nat) : Fld := ⟨0x380210 + 0x20 * t, 4, 1, 0⟩

/-- TSU_PULSE_CTRL.CANCELLED, [5]. -/
def TSU_PULSE_CTRL_CANCELLED (t : Nat) : Fld := ⟨0x380210 + 0x20 * t, 5, 1, 0⟩

/-- TSU_PULSE_CTRL.BAD, [6]. -/
def TSU_PULSE_CTRL_BAD (t : Nat) : Fld := ⟨0x380210 + 0x20 * t, 6, 1, 0⟩

/-- TSU_PULSE_NEXT.T, [63:0]. -/
def TSU_PULSE_NEXT_T (t : Nat) : Fld := ⟨0x380218 + 0x20 * t, 0, 64, 0⟩

/-- TLS_CTRL.AUTO_TEST, [0]. -/
def TLS_CTRL_AUTO_TEST : Fld := ⟨0x3C0000, 0, 1, 1⟩

/-- TLS_STATUS.RUNNING, [0]. -/
def TLS_STATUS_RUNNING : Fld := ⟨0x3C0004, 0, 1, 0⟩

/-- TLS_STATUS.HALTED, [1]. -/
def TLS_STATUS_HALTED : Fld := ⟨0x3C0004, 1, 1, 0⟩

/-- TLS_STATUS.NEW_FAULT, [2]. -/
def TLS_STATUS_NEW_FAULT : Fld := ⟨0x3C0004, 2, 1, 0⟩

/-- TLS_STATUS.QLOST, [10:3]. -/
def TLS_STATUS_QLOST : Fld := ⟨0x3C0004, 3, 8, 0⟩

/-- TLS_STATUS.WDOG_EXP, [14:11]. -/
def TLS_STATUS_WDOG_EXP : Fld := ⟨0x3C0004, 11, 4, 0⟩

/-- TLS_WDOG.PERIOD, [9:0]. -/
def TLS_WDOG_PERIOD : Fld := ⟨0x3C0008, 0, 10, 100⟩

/-- TLS_TEST_CFG.SWEEP_H, [9:0]. -/
def TLS_TEST_CFG_SWEEP_H : Fld := ⟨0x3C000C, 0, 10, 168⟩

/-- TLS_TEST_CFG.RETEST_WAIT, [17:10]. -/
def TLS_TEST_CFG_RETEST_WAIT : Fld := ⟨0x3C000C, 10, 8, 24⟩

/-- TLS_TEST_CFG.TEMP_TOL, [23:18]. -/
def TLS_TEST_CFG_TEMP_TOL : Fld := ⟨0x3C000C, 18, 6, 8⟩

/-- TLS_SHADOW_CFG.MODE, [1:0]. -/
def TLS_SHADOW_CFG_MODE : Fld := ⟨0x3C0010, 0, 2, 1⟩

/-- TLS_SHADOW_CFG.MISS_TICKS, [9:2]. -/
def TLS_SHADOW_CFG_MISS_TICKS : Fld := ⟨0x3C0010, 2, 8, 8⟩

/-- TLS_SHADOW_CFG.MATCH_WAIT, [15:10]. -/
def TLS_SHADOW_CFG_MATCH_WAIT : Fld := ⟨0x3C0010, 10, 6, 8⟩

/-- TLS_PROBE_CFG.PROBE_FRAMES, [15:0]. -/
def TLS_PROBE_CFG_PROBE_FRAMES : Fld := ⟨0x3C0014, 0, 16, 6000⟩

/-- TLS_PROBE_CFG.PROBE_ROUNDS, [31:16]. -/
def TLS_PROBE_CFG_PROBE_ROUNDS : Fld := ⟨0x3C0014, 16, 16, 1000⟩

/-- TLS_GO_BASE.BASE, [40:0]. -/
def TLS_GO_BASE_BASE : Fld := ⟨0x3C0018, 0, 41, 0⟩

/-- TLS_SEQ_LOST.SEQ, [15:0]. -/
def TLS_SEQ_LOST_SEQ : Fld := ⟨0x3C0020, 0, 16, 0⟩

/-- TLS_SEQ_LOST.SGEN, [23:16]. -/
def TLS_SEQ_LOST_SGEN : Fld := ⟨0x3C0020, 16, 8, 0⟩

/-- TLS_JRNL_POP.UNIT, [31:0]. -/
def TLS_JRNL_POP_UNIT : Fld := ⟨0x3C0028, 0, 32, 0⟩

/-- TLS_JRNL_POP.EVENT, [35:32]. -/
def TLS_JRNL_POP_EVENT : Fld := ⟨0x3C0028, 32, 4, 0⟩

/-- TLS_JRNL_POP.DKIND, [43:36]. -/
def TLS_JRNL_POP_DKIND : Fld := ⟨0x3C0028, 36, 8, 0⟩

/-- TLS_JRNL_POP.UNPROVEN, [44]. -/
def TLS_JRNL_POP_UNPROVEN : Fld := ⟨0x3C0028, 44, 1, 0⟩

/-- TLS_JRNL_POP.LOST, [52:45]. -/
def TLS_JRNL_POP_LOST : Fld := ⟨0x3C0028, 45, 8, 0⟩

/-- TLS_JRNL_POP.VALID, [63]. -/
def TLS_JRNL_POP_VALID : Fld := ⟨0x3C0028, 63, 1, 0⟩

/-- TLS_JRNL_DATA.TIME, [63:0]. -/
def TLS_JRNL_DATA_TIME : Fld := ⟨0x3C0030, 0, 64, 0⟩

/-- TLS_UNIT_SEL.UNIT, [31:0]. -/
def TLS_UNIT_SEL_UNIT : Fld := ⟨0x3C0038, 0, 32, 0⟩

/-- TLS_UNIT_STATE.STATE, [1:0]. -/
def TLS_UNIT_STATE_STATE : Fld := ⟨0x3C003C, 0, 2, 0⟩

/-- TLS_UNIT_STATE.BLOCKED, [2]. -/
def TLS_UNIT_STATE_BLOCKED : Fld := ⟨0x3C003C, 2, 1, 0⟩

/-- TLS_UNIT_STATE.DETECT, [6:3]. -/
def TLS_UNIT_STATE_DETECT : Fld := ⟨0x3C003C, 3, 4, 0⟩

/-- TLS_POS.POS, [31:0]. -/
def TLS_POS_POS : Fld := ⟨0x3C0044, 0, 32, 0⟩

/-- TLS_PAIR.NODE, [15:0]. -/
def TLS_PAIR_NODE (t : Nat) : Fld := ⟨0x3C1000 + 0x4 * t, 0, 16, 0⟩

/-- TLS_PAIR.SLOT, [24:16]. -/
def TLS_PAIR_SLOT (t : Nat) : Fld := ⟨0x3C1000 + 0x4 * t, 16, 9, 0⟩

/-- TLS_PAIR.CLASS_DIFF, [25]. -/
def TLS_PAIR_CLASS_DIFF (t : Nat) : Fld := ⟨0x3C1000 + 0x4 * t, 25, 1, 0⟩

/-- TLS_PAIR.PROBE, [27:26]. -/
def TLS_PAIR_PROBE (t : Nat) : Fld := ⟨0x3C1000 + 0x4 * t, 26, 2, 0⟩

/-- TLS_PAIR.HEARD, [28]. -/
def TLS_PAIR_HEARD (t : Nat) : Fld := ⟨0x3C1000 + 0x4 * t, 28, 1, 0⟩

/-- TLS_PAIR.VALID, [31]. -/
def TLS_PAIR_VALID (t : Nat) : Fld := ⟨0x3C1000 + 0x4 * t, 31, 1, 0⟩

/-- TLS_SHADOW_STAT.MATCH, [23:0]. -/
def TLS_SHADOW_STAT_MATCH (t : Nat) : Fld := ⟨0x3C2000 + 0x8 * t, 0, 24, 0⟩

/-- TLS_SHADOW_STAT.MISMATCH, [35:24]. -/
def TLS_SHADOW_STAT_MISMATCH (t : Nat) : Fld := ⟨0x3C2000 + 0x8 * t, 24, 12, 0⟩

/-- TLS_SHADOW_STAT.ONE_SIDED, [47:36]. -/
def TLS_SHADOW_STAT_ONE_SIDED (t : Nat) : Fld := ⟨0x3C2000 + 0x8 * t, 36, 12, 0⟩

/-- TLS_SHADOW_STAT.SKIPPED, [55:48]. -/
def TLS_SHADOW_STAT_SKIPPED (t : Nat) : Fld := ⟨0x3C2000 + 0x8 * t, 48, 8, 0⟩

/-- TLS_SHADOW_STAT.TAKEOVERS, [63:56]. -/
def TLS_SHADOW_STAT_TAKEOVERS (t : Nat) : Fld := ⟨0x3C2000 + 0x8 * t, 56, 8, 0⟩

/-- FPL_REPLAY_CLASS.STEPPING, [7:0]. -/
def FPL_REPLAY_CLASS_STEPPING : Fld := ⟨0x20, 0, 8, Config.stepping.toNat⟩

/-- FPL_REPLAY_CLASS.SPEED, [11:8]. -/
def FPL_REPLAY_CLASS_SPEED : Fld := ⟨0x20, 8, 4, Config.speed.toNat⟩

/-- FPL_REPLAY_CLASS.DET_STRICT, [12]. -/
def FPL_REPLAY_CLASS_DET_STRICT : Fld := ⟨0x20, 12, 1, 0⟩

/-- FPL_REPLAY_CLASS.FW_VERSION, [31:16]. -/
def FPL_REPLAY_CLASS_FW_VERSION : Fld := ⟨0x20, 16, 16, 0⟩

/-- FPL_REPLAY_CLASS.DIS_HASH, [63:32]. -/
def FPL_REPLAY_CLASS_DIS_HASH : Fld := ⟨0x20, 32, 32, 0⟩

/-- FPL_DET_CFG.DET_STRICT, [0]. -/
def FPL_DET_CFG_DET_STRICT : Fld := ⟨0x28, 0, 1, 0⟩

/-- FPL_DET_CFG.REFUSED, [1]. -/
def FPL_DET_CFG_REFUSED : Fld := ⟨0x28, 1, 1, 0⟩

/-- FPL_DET_CFG.CLASS_CHANGES, [15:8]. -/
def FPL_DET_CFG_CLASS_CHANGES : Fld := ⟨0x28, 8, 8, 0⟩

/-- INST_STATUS.GEN, [15:0]. -/
def INST_STATUS_GEN (t : Nat) : Fld := ⟨0x20000000 + 0x10000 * t, 0, 16, 1⟩

/-- INST_STATUS.STATE, [17:16]. -/
def INST_STATUS_STATE (t : Nat) : Fld := ⟨0x20000000 + 0x10000 * t, 16, 2, 0⟩

/-- INST_STATUS.RING_REFUSED, [18]. -/
def INST_STATUS_RING_REFUSED (t : Nat) : Fld := ⟨0x20000000 + 0x10000 * t, 18, 1, 0⟩

/-- INST_STATUS.SQ_BAD, [19]. -/
def INST_STATUS_SQ_BAD (t : Nat) : Fld := ⟨0x20000000 + 0x10000 * t, 19, 1, 0⟩

/-- SQ_CFG.BASE, [40:12]. -/
def SQ_CFG_BASE (t : Nat) : Fld := ⟨0x20000008 + 0x10000 * t, 12, 29, 0⟩

/-- SQ_CFG.ORDER, [45:41]. -/
def SQ_CFG_ORDER (t : Nat) : Fld := ⟨0x20000008 + 0x10000 * t, 41, 5, 0⟩

/-- SQ_CFG.INT_EN, [46]. -/
def SQ_CFG_INT_EN (t : Nat) : Fld := ⟨0x20000008 + 0x10000 * t, 46, 1, 0⟩

/-- SQ_CFG.EN, [63]. -/
def SQ_CFG_EN (t : Nat) : Fld := ⟨0x20000008 + 0x10000 * t, 63, 1, 0⟩

/-- CQ_CFG.BASE, [40:12]. -/
def CQ_CFG_BASE (t : Nat) : Fld := ⟨0x20000018 + 0x10000 * t, 12, 29, 0⟩

/-- CQ_CFG.ORDER, [45:41]. -/
def CQ_CFG_ORDER (t : Nat) : Fld := ⟨0x20000018 + 0x10000 * t, 41, 5, 0⟩

/-- CQ_CFG.INT_EN, [46]. -/
def CQ_CFG_INT_EN (t : Nat) : Fld := ⟨0x20000018 + 0x10000 * t, 46, 1, 0⟩

/-- CQ_CFG.EN, [63]. -/
def CQ_CFG_EN (t : Nat) : Fld := ⟨0x20000018 + 0x10000 * t, 63, 1, 0⟩

/-- IQ_CFG.BASE, [40:12]. -/
def IQ_CFG_BASE (t : Nat) : Fld := ⟨0x20000028 + 0x10000 * t, 12, 29, 0⟩

/-- IQ_CFG.ORDER, [45:41]. -/
def IQ_CFG_ORDER (t : Nat) : Fld := ⟨0x20000028 + 0x10000 * t, 41, 5, 0⟩

/-- IQ_CFG.INT_EN, [46]. -/
def IQ_CFG_INT_EN (t : Nat) : Fld := ⟨0x20000028 + 0x10000 * t, 46, 1, 0⟩

/-- IQ_CFG.EN, [63]. -/
def IQ_CFG_EN (t : Nat) : Fld := ⟨0x20000028 + 0x10000 * t, 63, 1, 0⟩

/-- MBOX_CTRL.IN_VALID, [0]. -/
def MBOX_CTRL_IN_VALID (t : Nat) : Fld := ⟨0x200000C0 + 0x10000 * t, 0, 1, 0⟩

/-- MBOX_CTRL.POP, [1]. -/
def MBOX_CTRL_POP (t : Nat) : Fld := ⟨0x200000C0 + 0x10000 * t, 1, 1, 0⟩

/-- MBOX_CTRL.IN_COUNT, [8:2]. -/
def MBOX_CTRL_IN_COUNT (t : Nat) : Fld := ⟨0x200000C0 + 0x10000 * t, 2, 7, 0⟩

/-- MBOX_CTRL.SEND_STATUS, [16:9]. -/
def MBOX_CTRL_SEND_STATUS (t : Nat) : Fld := ⟨0x200000C0 + 0x10000 * t, 9, 8, 0⟩

/-- VIR_STATUS.NUM_VFS, [6:0]. -/
def VIR_STATUS_NUM_VFS : Fld := ⟨0x400000, 0, 7, 0⟩

/-- VIR_STATUS.VF_EN, [7]. -/
def VIR_STATUS_VF_EN : Fld := ⟨0x400000, 7, 1, 0⟩

/-- VIR_STATUS.CFG_REFUSED, [8]. -/
def VIR_STATUS_CFG_REFUSED : Fld := ⟨0x400000, 8, 1, 0⟩

/-- VIR_PF_WIN.BASE, [40:30]. -/
def VIR_PF_WIN_BASE : Fld := ⟨0x400008, 30, 11, 0⟩

/-- VIR_VF_WIN_CFG.LOG, [2:0]. -/
def VIR_VF_WIN_CFG_LOG : Fld := ⟨0x400010, 0, 3, 0⟩

/-- VIR_JRNL_POP.NS, [31:0]. -/
def VIR_JRNL_POP_NS : Fld := ⟨0x400020, 0, 32, 0⟩

/-- VIR_JRNL_POP.SRC, [39:32]. -/
def VIR_JRNL_POP_SRC : Fld := ⟨0x400020, 32, 8, 0⟩

/-- VIR_JRNL_POP.SPACE, [41:40]. -/
def VIR_JRNL_POP_SPACE : Fld := ⟨0x400020, 40, 2, 0⟩

/-- VIR_JRNL_POP.WIDE, [42]. -/
def VIR_JRNL_POP_WIDE : Fld := ⟨0x400020, 42, 1, 0⟩

/-- VIR_JRNL_POP.REFUSED, [43]. -/
def VIR_JRNL_POP_REFUSED : Fld := ⟨0x400020, 43, 1, 0⟩

/-- VIR_JRNL_POP.BURST, [44]. -/
def VIR_JRNL_POP_BURST : Fld := ⟨0x400020, 44, 1, 0⟩

/-- VIR_JRNL_POP.LOST, [52:45]. -/
def VIR_JRNL_POP_LOST : Fld := ⟨0x400020, 45, 8, 0⟩

/-- VIR_JRNL_POP.VALID, [63]. -/
def VIR_JRNL_POP_VALID : Fld := ⟨0x400020, 63, 1, 0⟩

/-- VIR_JRNL_ADDR.OFFSET, [25:0]. -/
def VIR_JRNL_ADDR_OFFSET : Fld := ⟨0x400028, 0, 26, 0⟩

/-- VIR_JRNL_NEW.VALUE, [63:0]. -/
def VIR_JRNL_NEW_VALUE : Fld := ⟨0x400030, 0, 64, 0⟩

/-- VIR_JRNL_OLD.VALUE, [63:0]. -/
def VIR_JRNL_OLD_VALUE : Fld := ⟨0x400038, 0, 64, 0⟩

/-- VIR_INST_CTRL.EN, [0]. -/
def VIR_INST_CTRL_EN (t : Nat) : Fld := ⟨0x420000 + 0x40 * t, 0, 1, 0⟩

/-- VIR_INST_CTRL.RESET, [1]. -/
def VIR_INST_CTRL_RESET (t : Nat) : Fld := ⟨0x420000 + 0x40 * t, 1, 1, 0⟩

/-- VIR_INST_SEQ.SEQ_BASE, [15:0]. -/
def VIR_INST_SEQ_SEQ_BASE (t : Nat) : Fld := ⟨0x420008 + 0x40 * t, 0, 16, 0⟩

/-- VIR_INST_SEQ.SEQ_COUNT, [32:16]. -/
def VIR_INST_SEQ_SEQ_COUNT (t : Nat) : Fld := ⟨0x420008 + 0x40 * t, 16, 17, 0⟩

/-- VIR_INST_CTX.CTX_BASE, [11:0]. -/
def VIR_INST_CTX_CTX_BASE (t : Nat) : Fld := ⟨0x420010 + 0x40 * t, 0, 12, 0⟩

/-- VIR_INST_CTX.CTX_COUNT, [24:12]. -/
def VIR_INST_CTX_CTX_COUNT (t : Nat) : Fld := ⟨0x420010 + 0x40 * t, 12, 13, 0⟩

/-- VIR_INST_WIN.BASE, [40:20]. -/
def VIR_INST_WIN_BASE (t : Nat) : Fld := ⟨0x420018 + 0x40 * t, 20, 21, 0⟩

/-- VIR_INST_DISC.LATE, [15:0]. -/
def VIR_INST_DISC_LATE (t : Nat) : Fld := ⟨0x420020 + 0x40 * t, 0, 16, 0⟩

/-- VIR_INST_DISC.WIN_DENY, [31:16]. -/
def VIR_INST_DISC_WIN_DENY (t : Nat) : Fld := ⟨0x420020 + 0x40 * t, 16, 16, 0⟩

/-- VIR_INST_DISC.BAD_VECTOR, [47:32]. -/
def VIR_INST_DISC_BAD_VECTOR (t : Nat) : Fld := ⟨0x420020 + 0x40 * t, 32, 16, 0⟩

/-- VIR_INST_DISC.RESETS, [63:48]. -/
def VIR_INST_DISC_RESETS (t : Nat) : Fld := ⟨0x420020 + 0x40 * t, 48, 16, 0⟩

/-- FPL_BOOT_STATUS.IN_SERVICE, [0]. -/
def FPL_BOOT_STATUS_IN_SERVICE : Fld := ⟨0x0, 0, 1, 0⟩

/-- FPL_BOOT_STATUS.PHASE, [3:1]. -/
def FPL_BOOT_STATUS_PHASE : Fld := ⟨0x0, 1, 3, 0⟩

/-- FPL_BOOT_STATUS.SLOT, [4]. -/
def FPL_BOOT_STATUS_SLOT : Fld := ⟨0x0, 4, 1, 0⟩

/-- FPL_BOOT_STATUS.CFG_COPY, [5]. -/
def FPL_BOOT_STATUS_CFG_COPY : Fld := ⟨0x0, 5, 1, 0⟩

/-- FPL_BOOT_STATUS.ID_OK, [6]. -/
def FPL_BOOT_STATUS_ID_OK : Fld := ⟨0x0, 6, 1, 0⟩

/-- FPL_BOOT_STATUS.FACTORY_BAD, [7]. -/
def FPL_BOOT_STATUS_FACTORY_BAD : Fld := ⟨0x0, 7, 1, 0⟩

/-- FPL_BOOT_STATUS.FULL_TRAIN, [8]. -/
def FPL_BOOT_STATUS_FULL_TRAIN : Fld := ⟨0x0, 8, 1, 0⟩

/-- FPL_BOOT_STATUS.FALLBACK, [9]. -/
def FPL_BOOT_STATUS_FALLBACK : Fld := ⟨0x0, 9, 1, 0⟩

/-- FPL_BOOT_TIME.SERVICE_MS, [15:0]. -/
def FPL_BOOT_TIME_SERVICE_MS : Fld := ⟨0x4, 0, 16, 0⟩

/-- FPL_BOOT_TIME.FLASH_MS, [31:16]. -/
def FPL_BOOT_TIME_FLASH_MS : Fld := ⟨0x4, 16, 16, 0⟩

/-- FPL_CFG_STATUS.STATUS, [7:0]. -/
def FPL_CFG_STATUS_STATUS : Fld := ⟨0x8, 0, 8, 0⟩

/-- FPL_CFG_STATUS.RECORD, [27:8]. -/
def FPL_CFG_STATUS_RECORD : Fld := ⟨0x8, 8, 20, 0⟩

/-- FPL_CFG_STATUS.RADIO_REFUSED, [28]. -/
def FPL_CFG_STATUS_RADIO_REFUSED : Fld := ⟨0x8, 28, 1, 0⟩

/-- FPL_CFG_REFUSED.WRITES, [15:0]. -/
def FPL_CFG_REFUSED_WRITES : Fld := ⟨0xC, 0, 16, 0⟩

/-- FPL_FW_SLOTS.SLOT_A, [31:0]. -/
def FPL_FW_SLOTS_SLOT_A : Fld := ⟨0x10, 0, 32, 0⟩

/-- FPL_FW_SLOTS.SLOT_B, [63:32]. -/
def FPL_FW_SLOTS_SLOT_B : Fld := ⟨0x10, 32, 32, 0⟩

/-- FPL_FW_CTRL.ACTIVE, [0]. -/
def FPL_FW_CTRL_ACTIVE : Fld := ⟨0x18, 0, 1, 0⟩

/-- FPL_FW_CTRL.CONFIRM, [1]. -/
def FPL_FW_CTRL_CONFIRM : Fld := ⟨0x18, 1, 1, 0⟩

/-- FPL_FW_CTRL.HOST_OK, [2]. -/
def FPL_FW_CTRL_HOST_OK : Fld := ⟨0x18, 2, 1, 0⟩

/-- FPL_FW_CTRL.HOST_ACK_REQ, [3]. -/
def FPL_FW_CTRL_HOST_ACK_REQ : Fld := ⟨0x18, 3, 1, 0⟩

/-- FPL_FW_CTRL.OWNER_LOCK, [4]. -/
def FPL_FW_CTRL_OWNER_LOCK : Fld := ⟨0x18, 4, 1, 0⟩

/-- FPL_FW_CTRL.ACTIVATE, [5]. -/
def FPL_FW_CTRL_ACTIVATE : Fld := ⟨0x18, 5, 1, 0⟩

/-- FPL_FW_CTRL.RESET_NOW, [6]. -/
def FPL_FW_CTRL_RESET_NOW : Fld := ⟨0x18, 6, 1, 0⟩

/-- FPL_FW_CTRL.RESULT, [15:8]. -/
def FPL_FW_CTRL_RESULT : Fld := ⟨0x18, 8, 8, 0⟩

/-- FPL_FW_CTRL.CONFIRM_LEFT, [23:16]. -/
def FPL_FW_CTRL_CONFIRM_LEFT : Fld := ⟨0x18, 16, 8, 0⟩

/-- FPL_FW_CTRL.REASON, [31:24]. -/
def FPL_FW_CTRL_REASON : Fld := ⟨0x18, 24, 8, 0⟩

/-- FPL_SUPPLY.VIN, [15:0]. -/
def FPL_SUPPLY_VIN : Fld := ⟨0x1C, 0, 16, 0⟩

/-- FPL_SUPPLY.MARGIN_OK, [16]. -/
def FPL_SUPPLY_MARGIN_OK : Fld := ⟨0x1C, 16, 1, 0⟩

/-- FPL_SUPPLY_CFG.VMIN, [15:0]. -/
def FPL_SUPPLY_CFG_VMIN : Fld := ⟨0x2C, 0, 16, 1080⟩

/-- FPL_UPD_CTRL.START, [0]. -/
def FPL_UPD_CTRL_START : Fld := ⟨0x30, 0, 1, 0⟩

/-- FPL_UPD_CTRL.END, [1]. -/
def FPL_UPD_CTRL_END : Fld := ⟨0x30, 1, 1, 0⟩

/-- FPL_UPD_CTRL.ABORT, [2]. -/
def FPL_UPD_CTRL_ABORT : Fld := ⟨0x30, 2, 1, 0⟩

/-- FPL_UPD_CTRL.TARGET, [3]. -/
def FPL_UPD_CTRL_TARGET : Fld := ⟨0x30, 3, 1, 0⟩

/-- FPL_UPD_CTRL.SRC_MODE, [4]. -/
def FPL_UPD_CTRL_SRC_MODE : Fld := ⟨0x30, 4, 1, 0⟩

/-- FPL_UPD_CTRL.STATE, [7:5]. -/
def FPL_UPD_CTRL_STATE : Fld := ⟨0x30, 5, 3, 0⟩

/-- FPL_UPD_CTRL.STATUS, [15:8]. -/
def FPL_UPD_CTRL_STATUS : Fld := ⟨0x30, 8, 8, 0⟩

/-- FPL_UPD_CTRL.REASON, [23:16]. -/
def FPL_UPD_CTRL_REASON : Fld := ⟨0x30, 16, 8, 0⟩

/-- FPL_UPD_CTRL.FORWARD, [24]. -/
def FPL_UPD_CTRL_FORWARD : Fld := ⟨0x30, 24, 1, 0⟩

/-- FPL_UPD_LEN.BYTES, [31:0]. -/
def FPL_UPD_LEN_BYTES : Fld := ⟨0x34, 0, 32, 0⟩

/-- FPL_UPD_SRC.OFFSET, [40:0]. -/
def FPL_UPD_SRC_OFFSET : Fld := ⟨0x38, 0, 41, 0⟩

/-- FPL_UPD_DATA.DATA, [63:0]. -/
def FPL_UPD_DATA_DATA : Fld := ⟨0x40, 0, 64, 0⟩

/-- FPL_CHAIN.NODE, [15:0]. -/
def FPL_CHAIN_NODE (t : Nat) : Fld := ⟨0x48 + 0x4 * t, 0, 16, 0⟩

/-- FPL_CHAIN.VALID, [31]. -/
def FPL_CHAIN_VALID (t : Nat) : Fld := ⟨0x48 + 0x4 * t, 31, 1, 0⟩

/-- FPL_CHAIN_STATUS.STATUS, [7:0]. -/
def FPL_CHAIN_STATUS_STATUS (t : Nat) : Fld := ⟨0x58 + 0x4 * t, 0, 8, 0⟩

/-- FPL_CHAIN_STATUS.REASON, [14:8]. -/
def FPL_CHAIN_STATUS_REASON (t : Nat) : Fld := ⟨0x58 + 0x4 * t, 8, 7, 0⟩

/-- FPL_CHAIN_STATUS.DONE, [15]. -/
def FPL_CHAIN_STATUS_DONE (t : Nat) : Fld := ⟨0x58 + 0x4 * t, 15, 1, 0⟩

/-- FPL_CHAIN_STATUS.NODE, [31:16]. -/
def FPL_CHAIN_STATUS_NODE (t : Nat) : Fld := ⟨0x58 + 0x4 * t, 16, 16, 0⟩

/-- FPL_ATTEST_CTRL.GO, [0]. -/
def FPL_ATTEST_CTRL_GO : Fld := ⟨0x68, 0, 1, 0⟩

/-- FPL_ATTEST_CTRL.BUSY, [1]. -/
def FPL_ATTEST_CTRL_BUSY : Fld := ⟨0x68, 1, 1, 0⟩

/-- FPL_ATTEST_CTRL.STATUS, [15:8]. -/
def FPL_ATTEST_CTRL_STATUS : Fld := ⟨0x68, 8, 8, 0⟩

/-- FPL_ATTEST_NONCE.NONCE, [63:0]. -/
def FPL_ATTEST_NONCE_NONCE (t : Nat) : Fld := ⟨0x80 + 0x8 * t, 0, 64, 0⟩

/-- FPL_ATTEST_REPORT.WORD, [63:0]. -/
def FPL_ATTEST_REPORT_WORD (t : Nat) : Fld := ⟨0x100 + 0x8 * t, 0, 64, 0⟩

/-- FPL_ID_KEY.KEY, [63:0]. -/
def FPL_ID_KEY_KEY (t : Nat) : Fld := ⟨0x200 + 0x8 * t, 0, 64, 0⟩

/-- PRT_CTRL.EN, [0]. -/
def PRT_CTRL_EN : Fld := ⟨0x440000, 0, 1, 0⟩

/-- PRT_CTRL.MASK_INJ, [1]. -/
def PRT_CTRL_MASK_INJ : Fld := ⟨0x440000, 1, 1, 1⟩

/-- PRT_CTRL.HELD, [2]. -/
def PRT_CTRL_HELD : Fld := ⟨0x440000, 2, 1, 0⟩

/-- PRT_CTRL.LEASE, [27:16]. -/
def PRT_CTRL_LEASE : Fld := ⟨0x440000, 16, 12, 0⟩

/-- PRT_STATUS.ACTIVE, [0]. -/
def PRT_STATUS_ACTIVE : Fld := ⟨0x440004, 0, 1, 0⟩

/-- PRT_STATUS.CFG_REFUSED, [1]. -/
def PRT_STATUS_CFG_REFUSED : Fld := ⟨0x440004, 1, 1, 0⟩

/-- PRT_STATUS.EXPIRED, [2]. -/
def PRT_STATUS_EXPIRED : Fld := ⟨0x440004, 2, 1, 0⟩

/-- PRT_STATUS.FIRED_ECC, [3]. -/
def PRT_STATUS_FIRED_ECC : Fld := ⟨0x440004, 3, 1, 0⟩

/-- PRT_STATUS.FIRED_CHK, [4]. -/
def PRT_STATUS_FIRED_CHK : Fld := ⟨0x440004, 4, 1, 0⟩

/-- PRT_STATUS.FIRED_DIG, [5]. -/
def PRT_STATUS_FIRED_DIG : Fld := ⟨0x440004, 5, 1, 0⟩

/-- PRT_STATUS.FIRED_LINK, [6]. -/
def PRT_STATUS_FIRED_LINK : Fld := ⟨0x440004, 6, 1, 0⟩

/-- PRT_VCORE.OFS0, [7:0]. -/
def PRT_VCORE_OFS0 : Fld := ⟨0x440008, 0, 8, 0⟩

/-- PRT_VCORE.OFS1, [15:8]. -/
def PRT_VCORE_OFS1 : Fld := ⟨0x440008, 8, 8, 0⟩

/-- PRT_FEED.CONFLICT, [7:0]. -/
def PRT_FEED_CONFLICT : Fld := ⟨0x440010, 0, 8, 0⟩

/-- PRT_MESH.HOP_EXTRA, [5:0]. -/
def PRT_MESH_HOP_EXTRA : Fld := ⟨0x440014, 0, 6, 0⟩

/-- PRT_MESH.STALL, [15:8]. -/
def PRT_MESH_STALL : Fld := ⟨0x440014, 8, 8, 0⟩

/-- PRT_STACK.STACKS, [15:0]. -/
def PRT_STACK_STACKS : Fld := ⟨0x440018, 0, 16, 0⟩

/-- PRT_STACK.READ_EXTRA, [23:16]. -/
def PRT_STACK_READ_EXTRA : Fld := ⟨0x440018, 16, 8, 0⟩

/-- PRT_FABRIC.PORTS, [11:0]. -/
def PRT_FABRIC_PORTS : Fld := ⟨0x44001C, 0, 12, 0⟩

/-- PRT_FABRIC.PKT_EXTRA, [23:12]. -/
def PRT_FABRIC_PKT_EXTRA : Fld := ⟨0x44001C, 12, 12, 0⟩

/-- PRT_FABRIC.CREDIT_HOLD, [31:24]. -/
def PRT_FABRIC_CREDIT_HOLD : Fld := ⟨0x44001C, 24, 8, 0⟩

/-- PRT_FRONTHAUL.PORTS, [3:0]. -/
def PRT_FRONTHAUL_PORTS : Fld := ⟨0x440020, 0, 4, 0⟩

/-- PRT_FRONTHAUL.ING_EXTRA, [19:4]. -/
def PRT_FRONTHAUL_ING_EXTRA : Fld := ⟨0x440020, 4, 16, 0⟩

/-- PRT_LOAD.SIG, [31:0]. -/
def PRT_LOAD_SIG : Fld := ⟨0x440028, 0, 32, 0⟩

/-- PRT_INJ_ECC.OFFSET, [40:0]. -/
def PRT_INJ_ECC_OFFSET : Fld := ⟨0x440030, 0, 41, 0⟩

/-- PRT_INJ_ECC.SYMBOLS, [43:41]. -/
def PRT_INJ_ECC_SYMBOLS : Fld := ⟨0x440030, 41, 3, 0⟩

/-- PRT_INJ_ECC.ARMED, [63]. -/
def PRT_INJ_ECC_ARMED : Fld := ⟨0x440030, 63, 1, 0⟩

/-- PRT_INJ_CHK.TILE, [8:0]. -/
def PRT_INJ_CHK_TILE : Fld := ⟨0x440038, 0, 9, 0⟩

/-- PRT_INJ_CHK.CUBE, [11:9]. -/
def PRT_INJ_CHK_CUBE : Fld := ⟨0x440038, 9, 3, 0⟩

/-- PRT_INJ_CHK.ROW, [14:12]. -/
def PRT_INJ_CHK_ROW : Fld := ⟨0x440038, 12, 3, 0⟩

/-- PRT_INJ_CHK.LAYER, [15]. -/
def PRT_INJ_CHK_LAYER : Fld := ⟨0x440038, 15, 1, 0⟩

/-- PRT_INJ_CHK.BIT, [20:16]. -/
def PRT_INJ_CHK_BIT : Fld := ⟨0x440038, 16, 5, 0⟩

/-- PRT_INJ_CHK.REPEAT, [21]. -/
def PRT_INJ_CHK_REPEAT : Fld := ⟨0x440038, 21, 1, 0⟩

/-- PRT_INJ_CHK.ARMED, [31]. -/
def PRT_INJ_CHK_ARMED : Fld := ⟨0x440038, 31, 1, 0⟩

/-- PRT_INJ_DIG.KINDS, [2:0]. -/
def PRT_INJ_DIG_KINDS : Fld := ⟨0x440040, 0, 3, 0⟩

/-- PRT_INJ_DIG.COUNT, [15:8]. -/
def PRT_INJ_DIG_COUNT : Fld := ⟨0x440040, 8, 8, 0⟩

/-- PRT_INJ_DIG.ARMED, [31]. -/
def PRT_INJ_DIG_ARMED : Fld := ⟨0x440040, 31, 1, 0⟩

/-- PRT_INJ_LINK.PORT, [3:0]. -/
def PRT_INJ_LINK_PORT : Fld := ⟨0x440044, 0, 4, 0⟩

/-- PRT_INJ_LINK.COUNT, [15:8]. -/
def PRT_INJ_LINK_COUNT : Fld := ⟨0x440044, 8, 8, 0⟩

/-- PRT_INJ_LINK.ARMED, [31]. -/
def PRT_INJ_LINK_ARMED : Fld := ⟨0x440044, 31, 1, 0⟩

/-- LTH_CTX_W0.TILE, [8:0]. -/
def LTH_CTX_TILE (t : Nat) : Fld := ⟨0x41000 + 0x10 * t, 0, 9, 0⟩

/-- LTH_CTX_W0.BANKS, [13:9]. -/
def LTH_CTX_BANKS (t : Nat) : Fld := ⟨0x41000 + 0x10 * t, 9, 5, 0⟩

/-- LTH_CTX_W0.PINNED, [14]. -/
def LTH_CTX_PINNED (t : Nat) : Fld := ⟨0x41000 + 0x10 * t, 14, 1, 0⟩

/-- LTH_CTX_W0.VALID, [16]. -/
def LTH_CTX_VALID (t : Nat) : Fld := ⟨0x41000 + 0x10 * t, 16, 1, 0⟩

/-- LTH_CTX_W0.RESIDENT, [17]. -/
def LTH_CTX_RESIDENT (t : Nat) : Fld := ⟨0x41000 + 0x10 * t, 17, 1, 0⟩

/-- LTH_CTX_W0.CHUCK, [19:18]. -/
def LTH_CTX_CHUCK (t : Nat) : Fld := ⟨0x41000 + 0x10 * t, 18, 2, 0⟩

/-- LTH_CTX_W1.SAVE_HOME, [40:0]. -/
def LTH_CTX_SAVE_HOME (t : Nat) : Fld := ⟨0x41008 + 0x10 * t, 0, 41, 0⟩

/-- SEQ_W0.STATE, [3:0]. -/
def SEQ_STATE (t : Nat) : Fld := ⟨0x12000000 + 0x40 * t, 0, 4, 0⟩

/-- SEQ_W0.STATUS, [11:4]. -/
def SEQ_STATUS (t : Nat) : Fld := ⟨0x12000000 + 0x40 * t, 4, 8, 0⟩

/-- SEQ_W0.QUEUE, [25:12]. -/
def SEQ_QUEUE (t : Nat) : Fld := ⟨0x12000000 + 0x40 * t, 12, 14, 0⟩

/-- SEQ_W0.INSTANCE, [32:26]. -/
def SEQ_INSTANCE (t : Nat) : Fld := ⟨0x12000000 + 0x40 * t, 26, 7, 0⟩

/-- SEQ_W0.ADAPTER, [44:33]. -/
def SEQ_ADAPTER (t : Nat) : Fld := ⟨0x12000000 + 0x40 * t, 33, 12, 0⟩

/-- SEQ_W0.ADAPTER_EN, [45]. -/
def SEQ_ADAPTER_EN (t : Nat) : Fld := ⟨0x12000000 + 0x40 * t, 45, 1, 0⟩

/-- SEQ_W0.PRIORITY, [48:46]. -/
def SEQ_PRIORITY (t : Nat) : Fld := ⟨0x12000000 + 0x40 * t, 46, 3, 0⟩

/-- SEQ_W0.ABORT_REQ, [49]. -/
def SEQ_ABORT_REQ (t : Nat) : Fld := ⟨0x12000000 + 0x40 * t, 49, 1, 0⟩

/-- SEQ_W0.PROFILE, [53:50]. -/
def SEQ_PROFILE (t : Nat) : Fld := ⟨0x12000000 + 0x40 * t, 50, 4, 0⟩

/-- SEQ_W0.FAILS, [55:54]. -/
def SEQ_FAILS (t : Nat) : Fld := ⟨0x12000000 + 0x40 * t, 54, 2, 0⟩

/-- SEQ_W0.SGEN, [63:56]. -/
def SEQ_SGEN (t : Nat) : Fld := ⟨0x12000000 + 0x40 * t, 56, 8, 0⟩

/-- SEQ_W1.SEED, [63:0]. -/
def SEQ_SEED (t : Nat) : Fld := ⟨0x12000008 + 0x40 * t, 0, 64, 0⟩

/-- SEQ_W2.STEP_CNT, [19:0]. -/
def SEQ_STEP_CNT (t : Nat) : Fld := ⟨0x12000010 + 0x40 * t, 0, 20, 0⟩

/-- SEQ_W2.MAX_NEW, [39:20]. -/
def SEQ_MAX_NEW (t : Nat) : Fld := ⟨0x12000010 + 0x40 * t, 20, 20, 0⟩

/-- SEQ_W2.STOP_TOKEN, [63:40]. -/
def SEQ_STOP_TOKEN (t : Nat) : Fld := ⟨0x12000010 + 0x40 * t, 40, 24, 0⟩

/-- SEQ_W3.PROMPT_LEN, [31:0]. -/
def SEQ_PROMPT_LEN (t : Nat) : Fld := ⟨0x12000018 + 0x40 * t, 0, 32, 0⟩

/-- SEQ_W3.CTX_LEN, [63:32]. -/
def SEQ_CTX_LEN (t : Nat) : Fld := ⟨0x12000018 + 0x40 * t, 32, 32, 0⟩

/-- SEQ_W4.INV_TEMP, [31:0]. -/
def SEQ_INV_TEMP (t : Nat) : Fld := ⟨0x12000020 + 0x40 * t, 0, 32, 0⟩

/-- SEQ_W4.TOP_P, [63:32]. -/
def SEQ_TOP_P (t : Nat) : Fld := ⟨0x12000020 + 0x40 * t, 32, 32, 0⟩

/-- SEQ_W5.PROMPT_BASE, [40:0]. -/
def SEQ_PROMPT_BASE (t : Nat) : Fld := ⟨0x12000028 + 0x40 * t, 0, 41, 0⟩

/-- SEQ_W5.TOP_K, [49:41]. -/
def SEQ_TOP_K (t : Nat) : Fld := ⟨0x12000028 + 0x40 * t, 41, 9, 0⟩

/-- SEQ_W5.GREEDY, [50]. -/
def SEQ_GREEDY (t : Nat) : Fld := ⟨0x12000028 + 0x40 * t, 50, 1, 0⟩

/-- SEQ_W5.STOP_EN, [51]. -/
def SEQ_STOP_EN (t : Nat) : Fld := ⟨0x12000028 + 0x40 * t, 51, 1, 0⟩

/-- SEQ_W5.REASON, [59:52]. -/
def SEQ_REASON (t : Nat) : Fld := ⟨0x12000028 + 0x40 * t, 52, 8, 0⟩

/-- SEQ_W6.PAGE_DIR, [40:0]. -/
def SEQ_PAGE_DIR (t : Nat) : Fld := ⟨0x12000030 + 0x40 * t, 0, 41, 0⟩

/-- SEQ_W6.PAGES, [63:41]. -/
def SEQ_PAGES (t : Nat) : Fld := ⟨0x12000030 + 0x40 * t, 41, 23, 0⟩

/-- SEQ_W7.TAG, [63:0]. -/
def SEQ_TAG (t : Nat) : Fld := ⟨0x12000038 + 0x40 * t, 0, 64, 0⟩

/-- SRV_ADAPTER_W0.A_BASE, [40:0]. -/
def SRV_ADAPTER_A_BASE (t : Nat) : Fld := ⟨0x150000 + 0x20 * t, 0, 41, 0⟩

/-- SRV_ADAPTER_W0.A_FMT, [44:41]. -/
def SRV_ADAPTER_A_FMT (t : Nat) : Fld := ⟨0x150000 + 0x20 * t, 41, 4, 1⟩

/-- SRV_ADAPTER_W0.B_FMT, [48:45]. -/
def SRV_ADAPTER_B_FMT (t : Nat) : Fld := ⟨0x150000 + 0x20 * t, 45, 4, 1⟩

/-- SRV_ADAPTER_W0.RANK, [55:49]. -/
def SRV_ADAPTER_RANK (t : Nat) : Fld := ⟨0x150000 + 0x20 * t, 49, 7, 0⟩

/-- SRV_ADAPTER_W0.INSTANCE, [62:56]. -/
def SRV_ADAPTER_INSTANCE (t : Nat) : Fld := ⟨0x150000 + 0x20 * t, 56, 7, 0⟩

/-- SRV_ADAPTER_W0.VALID, [63]. -/
def SRV_ADAPTER_VALID (t : Nat) : Fld := ⟨0x150000 + 0x20 * t, 63, 1, 0⟩

/-- SRV_ADAPTER_W1.B_BASE, [40:0]. -/
def SRV_ADAPTER_B_BASE (t : Nat) : Fld := ⟨0x150008 + 0x20 * t, 0, 41, 0⟩

/-- SRV_ADAPTER_W2.A_LSTRIDE, [31:0]. -/
def SRV_ADAPTER_A_LSTRIDE (t : Nat) : Fld := ⟨0x150010 + 0x20 * t, 0, 32, 0⟩

/-- SRV_ADAPTER_W2.B_LSTRIDE, [63:32]. -/
def SRV_ADAPTER_B_LSTRIDE (t : Nat) : Fld := ⟨0x150010 + 0x20 * t, 32, 32, 0⟩

/-- SRV_ADAPTER_W3.OBJECT, [15:0]. -/
def SRV_ADAPTER_OBJECT (t : Nat) : Fld := ⟨0x150018 + 0x20 * t, 0, 16, 0⟩

/-- SRV_ADAPTER_W3.REFS, [31:16]. -/
def SRV_ADAPTER_REFS (t : Nat) : Fld := ⟨0x150018 + 0x20 * t, 16, 16, 0⟩

/-- TMAP_W0.TIER, [2:0]. -/
def TMAP_TIER (t : Nat) : Fld := ⟨0x10000000 + 0x10 * t, 0, 3, 0⟩

/-- TMAP_W0.WRITABLE, [3]. -/
def TMAP_WRITABLE (t : Nat) : Fld := ⟨0x10000000 + 0x10 * t, 3, 1, 0⟩

/-- TMAP_W0.MIGRATING, [4]. -/
def TMAP_MIGRATING (t : Nat) : Fld := ⟨0x10000000 + 0x10 * t, 4, 1, 0⟩

/-- TMAP_W0.REFETCH, [5]. -/
def TMAP_REFETCH (t : Nat) : Fld := ⟨0x10000000 + 0x10 * t, 5, 1, 0⟩

/-- TMAP_W0.ORIGIN_FAIL, [6]. -/
def TMAP_ORIGIN_FAIL (t : Nat) : Fld := ⟨0x10000000 + 0x10 * t, 6, 1, 0⟩

/-- TMAP_W0.STACK, [11:8]. -/
def TMAP_STACK (t : Nat) : Fld := ⟨0x10000000 + 0x10 * t, 8, 4, 0⟩

/-- TMAP_W0.LOC, [59:16]. -/
def TMAP_LOC (t : Nat) : Fld := ⟨0x10000000 + 0x10 * t, 16, 44, 0⟩

/-- TMAP_W1.OBJECT, [15:0]. -/
def TMAP_OBJECT (t : Nat) : Fld := ⟨0x10000008 + 0x10 * t, 0, 16, 0⟩

/-- TMAP_W1.HEAT, [31:16]. -/
def TMAP_HEAT (t : Nat) : Fld := ⟨0x10000008 + 0x10 * t, 16, 16, 0⟩

/-- TMAP_W1.POISONED, [39:32]. -/
def TMAP_POISONED (t : Nat) : Fld := ⟨0x10000008 + 0x10 * t, 32, 8, 0⟩

/-- OBJ_W0.BASE, [40:0]. -/
def OBJ_BASE (t : Nat) : Fld := ⟨0x12400000 + 0x40 * t, 0, 41, 0⟩

/-- OBJ_W0.VALID, [41]. -/
def OBJ_VALID (t : Nat) : Fld := ⟨0x12400000 + 0x40 * t, 41, 1, 0⟩

/-- OBJ_W0.WRITABLE, [42]. -/
def OBJ_WRITABLE (t : Nat) : Fld := ⟨0x12400000 + 0x40 * t, 42, 1, 0⟩

/-- OBJ_W0.INSTANCE, [49:43]. -/
def OBJ_INSTANCE (t : Nat) : Fld := ⟨0x12400000 + 0x40 * t, 43, 7, 0⟩

/-- OBJ_W0.PREF_TIER, [52:50]. -/
def OBJ_PREF_TIER (t : Nat) : Fld := ⟨0x12400000 + 0x40 * t, 50, 3, 0⟩

/-- OBJ_W1.EXTENTS, [21:0]. -/
def OBJ_EXTENTS (t : Nat) : Fld := ⟨0x12400008 + 0x40 * t, 0, 22, 0⟩

/-- OBJ_W1.STACK_MASK, [37:22]. -/
def OBJ_STACK_MASK (t : Nat) : Fld := ⟨0x12400008 + 0x40 * t, 22, 16, 0⟩

/-- OBJ_W1.ORIGIN_KIND, [40:38]. -/
def OBJ_ORIGIN_KIND (t : Nat) : Fld := ⟨0x12400008 + 0x40 * t, 38, 3, 0⟩

/-- OBJ_W2.ORIGIN, [63:0]. -/
def OBJ_ORIGIN (t : Nat) : Fld := ⟨0x12400010 + 0x40 * t, 0, 64, 0⟩

/-- OBJ_W3.WMAP, [15:0]. -/
def OBJ_WMAP (t : Nat) : Fld := ⟨0x12400018 + 0x40 * t, 0, 16, 0⟩

/-- OBJ_W4.REF_DIGEST, [63:0]. -/
def OBJ_REF_DIGEST (t : Nat) : Fld := ⟨0x12400020 + 0x40 * t, 0, 64, 0⟩

/-- OBJ_W5.LAST_DIGEST, [63:0]. -/
def OBJ_LAST_DIGEST (t : Nat) : Fld := ⟨0x12400028 + 0x40 * t, 0, 64, 0⟩

/-- OBJ_W6.REFETCH_CNT, [31:0]. -/
def OBJ_REFETCH_CNT (t : Nat) : Fld := ⟨0x12400030 + 0x40 * t, 0, 32, 0⟩

/-- RAD_CELL_W0.VALID, [0]. -/
def RAD_CELL_VALID (t : Nat) : Fld := ⟨0x281000 + 0x20 * t, 0, 1, 0⟩

/-- RAD_CELL_W0.ROLE, [2:1]. -/
def RAD_CELL_ROLE (t : Nat) : Fld := ⟨0x281000 + 0x20 * t, 1, 2, 0⟩

/-- RAD_CELL_W0.PORT, [4:3]. -/
def RAD_CELL_PORT (t : Nat) : Fld := ⟨0x281000 + 0x20 * t, 3, 2, 0⟩

/-- RAD_CELL_W0.PCID_HI, [17:5]. -/
def RAD_CELL_PCID_HI (t : Nat) : Fld := ⟨0x281000 + 0x20 * t, 5, 13, 0⟩

/-- RAD_CELL_W0.RX_ANT, [21:18]. -/
def RAD_CELL_RX_ANT (t : Nat) : Fld := ⟨0x281000 + 0x20 * t, 18, 4, 0⟩

/-- RAD_CELL_W0.TX_ANT, [24:22]. -/
def RAD_CELL_TX_ANT (t : Nat) : Fld := ⟨0x281000 + 0x20 * t, 22, 3, 0⟩

/-- RAD_CELL_W0.RATE, [26:25]. -/
def RAD_CELL_RATE (t : Nat) : Fld := ⟨0x281000 + 0x20 * t, 25, 2, 0⟩

/-- RAD_CELL_W0.NDFT, [29:27]. -/
def RAD_CELL_NDFT (t : Nat) : Fld := ⟨0x281000 + 0x20 * t, 27, 3, 0⟩

/-- RAD_CELL_W0.UL_FMT, [31:30]. -/
def RAD_CELL_UL_FMT (t : Nat) : Fld := ⟨0x281000 + 0x20 * t, 30, 2, 0⟩

/-- RAD_CELL_W0.DL_FMT, [33:32]. -/
def RAD_CELL_DL_FMT (t : Nat) : Fld := ⟨0x281000 + 0x20 * t, 32, 2, 0⟩

/-- RAD_CELL_W0.TILE_ENTRY, [38:34]. -/
def RAD_CELL_TILE_ENTRY (t : Nat) : Fld := ⟨0x281000 + 0x20 * t, 34, 5, 0⟩

/-- RAD_CELL_W0.SCALE1, [43:39]. -/
def RAD_CELL_SCALE1 (t : Nat) : Fld := ⟨0x281000 + 0x20 * t, 39, 5, 0⟩

/-- RAD_CELL_W0.SCALE2, [48:44]. -/
def RAD_CELL_SCALE2 (t : Nat) : Fld := ⟨0x281000 + 0x20 * t, 44, 5, 0⟩

/-- RAD_CELL_W0.DL_SCALE1, [53:49]. -/
def RAD_CELL_DL_SCALE1 (t : Nat) : Fld := ⟨0x281000 + 0x20 * t, 49, 5, 0⟩

/-- RAD_CELL_W0.DL_SCALE2, [58:54]. -/
def RAD_CELL_DL_SCALE2 (t : Nat) : Fld := ⟨0x281000 + 0x20 * t, 54, 5, 0⟩

/-- RAD_CELL_W1.RU_MAC, [47:0]. -/
def RAD_CELL_RU_MAC (t : Nat) : Fld := ⟨0x281008 + 0x20 * t, 0, 48, 0⟩

/-- RAD_CELL_W1.VLAN, [59:48]. -/
def RAD_CELL_VLAN (t : Nat) : Fld := ⟨0x281008 + 0x20 * t, 48, 12, 0⟩

/-- RAD_CELL_W1.VLAN_EN, [60]. -/
def RAD_CELL_VLAN_EN (t : Nat) : Fld := ⟨0x281008 + 0x20 * t, 60, 1, 0⟩

/-- RAD_CELL_W2.UL_CH, [8:0]. -/
def RAD_CELL_UL_CH (t : Nat) : Fld := ⟨0x281010 + 0x20 * t, 0, 9, 0⟩

/-- RAD_CELL_W2.DL_CH, [17:9]. -/
def RAD_CELL_DL_CH (t : Nat) : Fld := ⟨0x281010 + 0x20 * t, 9, 9, 0⟩

/-- RAD_CH.BIN, [9:0]. -/
def RAD_CH_BIN (t : Nat) : Fld := ⟨0x40000000 + 0x8 * t, 0, 10, 0⟩

/-- RAD_CH.UL_EN, [10]. -/
def RAD_CH_UL_EN (t : Nat) : Fld := ⟨0x40000000 + 0x8 * t, 10, 1, 0⟩

/-- RAD_CH.DL_EN, [11]. -/
def RAD_CH_DL_EN (t : Nat) : Fld := ⟨0x40000000 + 0x8 * t, 11, 1, 0⟩

/-- RAD_CH.COMB, [13:12]. -/
def RAD_CH_COMB (t : Nat) : Fld := ⟨0x40000000 + 0x8 * t, 12, 2, 0⟩

/-- RAD_CH.SURVEY, [14]. -/
def RAD_CH_SURVEY (t : Nat) : Fld := ⟨0x40000000 + 0x8 * t, 14, 1, 0⟩

/-- RAD_CH.MODE, [22:15]. -/
def RAD_CH_MODE (t : Nat) : Fld := ⟨0x40000000 + 0x8 * t, 15, 8, 0⟩

/-- TLS_REPLICA_W0.OBJECT, [15:0]. -/
def TLS_REPLICA_OBJECT (t : Nat) : Fld := ⟨0x3C4000 + 0x20 * t, 0, 16, 0⟩

/-- TLS_REPLICA_W0.N, [27:16]. -/
def TLS_REPLICA_N (t : Nat) : Fld := ⟨0x3C4000 + 0x20 * t, 16, 12, 0⟩

/-- TLS_REPLICA_W0.PROFILE, [31:28]. -/
def TLS_REPLICA_PROFILE (t : Nat) : Fld := ⟨0x3C4000 + 0x20 * t, 28, 4, 0⟩

/-- TLS_REPLICA_W0.GROUP, [63:32]. -/
def TLS_REPLICA_GROUP (t : Nat) : Fld := ⟨0x3C4000 + 0x20 * t, 32, 32, 0⟩

/-- TLS_REPLICA_W1.PEERS, [47:0]. -/
def TLS_REPLICA_PEERS (t : Nat) : Fld := ⟨0x3C4008 + 0x20 * t, 0, 48, 0⟩

/-- TLS_REPLICA_W1.PEER_VALID, [50:48]. -/
def TLS_REPLICA_PEER_VALID (t : Nat) : Fld := ⟨0x3C4008 + 0x20 * t, 48, 3, 0⟩

/-- TLS_REPLICA_W1.STATE, [53:51]. -/
def TLS_REPLICA_STATE (t : Nat) : Fld := ⟨0x3C4008 + 0x20 * t, 51, 3, 0⟩

/-- TLS_REPLICA_W1.VALID, [63]. -/
def TLS_REPLICA_VALID (t : Nat) : Fld := ⟨0x3C4008 + 0x20 * t, 63, 1, 0⟩

/-- TLS_REPLICA_W2.LAST, [63:0]. -/
def TLS_REPLICA_LAST (t : Nat) : Fld := ⟨0x3C4010 + 0x20 * t, 0, 64, 0⟩

/-- TLS_REPLICA_W3.ROUND, [31:0]. -/
def TLS_REPLICA_ROUND (t : Nat) : Fld := ⟨0x3C4018 + 0x20 * t, 0, 32, 0⟩

/-- TLS_CWIN_W0.BASE, [40:0]. -/
def TLS_CWIN_BASE (t : Nat) : Fld := ⟨0x3C6000 + 0x20 * t, 0, 41, 0⟩

/-- TLS_CWIN_W0.LINES, [58:41]. -/
def TLS_CWIN_LINES (t : Nat) : Fld := ⟨0x3C6000 + 0x20 * t, 41, 18, 0⟩

/-- TLS_CWIN_W0.KIND, [59]. -/
def TLS_CWIN_KIND (t : Nat) : Fld := ⟨0x3C6000 + 0x20 * t, 59, 1, 0⟩

/-- TLS_CWIN_W0.DRY, [60]. -/
def TLS_CWIN_DRY (t : Nat) : Fld := ⟨0x3C6000 + 0x20 * t, 60, 1, 0⟩

/-- TLS_CWIN_W0.STATE, [62:61]. -/
def TLS_CWIN_STATE (t : Nat) : Fld := ⟨0x3C6000 + 0x20 * t, 61, 2, 0⟩

/-- TLS_CWIN_W0.VALID, [63]. -/
def TLS_CWIN_VALID (t : Nat) : Fld := ⟨0x3C6000 + 0x20 * t, 63, 1, 0⟩

/-- TLS_CWIN_W1.PEER0, [15:0]. -/
def TLS_CWIN_PEER0 (t : Nat) : Fld := ⟨0x3C6008 + 0x20 * t, 0, 16, 0⟩

/-- TLS_CWIN_W1.PEER1, [31:16]. -/
def TLS_CWIN_PEER1 (t : Nat) : Fld := ⟨0x3C6008 + 0x20 * t, 16, 16, 0⟩

/-- TLS_CWIN_W1.COMPARE_NODE, [47:32]. -/
def TLS_CWIN_COMPARE_NODE (t : Nat) : Fld := ⟨0x3C6008 + 0x20 * t, 32, 16, 0⟩

/-- TLS_CWIN_W1.PEER_WIN, [53:48]. -/
def TLS_CWIN_PEER_WIN (t : Nat) : Fld := ⟨0x3C6008 + 0x20 * t, 48, 6, 0⟩

/-- TLS_CWIN_W1.TILE, [62:54]. -/
def TLS_CWIN_TILE (t : Nat) : Fld := ⟨0x3C6008 + 0x20 * t, 54, 9, 0⟩

/-- TLS_CWIN_W2.STATUS_OFF, [40:0]. -/
def TLS_CWIN_STATUS_OFF (t : Nat) : Fld := ⟨0x3C6010 + 0x20 * t, 0, 41, 0⟩

/-- TLS_CWIN_W3.ROUND, [31:0]. -/
def TLS_CWIN_ROUND (t : Nat) : Fld := ⟨0x3C6018 + 0x20 * t, 0, 32, 0⟩

/-- TLS_STRAG_W0.PROG_BASE, [40:0]. -/
def TLS_STRAG_PROG_BASE (t : Nat) : Fld := ⟨0x3C7000 + 0x10 * t, 0, 41, 0⟩

/-- TLS_STRAG_W0.MEMBERS, [44:41]. -/
def TLS_STRAG_MEMBERS (t : Nat) : Fld := ⟨0x3C7000 + 0x10 * t, 41, 4, 0⟩

/-- TLS_STRAG_W0.WAIT_TICKS, [56:45]. -/
def TLS_STRAG_WAIT_TICKS (t : Nat) : Fld := ⟨0x3C7000 + 0x10 * t, 45, 12, 0⟩

/-- TLS_STRAG_W0.VALID, [63]. -/
def TLS_STRAG_VALID (t : Nat) : Fld := ⟨0x3C7000 + 0x10 * t, 63, 1, 0⟩

/-- TLS_STRAG_W1.SPARE, [15:0]. -/
def TLS_STRAG_SPARE (t : Nat) : Fld := ⟨0x3C7008 + 0x10 * t, 0, 16, 0⟩

/-- TLS_STRAG_W1.SPARE_GROUP, [19:16]. -/
def TLS_STRAG_SPARE_GROUP (t : Nat) : Fld := ⟨0x3C7008 + 0x10 * t, 16, 4, 0⟩

/-- TLS_STRAG_W1.BACKUPS, [27:20]. -/
def TLS_STRAG_BACKUPS (t : Nat) : Fld := ⟨0x3C7008 + 0x10 * t, 20, 8, 0⟩

/-- MEM_CMD_W0.W, [63:0]. -/
def MEM_CMD_W0_W : Fld := ⟨0x180010, 0, 64, 0⟩

/-- MEM_CMD_W1.W, [63:0]. -/
def MEM_CMD_W1_W : Fld := ⟨0x180018, 0, 64, 0⟩

/-- MEM_CMD_W2.W, [63:0]. -/
def MEM_CMD_W2_W : Fld := ⟨0x180020, 0, 64, 0⟩

/-- SQ_PROD.V, [31:0]. -/
def SQ_PROD_V (t : Nat) : Fld := ⟨0x20000010 + 0x10000 * t, 0, 32, 0⟩

/-- SQ_CONS.V, [31:0]. -/
def SQ_CONS_V (t : Nat) : Fld := ⟨0x20000014 + 0x10000 * t, 0, 32, 0⟩

/-- CQ_PROD.V, [31:0]. -/
def CQ_PROD_V (t : Nat) : Fld := ⟨0x20000020 + 0x10000 * t, 0, 32, 0⟩

/-- CQ_CONS.V, [31:0]. -/
def CQ_CONS_V (t : Nat) : Fld := ⟨0x20000024 + 0x10000 * t, 0, 32, 0⟩

/-- IQ_PROD.V, [31:0]. -/
def IQ_PROD_V (t : Nat) : Fld := ⟨0x20000030 + 0x10000 * t, 0, 32, 0⟩

/-- IQ_CONS.V, [31:0]. -/
def IQ_CONS_V (t : Nat) : Fld := ⟨0x20000034 + 0x10000 * t, 0, 32, 0⟩

/-- RING_LOST.V, [31:0]. -/
def RING_LOST_V (t : Nat) : Fld := ⟨0x20000038 + 0x10000 * t, 0, 32, 0⟩

/-- MBOX_OUT.W, [63:0]. -/
def MBOX_OUT_W (t : Nat) (i : Nat) : Fld := ⟨0x20000040 + 0x10000 * t + 0x8 * i, 0, 64, 0⟩

/-- MBOX_IN.W, [63:0]. -/
def MBOX_IN_W (t : Nat) (i : Nat) : Fld := ⟨0x20000080 + 0x10000 * t + 0x8 * i, 0, 64, 0⟩

/-- GGC_PROG.W, [31:0]. -/
def GGC_PROG_W (t : Nat) : Fld := ⟨0x310000 + 0x4 * t, 0, 32, 0⟩

/-- GGC_DATA.W, [31:0]. -/
def GGC_DATA_W (t : Nat) : Fld := ⟨0x320000 + 0x4 * t, 0, 32, 0⟩

/-- Part 1 of the LTH registers. -/
def rowsLTH0 : List RegRow :=
  [⟨"LTH_CTRL", 0x40000, [], false, [⟨.rw, 0, 1, 0⟩]⟩,
   ⟨"LTH_STATUS", 0x40004, [], false, [⟨.ro, 0, 1, 0⟩, ⟨.ro, 1, 1, 0⟩, ⟨.ro, 2, 1, 0⟩, ⟨.ro, 3, 1, 0⟩, ⟨.w1c, 4, 1, 0⟩, ⟨.ro, 8, 8, 0⟩]⟩,
   ⟨"LTH_TICK_CFG", 0x40008, [], false, [⟨.rw, 0, 4, 2⟩, ⟨.rw, 4, 2, 0⟩]⟩,
   ⟨"LTH_ADMIT_DETAIL", 0x4000C, [], false, [⟨.ro, 0, 10, 0⟩, ⟨.ro, 10, 3, 0⟩]⟩,
   ⟨"LTH_TICK_COUNT", 0x40010, [], true, [⟨.ro, 0, 64, 0⟩]⟩,
   ⟨"LTH_TICK_EPOCH", 0x40018, [], true, [⟨.rw, 0, 64, 0⟩]⟩,
   ⟨"LTH_SYNC_CFG", 0x40020, [], false, [⟨.rw, 0, 16, 0⟩, ⟨.rw, 16, 4, 3⟩]⟩,
   ⟨"LTH_SYNC_STATUS", 0x40024, [], false, [⟨.ro, 0, 16, 0⟩, ⟨.ro, 16, 16, 0⟩]⟩,
   ⟨"LTH_RADIO_CFG", 0x40028, [], false, [⟨.rw, 0, 7, 25⟩, ⟨.rw, 8, 7, 20⟩]⟩,
   ⟨"LTH_SWAP_CFG", 0x40030, [], false, [⟨.rw, 0, 12, 40⟩]⟩,
   ⟨"LTH_SLOT_MISS_CNT", 0x40034, [], false, [⟨.rc, 0, 32, 0⟩]⟩,
   ⟨"LTH_CUT_CNT", 0x40038, [], false, [⟨.rc, 0, 32, 0⟩]⟩]

/-- Part 2 of the LTH registers. -/
def rowsLTH1 : List RegRow :=
  [⟨"LTH_SWAP_CNT", 0x4003C, [], false, [⟨.rc, 0, 32, 0⟩]⟩,
   ⟨"LTH_PREEMPT_MAX", 0x40040, [], false, [⟨.rc, 0, 8, 0⟩, ⟨.rc, 8, 8, 0⟩]⟩,
   ⟨"LTH_RADIO_TILE", 0x40100, [(0x4, 32)], false, [⟨.rw, 0, 9, 0⟩, ⟨.rw, 12, 4, 0⟩, ⟨.rw, 31, 1, 0⟩]⟩,
   ⟨"LTH_RADIO_LOAD", 0x40180, [(0x4, 32)], false, [⟨.ro, 0, 20, 0⟩]⟩,
   ⟨"LTH_CTX_CMD", 0x40048, [], true, [⟨.wo, 0, 12, 0⟩, ⟨.wo, 12, 4, 0⟩, ⟨.wo, 16, 16, 0⟩]⟩,
   ⟨"LTH_CTX_RESULT", 0x40050, [], true, [⟨.rc, 0, 8, 0⟩, ⟨.rc, 8, 4, 0⟩, ⟨.rc, 12, 12, 0⟩, ⟨.rc, 24, 16, 0⟩, ⟨.rc, 63, 1, 0⟩]⟩,
   ⟨"LTH_CTX_W0", 0x41000, [(0x10, 4096)], true, [⟨.rw, 0, 9, 0⟩, ⟨.rw, 9, 5, 0⟩, ⟨.rw, 14, 1, 0⟩, ⟨.ro, 16, 1, 0⟩, ⟨.ro, 17, 1, 0⟩, ⟨.ro, 18, 2, 0⟩]⟩,
   ⟨"LTH_CTX_W1", 0x41008, [(0x10, 4096)], true, [⟨.rw, 0, 41, 0⟩]⟩]

/-- The registers of block LTH (R10). -/
def rowsLTH : List RegRow := rowsLTH0 ++ rowsLTH1

/-- Part 1 of the CUB registers. -/
def rowsCUB0 : List RegRow :=
  [⟨"CUB_GATE_CFG", 0x80000, [], false, [⟨.rw, 0, 1, 1⟩]⟩,
   ⟨"CUB_LAT_SUMMARY", 0x80004, [], false, [⟨.ro, 0, 9, 0⟩]⟩,
   ⟨"CUB_TILE_STATUS", 0x81000, [(0x400, 320)], false, [⟨.ro, 0, 1, 0⟩, ⟨.ro, 1, 2, 0⟩, ⟨.w1c, 3, 1, 0⟩, ⟨.w1c, 4, 1, 0⟩]⟩,
   ⟨"CUB_TILE_LAT", 0x81004, [(0x400, 320)], false, [⟨.ro, 0, 4, 4⟩, ⟨.rc, 4, 4, 0⟩, ⟨.ro, 8, 8, 0⟩]⟩,
   ⟨"CUB_TILE_SPARE", 0x81008, [(0x400, 320)], false, [⟨.ro, 0, 4, 15⟩, ⟨.ro, 4, 4, 15⟩, ⟨.ro, 8, 4, 15⟩, ⟨.ro, 12, 4, 15⟩, ⟨.ro, 16, 4, 15⟩, ⟨.ro, 20, 4, 15⟩, ⟨.ro, 24, 4, 15⟩, ⟨.ro, 28, 4, 15⟩]⟩,
   ⟨"CUB_TILE_SKEW", 0x8100C, [(0x400, 320)], false, [⟨.ro, 0, 1, 0⟩]⟩,
   ⟨"CUB_TILE_STEPS", 0x81010, [(0x400, 320)], true, [⟨.rc, 0, 64, 0⟩]⟩,
   ⟨"CUB_TILE_BUBBLES", 0x81018, [(0x400, 320)], true, [⟨.rc, 0, 64, 0⟩]⟩,
   ⟨"CUB_CFG", 0x81100, [(0x400, 320), (0x20, 4)], false, [⟨.ro, 0, 4, 3⟩, ⟨.ro, 4, 4, 3⟩, ⟨.ro, 8, 1, 0⟩, ⟨.ro, 9, 3, 0⟩, ⟨.ro, 12, 4, 0⟩]⟩,
   ⟨"CUB_MASK_MN", 0x81104, [(0x400, 320), (0x20, 4)], false, [⟨.ro, 0, 16, 65535⟩, ⟨.ro, 16, 16, 65535⟩]⟩,
   ⟨"CUB_MASK_K", 0x81108, [(0x400, 320), (0x20, 4)], true, [⟨.ro, 0, 64, 0xFFFFFFFFFFFFFFFF⟩]⟩,
   ⟨"CUB_TILE_NUM", 0x81020, [(0x400, 320)], false, [⟨.w1c, 0, 1, 0⟩, ⟨.w1c, 1, 1, 0⟩, ⟨.w1c, 2, 1, 0⟩, ⟨.w1c, 3, 1, 0⟩, ⟨.w1c, 4, 1, 0⟩, ⟨.w1c, 5, 1, 0⟩]⟩]

/-- Part 2 of the CUB registers. -/
def rowsCUB1 : List RegRow :=
  [⟨"CUB_SEQ_PART", 0x81200, [(0x400, 320), (0x10, 4)], false, [⟨.ro, 0, 16, 0⟩, ⟨.ro, 16, 12, 0⟩, ⟨.ro, 31, 1, 0⟩]⟩,
   ⟨"CUB_SEQ_FAULT", 0x81204, [(0x400, 320), (0x10, 4)], false, [⟨.ro, 0, 22, 0⟩, ⟨.ro, 22, 6, 0⟩, ⟨.ro, 28, 1, 0⟩, ⟨.w1c, 31, 1, 0⟩]⟩,
   ⟨"CUB_SEQ_SEM", 0x81240, [(0x400, 320), (0x20, 4), (0x4, 8)], false, [⟨.ro, 0, 32, 0⟩]⟩,
   ⟨"CUB_SRAM_ECC", 0x812C0, [(0x400, 320)], false, [⟨.rc, 0, 16, 0⟩, ⟨.ro, 16, 4, 0⟩]⟩,
   ⟨"CUB_CHK_CFG", 0x80008, [], false, [⟨.rw, 0, 1, 1⟩, ⟨.rw, 1, 1, 1⟩]⟩,
   ⟨"CUB_CHK_COUNT", 0x8000C, [], false, [⟨.rc, 0, 16, 0⟩, ⟨.rc, 16, 16, 0⟩]⟩,
   ⟨"CUB_ROW_MAP", 0x80040, [(0x4, 16)], false, [⟨.ro, 0, 5, 31⟩, ⟨.ro, 5, 3, 0⟩, ⟨.ro, 8, 21, 0⟩]⟩,
   ⟨"CUB_DISABLED", 0x80080, [(0x4, 10)], false, [⟨.ro, 0, 32, 0⟩]⟩,
   ⟨"CUB_LIVE_TILES", 0x800A8, [], false, [⟨.ro, 0, 9, 320⟩]⟩,
   ⟨"CUB_TILE_CHK", 0x81028, [(0x400, 320)], false, [⟨.rc, 0, 16, 0⟩, ⟨.ro, 16, 4, 0⟩, ⟨.ro, 20, 1, 0⟩]⟩,
   ⟨"CUB_TILE_PHYS", 0x8102C, [(0x400, 320)], false, [⟨.ro, 0, 5, 0⟩, ⟨.ro, 5, 1, 0⟩]⟩]

/-- The registers of block CUB (R10). -/
def rowsCUB : List RegRow := rowsCUB0 ++ rowsCUB1

/-- Part 1 of the SRV registers. -/
def rowsSRV0 : List RegRow :=
  [⟨"SRV_CTRL", 0x100000, [], false, [⟨.rw, 0, 1, 0⟩, ⟨.rw, 1, 1, 0⟩]⟩,
   ⟨"SRV_STATUS", 0x100004, [], false, [⟨.ro, 0, 1, 0⟩, ⟨.w1c, 1, 1, 0⟩, ⟨.w1c, 2, 1, 0⟩, ⟨.rc, 3, 16, 0⟩]⟩,
   ⟨"SRV_ADMIT_CFG", 0x100008, [], false, [⟨.rw, 0, 9, 64⟩, ⟨.rw, 9, 17, 4096⟩]⟩,
   ⟨"SRV_KV_CFG", 0x10000C, [], false, [⟨.rw, 0, 25, 0⟩]⟩,
   ⟨"SRV_VTIME", 0x100010, [], true, [⟨.ro, 0, 64, 0⟩]⟩,
   ⟨"SRV_STEP_COUNT", 0x100018, [], true, [⟨.ro, 0, 64, 0⟩]⟩,
   ⟨"SRV_KV_BASE", 0x100020, [], true, [⟨.rw, 16, 25, 0⟩]⟩,
   ⟨"SRV_KV_LIST", 0x100028, [], true, [⟨.rw, 0, 41, 0⟩]⟩,
   ⟨"SRV_KV_FREE", 0x100030, [], false, [⟨.ro, 0, 25, 0⟩]⟩,
   ⟨"SRV_KV_LOW", 0x100034, [], false, [⟨.rc, 0, 25, 0⟩]⟩,
   ⟨"SRV_PAUSE_CNT", 0x100038, [], false, [⟨.rc, 0, 32, 0⟩]⟩,
   ⟨"SRV_JOIN_WAIT_CNT", 0x10003C, [], false, [⟨.rc, 0, 32, 0⟩]⟩]

/-- Part 2 of the SRV registers. -/
def rowsSRV1 : List RegRow :=
  [⟨"SRV_ABORT", 0x100040, [], true, [⟨.wo, 0, 16, 0⟩, ⟨.wo, 16, 8, 0⟩]⟩,
   ⟨"SRV_PROF_CFG", 0x100100, [(0x20, 16)], false, [⟨.rw, 0, 9, 16⟩, ⟨.rw, 9, 8, 1⟩, ⟨.rw, 17, 1, 0⟩]⟩,
   ⟨"SRV_PROF_LIMIT", 0x100108, [(0x20, 16)], true, [⟨.rw, 0, 20, 8192⟩, ⟨.rw, 32, 20, 32768⟩]⟩,
   ⟨"SRV_PROF_CHAIN", 0x100110, [(0x20, 16)], true, [⟨.rw, 0, 41, 0⟩, ⟨.rw, 41, 15, 0⟩]⟩,
   ⟨"SRV_PROF_STEPBUF", 0x100118, [(0x20, 16)], true, [⟨.rw, 0, 41, 0⟩]⟩,
   ⟨"SRV_Q_CTRL", 0x110000, [(0x10, 16384)], false, [⟨.rw, 0, 7, 0⟩, ⟨.rw, 7, 1, 0⟩, ⟨.rw, 8, 1, 0⟩, ⟨.rw, 9, 4, 0⟩, ⟨.rw, 16, 16, 1⟩]⟩,
   ⟨"SRV_Q_RATE", 0x110004, [(0x10, 16384)], false, [⟨.rw, 0, 24, 0⟩]⟩,
   ⟨"SRV_Q_BURST", 0x110008, [(0x10, 16384)], false, [⟨.rw, 0, 24, 0⟩]⟩,
   ⟨"SRV_Q_CREDIT", 0x11000C, [(0x10, 16384)], false, [⟨.ro, 0, 32, 0⟩]⟩,
   ⟨"SRV_ADAPTER_W0", 0x150000, [(0x20, 4096)], true, [⟨.rw, 0, 41, 0⟩, ⟨.rw, 41, 4, 1⟩, ⟨.rw, 45, 4, 1⟩, ⟨.rw, 49, 7, 0⟩, ⟨.rw, 56, 7, 0⟩, ⟨.rw, 63, 1, 0⟩]⟩,
   ⟨"SRV_ADAPTER_W1", 0x150008, [(0x20, 4096)], true, [⟨.rw, 0, 41, 0⟩]⟩,
   ⟨"SRV_ADAPTER_W2", 0x150010, [(0x20, 4096)], true, [⟨.rw, 0, 32, 0⟩, ⟨.rw, 32, 32, 0⟩]⟩]

/-- Part 3 of the SRV registers. -/
def rowsSRV2 : List RegRow :=
  [⟨"SRV_ADAPTER_W3", 0x150018, [(0x20, 4096)], true, [⟨.rw, 0, 16, 0⟩, ⟨.ro, 16, 16, 0⟩]⟩]

/-- The registers of block SRV (R10). -/
def rowsSRV : List RegRow := rowsSRV0 ++ rowsSRV1 ++ rowsSRV2

/-- Part 1 of the MEM registers. -/
def rowsMEM0 : List RegRow :=
  [⟨"MEM_CTRL", 0x180000, [], false, [⟨.rw, 0, 1, 1⟩]⟩,
   ⟨"MEM_STATUS", 0x180004, [], false, [⟨.w1c, 0, 1, 0⟩, ⟨.w1c, 1, 1, 0⟩, ⟨.w1c, 2, 1, 0⟩, ⟨.w1c, 3, 1, 0⟩, ⟨.ro, 4, 1, 0⟩, ⟨.ro, 5, 7, 0⟩]⟩,
   ⟨"MEM_SCRUB_CFG", 0x180008, [], false, [⟨.rw, 0, 8, 24⟩]⟩,
   ⟨"MEM_HEAT_CFG", 0x18000C, [], false, [⟨.rw, 0, 12, 4000⟩]⟩,
   ⟨"MEM_CMD_RESULT", 0x180028, [], true, [⟨.rc, 0, 8, 0⟩, ⟨.rc, 8, 8, 0⟩, ⟨.rc, 16, 16, 0⟩, ⟨.rc, 32, 22, 0⟩, ⟨.rc, 63, 1, 0⟩]⟩,
   ⟨"MEM_LAST_UE", 0x180030, [], true, [⟨.ro, 0, 41, 0⟩, ⟨.ro, 41, 4, 0⟩, ⟨.ro, 45, 3, 0⟩, ⟨.ro, 48, 1, 0⟩]⟩,
   ⟨"MEM_STACK_ECC", 0x180100, [(0x4, 16)], false, [⟨.rc, 0, 16, 0⟩, ⟨.rc, 16, 8, 0⟩, ⟨.rc, 24, 8, 0⟩]⟩,
   ⟨"MEM_STACK_FREE", 0x180140, [(0x4, 16)], false, [⟨.ro, 0, 7, 64⟩, ⟨.ro, 8, 17, 0x10000⟩]⟩,
   ⟨"MEM_STACK_RETIRED", 0x180180, [(0x4, 16)], false, [⟨.ro, 0, 7, 0⟩, ⟨.ro, 8, 17, 0⟩]⟩,
   ⟨"MEM_CTX_BIND", 0x1C0000, [(0x20, 4096), (0x4, 8)], false, [⟨.rw, 0, 16, 0⟩, ⟨.rw, 31, 1, 0⟩]⟩,
   ⟨"MEM_CMD_W0", 0x180010, [], true, [⟨.wo, 0, 64, 0⟩]⟩,
   ⟨"MEM_CMD_W1", 0x180018, [], true, [⟨.wo, 0, 64, 0⟩]⟩]

/-- Part 2 of the MEM registers. -/
def rowsMEM1 : List RegRow :=
  [⟨"MEM_CMD_W2", 0x180020, [], true, [⟨.wo, 0, 64, 0⟩]⟩]

/-- The registers of block MEM (R10). -/
def rowsMEM : List RegRow := rowsMEM0 ++ rowsMEM1

/-- Part 1 of the UNL registers. -/
def rowsUNL0 : List RegRow :=
  [⟨"UNL_CTRL", 0x200000, [], false, [⟨.rw, 0, 1, 0⟩]⟩,
   ⟨"UNL_STATUS", 0x200004, [], false, [⟨.ro, 0, 12, 0⟩, ⟨.w1c, 12, 1, 0⟩, ⟨.w1c, 13, 1, 0⟩]⟩,
   ⟨"UNL_NODE", 0x200008, [], false, [⟨.rw, 0, 16, 0⟩, ⟨.ro, 16, 16, 0⟩]⟩,
   ⟨"UNL_COMBINE_CFG", 0x20000C, [], false, [⟨.rw, 0, 7, 64⟩, ⟨.rw, 7, 1, 1⟩]⟩,
   ⟨"UNL_QUAD", 0x200010, [(0x4, 4)], false, [⟨.rw, 0, 16, 0⟩, ⟨.rw, 31, 1, 0⟩]⟩,
   ⟨"UNL_QCACHE_CFG", 0x200020, [], false, [⟨.rw, 0, 5, 0⟩]⟩,
   ⟨"UNL_OP_W0", 0x200040, [], true, [⟨.wo, 0, 8, 0⟩, ⟨.wo, 8, 4, 0⟩, ⟨.wo, 12, 1, 0⟩, ⟨.wo, 16, 16, 0⟩]⟩,
   ⟨"UNL_OP_W1", 0x200048, [], true, [⟨.wo, 0, 48, 0⟩]⟩,
   ⟨"UNL_OP_W2", 0x200050, [], true, [⟨.wo, 0, 64, 0⟩]⟩,
   ⟨"UNL_OP_W3", 0x200058, [], true, [⟨.wo, 0, 64, 0⟩]⟩,
   ⟨"UNL_OP_RESULT", 0x200060, [], true, [⟨.rc, 0, 8, 0⟩, ⟨.rc, 8, 8, 0⟩, ⟨.rc, 16, 16, 0⟩, ⟨.rc, 63, 1, 0⟩]⟩,
   ⟨"UNL_OP_DATA", 0x200068, [], true, [⟨.ro, 0, 64, 0⟩]⟩]

/-- Part 2 of the UNL registers. -/
def rowsUNL1 : List RegRow :=
  [⟨"UNL_ERR_POP", 0x200070, [], true, [⟨.rc, 0, 8, 0⟩, ⟨.rc, 8, 16, 0⟩, ⟨.rc, 24, 16, 0⟩, ⟨.rc, 40, 8, 0⟩, ⟨.rc, 63, 1, 0⟩]⟩,
   ⟨"UNL_ERR_OFFSET", 0x200078, [], true, [⟨.ro, 0, 48, 0⟩]⟩,
   ⟨"UNL_DISCARD_CNT", 0x200080, [], false, [⟨.rc, 0, 16, 0⟩, ⟨.rc, 16, 16, 0⟩]⟩,
   ⟨"UNL_PORT_CFG", 0x200100, [(0x20, 12)], false, [⟨.rw, 0, 1, 0⟩, ⟨.rw, 1, 1, 0⟩]⟩,
   ⟨"UNL_PORT_STATUS", 0x200104, [(0x20, 12)], false, [⟨.ro, 0, 2, 0⟩, ⟨.ro, 2, 3, 0⟩, ⟨.ro, 5, 16, 0⟩]⟩,
   ⟨"UNL_PORT_REPLAY", 0x200108, [(0x20, 12)], false, [⟨.rc, 0, 16, 0⟩, ⟨.rc, 16, 8, 0⟩, ⟨.rc, 24, 8, 0⟩]⟩,
   ⟨"UNL_GEN_PAIR", 0x220000, [(0x4, 32768)], false, [⟨.ro, 0, 16, 0⟩, ⟨.ro, 16, 16, 0⟩]⟩,
   ⟨"UNL_ROUTE", 0x240000, [(0x4, 65536)], false, [⟨.rw, 0, 4, 15⟩, ⟨.rw, 4, 4, 15⟩, ⟨.rw, 8, 4, 15⟩, ⟨.rw, 12, 1, 0⟩]⟩]

/-- The registers of block UNL (R10). -/
def rowsUNL : List RegRow := rowsUNL0 ++ rowsUNL1

/-- Part 1 of the RAD registers. -/
def rowsRAD0 : List RegRow :=
  [⟨"RAD_CTRL", 0x280000, [], false, [⟨.rw, 0, 1, 0⟩]⟩,
   ⟨"RAD_STATUS", 0x280004, [], false, [⟨.ro, 0, 10, 0⟩, ⟨.w1c, 10, 1, 0⟩]⟩,
   ⟨"RAD_FRAME_CFG", 0x280008, [], false, [⟨.rw, 0, 12, 40⟩, ⟨.rw, 12, 6, 2⟩, ⟨.rw, 18, 12, 1024⟩]⟩,
   ⟨"RAD_TIMING", 0x280010, [], true, [⟨.rw, 0, 10, 160⟩, ⟨.rw, 10, 10, 560⟩, ⟨.rw, 20, 10, 600⟩, ⟨.rw, 30, 10, 950⟩]⟩,
   ⟨"RAD_CFG_CTRL", 0x280018, [], false, [⟨.wo, 0, 1, 0⟩, ⟨.rw, 1, 1, 0⟩, ⟨.ro, 2, 1, 0⟩, ⟨.ro, 8, 8, 0⟩]⟩,
   ⟨"RAD_CFG_ERR", 0x28001C, [], false, [⟨.ro, 0, 9, 0⟩, ⟨.ro, 9, 9, 0⟩, ⟨.ro, 18, 4, 0⟩]⟩,
   ⟨"RAD_CH_SEL", 0x280020, [], false, [⟨.rw, 0, 9, 0⟩]⟩,
   ⟨"RAD_ROLE_CMD", 0x280024, [], false, [⟨.rw, 0, 9, 0⟩, ⟨.rw, 9, 2, 0⟩, ⟨.ro, 16, 8, 0⟩]⟩,
   ⟨"RAD_PROTO_CFG", 0x280200, [(0x4, 7)], false, [⟨.rw, 0, 3, 3⟩]⟩,
   ⟨"RAD_PROTO", 0x28A000, [(0x1000, 7), (0x4, 1024)], false, [⟨.rw, 0, 16, 0⟩, ⟨.rw, 16, 16, 0⟩]⟩,
   ⟨"RAD_PORT_CFG", 0x280100, [(0x40, 4)], false, [⟨.rw, 0, 1, 0⟩, ⟨.ro, 1, 1, 0⟩]⟩,
   ⟨"RAD_PORT_MAC", 0x280108, [(0x40, 4)], true, [⟨.rw, 0, 48, 0⟩]⟩]

/-- Part 2 of the RAD registers. -/
def rowsRAD1 : List RegRow :=
  [⟨"RAD_PORT_DISC", 0x280110, [(0x40, 4)], true, [⟨.rc, 0, 16, 0⟩, ⟨.rc, 16, 16, 0⟩, ⟨.rc, 32, 16, 0⟩, ⟨.rc, 48, 16, 0⟩]⟩,
   ⟨"RAD_PORT_DELAY", 0x280118, [(0x40, 4)], true, [⟨.ro, 0, 32, 0⟩, ⟨.ro, 32, 8, 0⟩, ⟨.ro, 63, 1, 0⟩]⟩,
   ⟨"RAD_CELL_STAT", 0x285000, [(0x8, 512)], true, [⟨.rc, 0, 16, 0⟩, ⟨.rc, 16, 16, 0⟩, ⟨.rc, 32, 16, 0⟩]⟩,
   ⟨"RAD_RING_BASE", 0x2A0000, [(0x20, 1024)], true, [⟨.rw, 12, 29, 0⟩]⟩,
   ⟨"RAD_RING_CFG", 0x2A0008, [(0x20, 1024)], false, [⟨.rw, 0, 5, 0⟩, ⟨.rw, 5, 3, 0⟩, ⟨.rw, 8, 1, 0⟩, ⟨.rw, 31, 1, 0⟩]⟩,
   ⟨"RAD_RING_PROD", 0x2A000C, [(0x20, 1024)], false, [⟨.ringProd, 0, 32, 0⟩]⟩,
   ⟨"RAD_RING_CONS", 0x2A0010, [(0x20, 1024)], false, [⟨.ringCons, 0, 32, 0⟩]⟩,
   ⟨"RAD_RING_LOST", 0x2A0014, [(0x20, 1024)], false, [⟨.rc, 0, 32, 0⟩]⟩,
   ⟨"RAD_RSSI_CAL", 0x2B0000, [(0x4, 512)], false, [⟨.rw, 0, 16, 0⟩, ⟨.rw, 16, 16, 0⟩]⟩,
   ⟨"RAD_MODEM_STAT", 0x2B1000, [(0x8, 512)], true, [⟨.rc, 0, 16, 0⟩, ⟨.rc, 16, 16, 0⟩, ⟨.rc, 32, 16, 0⟩, ⟨.rc, 48, 16, 0⟩]⟩,
   ⟨"RAD_CE_LOAD", 0x2B2000, [], false, [⟨.ro, 0, 32, 0⟩]⟩,
   ⟨"RAD_CE_PEAK", 0x2B2004, [], false, [⟨.rc, 0, 32, 0⟩]⟩]

/-- Part 3 of the RAD registers. -/
def rowsRAD2 : List RegRow :=
  [⟨"RAD_CELL_W0", 0x281000, [(0x20, 512)], true, [⟨.rw, 0, 1, 0⟩, ⟨.rw, 1, 2, 0⟩, ⟨.rw, 3, 2, 0⟩, ⟨.rw, 5, 13, 0⟩, ⟨.rw, 18, 4, 0⟩, ⟨.rw, 22, 3, 0⟩, ⟨.rw, 25, 2, 0⟩, ⟨.rw, 27, 3, 0⟩, ⟨.rw, 30, 2, 0⟩, ⟨.rw, 32, 2, 0⟩, ⟨.rw, 34, 5, 0⟩, ⟨.rw, 39, 5, 0⟩, ⟨.rw, 44, 5, 0⟩, ⟨.rw, 49, 5, 0⟩, ⟨.rw, 54, 5, 0⟩]⟩,
   ⟨"RAD_CELL_W1", 0x281008, [(0x20, 512)], true, [⟨.rw, 0, 48, 0⟩, ⟨.rw, 48, 12, 0⟩, ⟨.rw, 60, 1, 0⟩]⟩,
   ⟨"RAD_CELL_W2", 0x281010, [(0x20, 512)], true, [⟨.ro, 0, 9, 0⟩, ⟨.ro, 9, 9, 0⟩]⟩,
   ⟨"RAD_CELL_W3", 0x281018, [(0x20, 512)], true, []⟩]

/-- The registers of block RAD (R10). -/
def rowsRAD : List RegRow := rowsRAD0 ++ rowsRAD1 ++ rowsRAD2

/-- Part 1 of the GGC registers. -/
def rowsGGC0 : List RegRow :=
  [⟨"GGC_CTRL", 0x300000, [], false, [⟨.rw, 0, 1, 0⟩]⟩,
   ⟨"GGC_STATUS", 0x300004, [], false, [⟨.ro, 0, 1, 0⟩, ⟨.w1c, 1, 1, 0⟩]⟩,
   ⟨"GGC_WIN_SEL", 0x300008, [], false, [⟨.rw, 0, 9, 0⟩, ⟨.rw, 9, 1, 0⟩]⟩,
   ⟨"GGC_DOORBELL", 0x30000C, [], false, [⟨.wo, 0, 9, 0⟩]⟩,
   ⟨"GGC_CORE_STAT", 0x301000, [(0x10, 512)], false, [⟨.ro, 0, 1, 0⟩, ⟨.ro, 1, 5, 0⟩, ⟨.ro, 6, 12, 0⟩]⟩,
   ⟨"GGC_FAULT", 0x301004, [(0x10, 512)], false, [⟨.ro, 0, 12, 0⟩, ⟨.ro, 12, 4, 0⟩, ⟨.w1c, 31, 1, 0⟩]⟩,
   ⟨"GGC_INT_MAX", 0x301008, [(0x10, 512)], false, [⟨.rc, 0, 24, 0⟩]⟩,
   ⟨"GGC_LOAD", 0x30100C, [(0x10, 512)], false, [⟨.ro, 0, 21, 0⟩]⟩,
   ⟨"GGC_IN_CFG", 0x304000, [(0x8, 512)], false, [⟨.rw, 0, 18, 0⟩, ⟨.rw, 18, 14, 0⟩]⟩,
   ⟨"GGC_OUT_CFG", 0x304004, [(0x8, 512)], false, [⟨.rw, 0, 18, 0⟩, ⟨.rw, 18, 14, 0⟩]⟩,
   ⟨"GGC_PROG", 0x310000, [(0x4, 8192)], false, [⟨.rw, 0, 32, 0⟩]⟩,
   ⟨"GGC_DATA", 0x320000, [(0x4, 32768)], false, [⟨.rw, 0, 32, 0⟩]⟩]

/-- The registers of block GGC (R10). -/
def rowsGGC : List RegRow := rowsGGC0

/-- Part 1 of the TSU registers. -/
def rowsTSU0 : List RegRow :=
  [⟨"TSU_CTRL", 0x380000, [], false, [⟨.rw, 0, 1, 1⟩, ⟨.rw, 1, 2, 0⟩, ⟨.w1s, 3, 1, 0⟩]⟩,
   ⟨"TSU_STATUS", 0x380004, [], false, [⟨.ro, 0, 1, 0⟩, ⟨.ro, 1, 1, 0⟩, ⟨.ro, 2, 1, 0⟩, ⟨.ro, 3, 1, 0⟩, ⟨.w1c, 4, 1, 0⟩]⟩,
   ⟨"TSU_NS", 0x380008, [], false, [⟨.ro, 0, 32, 0⟩]⟩,
   ⟨"TSU_FRAC", 0x38000C, [], false, [⟨.ro, 0, 30, 0⟩]⟩,
   ⟨"TSU_SEC", 0x380010, [], true, [⟨.ro, 0, 48, 0⟩]⟩,
   ⟨"TSU_TIME", 0x380018, [], true, [⟨.ro, 0, 64, 0⟩]⟩,
   ⟨"TSU_STEP", 0x380020, [], true, [⟨.wo, 0, 64, 0⟩]⟩,
   ⟨"TSU_STEP_OLD", 0x380028, [], true, [⟨.ro, 0, 64, 0⟩]⟩,
   ⟨"TSU_RATE", 0x380030, [], false, [⟨.rw, 0, 32, 0⟩]⟩,
   ⟨"TSU_SLEW", 0x380034, [], false, [⟨.rw, 0, 32, 0⟩]⟩,
   ⟨"TSU_SLEW_LOST", 0x380038, [], false, [⟨.ro, 0, 32, 0⟩]⟩,
   ⟨"TSU_SERVO_CFG", 0x38003C, [], false, [⟨.rw, 0, 8, 100⟩, ⟨.rw, 8, 8, 16⟩, ⟨.rw, 16, 4, 3⟩, ⟨.rw, 20, 12, 1000⟩]⟩]

/-- Part 2 of the TSU registers. -/
def rowsTSU1 : List RegRow :=
  [⟨"TSU_PPS_TOD", 0x380040, [], true, [⟨.rw, 0, 48, 0⟩]⟩,
   ⟨"TSU_PPS_CAP", 0x380048, [], true, [⟨.ro, 0, 64, 0⟩]⟩,
   ⟨"TSU_PPS_ERR", 0x380050, [], false, [⟨.ro, 0, 32, 0⟩]⟩,
   ⟨"TSU_PPS_CNT", 0x380054, [], false, [⟨.rc, 0, 16, 0⟩, ⟨.rc, 16, 16, 0⟩]⟩,
   ⟨"TSU_PPS_OUT_CFG", 0x380058, [], false, [⟨.rw, 0, 10, 100⟩, ⟨.rw, 10, 1, 0⟩]⟩,
   ⟨"TSU_TXTS_POP", 0x380060, [], true, [⟨.rc, 0, 16, 0⟩, ⟨.rc, 16, 4, 0⟩, ⟨.rc, 20, 4, 0⟩, ⟨.rc, 24, 1, 0⟩, ⟨.rc, 32, 16, 0⟩, ⟨.rc, 48, 8, 0⟩, ⟨.rc, 63, 1, 0⟩]⟩,
   ⟨"TSU_TXTS_TIME", 0x380068, [], true, [⟨.ro, 0, 64, 0⟩]⟩,
   ⟨"TSU_PORT_CFG", 0x380100, [(0x10, 16)], false, [⟨.rw, 0, 1, 0⟩, ⟨.rw, 1, 1, 0⟩]⟩,
   ⟨"TSU_PORT_ADJ", 0x380104, [(0x10, 16)], false, [⟨.rw, 0, 16, 0⟩, ⟨.rw, 16, 16, 0⟩]⟩,
   ⟨"TSU_PULSE_START", 0x380200, [(0x20, 4)], true, [⟨.rw, 0, 64, 0⟩]⟩,
   ⟨"TSU_PULSE_PERIOD", 0x380208, [(0x20, 4)], false, [⟨.rw, 0, 32, 0x3B9ACA00⟩]⟩,
   ⟨"TSU_PULSE_WIDTH", 0x38020C, [(0x20, 4)], false, [⟨.rw, 0, 32, 1000⟩]⟩]

/-- Part 3 of the TSU registers. -/
def rowsTSU2 : List RegRow :=
  [⟨"TSU_PULSE_CTRL", 0x380210, [(0x20, 4)], false, [⟨.rw, 0, 2, 0⟩, ⟨.rw, 2, 1, 0⟩, ⟨.ro, 3, 1, 0⟩, ⟨.w1c, 4, 1, 0⟩, ⟨.w1c, 5, 1, 0⟩, ⟨.w1c, 6, 1, 0⟩]⟩,
   ⟨"TSU_PULSE_NEXT", 0x380218, [(0x20, 4)], true, [⟨.ro, 0, 64, 0⟩]⟩]

/-- The registers of block TSU (R10). -/
def rowsTSU : List RegRow := rowsTSU0 ++ rowsTSU1 ++ rowsTSU2

/-- Part 1 of the TLS registers. -/
def rowsTLS0 : List RegRow :=
  [⟨"TLS_CTRL", 0x3C0000, [], false, [⟨.rw, 0, 1, 1⟩]⟩,
   ⟨"TLS_STATUS", 0x3C0004, [], false, [⟨.ro, 0, 1, 0⟩, ⟨.ro, 1, 1, 0⟩, ⟨.w1c, 2, 1, 0⟩, ⟨.rc, 3, 8, 0⟩, ⟨.rc, 11, 4, 0⟩]⟩,
   ⟨"TLS_WDOG", 0x3C0008, [], false, [⟨.rw, 0, 10, 100⟩]⟩,
   ⟨"TLS_TEST_CFG", 0x3C000C, [], false, [⟨.rw, 0, 10, 168⟩, ⟨.rw, 10, 8, 24⟩, ⟨.rw, 18, 6, 8⟩]⟩,
   ⟨"TLS_SHADOW_CFG", 0x3C0010, [], false, [⟨.rw, 0, 2, 1⟩, ⟨.rw, 2, 8, 8⟩, ⟨.rw, 10, 6, 8⟩]⟩,
   ⟨"TLS_PROBE_CFG", 0x3C0014, [], false, [⟨.rw, 0, 16, 6000⟩, ⟨.rw, 16, 16, 1000⟩]⟩,
   ⟨"TLS_GO_BASE", 0x3C0018, [], true, [⟨.rw, 0, 41, 0⟩]⟩,
   ⟨"TLS_SEQ_LOST", 0x3C0020, [], true, [⟨.wo, 0, 16, 0⟩, ⟨.wo, 16, 8, 0⟩]⟩,
   ⟨"TLS_JRNL_POP", 0x3C0028, [], true, [⟨.rc, 0, 32, 0⟩, ⟨.rc, 32, 4, 0⟩, ⟨.rc, 36, 8, 0⟩, ⟨.rc, 44, 1, 0⟩, ⟨.rc, 45, 8, 0⟩, ⟨.rc, 63, 1, 0⟩]⟩,
   ⟨"TLS_JRNL_DATA", 0x3C0030, [], true, [⟨.ro, 0, 64, 0⟩]⟩,
   ⟨"TLS_UNIT_SEL", 0x3C0038, [], false, [⟨.rw, 0, 32, 0⟩]⟩,
   ⟨"TLS_UNIT_STATE", 0x3C003C, [], false, [⟨.ro, 0, 2, 0⟩, ⟨.ro, 2, 1, 0⟩, ⟨.ro, 3, 4, 0⟩]⟩]

/-- Part 2 of the TLS registers. -/
def rowsTLS1 : List RegRow :=
  [⟨"TLS_POS", 0x3C0044, [], false, [⟨.ro, 0, 32, 0⟩]⟩,
   ⟨"TLS_PAIR", 0x3C1000, [(0x4, 512)], false, [⟨.rw, 0, 16, 0⟩, ⟨.rw, 16, 9, 0⟩, ⟨.ro, 25, 1, 0⟩, ⟨.ro, 26, 2, 0⟩, ⟨.ro, 28, 1, 0⟩, ⟨.rw, 31, 1, 0⟩]⟩,
   ⟨"TLS_SHADOW_STAT", 0x3C2000, [(0x8, 512)], true, [⟨.rc, 0, 24, 0⟩, ⟨.rc, 24, 12, 0⟩, ⟨.rc, 36, 12, 0⟩, ⟨.rc, 48, 8, 0⟩, ⟨.rc, 56, 8, 0⟩]⟩,
   ⟨"TLS_REPLICA_W0", 0x3C4000, [(0x20, 64)], true, [⟨.rw, 0, 16, 0⟩, ⟨.rw, 16, 12, 0⟩, ⟨.rw, 28, 4, 0⟩, ⟨.rw, 32, 32, 0⟩]⟩,
   ⟨"TLS_REPLICA_W1", 0x3C4008, [(0x20, 64)], true, [⟨.rw, 0, 48, 0⟩, ⟨.rw, 48, 3, 0⟩, ⟨.ro, 51, 3, 0⟩, ⟨.rw, 63, 1, 0⟩]⟩,
   ⟨"TLS_REPLICA_W2", 0x3C4010, [(0x20, 64)], true, [⟨.ro, 0, 64, 0⟩]⟩,
   ⟨"TLS_REPLICA_W3", 0x3C4018, [(0x20, 64)], true, [⟨.ro, 0, 32, 0⟩]⟩,
   ⟨"TLS_CWIN_W0", 0x3C6000, [(0x20, 64)], true, [⟨.rw, 0, 41, 0⟩, ⟨.rw, 41, 18, 0⟩, ⟨.rw, 59, 1, 0⟩, ⟨.rw, 60, 1, 0⟩, ⟨.ro, 61, 2, 0⟩, ⟨.rw, 63, 1, 0⟩]⟩,
   ⟨"TLS_CWIN_W1", 0x3C6008, [(0x20, 64)], true, [⟨.rw, 0, 16, 0⟩, ⟨.rw, 16, 16, 0⟩, ⟨.rw, 32, 16, 0⟩, ⟨.rw, 48, 6, 0⟩, ⟨.rw, 54, 9, 0⟩]⟩,
   ⟨"TLS_CWIN_W2", 0x3C6010, [(0x20, 64)], true, [⟨.rw, 0, 41, 0⟩]⟩,
   ⟨"TLS_CWIN_W3", 0x3C6018, [(0x20, 64)], true, [⟨.ro, 0, 32, 0⟩]⟩,
   ⟨"TLS_STRAG_W0", 0x3C7000, [(0x10, 16)], true, [⟨.rw, 0, 41, 0⟩, ⟨.rw, 41, 4, 0⟩, ⟨.rw, 45, 12, 0⟩, ⟨.rw, 63, 1, 0⟩]⟩]

/-- Part 3 of the TLS registers. -/
def rowsTLS2 : List RegRow :=
  [⟨"TLS_STRAG_W1", 0x3C7008, [(0x10, 16)], true, [⟨.rw, 0, 16, 0⟩, ⟨.rw, 16, 4, 0⟩, ⟨.rc, 20, 8, 0⟩]⟩]

/-- The registers of block TLS (R10). -/
def rowsTLS : List RegRow := rowsTLS0 ++ rowsTLS1 ++ rowsTLS2

/-- Part 1 of the FPL registers. -/
def rowsFPL0 : List RegRow :=
  [⟨"FPL_REPLAY_CLASS", 0x20, [], true, [⟨.ro, 0, 8, Config.stepping.toNat⟩, ⟨.ro, 8, 4, Config.speed.toNat⟩, ⟨.ro, 12, 1, 0⟩, ⟨.ro, 16, 16, 0⟩, ⟨.ro, 32, 32, 0⟩]⟩,
   ⟨"FPL_DET_CFG", 0x28, [], false, [⟨.rw, 0, 1, 0⟩, ⟨.w1c, 1, 1, 0⟩, ⟨.rc, 8, 8, 0⟩]⟩,
   ⟨"FPL_BOOT_STATUS", 0x0, [], false, [⟨.ro, 0, 1, 0⟩, ⟨.ro, 1, 3, 0⟩, ⟨.ro, 4, 1, 0⟩, ⟨.ro, 5, 1, 0⟩, ⟨.ro, 6, 1, 0⟩, ⟨.ro, 7, 1, 0⟩, ⟨.ro, 8, 1, 0⟩, ⟨.ro, 9, 1, 0⟩]⟩,
   ⟨"FPL_BOOT_TIME", 0x4, [], false, [⟨.ro, 0, 16, 0⟩, ⟨.ro, 16, 16, 0⟩]⟩,
   ⟨"FPL_CFG_STATUS", 0x8, [], false, [⟨.ro, 0, 8, 0⟩, ⟨.ro, 8, 20, 0⟩, ⟨.ro, 28, 1, 0⟩]⟩,
   ⟨"FPL_CFG_REFUSED", 0xC, [], false, [⟨.ro, 0, 16, 0⟩]⟩,
   ⟨"FPL_FW_SLOTS", 0x10, [], true, [⟨.ro, 0, 32, 0⟩, ⟨.ro, 32, 32, 0⟩]⟩,
   ⟨"FPL_FW_CTRL", 0x18, [], false, [⟨.ro, 0, 1, 0⟩, ⟨.w1s, 1, 1, 0⟩, ⟨.w1s, 2, 1, 0⟩, ⟨.rw, 3, 1, 0⟩, ⟨.rw, 4, 1, 0⟩, ⟨.wo, 5, 1, 0⟩, ⟨.wo, 6, 1, 0⟩, ⟨.ro, 8, 8, 0⟩, ⟨.ro, 16, 8, 0⟩, ⟨.ro, 24, 8, 0⟩]⟩,
   ⟨"FPL_SUPPLY", 0x1C, [], false, [⟨.ro, 0, 16, 0⟩, ⟨.ro, 16, 1, 0⟩]⟩,
   ⟨"FPL_SUPPLY_CFG", 0x2C, [], false, [⟨.rw, 0, 16, 1080⟩]⟩,
   ⟨"FPL_UPD_CTRL", 0x30, [], false, [⟨.wo, 0, 1, 0⟩, ⟨.wo, 1, 1, 0⟩, ⟨.wo, 2, 1, 0⟩, ⟨.rw, 3, 1, 0⟩, ⟨.rw, 4, 1, 0⟩, ⟨.ro, 5, 3, 0⟩, ⟨.ro, 8, 8, 0⟩, ⟨.ro, 16, 8, 0⟩, ⟨.rw, 24, 1, 0⟩]⟩,
   ⟨"FPL_UPD_LEN", 0x34, [], false, [⟨.ro, 0, 32, 0⟩]⟩]

/-- Part 2 of the FPL registers. -/
def rowsFPL1 : List RegRow :=
  [⟨"FPL_UPD_SRC", 0x38, [], true, [⟨.rw, 0, 41, 0⟩]⟩,
   ⟨"FPL_UPD_DATA", 0x40, [], true, [⟨.wo, 0, 64, 0⟩]⟩,
   ⟨"FPL_CHAIN", 0x48, [(0x4, 4)], false, [⟨.rw, 0, 16, 0⟩, ⟨.rw, 31, 1, 0⟩]⟩,
   ⟨"FPL_CHAIN_STATUS", 0x58, [(0x4, 4)], false, [⟨.ro, 0, 8, 0⟩, ⟨.ro, 8, 7, 0⟩, ⟨.ro, 15, 1, 0⟩, ⟨.ro, 16, 16, 0⟩]⟩,
   ⟨"FPL_ATTEST_CTRL", 0x68, [], false, [⟨.wo, 0, 1, 0⟩, ⟨.ro, 1, 1, 0⟩, ⟨.ro, 8, 8, 0⟩]⟩,
   ⟨"FPL_ATTEST_NONCE", 0x80, [(0x8, 4)], true, [⟨.rw, 0, 64, 0⟩]⟩,
   ⟨"FPL_ATTEST_REPORT", 0x100, [(0x8, 32)], true, [⟨.ro, 0, 64, 0⟩]⟩,
   ⟨"FPL_ID_KEY", 0x200, [(0x8, 4)], true, [⟨.ro, 0, 64, 0⟩]⟩]

/-- The registers of block FPL (R10). -/
def rowsFPL : List RegRow := rowsFPL0 ++ rowsFPL1

/-- Part 1 of the PAGE registers. -/
def rowsPAGE0 : List RegRow :=
  [⟨"INST_STATUS", 0x20000000, [(0x10000, 128)], false, [⟨.ro, 0, 16, 1⟩, ⟨.ro, 16, 2, 0⟩, ⟨.w1c, 18, 1, 0⟩, ⟨.w1c, 19, 1, 0⟩]⟩,
   ⟨"SQ_CFG", 0x20000008, [(0x10000, 128)], true, [⟨.rw, 12, 29, 0⟩, ⟨.rw, 41, 5, 0⟩, ⟨.rw, 46, 1, 0⟩, ⟨.rw, 63, 1, 0⟩]⟩,
   ⟨"CQ_CFG", 0x20000018, [(0x10000, 128)], true, [⟨.rw, 12, 29, 0⟩, ⟨.rw, 41, 5, 0⟩, ⟨.rw, 46, 1, 0⟩, ⟨.rw, 63, 1, 0⟩]⟩,
   ⟨"IQ_CFG", 0x20000028, [(0x10000, 128)], true, [⟨.rw, 12, 29, 0⟩, ⟨.rw, 41, 5, 0⟩, ⟨.rw, 46, 1, 0⟩, ⟨.rw, 63, 1, 0⟩]⟩,
   ⟨"MBOX_CTRL", 0x200000C0, [(0x10000, 128)], false, [⟨.ro, 0, 1, 0⟩, ⟨.wo, 1, 1, 0⟩, ⟨.ro, 2, 7, 0⟩, ⟨.ro, 9, 8, 0⟩]⟩,
   ⟨"SQ_PROD", 0x20000010, [(0x10000, 128)], false, [⟨.rw, 0, 32, 0⟩]⟩,
   ⟨"SQ_CONS", 0x20000014, [(0x10000, 128)], false, [⟨.ro, 0, 32, 0⟩]⟩,
   ⟨"CQ_PROD", 0x20000020, [(0x10000, 128)], false, [⟨.ro, 0, 32, 0⟩]⟩,
   ⟨"CQ_CONS", 0x20000024, [(0x10000, 128)], false, [⟨.rw, 0, 32, 0⟩]⟩,
   ⟨"IQ_PROD", 0x20000030, [(0x10000, 128)], false, [⟨.ro, 0, 32, 0⟩]⟩,
   ⟨"IQ_CONS", 0x20000034, [(0x10000, 128)], false, [⟨.rw, 0, 32, 0⟩]⟩,
   ⟨"RING_LOST", 0x20000038, [(0x10000, 128)], false, [⟨.rc, 0, 32, 0⟩]⟩]

/-- Part 2 of the PAGE registers. -/
def rowsPAGE1 : List RegRow :=
  [⟨"MBOX_OUT", 0x20000040, [(0x10000, 128), (0x8, 8)], true, [⟨.wo, 0, 64, 0⟩]⟩,
   ⟨"MBOX_IN", 0x20000080, [(0x10000, 128), (0x8, 8)], true, [⟨.ro, 0, 64, 0⟩]⟩]

/-- The registers of block PAGE (R10). -/
def rowsPAGE : List RegRow := rowsPAGE0 ++ rowsPAGE1

/-- Part 1 of the VIR registers. -/
def rowsVIR0 : List RegRow :=
  [⟨"VIR_STATUS", 0x400000, [], false, [⟨.ro, 0, 7, 0⟩, ⟨.ro, 7, 1, 0⟩, ⟨.w1c, 8, 1, 0⟩]⟩,
   ⟨"VIR_PF_WIN", 0x400008, [], true, [⟨.rw, 30, 11, 0⟩]⟩,
   ⟨"VIR_VF_WIN_CFG", 0x400010, [], false, [⟨.rw, 0, 3, 0⟩]⟩,
   ⟨"VIR_JRNL_POP", 0x400020, [], true, [⟨.rc, 0, 32, 0⟩, ⟨.rc, 32, 8, 0⟩, ⟨.rc, 40, 2, 0⟩, ⟨.rc, 42, 1, 0⟩, ⟨.rc, 43, 1, 0⟩, ⟨.rc, 44, 1, 0⟩, ⟨.rc, 45, 8, 0⟩, ⟨.rc, 63, 1, 0⟩]⟩,
   ⟨"VIR_JRNL_ADDR", 0x400028, [], false, [⟨.ro, 0, 26, 0⟩]⟩,
   ⟨"VIR_JRNL_NEW", 0x400030, [], true, [⟨.ro, 0, 64, 0⟩]⟩,
   ⟨"VIR_JRNL_OLD", 0x400038, [], true, [⟨.ro, 0, 64, 0⟩]⟩,
   ⟨"VIR_INST_CTRL", 0x420000, [(0x40, 128)], false, [⟨.rw, 0, 1, 0⟩, ⟨.wo, 1, 1, 0⟩]⟩,
   ⟨"VIR_INST_SEQ", 0x420008, [(0x40, 128)], true, [⟨.rw, 0, 16, 0⟩, ⟨.rw, 16, 17, 0⟩]⟩,
   ⟨"VIR_INST_CTX", 0x420010, [(0x40, 128)], false, [⟨.rw, 0, 12, 0⟩, ⟨.rw, 12, 13, 0⟩]⟩,
   ⟨"VIR_INST_WIN", 0x420018, [(0x40, 128)], true, [⟨.rw, 20, 21, 0⟩]⟩,
   ⟨"VIR_INST_DISC", 0x420020, [(0x40, 128)], true, [⟨.rc, 0, 16, 0⟩, ⟨.rc, 16, 16, 0⟩, ⟨.rc, 32, 16, 0⟩, ⟨.rc, 48, 16, 0⟩]⟩]

/-- The registers of block VIR (R10). -/
def rowsVIR : List RegRow := rowsVIR0

/-- Part 1 of the PRT registers. -/
def rowsPRT0 : List RegRow :=
  [⟨"PRT_CTRL", 0x440000, [], false, [⟨.rw, 0, 1, 0⟩, ⟨.rw, 1, 1, 1⟩, ⟨.ro, 2, 1, 0⟩, ⟨.rw, 16, 12, 0⟩]⟩,
   ⟨"PRT_STATUS", 0x440004, [], false, [⟨.ro, 0, 1, 0⟩, ⟨.w1c, 1, 1, 0⟩, ⟨.w1c, 2, 1, 0⟩, ⟨.w1c, 3, 1, 0⟩, ⟨.w1c, 4, 1, 0⟩, ⟨.w1c, 5, 1, 0⟩, ⟨.w1c, 6, 1, 0⟩]⟩,
   ⟨"PRT_VCORE", 0x440008, [], false, [⟨.rw, 0, 8, 0⟩, ⟨.rw, 8, 8, 0⟩]⟩,
   ⟨"PRT_FEED", 0x440010, [], false, [⟨.rw, 0, 8, 0⟩]⟩,
   ⟨"PRT_MESH", 0x440014, [], false, [⟨.rw, 0, 6, 0⟩, ⟨.rw, 8, 8, 0⟩]⟩,
   ⟨"PRT_STACK", 0x440018, [], false, [⟨.rw, 0, 16, 0⟩, ⟨.rw, 16, 8, 0⟩]⟩,
   ⟨"PRT_FABRIC", 0x44001C, [], false, [⟨.rw, 0, 12, 0⟩, ⟨.rw, 12, 12, 0⟩, ⟨.rw, 24, 8, 0⟩]⟩,
   ⟨"PRT_FRONTHAUL", 0x440020, [], false, [⟨.rw, 0, 4, 0⟩, ⟨.rw, 4, 16, 0⟩]⟩,
   ⟨"PRT_LOAD", 0x440028, [], false, [⟨.ro, 0, 32, 0⟩]⟩,
   ⟨"PRT_INJ_ECC", 0x440030, [], true, [⟨.rw, 0, 41, 0⟩, ⟨.rw, 41, 3, 0⟩, ⟨.rw, 63, 1, 0⟩]⟩,
   ⟨"PRT_INJ_CHK", 0x440038, [], false, [⟨.rw, 0, 9, 0⟩, ⟨.rw, 9, 3, 0⟩, ⟨.rw, 12, 3, 0⟩, ⟨.rw, 15, 1, 0⟩, ⟨.rw, 16, 5, 0⟩, ⟨.rw, 21, 1, 0⟩, ⟨.rw, 31, 1, 0⟩]⟩,
   ⟨"PRT_INJ_DIG", 0x440040, [], false, [⟨.rw, 0, 3, 0⟩, ⟨.rw, 8, 8, 0⟩, ⟨.rw, 31, 1, 0⟩]⟩]

/-- Part 2 of the PRT registers. -/
def rowsPRT1 : List RegRow :=
  [⟨"PRT_INJ_LINK", 0x440044, [], false, [⟨.rw, 0, 4, 0⟩, ⟨.rw, 8, 8, 0⟩, ⟨.rw, 31, 1, 0⟩]⟩]

/-- The registers of block PRT (R10). -/
def rowsPRT : List RegRow := rowsPRT0 ++ rowsPRT1

/-- Part 1 of the BAR2 registers. -/
def rowsBAR20 : List RegRow :=
  [⟨"SEQ_W0", 0x12000000, [(0x40, 65536)], true, [⟨.ro, 0, 4, 0⟩, ⟨.ro, 4, 8, 0⟩, ⟨.ro, 12, 14, 0⟩, ⟨.ro, 26, 7, 0⟩, ⟨.ro, 33, 12, 0⟩, ⟨.ro, 45, 1, 0⟩, ⟨.ro, 46, 3, 0⟩, ⟨.ro, 49, 1, 0⟩, ⟨.ro, 50, 4, 0⟩, ⟨.ro, 54, 2, 0⟩, ⟨.ro, 56, 8, 0⟩]⟩,
   ⟨"SEQ_W1", 0x12000008, [(0x40, 65536)], true, [⟨.ro, 0, 64, 0⟩]⟩,
   ⟨"SEQ_W2", 0x12000010, [(0x40, 65536)], true, [⟨.ro, 0, 20, 0⟩, ⟨.ro, 20, 20, 0⟩, ⟨.ro, 40, 24, 0⟩]⟩,
   ⟨"SEQ_W3", 0x12000018, [(0x40, 65536)], true, [⟨.ro, 0, 32, 0⟩, ⟨.ro, 32, 32, 0⟩]⟩,
   ⟨"SEQ_W4", 0x12000020, [(0x40, 65536)], true, [⟨.ro, 0, 32, 0⟩, ⟨.ro, 32, 32, 0⟩]⟩,
   ⟨"SEQ_W5", 0x12000028, [(0x40, 65536)], true, [⟨.ro, 0, 41, 0⟩, ⟨.ro, 41, 9, 0⟩, ⟨.ro, 50, 1, 0⟩, ⟨.ro, 51, 1, 0⟩, ⟨.ro, 52, 8, 0⟩]⟩,
   ⟨"SEQ_W6", 0x12000030, [(0x40, 65536)], true, [⟨.ro, 0, 41, 0⟩, ⟨.ro, 41, 23, 0⟩]⟩,
   ⟨"SEQ_W7", 0x12000038, [(0x40, 65536)], true, [⟨.ro, 0, 64, 0⟩]⟩,
   ⟨"TMAP_W0", 0x10000000, [(0x10, 2097152)], true, [⟨.ro, 0, 3, 0⟩, ⟨.ro, 3, 1, 0⟩, ⟨.ro, 4, 1, 0⟩, ⟨.ro, 5, 1, 0⟩, ⟨.ro, 6, 1, 0⟩, ⟨.ro, 8, 4, 0⟩, ⟨.ro, 16, 44, 0⟩]⟩,
   ⟨"TMAP_W1", 0x10000008, [(0x10, 2097152)], true, [⟨.ro, 0, 16, 0⟩, ⟨.ro, 16, 16, 0⟩, ⟨.ro, 32, 8, 0⟩]⟩,
   ⟨"OBJ_W0", 0x12400000, [(0x40, 65536)], true, [⟨.rw, 0, 41, 0⟩, ⟨.ro, 41, 1, 0⟩, ⟨.rw, 42, 1, 0⟩, ⟨.rw, 43, 7, 0⟩, ⟨.rw, 50, 3, 0⟩]⟩,
   ⟨"OBJ_W1", 0x12400008, [(0x40, 65536)], true, [⟨.rw, 0, 22, 0⟩, ⟨.rw, 22, 16, 0⟩, ⟨.rw, 38, 3, 0⟩]⟩]

/-- Part 2 of the BAR2 registers. -/
def rowsBAR21 : List RegRow :=
  [⟨"OBJ_W2", 0x12400010, [(0x40, 65536)], true, [⟨.rw, 0, 64, 0⟩]⟩,
   ⟨"OBJ_W3", 0x12400018, [(0x40, 65536)], true, [⟨.ro, 0, 16, 0⟩]⟩,
   ⟨"OBJ_W4", 0x12400020, [(0x40, 65536)], true, [⟨.ro, 0, 64, 0⟩]⟩,
   ⟨"OBJ_W5", 0x12400028, [(0x40, 65536)], true, [⟨.ro, 0, 64, 0⟩]⟩,
   ⟨"OBJ_W6", 0x12400030, [(0x40, 65536)], true, [⟨.ro, 0, 32, 0⟩]⟩,
   ⟨"OBJ_W7", 0x12400038, [(0x40, 65536)], true, []⟩]

/-- The registers of block BAR2 (R10). -/
def rowsBAR2 : List RegRow := rowsBAR20 ++ rowsBAR21

/-- Part 1 of the CHN registers. -/
def rowsCHN0 : List RegRow :=
  [⟨"RAD_CH", 0x40000000, [(0x8, 163840)], true, [⟨.rw, 0, 10, 0⟩, ⟨.rw, 10, 1, 0⟩, ⟨.rw, 11, 1, 0⟩, ⟨.rw, 12, 2, 0⟩, ⟨.rw, 14, 1, 0⟩, ⟨.rw, 15, 8, 0⟩]⟩]

/-- The registers of block CHN (R10). -/
def rowsCHN : List RegRow := rowsCHN0

end Sys2Proof.Machine
end

