-- ==== Sys2Proof/Machine/Float.lean ====
section
/-!
DEFINITION. Machine/Float.lean: the number formats of R120-R123 and their arithmetic (R126-R140): every value is taken
exactly and rounded once.
-/

namespace Sys2Proof.Machine

/-- A floating-point value: NaN, an infinity, or (-1)^neg * m * 2^e exactly (m = 0 is a signed zero). -/
inductive FVal where
  | nan
  | inf (neg : Bool)
  | fin (neg : Bool) (m : Nat) (e : Int)
deriving DecidableEq, Repr

/-- How the all-ones exponent of a format is read (R120). -/
inductive FSpec where
  /-- infinities and NaNs as in IEEE 754 -/
  | ieee
  /-- no infinity, NaN only with an all-ones mantissa (E4M3) -/
  | e4m3
  /-- neither (E3M2, E2M3, E2M1) -/
  | none
deriving DecidableEq, Repr

/-- A floating-point format: exponent bits, mantissa bits, bias, special values (R120). -/
structure FFmt where
  ebits : Nat
  mbits : Nat
  bias  : Nat
  spec  : FSpec
deriving DecidableEq, Repr

def fmtFP32 : FFmt := ⟨8, 23, 127, .ieee⟩
def fmtBF16 : FFmt := ⟨8, 7, 127, .ieee⟩
def fmtFP16 : FFmt := ⟨5, 10, 15, .ieee⟩
def fmtE4M3 : FFmt := ⟨4, 3, 7, .e4m3⟩
def fmtE5M2 : FFmt := ⟨5, 2, 15, .ieee⟩
def fmtE3M2 : FFmt := ⟨3, 2, 3, .none⟩
def fmtE2M3 : FFmt := ⟨2, 3, 1, .none⟩
def fmtE2M1 : FFmt := ⟨2, 1, 1, .none⟩

/-- Exponent of the format's smallest subnormal. -/
def FFmt.emin (f : FFmt) : Int := 1 - (f.bias : Int) - (f.mbits : Int)

/-- Value of a bit pattern (R120). -/
def FFmt.decode (f : FFmt) (x : Nat) : FVal :=
  let m := x % 2 ^ f.mbits
  let e := x / 2 ^ f.mbits % 2 ^ f.ebits
  let s := x / 2 ^ (f.mbits + f.ebits) % 2 == 1
  let top := 2 ^ f.ebits - 1
  let norm : FVal :=
    if e = 0 then .fin s m f.emin
    else .fin s (m + 2 ^ f.mbits) (f.emin + (e : Int) - 1)
  match f.spec with
  | .none => norm
  | .e4m3 => if e = top ∧ m = 2 ^ f.mbits - 1 then .nan else norm
  | .ieee => if e = top then (if m = 0 then .inf s else .nan) else norm

/-- m / 2^s rounded to nearest, ties to even. -/
def rneShift (m s : Nat) : Nat :=
  if s = 0 then m
  else
    let q := m / 2 ^ s
    let r := m % 2 ^ s
    if r > 2 ^ (s - 1) ∨ (r = 2 ^ (s - 1) ∧ q % 2 = 1) then q + 1 else q

/-- m * 2^e rounded to nearest-even to a significand of `p` bits with least exponent `emin`, the greatest exponent
unbounded: (m', q) with value m' * 2^q, m' < 2^p. -/
def roundSig (p : Nat) (emin : Int) (m : Nat) (e : Int) : Nat × Int :=
  if m = 0 then (0, emin)
  else
    let q0 := max ((Nat.log2 m : Int) + e - ((p : Int) - 1)) emin
    let m' := if q0 ≤ e then m * 2 ^ (e - q0).toNat else rneShift m (q0 - e).toNat
    if m' = 2 ^ p then (2 ^ (p - 1), q0 + 1) else (m', q0)

/-- The biased exponent that `roundSig`'s result would have. -/
def FFmt.expOf (f : FFmt) (r : Nat × Int) : Nat :=
  if r.1 < 2 ^ f.mbits then 0 else (r.2 - f.emin + 1).toNat

/-- Greatest finite code without its sign. -/
def FFmt.maxCode (f : FFmt) : Nat :=
  match f.spec with
  | .ieee => (2 ^ f.ebits - 1) * 2 ^ f.mbits - 1
  | .e4m3 => 2 ^ (f.ebits + f.mbits) - 2
  | .none => 2 ^ (f.ebits + f.mbits) - 1

/-- Sign bit in place. -/
def FFmt.sgn (f : FFmt) (neg : Bool) : Nat := if neg then 2 ^ (f.ebits + f.mbits) else 0

/-- Canonical NaN (R121); the formats without a NaN never produce one. -/
def FFmt.canonNaN (f : FFmt) : Nat :=
  match f.spec with
  | .ieee => (2 ^ f.ebits - 1) * 2 ^ f.mbits + 2 ^ (f.mbits - 1)
  | .e4m3 => 2 ^ (f.ebits + f.mbits) - 1
  | .none => 0

/-- Code of the infinity of a sign, in a format that has one. -/
def FFmt.infCode (f : FFmt) (neg : Bool) : Nat := f.sgn neg + (2 ^ f.ebits - 1) * 2 ^ f.mbits

/-- Rounding of a value to the format: the code without overflow handling, and whether it overflows (R137). -/
def FFmt.round (f : FFmt) (neg : Bool) (m : Nat) (e : Int) : Nat × Bool :=
  let r := roundSig (f.mbits + 1) f.emin m e
  let ex := f.expOf r
  let mag := if ex = 0 then r.1 else ex * 2 ^ f.mbits + (r.1 - 2 ^ f.mbits)
  if mag > f.maxCode then (f.sgn neg + f.maxCode, true) else (f.sgn neg + mag, false)

/-- IEEE result of an exact value: an overflow is an infinity of its sign (R130, R138). -/
def FFmt.encode (f : FFmt) : FVal → Nat
  | .nan => f.canonNaN
  | .inf n => f.infCode n
  | .fin n m e => let r := f.round n m e; if r.2 then f.infCode n else r.1

/-! ### Exact arithmetic on values -/

def FVal.isNaN : FVal → Bool
  | .nan => true
  | _ => false

def FVal.isInf : FVal → Bool
  | .inf _ => true
  | _ => false

def FVal.neg : FVal → FVal
  | .nan => .nan
  | .inf n => .inf (!n)
  | .fin n m e => .fin (!n) m e

/-- Signed integer significand. -/
def sgnInt (n : Bool) (m : Nat) : Int := if n then -(m : Int) else (m : Int)

/-- Exact product with IEEE special cases. -/
def FVal.mul : FVal → FVal → FVal
  | .nan, _ => .nan
  | _, .nan => .nan
  | .inf a, .inf b => .inf (a != b)
  | .inf a, .fin b m _ => if m = 0 then .nan else .inf (a != b)
  | .fin a m _, .inf b => if m = 0 then .nan else .inf (a != b)
  | .fin a m e, .fin b n g => .fin (a != b) (m * n) (e + g)

/-- Exact sum with IEEE special cases; an exact zero is +0 unless both addends are -0 (round to nearest). -/
def FVal.add : FVal → FVal → FVal
  | .nan, _ => .nan
  | _, .nan => .nan
  | .inf a, .inf b => if a = b then .inf a else .nan
  | .inf a, .fin _ _ _ => .inf a
  | .fin _ _ _, .inf b => .inf b
  | .fin a m e, .fin b n g =>
    let q := min e g
    let s := sgnInt a (m * 2 ^ (e - q).toNat) + sgnInt b (n * 2 ^ (g - q).toNat)
    if s = 0 then .fin (a && b && m == 0 && n == 0) 0 q else .fin (decide (s < 0)) s.natAbs q

/-- Numeric order of two non-NaN values (-0 equals +0). -/
def FVal.lt : FVal → FVal → Bool
  | .nan, _ => false
  | _, .nan => false
  | .inf a, .inf b => a && !b
  | .inf a, .fin _ _ _ => a
  | .fin _ _ _, .inf b => !b
  | .fin a m e, .fin b n g =>
    let q := min e g
    decide (sgnInt a (m * 2 ^ (e - q).toNat) < sgnInt b (n * 2 ^ (g - q).toNat))

def FVal.isNeg : FVal → Bool
  | .nan => false
  | .inf n => n
  | .fin n _ _ => n

/-- The value of an FP32 word. -/
def f32 (x : W32) : FVal := fmtFP32.decode x.toNat

/-- The FP32 word of an exact value, rounded once. -/
def toF32 (v : FVal) : W32 := BitVec.ofNat 32 (fmtFP32.encode v)

def fAdd (a b : W32) : W32 := toF32 ((f32 a).add (f32 b))
def fSub (a b : W32) : W32 := toF32 ((f32 a).add (f32 b).neg)
def fMul (a b : W32) : W32 := toF32 ((f32 a).mul (f32 b))
/-- a * b + c with one rounding (R138). -/
def fFma (a b c : W32) : W32 := toF32 (((f32 a).mul (f32 b)).add (f32 c))

/-- R138: NaN if either operand is NaN; -0 orders below +0. -/
def fMin (a b : W32) : W32 :=
  let x := f32 a; let y := f32 b
  if x.isNaN || y.isNaN then toF32 .nan
  else if x.lt y then a else if y.lt x then b else if x.isNeg then a else b
def fMax (a b : W32) : W32 :=
  let x := f32 a; let y := f32 b
  if x.isNaN || y.isNaN then toF32 .nan
  else if x.lt y then b else if y.lt x then a else if x.isNeg then b else a

/-- Comparisons of R160: false on NaN. -/
def fLt (a b : W32) : Bool := (f32 a).lt (f32 b)
def fEq (a b : W32) : Bool :=
  !(f32 a).isNaN && !(f32 b).isNaN && !(f32 a).lt (f32 b) && !(f32 b).lt (f32 a)
def fLe (a b : W32) : Bool := fLt a b || fEq a b

/-- Quotient of two positive finite values as (significand with sticky bit, exponent), 30 bits or more. -/
def divSticky (m : Nat) (e : Int) (n : Nat) (g : Int) : Nat × Int :=
  let k := 32 + Nat.log2 n
  let q := m * 2 ^ k / n
  let r := m * 2 ^ k % n
  (2 * q + (if r = 0 then 0 else 1), e - g - (k : Int) - 1)

/-- Quotient with the IEEE special cases, exact up to a sticky bit below the rounding point. -/
def FVal.div : FVal → FVal → FVal
  | .nan, _ => .nan
  | _, .nan => .nan
  | .inf _, .inf _ => .nan
  | .inf a, .fin b _ _ => .inf (a != b)
  | .fin a _ _, .inf b => .fin (a != b) 0 0
  | .fin a m e, .fin b n g =>
    if n = 0 then (if m = 0 then .nan else .inf (a != b))
    else if m = 0 then .fin (a != b) 0 0
    else let r := divSticky m e n g; .fin (a != b) r.1 r.2

def fDiv (a b : W32) : W32 := toF32 ((f32 a).div (f32 b))

/-- Integer square root: the greatest r with r * r ≤ n, bit by bit from bit `k`. -/
def isqrtAux (n : Nat) : Nat → Nat → Nat
  | 0, r => if (r + 1) * (r + 1) ≤ n then r + 1 else r
  | k + 1, r => let c := r + 2 ^ (k + 1); isqrtAux n k (if c * c ≤ n then c else r)

def isqrt (n : Nat) : Nat := isqrtAux n (Nat.log2 n / 2) 0

/-- Square root of a positive finite value with sticky bit. -/
def sqrtSticky (m : Nat) (e : Int) : Nat × Int :=
  let odd := (e % 2).toNat
  let m' := m * 2 ^ (odd + 64)
  let e' := (e - (odd : Int) - 64) / 2
  let r := isqrt m'
  (2 * r + (if r * r = m' then 0 else 1), e' - 1)

def fSqrt (a : W32) : W32 :=
  match f32 a with
  | .nan => toF32 .nan
  | .inf n => if n then toF32 .nan else a
  | .fin n m e =>
    if m = 0 then a else if n then toF32 .nan
    else let r := sqrtSticky m e; toF32 (.fin false r.1 r.2)

/-- R139 rsqrt: reciprocal square root, the floor of 2^120 / sqrt m with a sticky bit. -/
def fRsqrt (a : W32) : W32 :=
  match f32 a with
  | .nan => toF32 .nan
  | .inf n => if n then toF32 .nan else 0#32
  | .fin n m e =>
    if m = 0 then toF32 (.inf n) else if n then toF32 .nan
    else
      let odd := (e % 2).toNat
      let m' := m * 2 ^ odd
      let e' := (e - (odd : Int)) / 2
      let y := 2 ^ 240 / m'
      let r := isqrt y
      let exact := r * r * m' = 2 ^ 240
      toF32 (.fin false (2 * r + (if exact then 0 else 1)) (-e' - 121))

/-- R139 reciprocal. -/
def fRcp (a : W32) : W32 := fDiv 0x3F800000#32 a

/-- Rounding of an exact value to an integer, ties to even. -/
def rneInt (n : Bool) (m : Nat) (e : Int) : Int :=
  if 0 ≤ e then sgnInt n (m * 2 ^ e.toNat) else sgnInt n (rneShift m (-e).toNat)

/-- FP32 to INT32 with clamping (R140): the word and whether VEC_INVALID is set. -/
def cvtF2I (a : W32) : W32 × Bool :=
  match f32 a with
  | .nan => (0#32, true)
  | .inf n => (if n then 0x80000000#32 else 0x7FFFFFFF#32, true)
  | .fin n m e =>
    let v := rneInt n m e
    if v < -2147483648 then (0x80000000#32, true)
    else if v > 2147483647 then (0x7FFFFFFF#32, true)
    else (BitVec.ofInt 32 v, false)

/-- INT32 to FP32 (R140). -/
def cvtI2F (a : W32) : W32 :=
  let v := a.toInt
  toF32 (.fin (decide (v < 0)) v.natAbs 0)

/-- R137: an FP32 word drained to a floating format under SAT: the code and whether DRAIN_SAT is set. -/
def drainFloat (f : FFmt) (sat : Bool) (a : W32) : Nat × Bool :=
  let clamp (n : Bool) : Nat × Bool := (f.sgn n + f.maxCode, true)
  let beyond (n : Bool) : Nat × Bool :=
    if sat then clamp n
    else match f.spec with
      | .ieee => (f.infCode n, false)
      | _ => (f.canonNaN, false)
  match f32 a with
  | .nan => (f.canonNaN, false)
  | .inf n => beyond n
  | .fin n m e => let r := f.round n m e; if r.2 then beyond n else r

/-- R137: an FP32 word drained to INT8. -/
def drainInt8 (a : W32) : Nat × Bool :=
  match f32 a with
  | .nan => (0, true)
  | .inf n => (if n then 0x80 else 0x7F, true)
  | .fin n m e =>
    let v := rneInt n m e
    if v < -128 then (0x80, true) else if v > 127 then (0x7F, true) else ((BitVec.ofInt 8 v).toNat, false)

/-! ### Transcendental functions, correctly rounded (R139)

Each function encloses the exact value between two fixed-point numbers and rounds both; when they differ it encloses
again with more bits. The exact values (other than those returned before the loop) are transcendental, so the loop ends
with both equal. -/

/-- Division of naturals rounded up. -/
def cdiv (a b : Nat) : Nat := (a + b - 1) / b

/-- Bounds of sum over i ≤ n of x^i / i! in units of 2^-P, for 0 ≤ x < 1/2 in the same units: the next term bounds the
tail. `t` is the bound pair of the current term. -/
def expSeries (P xl xh : Nat) : Nat → Nat → Nat × Nat → Nat × Nat → Nat × Nat
  | 0, _, t, acc => (acc.1, acc.2 + t.2 + 2)
  | n + 1, i, t, acc =>
    let t' := (t.1 * xl / 2 ^ P / i, cdiv (cdiv (t.2 * xh) (2 ^ P)) i)
    expSeries P xl xh n (i + 1) t' (acc.1 + t'.1, acc.2 + t'.2)

/-- Squares a bound pair `n` times. -/
def sqBounds (P : Nat) : Nat → Nat × Nat → Nat × Nat
  | 0, b => b
  | n + 1, b => sqBounds P n (b.1 * b.1 / 2 ^ P, cdiv (b.2 * b.2) (2 ^ P))

/-- Bounds of e^x in units of 2^-P for x = m * 2^e with 0 ≤ x ≤ 128. -/
def expBounds (P m : Nat) (e : Int) : Nat × Nat :=
  let s := (P : Int) + e - 8
  let lo := if 0 ≤ s then m * 2 ^ s.toNat else m / 2 ^ (-s).toNat
  let hi := if 0 ≤ s then m * 2 ^ s.toNat else cdiv m (2 ^ (-s).toNat)
  sqBounds P 8 (expSeries P lo hi (P / 2 + 8) 1 (2 ^ P, 2 ^ P) (2 ^ P, 2 ^ P))

/-- Rounds with growing precision until both bounds agree: `f P` gives the bounds of a positive value in 2^-P. -/
def zivLoop (neg : Bool) (f : Nat → Nat × Nat) : List Nat → W32
  | [] => 0#32
  | P :: ps =>
    let b := f P
    let l := toF32 (.fin neg b.1 (-(P : Int)))
    let h := toF32 (.fin neg b.2 (-(P : Int)))
    if l = h ∨ ps = [] then l else zivLoop neg f ps

/-- Precisions tried. -/
def zivPrec : List Nat := [96, 192, 384, 768, 1536]

/-- R139 exp. DEDUCED (log 132): at exactly 88.72283935546875 the exact value is above 2^128 and rounds to infinity, though the rule names overflow only
for inputs above it. -/
def fExp (a : W32) : W32 :=
  match f32 a with
  | .nan => toF32 .nan
  | .inf n => if n then 0#32 else toF32 (.inf false)
  | .fin n m e =>
    if m = 0 then 0x3F800000#32
    else if ¬ n ∧ (FVal.fin false m e).lt (.fin false 128 0) = false then toF32 (.inf false)
    else if n ∧ (FVal.fin false m e).lt (.fin false 128 0) = false then 0#32
    else
      zivLoop false (fun P =>
        let b := expBounds (P + 256) m e
        if n then (2 ^ (2 * P + 256) / b.2, cdiv (2 ^ (2 * P + 256)) b.1)
        else (b.1 / 2 ^ 256, cdiv b.2 (2 ^ 256))) (if n then zivPrec.map (· + 200) else zivPrec)

/-- Bounds of sum over i of y^(2i+1) / (2i+1), 0 ≤ y ≤ 1/3, units of 2^-P: the tail is at most the next power. -/
def atanhSeries (P y2l y2h : Nat) : Nat → Nat → Nat × Nat → Nat × Nat → Nat × Nat
  | 0, _, t, acc => (acc.1, acc.2 + t.2 + 2)
  | n + 1, i, t, acc =>
    let t' := (t.1 * y2l / 2 ^ P, cdiv (t.2 * y2h) (2 ^ P))
    atanhSeries P y2l y2h n (i + 2) t' (acc.1 + t'.1 / i, acc.2 + cdiv t'.2 i)

/-- Bounds of ln(a / b) for b ≤ a ≤ 2b, as 2 atanh((a - b) / (a + b)), units of 2^-P. -/
def lnRatioBounds (P a b : Nat) : Nat × Nat :=
  let yl := (a - b) * 2 ^ P / (a + b)
  let yh := cdiv ((a - b) * 2 ^ P) (a + b)
  let r := atanhSeries P (yl * yl / 2 ^ P) (cdiv (yh * yh) (2 ^ P)) (P / 3 + 8) 3 (yl, yh) (yl, yh)
  (2 * r.1, 2 * r.2)

/-- R139 log (natural). The argument is m * 2^e = f * 2^k with 3/4 ≤ f < 3/2, and ln x = k ln 2 + ln f. -/
def fLog (a : W32) : W32 :=
  match f32 a with
  | .nan => toF32 .nan
  | .inf n => if n then toF32 .nan else toF32 (.inf false)
  | .fin n m e =>
    if m = 0 then toF32 (.inf true) else if n then toF32 .nan
    else
      let l := Nat.log2 m
      let k0 : Int := (l : Int) + e
      -- m / 2^l lies in [1, 2): above 3/2 it is halved
      let up := 2 * m ≥ 3 * 2 ^ l
      let k : Int := if up then k0 + 1 else k0
      let d := if up then 2 ^ (l + 1) else 2 ^ l
      if k = 0 ∧ m = d then 0#32
      else
        let below := m < d
        let neg := decide (k < 0) || (decide (k = 0) && below)
        zivLoop neg (fun P =>
          let ln2 := lnRatioBounds P 2 1
          let lf := if below then lnRatioBounds P d m else lnRatioBounds P m d
          let kk := k.natAbs
          if k = 0 then lf
          else if neg = below then (kk * ln2.1 + lf.1, kk * ln2.2 + lf.2)
          else (kk * ln2.1 - lf.2, kk * ln2.2 - lf.1)) zivPrec

/-- R139 tanh: (E - 1) / (E + 1) with E = e^(2|x|). Below 2^-13 the value rounds to the argument, above 16 to one. -/
def fTanh (a : W32) : W32 :=
  match f32 a with
  | .nan => toF32 .nan
  | .inf n => if n then 0xBF800000#32 else 0x3F800000#32
  | .fin n m e =>
    if (FVal.fin false m e).lt (.fin false 1 (-13)) then a
    else if (FVal.fin false m e).lt (.fin false 16 0) = false then (if n then 0xBF800000#32 else 0x3F800000#32)
    else
      zivLoop n (fun P =>
        let b := expBounds P m (e + 1)
        let one := 2 ^ P
        ((b.1 - one) * one / (b.1 + one), cdiv ((b.2 - one) * one) (b.2 + one))) zivPrec

end Sys2Proof.Machine
end

