-- ==== Sys2Proof/Machine/Cube.lean ====
section
/-!
DEFINITION. Machine/Cube.lean: what one tile step, one C load and one drain compute (R85-R93, R102-R112, R120-R137,
R161-R163): functions of the operand bytes in the chuck's partition and of the operation's own parameters.
-/

namespace Sys2Proof.Machine

/-- Sticky numeric conditions of CUB_TILE_NUM (R144). -/
structure NumFlags where
  accInf     : Bool := false
  accNan     : Bool := false
  cpxSat     : Bool := false
  drainSat   : Bool := false
  vecInvalid : Bool := false
  scaleNan   : Bool := false
deriving DecidableEq, Repr

def NumFlags.or (a b : NumFlags) : NumFlags :=
  ⟨a.accInf || b.accInf, a.accNan || b.accNan, a.cpxSat || b.cpxSat, a.drainSat || b.drainSat,
   a.vecInvalid || b.vecInvalid, a.scaleNan || b.scaleNan⟩

/-- One matrix operation: the copies MATMUL takes (R152). Addresses have their scalar register added. -/
structure MParams where
  fmtA : Nat
  fmtB : Nat
  weightStationary : Bool
  hold : Nat
  shift : Nat
  maskM : Nat
  maskN : Nat
  maskK : Nat
  aBase : Nat
  aStride : Nat
  aSBase : Nat
  aSStride : Nat
  aL2Base : Nat
  aL2Stride : Nat
  aL2S : Bool
  bBase : Nat
  bStride : Nat
  bSBase : Nat
  bSStride : Nat
  bL2Base : Nat
  bL2Stride : Nat
  bL2S : Bool
  oBase : Nat
  oStride : Nat
  outFmt : Nat
  sat : Bool
  accShift : Nat
  cBase : Nat
  cStride : Nat
  cFmt : Nat
  init : Bool
  outShift : Nat
  m : Nat
  n : Nat
  k : Nat
  setFirst : Nat
deriving DecidableEq, Repr

/-- Lanes per tile step of a format's class (R89). -/
def fmtLanes (c : Nat) : Nat :=
  if c = 0x0 then 2 else if c ≤ 0x2 then 16 else if c ≤ 0x6 then 32 else if c ≤ 0x9 then 64 else 8

/-- Bits per element (R120, R122). -/
def fmtBits (c : Nat) : Nat :=
  if c = 0x0 then 32 else if c ≤ 0x2 then 16 else if c ≤ 0x6 then 8 else if c ≤ 0x8 then 6
  else if c = 0x9 then 4 else 32

/-- R124: formats with a shared scale. -/
def fmtIsMX (c : Nat) : Bool := c == 3 || c == 4 || c == 5 || c == 7 || c == 8 || c == 9

/-- R90: the legal pairings. -/
def pairOk (a b : Nat) : Bool :=
  let fl (c : Nat) : Bool := (1 ≤ c && c ≤ 4) || (7 ≤ c && c ≤ 9)
  (fl a && fl b) || ((a == 5 || a == 6) && (b == 5 || b == 6)) || (a == 0 && b == 0) || (a == 0xA && b == 0xA)

/-- R90: the lane count of the class with fewer lanes. -/
def MParams.lanes (p : MParams) : Nat := min (fmtLanes p.fmtA) (fmtLanes p.fmtB)

def MParams.complex (p : MParams) : Bool := p.fmtA == 0xA

/-- Number of 16-wide blocks of a length. -/
def blocks16 (n : Nat) : Nat := (n + 15) / 16

/-- Blocks per slice: 16-column blocks in row reuse, 16-row blocks in weight-stationary mode (R163). -/
def MParams.nblocks (p : MParams) : Nat := if p.weightStationary then blocks16 p.m else blocks16 p.n

def MParams.nslices (p : MParams) : Nat := (p.k + p.lanes - 1) / p.lanes

/-- Accumulator set of block h: the real set of a complex pair (R163). -/
def MParams.setOf (p : MParams) (h : Nat) : Nat := p.setFirst + (if p.complex then 2 * h else h)

/-- R112: an operation with M = 0 or N = 0 does nothing. -/
def MParams.empty (p : MParams) : Bool := p.m == 0 || p.n == 0

/-- R163, R90, R131, R136: the cause that makes a MATMUL illegal, if any. -/
def MParams.illegal (p : MParams) : Option Nat :=
  if !pairOk p.fmtA p.fmtB then some 0x03
  else if p.complex && p.outFmt != 0xA then some 0x03
  else if !p.complex && !(p.outFmt ≤ 4 || p.outFmt == 6) then some 0x03
  else if p.init && !(if p.complex then p.cFmt == 0xA else p.cFmt ≤ 2) then some 0x03
  else if p.m > 128 || p.n > 128 || p.outShift > 16 then some 0x01
  else
    let legal :=
      (if p.weightStationary then p.n ≤ 16 && p.m ≤ 16 * (p.hold + 1) else p.m ≤ 16 && p.n ≤ 16 * (p.hold + 1)) &&
      (if p.complex then p.setFirst % 2 == 0 && p.setFirst + 2 * p.nblocks ≤ 8 else p.setFirst + p.nblocks ≤ 8) &&
      (p.weightStationary || p.shift == 0 || p.k % p.lanes == 0)
    if legal then none else some 0x04

/-- Little-endian value of `n` bytes. -/
def leBytes (rd : Nat → Nat) (a : Nat) : Nat → Nat
  | 0 => 0
  | n + 1 => rd a + 256 * leBytes rd (a + 1) n

/-- `w` bits from bit `bo` of the byte string at `a` (R123). -/
def bitsAt (rd : Nat → Nat) (a bo w : Nat) : Nat :=
  leBytes rd (a + bo / 8) ((bo % 8 + w + 7) / 8) / 2 ^ (bo % 8) % 2 ^ w

/-- Two's complement value of a `w`-bit code. -/
def sext (w x : Nat) : Int := if x ≥ 2 ^ (w - 1) then (x : Int) - 2 ^ w else (x : Int)

/-- Value of one real element without its scales (R120, R122). An integer zero is +0 (log 119: the sign of a product of an integer zero and a
negative integer is then that of R129's exclusive or). -/
def elemVal (c x : Nat) : FVal :=
  match c with
  | 0x0 => fmtFP32.decode x
  | 0x1 => fmtBF16.decode x
  | 0x2 => fmtFP16.decode x
  | 0x3 => fmtE4M3.decode x
  | 0x4 => fmtE5M2.decode x
  | 0x5 => let i := sext 8 x; .fin (decide (i < 0)) i.natAbs (-6)
  | 0x6 => let i := sext 8 x; .fin (decide (i < 0)) i.natAbs 0
  | 0x7 => fmtE3M2.decode x
  | 0x8 => fmtE2M3.decode x
  | _   => fmtE2M1.decode x

/-- Value of an E8M0 scale (R124). -/
def e8m0 (x : Nat) : FVal := if x = 255 then .nan else .fin false 1 ((x : Int) - 127)

/-- One operand side of an operation, so that A and B are read by one definition. -/
structure Side where
  fmt : Nat
  base : Nat
  stride : Nat
  sBase : Nat
  sStride : Nat
  l2Base : Nat
  l2Stride : Nat
  l2s : Bool
  shift : Nat
deriving DecidableEq, Repr

def MParams.sideA (p : MParams) : Side :=
  ⟨p.fmtA, p.aBase, p.aStride, p.aSBase, p.aSStride, p.aL2Base, p.aL2Stride, p.aL2S,
   if p.weightStationary then 0 else p.shift⟩
def MParams.sideB (p : MParams) : Side :=
  ⟨p.fmtB, p.bBase, p.bStride, p.bSBase, p.bSStride, p.bL2Base, p.bL2Stride, p.bL2S, 0⟩

/-- Bytes of one row (column) of one block. -/
def Side.rowBytes (s : Side) (lanes : Nat) : Nat := lanes * fmtBits s.fmt / 8

/-- Address of row i of block (group, slice) (R161). -/
def Side.rowAddr (s : Side) (lanes grp q i : Nat) : Nat :=
  if s.shift = 0 then s.base + grp * s.stride + q * (16 * s.rowBytes lanes) + i * s.rowBytes lanes
  else
    let r := q * s.shift + i
    s.base + r / 16 * s.stride + r % 16 * s.rowBytes lanes

/-- Address of the E8M0 scale of lane k of row i (R162). -/
def Side.scaleAddr (s : Side) (lanes grp q i k : Nat) : Nat :=
  let c := if lanes ≤ 32 then 1 else lanes / 32
  if s.shift = 0 then
    if lanes < 32 then s.sBase + grp * s.sStride + 16 * (q * lanes / 32) + i
    else s.sBase + grp * s.sStride + q * (16 * c) + i * c + k / 32
  else
    let r := q * s.shift + i
    s.sBase + r / 16 * s.sStride + r % 16 * c + k / 32

/-- Address of the second-level scale of row i (R162). -/
def Side.l2Addr (s : Side) (lanes grp q i : Nat) : Nat :=
  if s.shift = 0 then s.l2Base + grp * s.l2Stride + 64 * (q * lanes / 256) + 4 * i
  else
    let r := q * s.shift + i
    s.l2Base + r / 16 * s.l2Stride + 4 * (r % 16)

/-- Element code of row i, lane k. -/
def Side.code (s : Side) (rd : Nat → Nat) (lanes grp q i k : Nat) : Nat :=
  bitsAt rd (s.rowAddr lanes grp q i) (k * fmtBits s.fmt) (fmtBits s.fmt)

/-- Value of an element with its shared scale (R124, R126). -/
def Side.val (s : Side) (rd : Nat → Nat) (lanes grp q i k : Nat) : FVal :=
  let v := elemVal s.fmt (s.code rd lanes grp q i k)
  if fmtIsMX s.fmt then v.mul (e8m0 (rd (s.scaleAddr lanes grp q i k))) else v

/-- Second-level scale of a row: 1 where the flag is clear or the format has none (R125). -/
def Side.l2 (s : Side) (rd : Nat → Nat) (lanes grp q i : Nat) : FVal :=
  if s.l2s && fmtIsMX s.fmt then fmtFP32.decode (leBytes rd (s.l2Addr lanes grp q i) 4) else .fin false 1 0

/-- Groups of A and of B that step (q, h) reads (R163). -/
def MParams.grpA (p : MParams) (h : Nat) : Nat := if p.weightStationary then h else 0
def MParams.grpB (p : MParams) (h : Nat) : Nat := if p.weightStationary then 0 else h

/-- Edge mask bit: row or column `i` of group `g` lies inside extent `n` (R106). -/
def inExtent (g i n : Nat) : Bool := decide (16 * g + i < n)

/-- Effective masks of a step (R106, R107). -/
def MParams.rowOn (p : MParams) (h i : Nat) : Bool := p.maskM.testBit i && inExtent (p.grpA h) i p.m
def MParams.colOn (p : MParams) (h j : Nat) : Bool := p.maskN.testBit j && inExtent (p.grpB h) j p.n
def MParams.laneOn (p : MParams) (q k : Nat) : Bool := p.maskK.testBit k && decide (q * p.lanes + k < p.k)

/-- Lanes of slice q that the effective MASK_K leaves on. -/
def MParams.lanesOn (p : MParams) (q : Nat) : List Nat := (List.range p.lanes).filter (p.laneOn q)

/-! A step reads its A operand through `ra` and its B operand through `rb`: the operand that is held comes from the row buffers or the weight
slots (R102, R104), the other from the partition. -/

/-- The step value V of word (i, j) (R126, R128, R129): the exact sum from -0 of the products of the unmasked lanes. -/
def MParams.stepValue (p : MParams) (ra rb : Nat → Nat) (q h i j : Nat) : FVal :=
  (p.lanesOn q).foldl (fun acc k =>
    acc.add ((p.sideA.val ra p.lanes (p.grpA h) q i k).mul (p.sideB.val rb p.lanes (p.grpB h) q j k)))
    (.fin true 0 0)

/-- A NaN among the unmasked elements of one side of a step, or among the scales that they use (R130). -/
def MParams.sideNaN (p : MParams) (s : Side) (rd : Nat → Nat) (on : Nat → Bool) (grp q : Nat) : Bool :=
  (List.range 16).any (fun i => on i &&
    ((p.lanesOn q).any (fun k => (s.val rd p.lanes grp q i k).isNaN) || (s.l2 rd p.lanes grp q i).isNaN))

/-- A NaN among the unmasked elements of a step's operands and the shared and second-level scales that the step uses (R130). -/
def MParams.stepNaNIn (p : MParams) (ra rb : Nat → Nat) (q h : Nat) : Bool :=
  p.sideNaN p.sideA ra (p.rowOn h) (p.grpA h) q || p.sideNaN p.sideB rb (p.colOn h) (p.grpB h) q

/-- Local bytes of one block of a side: its rows, their shared scales and their second-level scales (R161, R162). -/
def Side.blockAddrs (s : Side) (lanes grp q : Nat) : List Nat :=
  let c := if lanes ≤ 32 then 1 else lanes / 32
  (List.range 16).flatMap (fun i =>
    (List.range (s.rowBytes lanes)).map (fun b => s.rowAddr lanes grp q i + b) ++
    (if fmtIsMX s.fmt then
      (List.range c).map (fun k => s.scaleAddr lanes grp q i (32 * k)) ++
      (if s.l2s then (List.range 4).map (fun b => s.l2Addr lanes grp q i + b) else [])
    else []))

/-- The side that is held over HOLD steps: A in row reuse (R102), B in weight-stationary mode (R104). -/
def MParams.heldSide (p : MParams) : Side := if p.weightStationary then p.sideB else p.sideA

/-- Bytes of the block of slice q of the held side, by local address, as they enter the next slot: with SHIFT, rows of the active block `old`
move up and only the new rows are fetched (R103); otherwise the block is fetched in full. -/
def MParams.slotFill (p : MParams) (rd : Nat → Nat) (old : List (Nat × Byte)) (q : Nat) : List (Nat × Byte) :=
  (p.heldSide.blockAddrs p.lanes 0 q).map (fun a =>
    match (if p.heldSide.shift = 0 then none else (old.find? (fun e => e.1 == a))) with
    | some e => (a, e.2)
    | none => (a, BitVec.ofNat 8 (rd a)))

/-- A byte of the active slot, or of the partition where the slot does not hold it. -/
def slotRead (slot : List (Nat × Byte)) (rd : Nat → Nat) (a : Nat) : Nat :=
  match slot.find? (fun e => e.1 == a) with
  | some e => e.2.toNat
  | none => rd a

/-- What feeds the A side and the B side of a step, with the held block in `slot`. -/
def MParams.readA (p : MParams) (slot : List (Nat × Byte)) (rd : Nat → Nat) : Nat → Nat := if p.weightStationary then rd else slotRead slot rd
def MParams.readB (p : MParams) (slot : List (Nat × Byte)) (rd : Nat → Nat) : Nat → Nat := if p.weightStationary then slotRead slot rd else rd

/-- R130: one accumulator update, acc + V * s2A * s2B rounded once. -/
def accUpdate (acc : W32) (v s2a s2b : FVal) : W32 := toF32 ((f32 acc).add ((v.mul s2a).mul s2b))

/-- Right shift rounding half up (R134, R135). -/
def shiftHalfUp (v : Int) (s : Nat) : Int :=
  if s = 0 then v else (v + 2 ^ (s - 1)) / (2 ^ s : Int)

/-- Clamp of an integer. -/
def clampInt (lo hi v : Int) : Int := if v < lo then lo else if v > hi then hi else v

/-- Real and imaginary part of a complex INT16 word (R122). -/
def cRe (x : Nat) : Int := sext 16 (x % 65536)
def cIm (x : Nat) : Int := sext 16 (x / 65536 % 65536)

/-- R133: the two parts of V of a complex step. -/
def MParams.stepComplex (p : MParams) (ra rb : Nat → Nat) (q h i j : Nat) : Int × Int :=
  (p.lanesOn q).foldl (fun acc k =>
    let a := p.sideA.code ra p.lanes (p.grpA h) q i k
    let b := p.sideB.code rb p.lanes (p.grpB h) q j k
    (acc.1 + (cRe a * cRe b - cIm a * cIm b), acc.2 + (cRe a * cIm b + cIm a * cRe b))) (0, 0)

/-- R134: a complex accumulator word after a step, and whether it was clamped. `e` is an error of the sum (R132). -/
def accComplex (acc : W32) (v : Int) (sh : Nat) (e : Int := 0) : W32 × Bool :=
  let s := acc.toInt + shiftHalfUp v sh + e
  let c := clampInt (-2147483648) 2147483647 s
  (BitVec.ofInt 32 c, c != s)

/-- Key of word (i, j) of an accumulator set (R88). -/
def accKey (set i j : Nat) : Nat := set * 256 + i * 16 + j

/-- Cells of a 16 x 16 set, in row order. -/
def cells16 : List (Nat × Nat) := (List.range 16).flatMap (fun i => (List.range 16).map (fun j => (i, j)))

/-- The words that step (q, h) writes, and the sticky conditions it raises (R107, R130, R134). `acc` reads an
accumulator word. -/
def MParams.step (p : MParams) (ra rb : Nat → Nat) (acc : Nat → W32) (q h : Nat) : List (Nat × W32) × NumFlags :=
  let live := cells16.filter (fun ij => p.rowOn h ij.1 && p.colOn h ij.2)
  if p.complex then
    live.foldl (fun r ij =>
      let v := p.stepComplex ra rb q h ij.1 ij.2
      let kr := accKey (p.setOf h) ij.1 ij.2
      let ki := accKey (p.setOf h + 1) ij.1 ij.2
      let a := accComplex (acc kr) v.1 p.accShift
      let b := accComplex (acc ki) v.2 p.accShift
      (r.1 ++ [(kr, a.1), (ki, b.1)], r.2.or { cpxSat := a.2 || b.2 })) ([], {})
  else
    let nanOps := p.stepNaNIn ra rb q h
    live.foldl (fun r ij =>
      let k := accKey (p.setOf h) ij.1 ij.2
      let old := acc k
      let v := p.stepValue ra rb q h ij.1 ij.2
      let s2a := p.sideA.l2 ra p.lanes (p.grpA h) q ij.1
      let s2b := p.sideB.l2 rb p.lanes (p.grpB h) q ij.2
      let new := accUpdate old v s2a s2b
      let nanIn := (f32 old).isNaN || nanOps
      let fin := !(f32 old).isInf && !(((v.mul s2a).mul s2b).isInf)
      (r.1 ++ [(k, new)],
       r.2.or { accInf := (f32 new).isInf && fin, accNan := (f32 new).isNaN && !nanIn })) ([], {})

/-- R124: the step consumes an E8M0 scale of 0xFF in an unmasked lane. DESIGN CHOICE (log 118): a scale of a row or column that MASK_M or MASK_N
masks is not consumed; the rule speaks of lanes only. -/
def MParams.stepScaleNaN (p : MParams) (ra rb : Nat → Nat) (q h : Nat) : Bool :=
  let bad (s : Side) (rd : Nat → Nat) (g i : Nat) : Bool :=
    fmtIsMX s.fmt && (p.lanesOn q).any (fun k => rd (s.scaleAddr p.lanes g q i k) == 255)
  (List.range 16).any (fun i => p.rowOn h i && bad p.sideA ra (p.grpA h) i) ||
  (List.range 16).any (fun j => p.colOn h j && bad p.sideB rb (p.grpB h) j)

/-- Rows and columns of the operation that block h covers: (row offset, column offset). -/
def MParams.origin (p : MParams) (h : Nat) : Nat × Nat := if p.weightStationary then (16 * h, 0) else (0, 16 * h)

/-- R131, R162: the C word of output row r, column c; the plane is 0 for real, 0 and 1 for complex. -/
def MParams.cWord (p : MParams) (rd : Nat → Nat) (r c plane : Nat) : W32 :=
  let row := p.cBase + r * p.cStride
  if p.complex then BitVec.ofNat 32 (leBytes rd (row + 4 * (plane * p.n + c)) 4)
  else if p.cFmt = 0 then BitVec.ofNat 32 (leBytes rd (row + 4 * c) 4)
  else if p.cFmt = 1 then toF32 (fmtBF16.decode (leBytes rd (row + 2 * c) 2))
  else toF32 (fmtFP16.decode (leBytes rd (row + 2 * c) 2))

/-- R97: the initial words of block h's set or pair of sets: zero, or C inside the extents. -/
def MParams.initWords (p : MParams) (rd : Nat → Nat) (h : Nat) : List (Nat × W32) :=
  let o := p.origin h
  let word (plane i j : Nat) : W32 :=
    if p.init && decide (o.1 + i < p.m) && decide (o.2 + j < p.n) then p.cWord rd (o.1 + i) (o.2 + j) plane else 0#32
  let set (plane : Nat) : List (Nat × W32) :=
    cells16.map (fun ij => (accKey (p.setOf h + plane) ij.1 ij.2, word plane ij.1 ij.2))
  if p.complex then set 0 ++ set 1 else set 0

/-- Bytes of one output element (R136). -/
def outBytes (fmt : Nat) : Nat := if fmt = 0 ∨ fmt = 0xA then 4 else if fmt ≤ 2 then 2 else 1

/-- R136, R137: a real accumulator word in the output format, and DRAIN_SAT. -/
def drainReal (fmt : Nat) (sat : Bool) (a : W32) : Nat × Bool :=
  if fmt = 0 then (a.toNat, false)
  else if fmt = 1 then drainFloat fmtBF16 sat a
  else if fmt = 2 then drainFloat fmtFP16 sat a
  else if fmt = 3 then drainFloat fmtE4M3 sat a
  else if fmt = 4 then drainFloat fmtE5M2 sat a
  else drainInt8 a

/-- R135: a complex pair of words as one complex INT16 word. -/
def drainComplex (sh : Nat) (re im : W32) : Nat × Bool :=
  let part (x : W32) : Int × Bool :=
    let v := shiftHalfUp x.toInt sh
    let c := clampInt (-32768) 32767 v
    (c, c != v)
  let a := part re
  let b := part im
  ((BitVec.ofInt 16 a.1).toNat + 65536 * (BitVec.ofInt 16 b.1).toNat, a.2 || b.2)

/-- Bytes of a value, little-endian. -/
def toLE (v : Nat) : Nat → List Nat
  | 0 => []
  | n + 1 => v % 256 :: toLE (v / 256) n

/-- R96, R107, R162: the bytes (local address, value) that draining block h writes, and whether DRAIN_SAT is raised. A
masked row or column is not written. -/
def MParams.drain (p : MParams) (acc : Nat → W32) (h : Nat) : List (Nat × Nat) × Bool :=
  let o := p.origin h
  let live := cells16.filter (fun ij => p.rowOn h ij.1 && p.colOn h ij.2)
  live.foldl (fun r ij =>
    let a := p.oBase + (o.1 + ij.1) * p.oStride + (o.2 + ij.2) * outBytes p.outFmt
    let v := if p.complex
      then drainComplex p.outShift (acc (accKey (p.setOf h) ij.1 ij.2)) (acc (accKey (p.setOf h + 1) ij.1 ij.2))
      else drainReal p.outFmt p.sat (acc (accKey (p.setOf h) ij.1 ij.2))
    let bs := toLE v.1 (outBytes p.outFmt)
    (r.1 ++ (List.range bs.length).zipWith (fun n b => (a + n, b)) bs, r.2 || v.2)) ([], false)

/-! ### Byte ranges an operation touches (R148, R153) -/

/-- Bytes from a base to the end of row r, for rows of `w` bytes in groups of 16 that lie `stride` apart: of row r itself, or of the group before
it (R161, R162). -/
def rowsTop (r stride w : Nat) : Nat :=
  max (r / 16 * stride + (r % 16 + 1) * w) (if r / 16 = 0 then 0 else (r / 16 - 1) * stride + 16 * w)

/-- Lowest and highest byte of a side's elements, scales and second-level scales over the whole operation; with SHIFT = s the last row read is row
15 of the last slice, row q * s + 15 (R161). -/
def MParams.sideRange (p : MParams) (s : Side) (ext : Nat) : List (Nat × Nat) :=
  if p.nslices = 0 then []
  else
    let g := blocks16 ext - 1
    let q := p.nslices - 1
    let el :=
      if s.shift = 0 then (s.base, s.base + g * s.stride + (q + 1) * (16 * s.rowBytes p.lanes) - 1)
      else (s.base, s.base + rowsTop (q * s.shift + 15) s.stride (s.rowBytes p.lanes) - 1)
    let c := if p.lanes ≤ 32 then 1 else p.lanes / 32
    let sc :=
      if s.shift = 0 then
        (s.sBase, s.sBase + g * s.sStride + (if p.lanes < 32 then 16 * (q * p.lanes / 32 + 1) else (q + 1) * (16 * c)) - 1)
      else (s.sBase, s.sBase + rowsTop (q * s.shift + 15) s.sStride c - 1)
    let l2 :=
      if s.shift = 0 then (s.l2Base, s.l2Base + g * s.l2Stride + 64 * (q * p.lanes / 256) + 63)
      else (s.l2Base, s.l2Base + rowsTop (q * s.shift + 15) s.l2Stride 4 - 1)
    [el] ++ (if fmtIsMX s.fmt then [sc] else []) ++ (if fmtIsMX s.fmt && s.l2s then [l2] else [])

def MParams.reads (p : MParams) : List (Nat × Nat) :=
  p.sideRange p.sideA p.m ++ p.sideRange p.sideB p.n ++
  (if p.init then
    [(p.cBase, p.cBase + (p.m - 1) * p.cStride +
      (if p.complex then 8 * p.n else if p.cFmt = 0 then 4 * p.n else 2 * p.n) - 1)] else [])

def MParams.writes (p : MParams) : List (Nat × Nat) :=
  [(p.oBase, p.oBase + (p.m - 1) * p.oStride + p.n * outBytes p.outFmt - 1)]

/-- Alignment rules of OPA, OPB and OPC (R159): multiples of 64. DESIGN CHOICE (log 176): they are checked on BASE + XREG when a MATMUL issues,
with cause ALIGN, and not when OPA, OPB or OPC load the registers. -/
def MParams.aligned (p : MParams) : Bool :=
  p.aBase % 64 == 0 && p.aStride % 64 == 0 && p.bBase % 64 == 0 && p.bStride % 64 == 0 &&
  (!(p.aL2S && fmtIsMX p.fmtA) || (p.aL2Base % 64 == 0 && p.aL2Stride % 64 == 0)) &&
  (!(p.bL2S && fmtIsMX p.fmtB) || (p.bL2Base % 64 == 0 && p.bL2Stride % 64 == 0)) &&
  p.oBase % 64 == 0 && p.oStride % 64 == 0 && (!p.init || (p.cBase % 64 == 0 && p.cStride % 64 == 0))

/-! ### Checksums of a step (R172-R174, R177, R184) -/

/-- FNV-1a over bytes, 64-bit. -/
def fnv1a (bs : List Nat) : Nat :=
  bs.foldl (fun h b => (h ^^^ b) * 0x100000001B3 % 2 ^ 64) 0xCBF29CE484222325

/-- R184: operand bytes of a step in hash order. -/
def MParams.stepBytes (p : MParams) (ra rb : Nat → Nat) (q h : Nat) : List Nat :=
  let rows (s : Side) (rd : Nat → Nat) (g : Nat) : List Nat :=
    (List.range 16).flatMap (fun i => (List.range (s.rowBytes p.lanes)).map (fun b => rd (s.rowAddr p.lanes g q i + b)))
  let scs (s : Side) (rd : Nat → Nat) (g : Nat) : List Nat :=
    if fmtIsMX s.fmt then
      (List.range 16).flatMap (fun i =>
        (List.range (if p.lanes ≤ 32 then 1 else p.lanes / 32)).map (fun c => rd (s.scaleAddr p.lanes g q i (32 * c))))
    else []
  rows p.sideA ra (p.grpA h) ++ scs p.sideA ra (p.grpA h) ++ rows p.sideB rb (p.grpB h) ++ scs p.sideB rb (p.grpB h)

end Sys2Proof.Machine
end

