-- ==== Sys2Proof/Machine/State.lean ====
section
/-!
DEFINITION. Machine/State.lean: the machine's state, its faults and refusals, and the state right after reset.

Registers are not repeated as structure fields: every field of every register of Machine/Regs.lean lives in `Dev.regs`
under its key, and a field that is not listed there holds its reset value. The structures below hold what the spec gives
the machine beside its registers: queues, buffers, memories, logs, work in progress, and what has left on the pins.
-/

namespace Sys2Proof.Machine

/-- Reasons for a fault. -/
inductive Fault where
  /-- Never raised: every access of this block that the spec does not serve has an outcome of its own in the spec (reads
  of all ones, discarded writes, refusals, containment), so no meaning ends in a fault. Safe. -/
  | none
deriving DecidableEq, Repr

/-- Reasons for a refusal. -/
inductive Refusal where
  /-- Raised by `exec` alone, for a command that has no meaning yet. Safe. -/
  | notModelled (mnemonic : String)
deriving DecidableEq, Repr

/-! ### Outputs -/

/-- What an event record reports (R19, R393): the spec fixes a record's time-stamp and source and the occasion. -/
inductive EvKind where
  | syncLost | chainAborted | contextDropped | slotMiss | seqFault | detection | sramDouble
  | uncorrectable | originFail | fabricError | portDown | portTimeout | timeStep | holdover
  | gougeFault | replayClass | newFault | watchdog | shadowMismatch | shadowTakeover | relinquish | missTicks
  | replicaExpelled | windowMismatch | straggler | thermalAlert | containment | retestResult | unitFaulty | poolShort
  | reset | meshCorrected | quarantine | supply | other
deriving DecidableEq, Repr

/-- An event record: bits [31:0] of T, source number, occasion and its arguments (R19). -/
structure EvRec where
  ns     : Nat
  source : Nat
  kind   : EvKind
  args   : List Nat
deriving DecidableEq, Repr

/-- What leaves the device, oldest first: event records, MSI-X messages (instance, vector, address, data), Ethernet frames by fronthaul
port, packets by fabric port, credits returned to a fabric port's neighbour as (port, class, VC, units), edges driven on pins (pin number, level, T), in-band interrupts and provisioned IDs of the I3C port (R475), and words shifted
out of the JTAG port. -/
structure Out where
  events : List EvRec := []
  msix   : List (Nat × Nat × Nat × Nat) := []
  frames : List (Nat × List Byte) := []
  packets : List (Nat × Packet) := []
  credits : List (Nat × Nat × Nat × Nat) := []
  edges  : List (Nat × Nat × Nat) := []
  ibi    : List Nat := []
  i3cId  : List Nat := []
  tdo    : List Nat := []
deriving DecidableEq, Repr

/-! ### The register port -/

/-- One entry of the configuration-write journal (R462). -/
structure JrnlEntry where
  ns      : Nat
  src     : Nat
  space   : Nat
  wide    : Bool
  refused : Bool
  burst   : Bool
  offset  : Nat
  new     : Nat
  old     : Nat
deriving DecidableEq, Repr

/-- Per-agent state of the register port (R13, R378, R461): the latched high word of a 64-bit register, the held low word of
a 64-bit write, the latched time of a TSU_NS read, and the registers that a pop latched. The last access's read value is
`rdata`. -/
structure Bus where
  rdata   : Nat := 0
  /-- agent ↦ (register key, latched high word) -/
  latch   : SMap (Nat × Nat) := []
  /-- agent ↦ (register key, held low word) -/
  held    : SMap (Nat × Nat) := []
  /-- agent ↦ (latched T, views still latched: bit 0 SEC, bit 1 FRAC, bit 2 TIME) -/
  tlatch  : SMap (Nat × Nat) := []
  journal : List JrnlEntry := []
  jrnlLost : Nat := 0
  /-- the burst that may go on: agent, window, T of the last write (R462) -/
  burst   : Option (Nat × Nat × Nat) := none
deriving DecidableEq, Repr

/-! ### Lathe and tiles -/

/-- An item that the Lathe holds (R49): its descriptor, where it came from (0 a host ring, 1 the serving engine, 2 the radio
front end), its instance and that instance's generation, submission order, attempts, consecutive cuts and the boundary that began the tick of
the last one (R47), the boundary at which it was released (R48) as `Lathe.ticks` counts boundaries, whether it was queued while RUN was 0 (R40), and whether a checksum mismatch occurred in an
earlier dispatch (R180). -/
structure Item where
  desc     : Words
  origin   : Nat
  inst     : Nat
  igen     : Nat
  seqNo    : Nat
  attempt  : Nat := 0
  cuts     : Nat := 0
  cutAt    : Option Nat := none
  released : Option Nat := none
  stalled  : Bool := false
  mism     : Bool := false
deriving DecidableEq, Repr

/-- What became of one item of a chain (R48). -/
structure ChainRec where
  origin : Nat
  inst   : Nat
  chain  : Nat
  index  : Nat
  status : Option Nat
deriving DecidableEq, Repr

/-- A condition on which a chuck waits (R159, R154). -/
inductive Wait where
  | sem (s v : Nat)
  | matrix
  | dma
  | commit (thenEnd : Bool)
deriving DecidableEq, Repr

/-- A hardware loop in progress (R159): counter, first command of the body, address after the body, iterations left. -/
structure LoopRec where
  lc    : Nat
  start : Nat
  stop  : Nat
  left  : Nat
deriving DecidableEq, Repr

/-- A queued matrix operation: its parameters, the next slice of each block, which blocks have their initial value (R97), how many blocks have
drained (R96), and the active slot of the row buffers or the weight slots: the slice of its block and the block's bytes by local address
(R102-R104). -/
structure MOp where
  p       : MParams
  next    : List Nat
  inited  : List Bool
  drained : Nat
  slotQ   : Option Nat := none
  slot    : List (Nat × Byte) := []
deriving DecidableEq, Repr

/-- A queued DMA descriptor (R164): its number, its words, its local address, whether it was issued in the tail, whether it has
started, whether its item was cut or stopped since (R167), the first-issued request that failed as (request, status, node,
offset), the requests it still waits for, whether its access is held (R240, R247), the instance it acts for, and whether the run that
issued it is still on the chuck. -/
structure DmaOp where
  id      : Nat
  words   : Words
  addr    : Nat
  tail    : Bool
  started : Bool := false
  cut     : Bool := false
  fail    : Option (Nat × Nat × Nat × Nat) := none
  waits   : List Nat := []
  held    : Bool := false
  inst    : Nat := 0
  own     : Bool := true
deriving DecidableEq, Repr

/-- The run of an item on a chuck: the item, the command address, whether it has committed, tail commands issued (R155),
whether this is the re-run of R179, whether chuck 0 has preempted it (R404), whether a detection stopped it, the detection of the first run (none: no detection; `some none`:
not LOCAL; else cube and MAC row), the injection that its re-run repeats (R492: cube, MAC row, layer, bit), whether an operation with K = 0 ran (R111), valid steps
issued in the run, and the semaphore changes that wait for the commit: increments (tile, context, semaphore) and decrements
(semaphore, count) (R170). -/
structure Run where
  item      : Item
  pc        : Nat
  committed : Bool := false
  status    : Nat := 0
  tailCmds  : Nat := 0
  rerun     : Bool := false
  preempted : Bool := false
  stopped   : Bool := false
  det       : Option (Option (Nat × Nat)) := none
  inject    : Option (Nat × Nat × Nat × Nat) := none
  kzero     : Bool := false
  steps     : Nat := 0
  heldInc   : List (Nat × Nat × Nat) := []
  heldDec   : List (Nat × Nat) := []
deriving DecidableEq, Repr

/-- A chuck: the resident context, whether its bring-in is complete, whether its writable mappings have begun (R234), the item it runs, and the sequencer, vector and cube
state of R65, and the counts of `Lathe.clock` at which it last ran and at which its context came (0: not since the bring-in; R68, R69). Scalar registers S1-S63, vector registers as reg * 128 + lane, masks VM1-VM7, local semaphores 0-7; inbound
semaphores are in CUB_SEQ_SEM, cube configuration in CUB_CFG, CUB_MASK_MN and CUB_MASK_K. -/
structure Chuck where
  ctx      : Option Nat := none
  resident : Bool := false
  run      : Option Run := none
  sregs    : SMap W32 := []
  flags    : Nat := 0
  loops    : List LoopRec := []
  vregs    : SMap W32 := []
  vmask    : SMap (BitVec 128) := []
  lsem     : SMap Nat := []
  opA      : W64 × W64 := (0, 0)
  opB      : W64 × W64 := (0, 0)
  opC      : W64 × W64 := (0, 0)
  acc      : SMap W32 := []
  mq       : List MOp := []
  dq       : List DmaOp := []
  wait     : Option Wait := none
  lastRun  : Nat := 0
  since    : Nat := 0
  mapped   : Bool := false
deriving DecidableEq, Repr

/-- A radio item of a radio tile's tick (R63, R64, R312): kind (0 U1, 1 U2, 2 CB, 3 D2, 4 D1, 5 submitted), its part of the cells of the entry, interval,
release and deadline in tile cycles, cycle bound, and its progress: 0 waiting, 1 ready, 2 running, 3 committed with
outputs to move, 4 missed and not yet reported, 5 done; whether the mover has finished writing its input (R312), and the TAG and the descriptor of a
submitted item (R49). -/
structure RItem where
  kind     : Nat := 0
  cells    : List Nat := []
  interval : Nat := 0
  release  : Nat := 0
  deadline : Nat := 0
  bound    : Nat := 0
  stage    : Nat := 0
  arrived  : Bool := false
  tag      : Option Nat := none
  desc     : Words := []
deriving DecidableEq, Repr

/-- Tile-wide state: the chuck that runs, the chuck it preempted (R64), the items of the tick's list that have not started
(R52), radio items of the tick, whether the tile is withheld this tick (R74), and a mirror in progress (R189). -/
structure Tile where
  cur       : Option Nat := none
  preempted : Option Nat := none
  list      : List Item := []
  radio     : List RItem := []
  withheld  : Bool := false
  mirror    : Nat := 0
deriving DecidableEq, Repr

/-- A swap transfer in progress (R70): context, tile, chuck, and whether it is an eviction. -/
structure Swap where
  ctx  : Nat
  tile : Nat
  chuck : Nat
  out  : Bool
deriving DecidableEq, Repr

/-- What a runnable context has taken on its tile while the evictions that free it are in progress (R68): context, tile, chuck, banks as a mask,
and the contexts being evicted for it. -/
structure Claim where
  ctx   : Nat
  tile  : Nat
  chuck : Nat
  mask  : Nat
  outs  : List Nat
deriving DecidableEq, Repr

/-- The Lathe beside its registers: queued items, submission count, chain results, the context-command queue as
(operation, context, tag, reserved bits set) and its results, contexts whose items are no longer placed (R59) with what
their removal does (0 save, 1 discard, 2 silent) and whether a boundary has passed since, contexts whose wait has reached
QUANTUM (R69), ticks a runnable context has waited (R69), inbound semaphores of
contexts that are not resident and their cube configuration as it was swapped out (R116), swaps, the extents for which a
context's bring-in waits (R241), what runnable contexts have taken (R68), a
counter of dispatches, resumptions and bring-ins, boundaries so far, whether the guard has begun, boundaries
without a SPINDLE_SYNC edge, the T of the last boundary and of the last edge (on the time scale of now: a step of T moves them with it), whether an edge has come since the boundary, and LOCKED as the last
boundary set it (R84). -/
structure Lathe where
  pend      : List Item := []
  seqNo     : Nat := 0
  chains    : List ChainRec := []
  cmdQ      : List (Nat × Nat × Nat × Bool) := []
  results   : List W64 := []
  dropped   : List (Nat × Nat × Bool) := []
  widened   : List Nat := []
  waited    : SMap Nat := []
  ctxSem    : SMap Nat := []
  ctxCfg    : SMap (List Nat) := []
  swaps     : List Swap := []
  claims    : List Claim := []
  clock     : Nat := 0
  ticks     : Nat := 0
  inGuard   : Bool := false
  missed    : Nat := 0
  bindWait  : SMap (List Nat) := []
  boundaryT : Int := 0
  edgeT     : Option Int := none
  seen      : Bool := false
  aligned   : Bool := false
deriving DecidableEq, Repr

/-! ### Memory tiers -/

/-- The bytes of the stacks: (physical byte key, byte), keys strictly rising, no entry equal to zero. The key of byte b of line
A (R243: 30 bits, bit 29 the near tier) of stack m is ((m * 2^30 + A) * 128) + b. -/
abbrev Mem := List Host.Cell

/-- What a line's codeword holds beside its data (R243-R245): error symbols as (position 0-71, value), the poison pattern, and whether an
injection planted its error (R493). -/
structure LineErr where
  errs   : List (Nat × Nat) := []
  poison : Bool := false
  inj    : Bool := false
deriving DecidableEq, Repr

/-- A memory command (R236) with whether the origin it reads answers (R237, R443). -/
structure MemCmd where
  w0 : W64
  w1 : W64
  w2 : W64
  originOk : Bool
deriving DecidableEq, Repr

/-- An access that waits for an extent to be switched or re-fetched (R240, R247): a tile's descriptor (tile * 4 + chuck, number)
that is to run, one whose writes are to become visible, a host read of a function, a fabric request, or bytes that a
block of this device writes; the rest of a step's chain that the serving engine is to read (profile, step, items left); or a line of an entry of a
radio ring (ring, index, offset) that is to become visible. -/
inductive HeldAccess where
  | dma (chuck id : Nat)
  | dmaDone (chuck id off : Nat)
  | hostRead (fn off len : Nat)
  | fabric (pk : Packet)
  | bytes (off : Nat) (data : List Byte)
  | chain (p num left : Nat)
  | entry (q k off : Nat)
deriving DecidableEq, Repr

/-- An extent being moved (R239): extent number, target tier, stack, slot or location, and the accesses held meanwhile in arrival
order (R240). -/
structure Move where
  ext   : Nat
  tier  : Nat
  stack : Nat
  loc   : Nat
  held  : List HeldAccess
deriving DecidableEq, Repr

/-- The memory-tier controller and the base dies beside their registers: command queue, results, the running MIGRATE (command,
extents moved so far, next extent, the status that stopped it), moves in progress, old slots not yet freed as (tier, stack, slot), free-slot state as
the set of slots in use and of retired slots (key tier * 2^20 + stack * 2^16 + slot), codeword state by line, re-fetches in
progress as (extent, failing line) with the accesses they hold, accesses released and not yet performed (empty between
commands), the scrubber's next line of each stack, the ticks since the
last halving of HEAT, what the last host read through BAR4 returned, the stack from which the running MIGRATE last allocated a slot (R238), and
lines of tiers 3 and 4 whose next read by other than a tile's engine fails (R246). -/
structure MemCtl where
  queue    : List MemCmd := []
  results  : List W64 := []
  running  : Option (MemCmd × Nat × Nat × Option Nat) := none
  moves    : List Move := []
  oldSlots : List (Nat × Nat × Nat) := []
  used     : List Nat := []
  retired  : List Nat := []
  lines    : SMap LineErr := []
  refetch  : List (Nat × Nat) := []
  held     : List (Nat × HeldAccess) := []
  released : List HeldAccess := []
  scrub    : SMap Nat := []
  heatTicks : Nat := 0
  hostData : List Byte := []
  lastStack : Option Nat := none
  failing  : List Nat := []
deriving DecidableEq, Repr

/-! ### Fabric -/

/-- A request of this device that has not completed (R262, R266): tag, stream (epoch, SEQ), its client's source number (R19), the
owner (chuck key of a DMA client) and its descriptor or register-port operation with the request's place in it, where its
data goes (local address and bytes; `skip` bytes of the response come before them), its packet, and whether it fills a line
of the quad cache. -/
structure FReq where
  tag    : Nat := 0
  epoch  : Nat := 0
  seq    : Nat := 0
  client : Nat
  owner  : Nat
  desc   : Nat
  idx    : Nat
  laddr  : Nat
  len    : Nat
  skip   : Nat := 0
  fill   : Bool := false
  pk     : Packet
deriving DecidableEq, Repr

/-- One operation of the register port (UNL_OP): its words, progress (0 queued, 1 outstanding, 2 complete), status, node and
data reported, and whether a completed FENCE covers it. -/
structure UOp where
  id     : Nat
  w0     : W64
  offset : Nat
  data   : Nat
  cmp    : Nat
  bad    : Bool
  stage  : Nat := 0
  status : Nat := 0
  node   : Nat := 0
  rdata  : Nat := 0
  covered : Bool := false
deriving DecidableEq, Repr

/-- A combining entry (R276): operation, type, destination and its generation, line offset, image by byte position, the 4-byte
positions present, constituents as (source, tag, offset, generation), T at opening, and the tag under which the combined request was
sent. -/
structure CombEntry where
  op    : Nat
  atype : Nat
  dst   : Nat
  dgen  : Nat
  line  : Nat
  image : SMap Byte
  present : Nat
  parts : List (Nat × Nat × Nat × Nat)
  t     : Nat
  sent  : Option Nat
deriving DecidableEq, Repr

/-- A directory entry (R279): sharers, and in state W the members whose INVAL_ACK is awaited and the accesses held. An entry is in
state W while `waiting` is not empty. -/
structure DirEntry where
  sharers : List Nat
  waiting : List Nat
  held    : List HeldAccess
deriving DecidableEq, Repr

/-- A port (R257, R271-R274): packets waiting to leave, those of them that are PTP messages, the replay buffer oldest first, the flits of its first packet that are acknowledged, the
12-bit number of the first flit that is not, credits in use by class * 2 + VC, consecutive replays without progress, and the class that the round robin
of the lowest level serves next. -/
structure FPort where
  queue   : List Packet := []
  ptp     : List Packet := []
  replay  : List Packet := []
  part    : Nat := 0
  flit    : Nat := 0
  used    : SMap Nat := []
  stuck   : Nat := 0
  rr      : Nat := 0
deriving DecidableEq, Repr

/-- The fabric beside its registers: counters of tags and of operations, streams sent (key dst * 8 + class ↦ (epoch, next SEQ)),
streams received (key src * 8 + class ↦ (epoch, expected SEQ, requests held early)), requests outstanding, requests held for
a generation or a free stream place, the register port's operations and the first failure among those popped since the last
FENCE (status, node), the fabric error log as (status, client, node, offset), packets without a route, combining entries,
what has been combined of a source's streams (key src * 65536 +
dst ↦ (generation, epoch, SEQs)), received packets whose credits are not returned yet as (port, packet), and stacks for which atomics have come by a port as (port, stack) (R274), quad-cache lines (key node * 2^41 + line ↦ state 1 S, 2 P, 3 X, 4 P invalidated, and the data), the directory by line,
ports, and packets of this device to itself (empty between commands). -/
structure Fabric where
  tag     : Nat := 0
  opId    : Nat := 0
  tx      : SMap (Nat × Nat) := []
  rx      : SMap (Nat × Nat × List (Nat × Packet)) := []
  out     : List FReq := []
  genHold : List FReq := []
  ops     : List UOp := []
  fenceFail : Option (Nat × Nat) := none
  errLog  : List (Nat × Nat × Nat × Nat) := []
  errLost : Nat := 0
  noRoute : List Packet := []
  comb    : List CombEntry := []
  combSeen : SMap (Nat × Nat × List Nat) := []
  owed    : List (Nat × Packet) := []
  feeds   : List (Nat × Nat) := []
  qcache  : SMap (Nat × List Byte) := []
  dir     : SMap DirEntry := []
  ports   : SMap FPort := []
  loop    : List Packet := []
deriving DecidableEq, Repr
/-! ### Serving engine -/

/-- A row of a step in flight (R215): entry, its generation, whether it is a prefill row, whether its token has arrived. -/
structure SRow where
  seq  : Nat
  sgen : Nat
  prefill : Bool
  token : Bool
deriving DecidableEq, Repr

/-- A step in flight (R197, R198): profile, number, rows, items whose final record is still to come, and whether one failed. -/
structure StepRec where
  prof  : Nat
  num   : Nat
  rows  : List SRow
  left  : Nat
  failed : Bool
deriving DecidableEq, Repr

/-- The serving engine beside its registers and the sequence table: arrival order of QUEUED entries (R199), admission rank of
PENDING ones (R204), start and finish tags of each queue's head (R202), the finish tag of the request last admitted from a
queue, steps in flight, a clear of EN that waits (R218), the smallest FREE since the last read of SRV_KV_LOW, and the instance
generation of each submission (R456), and token notifications on their way to the update port (R224). -/
structure Srv where
  arrivals : Nat := 0
  arrival  : SMap Nat := []
  ranks    : Nat := 0
  rank     : SMap Nat := []
  tags     : SMap (Nat × Nat) := []
  lastF    : SMap Nat := []
  steps    : List StepRec := []
  disable  : Bool := false
  low      : Option Nat := none
  gens     : SMap Nat := []
  inbox    : List Words := []
deriving DecidableEq, Repr

/-! ### Host attachment -/

/-- What the configuration space of one function holds beside Bus Master Enable (R442): the Power Management state (0 D0, 3 D3hot), Max Payload
Size and Max Read Request Size in bytes, the status words of Advanced Error Reporting, and MSI-X Enable and Function Mask (R459). The values are
those of PCI Express after a reset of the function (PRESUMED, log 12). -/
structure PcieFn where
  power    : Nat := 0
  mps      : Nat := 128
  mrrs     : Nat := 512
  aerUnc   : Nat := 0
  aerCor   : Nat := 0
  msixEn   : Bool := false
  msixMask : Bool := false
deriving DecidableEq, Repr

/-- The host attachment beside its registers: Bus Master Enable (R443), the PCIe link with its rate and width (`link`: 1 for 2.5 GT/s to 7 for
128 GT/s, and lanes; 0 and 0 while it is down), the configuration spaces by function (R442), the size of the PF's BAR4 as the power of two in bytes
that Resizable BAR selects, 30 to 41 (R442, R445; 41 after reset, log 12), messages shown in MBOX_IN by instance,
oldest first (R454), MSI-X table words by key and pending bits (R459), vectors within 2 µs of a message as (instance,
vector, T of the message, whether events merged since), boundaries since the reset of an instance began (R457) and whether
its VF was removed, the instance whose SQ is served next, entries fetched in this tick (R452), and link state. -/
structure Vir where
  bme      : Bool := false
  linkUp   : Bool := false
  perst    : Bool := true
  mbox     : SMap (List Words) := []
  msixTab  : SMap Nat := []
  msixPend : List (Nat × Nat × Nat) := []
  recent   : List (Nat × Nat × Nat × Option Nat) := []
  resets   : SMap (Nat × Bool) := []
  turn     : Nat := 0
  fetched  : Nat := 0
  fns      : SMap PcieFn := []
  rbar     : Nat := 41
  link     : Nat × Nat := (0, 0)
deriving DecidableEq, Repr

/-! ### Time-stamping unit -/

/-- A pulse output (R390): latched START, PERIOD, WIDTH, POL and mode, the T of the next edge, and whether a pulse is active. -/
structure Pulse where
  start  : Nat
  period : Nat
  width  : Nat
  pol    : Nat
  mode   : Nat
  next   : Nat
  fall   : Nat
  active : Bool
deriving DecidableEq, Repr

/-- Egress log entry (R388): sequence or measurement ID, message type, port, whether eCPRI, stamp in 2^-16 ns. -/
structure TxStamp where
  seqId : Nat
  mtype : Nat
  port  : Nat
  ecpri : Bool
  stamp : Nat
deriving DecidableEq, Repr

/-- The time-stamping unit beside its registers: device time in units of 1 / (256 * 10^9) ns (R375, R380), the slew amount
remaining in the same units, the egress log, consecutive accepted edges within 100 ns and consecutive rejected edges (R384),
armed pulse outputs, the level of PPS_OUT, the whole second of its last rising edge (or of the step) and the time of the falling edge that
follows (R392), and messages passed to the PTP firmware with their ingress stamps, as (port, stamp in 2^-16 ns where one was taken, bytes)
(R386, R388). -/
structure Tsu where
  fine     : Nat := 0
  slew     : Int := 0
  txLog    : List TxStamp := []
  txLost   : Nat := 0
  good     : Nat := 0
  rejects  : Nat := 0
  pulses   : SMap Pulse := []
  ppsHigh  : Bool := false
  ppsLast  : Nat := 0
  ppsFall  : Nat := 0
  rx       : List (Nat × Option Nat × List Byte) := []
deriving DecidableEq, Repr

/-! ### Tailstock records and resets -/

/-- Why the chip is reset (R400, R479, R484, R499, R503, R505). -/
inductive ResetCause where
  | meshDouble | sramDouble | dieLink | memory | refetch | thermal | confirm | activate | power | pin
deriving DecidableEq, Repr

/-- A chip reset that ends the command that runs: its cause, the unit at fault (R401), a detail word, and whether an injection caused it
(R493). -/
structure ResetReq where
  cause  : ResetCause
  unit   : Nat
  detail : Nat
  inj    : Bool := false
deriving DecidableEq, Repr

/-- A detection or fault record on its way to the Tailstock (R182, R397, R401, R404): the unit (physical position), whether the
detection is confirmed, its kind as DKIND shows it, a failed retest, the item's TAG, the hash or offset that DETAIL holds, the
formats of the load signature, the words of a detection record (R183), whether an injection caused it (R493), and for the detection of a re-run the
logical tile, the cube and MAC row to which both detections are LOCAL, and the item (submission order), for the choice of a cure (R180). -/
structure FaultRec where
  unit      : Nat
  confirmed : Bool
  dkind     : Nat
  failed    : Bool := false
  tag       : Nat := 0
  detail    : Nat := 0
  load      : Nat := 0
  words     : Words := []
  inj       : Bool := false
  cure      : Option (Nat × Option (Nat × Nat) × Option Nat) := none
deriving DecidableEq, Repr

/-- A cure that waits for a boundary (R180, R402): its kind (0 spare row, 1 mirror-in, 2 end of a cover then mirror-in, 3
disable the logical tile, 4 retire the spare tile that was covering it), the logical tile, and for a spare row the cube and the MAC row. -/
structure Cure where
  kind : Nat
  tile : Nat
  cube : Nat := 0
  row  : Nat := 0
deriving DecidableEq, Repr

/-- A collective window's round (R421, R422): the digest term of each line written, the digest that came from a peer as (node, the peer's
window, digest), the round and digest of the last seal, mismatches in this round, and the last round for which this device sent an inverted
WIN_DIGEST (R492, R493). -/
structure Cwin where
  terms : SMap Nat := []
  peer  : Option (Nat × Nat × Nat) := none
  shut  : Option (Nat × Nat) := none
  fails : Nat := 0
  inj   : Option Nat := none
deriving DecidableEq, Repr

/-- A set of conditions of a detection (R404, R405): powered second, temperature in 0.25 °C, core voltage in mV, load signature. -/
structure Cond where
  pos  : Nat
  temp : Int
  mv   : Nat
  load : Nat
deriving DecidableEq, Repr

/-- A unit's entry of the fault summary (R403, R406) and its tests (R405, R408): state (0 HEALTHY, 1 SUSPECT, 2 FAULTY), powered
seconds of its confirmed detections, the conditions of its detections (newest first), whether a retest is due, the sets it
has still to pass, whether a test runs (0 none, 1 sweep test, 2 retest), the powered second since which a retest waits for its temperature,
whether the set in hand is COND_PARTIAL, whether it waits for another retest or for its cell (BLOCKED), and whether its retest is one that
the power-up left to run first (R407). -/
structure UnitRec where
  state   : Nat := 0
  times   : List Nat := []
  conds   : List Cond := []
  due     : Bool := false
  left    : List Cond := []
  test    : Nat := 0
  wait    : Option Nat := none
  part    : Bool := false
  blocked : Bool := false
  first   : Bool := false
deriving DecidableEq, Repr

/-- A COMPARE entry that has no counterpart yet (R411, R412): channel, output, INTERVAL and digest, the tick in which it came, and the
coding engine that formed it. -/
structure CmpEnt where
  key    : Nat × Nat × Nat
  digest : Nat
  tick   : Nat
  engine : Nat
deriving DecidableEq, Repr

/-- A bring-in of a cell (R426): frames seen, matches and mismatches. -/
structure Probe where
  frames : Nat := 0
  good   : Nat := 0
  bad    : Nat := 0
deriving DecidableEq, Repr

/-- What a conditioned retest keeps (R489): the unit, PRT_VCORE, EN, LEASE and PRT_LOAD as they stood before it, and the load signature of its own. -/
structure PrtHold where
  unit : Nat
  ofs0 : Nat
  ofs1 : Nat
  en   : Nat
  lease : Nat
  load : Nat
  sig  : Nat
deriving DecidableEq, Repr

/-- What the Lathe does for a conditioned retest in a tick under PRT_LOAD (R490): the unit, the tile cycles for which its cube passes run, the
formats that they use in addition to the test's own set, the steps after which a save and restore is forced, the cycles of filler items
by logical tile, and the average busy percentage of the die's other tiles with them. -/
structure TestLoad where
  unit    : Nat
  cycles  : Nat
  formats : List (Nat × Nat)
  preempt : Option Nat
  fill    : SMap Nat
  share   : Nat
deriving DecidableEq, Repr

/-- The Tailstock beside its registers: waiting records, waiting cures, `covers` keyed by tile row (the logical tile that the row's
spare copies or covers, and whether an in-field test is the reason, R188, R192), logical tiles of which a test during their cover has failed, tests that wait for a boundary as (logical tile), the
units' states, the fault journal and whether an entry is UNPROVEN (R428), journal entries overwritten, history records not
yet in flash (R407), the retention buffer (R400), T of watchdog expiries, the next tile of the sweep, conditioned retests by die
(2: the R-die), the load of this tick for each of them (R490), test results that came while the Tailstock restarted as (unit, pass) (R409),
collective windows, COMPARE entries waiting on either side by cell, the tick of the last COMPARE by cell,
pairs that have exchanged HELLO, pairs whose partner was reported silent, bring-ins by cell and the stage's (window rounds, replica rounds,
bad), replica members' last rounds by entry * 4 + peer as (round, digest, REF_DIGEST) with the entry's own under
entry * 4 + 3, matching rounds of a member on probation, steps seen by replica entry, entries whose round waits for a re-fetch, outstanding backups by
group * 8 + member as the step, ticks that a member's slot has stayed low under the same key (R424), CRC64 of extents before an expelled
member's re-fetch (R420), reference cycles since the last powered second (R403), digests and flits that an armed
injection has corrupted (R492), and CUB_TILE_SPARE of physical tiles that serve no logical
tile, by UNIT code. -/
structure Tls where
  inQ   : List FaultRec := []
  cures : List Cure := []
  covers : SMap (Nat × Bool) := []
  coverFail : List Nat := []
  asks  : List Nat := []
  units : SMap UnitRec := []
  journal : List (Words × Bool) := []
  jlost : Nat := 0
  toFlash : List Words := []
  retained : List Words := []
  wdogT : List Nat := []
  sweep : Nat := 0
  holds : SMap PrtHold := []
  loads : SMap TestLoad := []
  results : List (Nat × Bool) := []
  wins  : SMap Cwin := []
  mine  : SMap (List CmpEnt) := []
  theirs : SMap (List CmpEnt) := []
  heard : SMap Nat := []
  hello : List Nat := []
  silent : List Nat := []
  probes : SMap Probe := []
  stage : Nat × Nat × Nat := (0, 0, 0)
  rounds : SMap (Nat × Nat × Nat) := []
  matched : SMap Nat := []
  steps : SMap Nat := []
  roundWait : List Nat := []
  backups : SMap Nat := []
  lags  : SMap Nat := []
  crcs  : SMap Nat := []
  up    : Nat := 0
  dig   : Nat := 0
  link  : Nat := 0
  spares : SMap Nat := []
deriving DecidableEq, Repr
/-! ### Radio -/

/-- Samples staged for one antenna and interval (R32, R285, R294): the index of the first, how many there are, and their bytes in the received
format. -/
structure IqRun where
  cell     : Nat
  interval : Nat
  ant      : Nat
  off      : Nat
  count    : Nat
  fmt      : Nat
  raw      : List Byte
  stamp    : Option Nat
deriving DecidableEq, Repr

/-- A missed interval of a cell (R78, R351): direction, reason, and whether its SLOT_MISS record has been written. -/
structure Miss where
  cell     : Nat
  interval : Nat
  dl       : Bool
  reason   : Nat
  done     : Bool
deriving DecidableEq, Repr

/-- A submission in a cell's buffer (R348): its words and payload, its ring index, its interval, its bits on air once it is encoded,
and whether it is a burst that was accepted. -/
structure Sub where
  hdr      : Words
  payload  : List Byte
  pos      : Nat
  interval : Nat
  bits     : Option (List Bool)
deriving DecidableEq, Repr

/-- A record that waits to enter Q2n (R346): kind, sort keys, words and payload. -/
structure RadRec where
  kind    : Nat
  keys    : List Nat
  words   : Words
  payload : List Byte
deriving DecidableEq, Repr

/-- The channeliser and mover state of a cell on air (R294, R304-R312): the first interval F; per antenna the last TN samples;
the interval whose window has closed last, with its samples led by the TN before it; G of U1 and Y of U2 by antenna and
frame; the combined streams by channel * 2 + output; the weights in force and those written for the next tick by
channel * 16 + output * 8 + antenna; the bins of MOD items by interval, transmit antenna and frame; G' of D2 by frame
and antenna; the samples of D1 that egress has not taken, by interval and antenna, and the samples of a block that belong to the next interval, by
that interval; egress sequence numbers by antenna; whether the next Gouge item gets RESTART;
and the tick in which the cell went on air or became PRIMARY. -/
structure CellRun where
  first   : Nat
  past    : List (List W32) := []
  window  : Option Nat := none
  input   : List (List W32) := []
  g       : List (List (List W32)) := []
  y       : List (List (List W32)) := []
  comb    : SMap (List W32) := []
  weights : SMap W32 := []
  wnew    : SMap W32 := []
  bins    : SMap (List (List (List W32))) := []
  gp      : SMap (List (List W32)) := []
  egress  : SMap (List (List W32)) := []
  carry   : SMap (List (List W32)) := []
  seqs    : SMap Nat := []
  restart : Bool := true
  since   : Nat := 0
deriving DecidableEq, Repr

/-- The receiver of one stream (R327-R338). Time is in samples of the stream. `ant0` and `ant1` hold the streams as they arrive (the
second one under COMB 2 alone), `raw` the combined stream, `y` the AGC output; the first sample held has index `base`.
`pnum / 2^pexp` is the power estimate. `sym` is the next symbol of the search. `phase`: 0 search, 1 sync word, 2 header, 3 body.
`w` is c of R328 of the last burst. `bits` are the decisions since the detection; `soft` the soft bits of the header, or of
the body not yet sent; `left` the bits that remain of the header or body; `taps` and `fb` the taps of R333, `hist` the levels
a[n - 1], a[n - 2], ...; `adj` the timing shift in 1/64 symbol; `gsum` and `gcnt` the sum of R332 and its symbols; `esum` and
`ecnt` the errors of the body; `start` the START fields. `idle` says that this interval has been searched throughout;
`powers` are the P values of idle intervals, `isum` the sum of |y|² over this interval's samples before the AGC. `wOld` is c before a detection that is
not yet a burst. `miss` marks a burst that spans a missed interval, `missNow` an interval that is being received and is missed. -/
structure Rx where
  n     : Nat := 0
  base  : Nat := 0
  pnum  : Nat := 0
  pexp  : Nat := 0
  gain  : Nat := 64
  ant0  : List W32 := []
  ant1  : List W32 := []
  raw   : List W32 := []
  y     : List W32 := []
  sym   : Nat := 0
  phase : Nat := 0
  w     : Option (Int × Int) := none
  phi   : Nat := 0
  cfo   : Int := 0
  det   : Nat := 0
  bits  : List Bool := []
  syncIdx : Nat := 0
  taps  : List Int := []
  fb    : List Int := []
  hist  : List Int := []
  adj   : Int := 0
  gsum  : Int := 0
  gcnt  : Nat := 0
  soft  : List Int := []
  left  : Nat := 0
  esum  : Nat := 0
  ecnt  : Nat := 0
  start : List Nat := []
  idle  : Bool := true
  powers : List Nat := []
  isum  : Nat := 0
  wOld  : Option (Int × Int) := none
  miss  : Bool := false
  missNow : Bool := false
deriving DecidableEq, Repr

/-- A burst that the coding engines decode (R339): the START fields, the CAL of its stream then, and the soft bits so far. -/
structure Burst where
  start : List Nat
  cal   : Nat
  soft  : List Int
deriving DecidableEq, Repr

/-- One-way delay measurement of a port (R288): requests with follow-up that wait for it, as (measurement ID, ingress stamp), and the
device's own request, as (measurement ID, egress stamp). -/
structure Owd where
  held : List (Nat × Nat) := []
  own  : List (Nat × Nat) := []
deriving DecidableEq, Repr

/-- The radio front end beside its registers: received samples, intervals whose window has closed as (cell, interval), misses,
cells on air, role changes that wait as (role, earliest boundary, takeover), the earliest boundary at which the pending set becomes active, CAL in force, records that
wait for Q2n, the entries written to a ring and not shown by PROD yet, as the number of their lines that wait to be written, oldest first
(R341), records lost since the last one written by cell, submission buffers, receivers by ((cell * 320) + channel) * 2 + output,
segments collected from demodulation items by cell as (interval, bytes), bursts being decoded by receiver key, cells whose
image load is in progress, coded bits of this tick, coding items that have run or been cut in this tick as (cell, downlink, engine), one-way delay state by port, and the BURST records written in this tick, as cell and (channel, output, INTERVAL,
digest, coding engine), for the partner (R411). -/
structure Rad where
  iq     : List IqRun := []
  closed : List (Nat × Nat) := []
  misses : List Miss := []
  cells  : SMap CellRun := []
  roles  : SMap (Nat × Nat × Bool) := []
  admitTick : Nat := 0
  cal    : SMap Nat := []
  recs   : SMap (List RadRec) := []
  unseen : SMap (List Nat) := []
  lostQ  : SMap Nat := []
  subs   : SMap (List Sub) := []
  rx     : SMap Rx := []
  segs   : SMap (List (Nat × List Byte)) := []
  bursts : SMap Burst := []
  loads  : List Nat := []
  ceBits : Nat := 0
  coded  : List (Nat × Bool × Nat) := []
  owd    : SMap Owd := []
  digests : List (Nat × Words) := []
deriving DecidableEq, Repr

/-! ### Gouge cores -/

/-- Where a result of a Gouge instruction lands (R359): a physical D register with the lanes written (bit 0 lo, bit 1 hi), an accumulator as EXT sees it,
a control register, a word of data memory, a weight, or the flags EQ and LT. -/
inductive GDst where
  | reg (r lanes : Nat)
  | acc (a : Nat)
  | creg (c : Nat)
  | word (a : Nat)
  | cmp
deriving DecidableEq, Repr

/-- What an interrupt saves (R366): return index, SR, RRB, LC0, LC1, loops and repeat count. -/
structure GShadow where
  pc    : Nat
  sr    : Nat
  rrb   : Nat
  lc0   : Nat
  lc1   : Nat
  loops : List (Nat × Nat × Nat × Bool)
  rep   : Option Nat
deriving DecidableEq, Repr

/-- A Gouge core (R355-R370): the item that runs as (MOD, index in the tick's list, interval), items run in this tick, the program counter, physical D
registers, accumulators as a MAC sees them and as EXT sees them, control registers, call stack, loops as (counter, first
instruction, first one after the body, ROT) innermost first, instructions that a REP still runs, delay slots left with the index to
continue at and whether an RTI ends there, results on their way as (cycle at which they are usable, place, value), the shadow set while an interrupt is
served, and the cycle since which an enabled interrupt has waited. `was` is CYC before its last advance. `off` says that the core has been FAULTY since a boundary (R402).
`made` is the output that the modem's arithmetic gives for the item that runs (R319, R327), `outSet` says that the item has stored to OUT_LEN
itself, and `rxOld` holds the cell's receivers before it. -/
structure GCore where
  item   : Option (Bool × Nat × Nat) := none
  ran    : List Bool := []
  pc     : Nat := 0
  regs   : SMap W32 := []
  acc    : SMap Int := []
  accX   : SMap Int := []
  creg   : SMap Nat := []
  stack  : List Nat := []
  loops  : List (Nat × Nat × Nat × Bool) := []
  rep    : Option Nat := none
  slots  : Option (Nat × Option Nat × Bool) := none
  flight : List (Nat × GDst × Int) := []
  shadow : Option GShadow := none
  held   : Option Nat := none
  was    : Nat := 0
  off    : Bool := false
  made   : List Byte := []
  outSet : Bool := false
  rxOld  : SMap Rx := []
deriving DecidableEq, Repr

/-! ### Flash, start and update -/

/-- A firmware slot (R468, R476): FW_VERSION, state (0 EMPTY, 1 VALID, 2 CONFIRMED, 3 FAILED), boots left, and the container. `shipped`
says that the slot holds the container with which the device was delivered, which verifies and whose bytes the spec does not give. -/
structure Slot where
  ver   : Nat := 0
  state : Nat := 0
  tries : Nat := 0
  img   : List Byte := []
  shipped : Bool := false
deriving DecidableEq, Repr

/-- Stored memory training results (R464, R467): the results, their CRC, and the Device Serial Number that they name. -/
structure Training where
  results : List Byte
  crc     : Nat
  serial  : Nat
deriving DecidableEq, Repr

/-- The flash (R467, R468): the fields of the persistent state, the number of its last record and the two sectors of its log, the one written
first, the firmware slots, the two configuration copies, the memory training results, the ring of fault-history records, oldest first, and the
summary by unit (R406). It keeps its contents through every reset. -/
structure Flash where
  boot   : Nat := 0
  gen    : Nat := 0
  pos    : Nat := 0
  minSvn : Nat := 0
  active : Nat := 0
  lock   : Bool := false
  count  : Nat := 0
  sector : List Words := []
  other  : List Words := []
  slotA  : Slot := { state := 2, shipped := true }
  slotB  : Slot := {}
  cfg0   : List Byte := []
  cfg1   : List Byte := []
  training : Option Training := none
  hist   : List Words := []
  units  : SMap UnitRec := []
deriving DecidableEq, Repr

/-- A chain transfer to a downstream node (R482): transfer ID, the last offset that a FW_NAK named, its stage (0 offered, 1
streaming, 2 ended), the powered seconds at which the node was last heard and at which the transfer last made progress, and its result once it has
ended (status, REASON, first failing node). -/
structure Chain where
  id    : Nat
  off   : Nat
  stage : Nat
  heard : Nat
  prog  : Nat
  res   : Nat × Nat × Nat := (0, 0, 0)
deriving DecidableEq, Repr

/-- An update beside FPL_UPD_CTRL (R481, R482): pieces received by offset, bytes of the image, the upstream node and its
transfer ID, whether the target has been erased, its own outcome once the write has ended (status, REASON), transfers by
FPL_CHAIN index, digests forwarded since the start, the number of the next transfer, TARGET, the source (0 memory, 1 data port, 2 upstream) and FORWARD of the
update, and the powered seconds at which its forwarding began and at which its reception last made progress. -/
structure Upd where
  pieces : SMap (List Byte) := []
  total  : Nat := 0
  up     : Option (Nat × Nat) := none
  erased : Bool := false
  own    : Option (Nat × Nat) := none
  chain  : SMap Chain := []
  sent   : List (List Byte) := []
  nextId : Nat := 0
  tgt    : Nat := 0
  mode   : Nat := 0
  fwd    : Bool := false
  began  : Nat := 0
  prog   : Nat := 0
deriving DecidableEq, Repr

/-- The Faceplate beside its registers: flash, update, earlier updates that still wait for their transfers (R482), the state with which the slot was booted (0 once
that slot is written again, R479), the configuration copy that the start read (R467), digests of the booted container and of the applied image, the identity key K
in force (R473), whether records of the configuration image are being applied and how many have been (R472), T at time 0 (R463), powered seconds at
the release of the firmware (R479), the address of the I3C target (R475), and the boundaries that have passed since the write from which the lease of PRT_CTRL counts (R487). -/
structure Fpl where
  flash  : Flash := {}
  upd    : Upd := {}
  past   : List Upd := []
  bootState : Nat := 0
  image  : Option (Nat × List Byte) := none
  fwDigest : List Byte := []
  cfgDigest : List Byte := []
  key    : List Byte := []
  applying : Bool := false
  record : Nat := 0
  time0  : Nat := 0
  released : Nat := 0
  i3c    : Nat := 0x3A
  lease  : Option Nat := none
deriving DecidableEq, Repr
/-! ### Pins and test access -/

/-- Low-speed pins and the JTAG port: FAULT_N and THERM_ALERT_N driven low (R504, R505), the temperature last seen at each sensor
in °C (0-2 the C-dies and the R-die, 3 + m stack m), whether a thermal trip, the pin SYS_RST_N or PWR_GOOD holds the device in reset, the
instruction of the TAP, the boundary-scan register (R506; PRESUMED all 0 before the first SAMPLE/PRELOAD, log 189), the levels at NVM_CLK, NVM_CS_N, AVS_CLK, AVS_MDATA and TDO (`none`:
high impedance), which are those of reset between two transfers (R502), and the core set-points written over AVSBus in mV (R497). -/
structure Pins where
  faultLow : Bool := false
  thermLow : Bool := false
  temps    : SMap Int := []
  held     : Bool := false
  rstLow   : Bool := false
  pwrLow   : Bool := false
  tap      : Nat := 2
  bsr      : List Bool := []
  avs0     : Nat := 700
  avs1     : Nat := 700
  nvmClk   : Bool := false
  nvmCsN   : Bool := true
  avsClk   : Bool := false
  avsMdata : Bool := false
  tdo      : Option Bool := none
deriving DecidableEq, Repr
/-! ### The machine -/

/-- Everything but the bytes of the stacks and the waiting commands. `regs` holds every register field that differs in key
(address * 64 + lowest bit); `sram` the bytes of tile SRAM (tile * 3145728 + physical byte address, R145); `chucks` is keyed
tile * 4 + chuck; `gouge` by core number; `gimg`, `gact` and `gmem` hold the staged images, the images of the active set and the live memories of the Gouge cores (core * 65536 + word, program words
from 0, data words from 16384, R352, R372); `wq` holds the byte writes to the stacks made so far by the command that runs, newest first (empty between
commands); `resetReq` is the cause of a chip reset that ends the command that runs (none between commands); `free` is the
model's own counter of free values. -/
structure Dev where
  regs   : SMap Nat := []
  bus    : Bus := {}
  out    : Out := {}
  lathe  : Lathe := {}
  tiles  : SMap Tile := []
  chucks : SMap Chuck := []
  sram   : SMap Byte := []
  mem    : MemCtl := {}
  fab    : Fabric := {}
  srv    : Srv := {}
  vir    : Vir := {}
  rad    : Rad := {}
  gouge  : SMap GCore := []
  gimg   : SMap W32 := []
  gmem   : SMap W32 := []
  gact   : SMap W32 := []
  tsu    : Tsu := {}
  tls    : Tls := {}
  fpl    : Fpl := {}
  pins   : Pins := {}
  wq     : List Host.Cell := []
  resetReq : Option ResetReq := none
  free   : Nat := 0
deriving DecidableEq, Repr

/-- The machine: commands that wait, first in first out; the bytes of the stacks; everything else. -/
structure State where
  pending : List Instr
  mem     : Mem
  d       : Dev
deriving DecidableEq, Repr

/-- The machine right after reset (R16, R463): no command waits, memory lists nothing, every register field is at its reset
value. -/
def State.reset : State := { pending := [], mem := [], d := {} }

end Sys2Proof.Machine
end

