-- ==== Sys2Proof/Machine/Ops.lean ====
section
/-!
DEFINITION. Machine/Ops.lean: the named operations of the model: sparse tables, register fields, layout words, device time,
records that leave the device, bytes of the stacks, and how a command's meaning is run.
-/

namespace Sys2Proof.Machine

/-! ### Sparse tables -/

/-- The entry of a key, or the table's default. -/
def sget {α : Type} (m : SMap α) (k : Nat) (dflt : α) : α :=
  match m with
  | [] => dflt
  | (k', v) :: t => if k' = k then v else sget t k dflt

/-- The entry of a key, if listed. -/
def sfind {α : Type} (m : SMap α) (k : Nat) : Option α :=
  match m with
  | [] => none
  | (k', v) :: t => if k' = k then some v else sfind t k

/-- Sets an entry, keys kept strictly rising. -/
def sput {α : Type} (m : SMap α) (k : Nat) (v : α) : SMap α :=
  match m with
  | [] => [(k, v)]
  | (k', v') :: t => if k < k' then (k, v) :: (k', v') :: t else if k = k' then (k, v) :: t else (k', v') :: sput t k v

/-- Removes an entry. -/
def sdel {α : Type} (m : SMap α) (k : Nat) : SMap α := m.filter (fun e => e.1 != k)

/-! ### Words of layouts -/

/-- A field of a layout. -/
def wfld (ws : Words) (f : BF) : Nat := (ws.getD f.word 0#64).toNat / 2 ^ f.lo % 2 ^ f.width

/-- A natural number as a 64-bit word. -/
def w64 (n : Nat) : W64 := BitVec.ofNat 64 n

/-- The words that hold the given fields, zero elsewhere. -/
def mkWords (n : Nat) (fs : List (BF × Nat)) : Words :=
  (List.range n).map (fun w =>
    w64 (fs.foldl (fun a fv => if fv.1.word = w then a + fv.2 % 2 ^ fv.1.width * 2 ^ fv.1.lo else a) 0))

/-- A bit outside the used bits of a layout is set. -/
def reservedSet (ws : Words) (used : List Nat) : Bool :=
  (List.range used.length).any (fun i => (ws.getD i 0#64).toNat &&& ((2 ^ 64 - 1) ^^^ used.getD i 0) != 0)

/-- Bytes of words, little-endian, word 0 first. -/
def wordsBytes (ws : Words) : List Byte := ws.flatMap (fun w => (toLE w.toNat 8).map (BitVec.ofNat 8))

/-- Little-endian value of bytes. -/
def leNat : List Byte → Nat
  | [] => 0
  | b :: t => b.toNat + 256 * leNat t

/-- Words of bytes, eight bytes a word. -/
def bytesWords : Nat → List Byte → Words
  | 0, _ => []
  | n + 1, bs => w64 (leNat (bs.take 8)) :: bytesWords n (bs.drop 8)

/-- Ceiling of a division. -/
def ceilDiv (a b : Nat) : Nat := (a + b - 1) / b

/-- Two's complement code of an integer in `w` bits. -/
def encInt (w : Nat) (v : Int) : Nat := (v % 2 ^ w).toNat

/-! ### Register fields (R15, R16) -/

/-- Key of a field in `Dev.regs`. -/
def Fld.key (f : Fld) : Nat := f.addr * 64 + f.lo

/-- Current value of a register field. -/
def Dev.get (d : Dev) (f : Fld) : Nat := sget d.regs (Fld.key f) f.rst

/-- Sets a register field. -/
def Dev.set (d : Dev) (f : Fld) (v : Nat) : Dev := { d with regs := sput d.regs (Fld.key f) (v % 2 ^ f.width) }

/-- Adds to a counter that saturates at its greatest value. -/
def Dev.bump (d : Dev) (f : Fld) (n : Nat) : Dev := d.set f (min (2 ^ f.width - 1) (d.get f + n))

/-- Raises a maximum. -/
def Dev.raise (d : Dev) (f : Fld) (n : Nat) : Dev := d.set f (max (d.get f) (min (2 ^ f.width - 1) n))

/-- A one-bit field is 1. -/
def Dev.is (d : Dev) (f : Fld) : Bool := d.get f == 1

/-- The active copy of a staged radio field (R296). -/
def actF (f : Fld) : Fld := { f with addr := f.addr + 0x60000000 }

/-! ### Status codes (R17) -/

def stOK : Nat := 0x00
def stALREADY_DONE : Nat := 0x01
def stABORTED : Nat := 0x02
def stNO_MEMORY : Nat := 0x03
def stSTALE_GENERATION : Nat := 0x04
def stNODE_LOST : Nat := 0x05
def stCHECKSUM_RETRIED : Nat := 0x06
def stUNCORRECTABLE : Nat := 0x07
def stDEFERRED : Nat := 0x08
def stREFUSED_STATE : Nat := 0x09
def stDIGEST_MISMATCH : Nat := 0x0A
def stK_ZERO : Nat := 0x0B
def stSLOT_MISS : Nat := 0x0C

/-! ### Device time and event records (R19, R375, R393) -/

/-- Units of `Tsu.fine` per nanosecond. -/
def finePerNs : Nat := 256000000000

/-- Device time T in nanoseconds (R375). -/
def Dev.T (d : Dev) : Nat := d.tsu.fine / finePerNs % 2 ^ 64

/-- T's 16 fractional bits. -/
def Dev.Tfrac (d : Dev) : Nat := d.tsu.fine % finePerNs * 65536 / finePerNs

/-- Bits [31:0] of T: the NS field of a record (R393). -/
def Dev.ns (d : Dev) : Nat := d.T % 2 ^ 32

/-- Sends an event record. -/
def Dev.event (d : Dev) (source : Nat) (kind : EvKind) (args : List Nat) : Dev :=
  { d with out := { d.out with events := d.out.events ++ [⟨d.ns, source, kind, args⟩] } }

/-- Source numbers (R19). -/
def srcStack (m : Nat) : Nat := 1024 + m
def srcPort (i : Nat) : Nat := 1040 + i
def srcLathe : Nat := 1056
def srcTailstock : Nat := 1057
def srcFaceplate : Nat := 1058
def srcMemory : Nat := 1059
def srcServing : Nat := 1060
def srcRadio : Nat := 1061
def srcRegPort : Nat := 1062
def srcInstance (n : Nat) : Nat := 2048 + n

/-- Drives an edge on a pin at a programmed time. -/
def Dev.edgeAt (d : Dev) (pin level t : Nat) : Dev :=
  { d with out := { d.out with edges := d.out.edges ++ [(pin, level, t)] } }

/-- Drives an edge on a pin now. -/
def Dev.edge (d : Dev) (pin level : Nat) : Dev := d.edgeAt pin level d.T

/-! ### Bytes of the stacks -/

/-- A byte of memory; an address that is not listed reads as zero (R463: the stacks are zero-initialised). -/
def Mem.get (m : Mem) (k : Nat) : Byte :=
  match m with
  | [] => 0#8
  | (k', v) :: t => if k' = k then v else Mem.get t k

/-- Sets a byte; a zero is not listed. -/
def Mem.set (m : Mem) (k : Nat) (v : Byte) : Mem :=
  match m with
  | [] => if v = 0#8 then [] else [(k, v)]
  | (k', v') :: t =>
    if k < k' then (if v = 0#8 then (k', v') :: t else (k, v) :: (k', v') :: t)
    else if k = k' then (if v = 0#8 then t else (k, v) :: t)
    else (k', v') :: Mem.set t k v

/-- The canonical form: keys strictly rising above `lo`, no zero listed. -/
def Mem.wfFrom (lo : Nat) : Mem → Bool
  | [] => true
  | (k, v) :: t => decide (lo ≤ k) && v != 0#8 && Mem.wfFrom (k + 1) t

def Mem.wf (m : Mem) : Bool := Mem.wfFrom 0 m

/-- Applies a command's byte writes, oldest first (the list is newest first). -/
def Mem.apply (m : Mem) : List Host.Cell → Mem
  | [] => m
  | (k, v) :: t => Mem.set (Mem.apply m t) k v

/-- A byte of the stacks as the command that runs sees it: its own writes come first. -/
def physGet (m : Mem) (d : Dev) (k : Nat) : Byte :=
  match sfind d.wq k with
  | some v => v
  | none => Mem.get m k

/-- Writes one byte of the stacks. -/
def Dev.physPut (d : Dev) (k : Nat) (v : Byte) : Dev := { d with wq := (k, v) :: d.wq }

/-- Writes bytes from a key on. -/
def Dev.physPuts (d : Dev) (k : Nat) : List Byte → Dev
  | [] => d
  | b :: t => (d.physPut k b).physPuts (k + 1) t

/-! ### Fields by unit -/

/-- The chuck's state. -/
def Dev.chuck (d : Dev) (tc : Nat) : Chuck := sget d.chucks tc {}
def Dev.setChuck (d : Dev) (tc : Nat) (c : Chuck) : Dev := { d with chucks := sput d.chucks tc c }
def Dev.tile (d : Dev) (t : Nat) : Tile := sget d.tiles t {}
def Dev.setTile (d : Dev) (t : Nat) (x : Tile) : Dev := { d with tiles := sput d.tiles t x }

/-- The Tailstock's state of a unit (R401, R403). -/
def Dev.unit (d : Dev) (u : Nat) : UnitRec := sget d.tls.units u {}
def Dev.setUnit (d : Dev) (u : Nat) (r : UnitRec) : Dev := { d with tls := { d.tls with units := sput d.tls.units u r } }
def Dev.unitFaulty (d : Dev) (u : Nat) : Bool := (d.unit u).state == 2

/-- Applies a function to every number below n in turn. -/
def forN {α : Type} (n : Nat) (a : α) (f : α → Nat → α) : α := (List.range n).foldl f a

end Sys2Proof.Machine
end

