-- ==== Sys2Proof/Machine/Fixed.lean ====
section
/-!
DEFINITION. Machine/Fixed.lean: angles, roots and logarithms of the radio path, to the precision that their rounding rules
need: sine and cosine in units of 2^-96, the argument of a complex number in units of 2^-15 π (R334, R360), and decibel comparisons
(R329, R337), which are decided by exact powers.
-/

namespace Sys2Proof.Machine

/-- floor(π * 2^128). -/
def piFix : Nat := 0x3243F6A8885A308D313198A2E03707344

/-- Terms of the power series of cosine (`i` = 0) or sine (`i` = 1) from term `t` on, in units of 2^-96; `x2` is the square of the
angle in the same units. -/
def trigSeries (x2 : Int) : Nat → Nat → Int → Int
  | 0, _, _ => 0
  | fuel + 1, i, t => t + trigSeries x2 fuel (i + 2) (-(t * x2 / 2 ^ 96) / (((i + 1) * (i + 2) : Nat) : Int))

/-- (cos, sin) of `n / d` of a full turn, in units of 2^-96. The quarter turns are exact. -/
def turnFix (n d : Nat) : Int × Int :=
  let r := n % d
  let q := 4 * r / d
  let x : Int := ((piFix * (4 * r % d) / (2 * d * 2 ^ 32) : Nat) : Int)
  let x2 := x * x / 2 ^ 96
  let c := trigSeries x2 30 0 (2 ^ 96)
  let s := trigSeries x2 30 1 x
  match q with
  | 0 => (c, s)
  | 1 => (-s, c)
  | 2 => (-c, -s)
  | _ => (s, -c)

/-- Nearest integer to `v / d`, ties away from zero. -/
def roundAway (v : Int) (d : Nat) : Int :=
  if v ≥ 0 then (2 * v + d) / (2 * d) else -((2 * (-v) + d) / (2 * d))

/-- The smallest k below `hi` for which the half angle (k + 1/2) * 2^-15 π exceeds the argument of (x, y), y ≥ 0, else `hi`. -/
def argSearch (x y : Int) : Nat → Nat → Nat → Nat
  | 0, lo, _ => lo
  | fuel + 1, lo, hi =>
    if hi ≤ lo then lo
    else
      let k := (lo + hi) / 2
      let cs := turnFix (2 * k + 1) 131072
      if y * cs.1 - x * cs.2 < 0 then argSearch x y fuel lo k else argSearch x y fuel (k + 1) hi

/-- The argument of x + jy as the nearest multiple of 2^-15 π, -32,768 to 32,768; 0 for zero. No argument lies half-way between two
multiples: the tangent of such an angle is irrational. -/
def argUnits (x y : Int) : Int :=
  if x = 0 ∧ y = 0 then 0
  else if y ≥ 0 then argSearch x y 17 0 32768
  else -((argSearch x (-y) 17 0 32768 : Nat) : Int)

/-- The least n in [lo, hi) for which `p n` holds, for a p that stays true once true; else `hi`. -/
def leastNat (p : Nat → Bool) : Nat → Nat → Nat → Nat
  | 0, lo, _ => lo
  | fuel + 1, lo, hi =>
    if hi ≤ lo then lo
    else
      let k := (lo + hi) / 2
      if p k then leastNat p fuel lo k else leastNat p fuel (k + 1) hi

/-- 10^u as a numerator and a denominator. -/
def pow10 (u : Int) : Nat × Nat := if u ≥ 0 then (10 ^ u.toNat, 1) else (1, 10 ^ (-u).toNat)

/-- round(160 * log10(num / den)) for a positive number, half away from zero: ties do not occur (R337). -/
def log160 (num den : Nat) : Int :=
  let below (n : Nat) : Bool :=
    -- num / den < 10^((2 * (n - 16384) + 1) / 320)
    let t := pow10 (2 * ((n : Int) - 16384) + 1)
    decide ((num ^ 160) ^ 2 * t.2 < t.1 * (den ^ 160) ^ 2)
  (leastNat below 16 0 32768 : Nat) - 16384

/-- round(2^(16 + g / 8)): the gain of a code (R329). -/
def gainFix (g : Nat) : Nat := leastNat (fun r => decide (2 ^ (136 + g) < (2 * r + 1) ^ 8)) 34 0 (2 ^ 33)

end Sys2Proof.Machine
end

