-- ==== Sys2Proof/Machine/Stamp.lean ====
section
/-!
DEFINITION. Machine/Stamp.lean: port stamps (R386-R388): the stamp of a message at its timestamp point, the egress log, and PTP messages as they
leave a port.
-/

namespace Sys2Proof.Machine

/-- Little-endian bytes of a number. -/
def bytesLE (n v : Nat) : List Byte := (List.range n).map (fun i => BitVec.ofNat 8 (v / 256 ^ i))

/-- Signed value of a 16-bit register field. -/
def s16 (v : Nat) : Int := if v % 65536 ≥ 32768 then (v % 65536 : Int) - 65536 else (v % 65536 : Int)

/-- Big-endian value of `n` bytes at an offset. -/
def beNat (bs : List Byte) (off n : Nat) : Nat := ((bs.drop off).take n).foldl (fun a b => a * 256 + b.toNat) 0

/-- Big-endian bytes of a value. -/
def beBytes (n v : Nat) : List Byte := (bytesLE n v).reverse

/-- An eCPRI timestamp: 6 bytes of seconds, 4 of nanoseconds; and its value in nanoseconds. -/
def ecpriStamp (ns : Nat) : List Byte := beBytes 6 (ns / 1000000000) ++ beBytes 4 (ns % 1000000000)
def ecpriTime (bs : List Byte) (off : Nat) : Nat := beNat bs off 6 * 1000000000 + beNat bs (off + 6) 4

/-- Ports of the unit: 0-3 F0-F3, 4-15 U0-U11. The stamp of a message now, in 2^-16 ns. -/
def Dev.portStamp (d : Dev) (i : Nat) (egress : Bool) : Nat :=
  let adj := s16 (d.get (if egress then TSU_PORT_ADJ_EGR i else TSU_PORT_ADJ_ING i))
  (((d.T * 65536 + d.Tfrac : Nat) : Int) + adj * 4096).toNat

/-- The port's messages are stamped. -/
def Dev.stamps (d : Dev) (i : Nat) : Bool := d.is TSU_CTRL_EN && d.is (TSU_PORT_CFG_EN i)

/-- A stamp in the 256-entry egress log. -/
def Dev.txLog (d : Dev) (s : TxStamp) : Dev :=
  if d.tsu.txLog.length < 256 then { d with tsu := { d.tsu with txLog := d.tsu.txLog ++ [s] } }
  else { d with tsu := { d.tsu with txLost := min 255 (d.tsu.txLost + 1) } }

/-- messageType of a PTP message; the event messages are 0 Sync, 1 Delay_Req, 2 Pdelay_Req, 3 Pdelay_Resp (IEEE 1588-2019). -/
def ptpType (bytes : List Byte) : Nat := beNat bytes 0 1 % 16

/-- The port stamps a PTP message: EN is 1 and it is an event message. -/
def Dev.ptpStamped (d : Dev) (i : Nat) (bytes : List Byte) : Bool := d.stamps i && decide (ptpType bytes < 4)

/-- Replaces bytes of a message. -/
def putBytes (bytes : List Byte) (off : Nat) (new : List Byte) : List Byte :=
  bytes.take off ++ new ++ bytes.drop (off + new.length)

/-- A one-step Sync (R378, R388): originTimestamp is the integer part of its stamp, and correctionField is increased by the fraction. -/
def ptpOneStep (bytes : List Byte) (stamp : Nat) : List Byte :=
  putBytes (putBytes bytes 34 (ecpriStamp (stamp / 65536))) 8 (beBytes 8 ((beNat bytes 8 8 + stamp % 65536) % 2 ^ 64))

/-- A PTP message leaves port i (R386, R388): a one-step Sync is rewritten; every other stamped one puts its stamp in the egress log. -/
def Dev.ptpStampOut (d : Dev) (i : Nat) (bytes : List Byte) : Dev × List Byte :=
  if !d.ptpStamped i bytes then (d, bytes)
  else if ptpType bytes = 0 && d.is (TSU_PORT_CFG_ONE_STEP i) then (d, ptpOneStep bytes (d.portStamp i true))
  else (d.txLog ⟨beNat bytes 30 2, ptpType bytes, i, false, d.portStamp i true⟩, bytes)

end Sys2Proof.Machine
end

