-- ==== Sys2Proof/Machine/FabBase.lean ====
section
/-!
DEFINITION. Machine/FabBase.lean: how a packet is formed and how it leaves the device (R256, R257, R262, R271-R274): routes,
credits, the replay buffer.
-/

namespace Sys2Proof.Machine

/-- Operation codes (R258). -/
def opLOAD : Nat := 0x00
def opSTORE : Nat := 0x01
def opGETS : Nat := 0x02
def opADD : Nat := 0x04
def opMIN : Nat := 0x05
def opMAX : Nat := 0x06
def opCAS : Nat := 0x07
def opACK : Nat := 0x10
def opDATA : Nat := 0x11
def opOLD : Nat := 0x12
def opINVAL : Nat := 0x14
def opINVAL_ACK : Nat := 0x15
def opANNOUNCE : Nat := 0x18
def opGEN_QUERY : Nat := 0x19
def opMGMT_MSG : Nat := 0x1A

/-- Class codes (R257). -/
def clPLAIN : Nat := 0
def clATOMIC : Nat := 1
def clRELAXED : Nat := 2
def clRESPONSE : Nat := 3
def clCOHERENCE : Nat := 4
def clMGMT : Nat := 5

/-- A field of a packet's header. -/
def pkf (pk : Packet) (f : BF) : Nat := wfld pk.hdr f

/-- Own node number and generation. -/
def Dev.node (d : Dev) : Nat := d.get UNL_NODE_NODE
def Dev.gen (d : Dev) : Nat := d.get UNL_NODE_GEN

/-- The generation that the table holds for a node (R252): 0 is unknown. -/
def Dev.genOf (d : Dev) (n : Nat) : Nat :=
  if n = d.node then d.gen
  else if n % 2 = 0 then d.get (UNL_GEN_PAIR_GEN_EVEN (n / 2)) else d.get (UNL_GEN_PAIR_GEN_ODD (n / 2))
def Dev.setGenOf (d : Dev) (n g : Nat) : Dev :=
  if n % 2 = 0 then d.set (UNL_GEN_PAIR_GEN_EVEN (n / 2)) g else d.set (UNL_GEN_PAIR_GEN_ODD (n / 2)) g

/-- Payload bytes padded to units of 16 (R256). -/
def padPayload (bs : List Byte) : List Byte := bs ++ List.replicate ((16 - bs.length % 16) % 16) 0#8

/-- A packet of this device (R256): HOPS 31, VC 0. -/
def Dev.mkPacket (d : Dev) (dst cls op size offset tag seq epoch atype count status : Nat) (noComb : Bool)
    (payload : List Byte) : Packet :=
  { hdr := mkWords 3 [(PKT_DST, dst), (PKT_SRC, d.node), (PKT_TAG, tag), (PKT_SEQ, seq), (PKT_OFFSET, offset),
      (PKT_CLASS, cls), (PKT_OP, op), (PKT_SIZE, size), (PKT_NOCOMBINE, if noComb then 1 else 0), (PKT_EPOCH, epoch),
      (PKT_SRC_GEN, d.gen), (PKT_DST_GEN, d.genOf dst), (PKT_ATYPE, atype), (PKT_COUNT, count), (PKT_STATUS, status),
      (PKT_HOPS, 31)],
    payload := padPayload payload }

/-- Replaces a header field. -/
def setPkf (pk : Packet) (f : BF) (v : Nat) : Packet :=
  let w := (pk.hdr.getD f.word 0#64).toNat
  let old := w / 2 ^ f.lo % 2 ^ f.width
  { pk with hdr := pk.hdr.set f.word (w64 (w - old * 2 ^ f.lo + v % 2 ^ f.width * 2 ^ f.lo)) }

/-- A port is up (R271): STATE 2 of UNL_PORT_STATUS. -/
def Dev.portUp (d : Dev) (p : Nat) : Bool := d.get (UNL_PORT_STATUS_STATE p) == 2

/-- R273: the first of a destination's ports that is up. -/
def Dev.routePort (d : Dev) (dst : Nat) : Option Nat :=
  if d.is (UNL_ROUTE_VALID dst) then
    [d.get (UNL_ROUTE_PRIMARY dst), d.get (UNL_ROUTE_ALT1 dst), d.get (UNL_ROUTE_ALT2 dst)].find?
      (fun p => decide (p < 12) && d.portUp p)
  else none

/-- Credit units of 64 bytes that a packet takes (R274). -/
def pkUnits (pk : Packet) : Nat := ceilDiv (24 + pk.payload.length) 64

/-- Flits of 128 bytes that a packet takes (R271). -/
def pkFlits (pk : Packet) : Nat := ceilDiv (24 + pk.payload.length) 128

/-- Credits of one class and virtual channel: 32 KiB in units of 64 bytes. -/
def creditTotal : Nat := 512

def Dev.port (d : Dev) (p : Nat) : FPort := sget d.fab.ports p {}
def Dev.setPort (d : Dev) (p : Nat) (x : FPort) : Dev := { d with fab := { d.fab with ports := sput d.fab.ports p x } }

/-- Key of a class and virtual channel. -/
def vcKey (pk : Packet) : Nat := pkf pk PKT_CLASS * 2 + pkf pk PKT_VC

/-- A packet may leave now: credits for its class and channel, and room in the 2,048-flit replay buffer (R271, R274). -/
def FPort.canSend (x : FPort) (pk : Packet) : Bool :=
  decide (sget x.used (vcKey pk) 0 + pkUnits pk ≤ creditTotal) && decide ((x.replay.map pkFlits).sum + pkFlits pk ≤ 2048)

/-- R257: the class order of a port whose round robin stands at `rr`. -/
def classOrder (rr : Nat) : List Nat := [clMGMT, clCOHERENCE, clRESPONSE, rr % 3, (rr + 1) % 3, (rr + 2) % 3]

/-- A packet as it leaves through a port: on VC 1 where the port is a dateline (R272). -/
def Dev.leaving (d : Dev) (p : Nat) (pk : Packet) : Packet := if d.is (UNL_PORT_CFG_DATELINE p) then setPkf pk PKT_VC 1 else pk

/-- The packet that a port sends next: the first waiting one of the first class that has one that may leave; within one
class and channel packets keep their order. `out`: what a packet is as it leaves. -/
def FPort.pick (x : FPort) (out : Packet → Packet) : Option Packet :=
  (classOrder x.rr).findSome? (fun c =>
    let firsts := (x.queue.find? (fun p => pkf p PKT_CLASS == c && pkf (out p) PKT_VC == 0)).toList ++
      (x.queue.find? (fun p => pkf p PKT_CLASS == c && pkf (out p) PKT_VC == 1)).toList
    firsts.find? (fun p => x.canSend (out p)))

/-- PRT_INJ_LINK (R492): flits leave a port. A flit whose CRC is inverted is replayed at once, and its copy is the next flit sent, so the
injection stays with the first of them until COUNT flits have been corrupted or sixteen replays in a row have made the port retrain; the rest of
COUNT meets what is sent after the training. It has fired with the last of them. -/
def Dev.linkInject (d : Dev) (p : Nat) : Dev :=
  if d.is PRT_INJ_LINK_ARMED && d.get PRT_INJ_LINK_PORT == p && decide ((d.port p).stuck < 16) then
    let k := min (max 1 (d.get PRT_INJ_LINK_COUNT - d.tls.link)) (16 - (d.port p).stuck)
    let n := d.tls.link + k
    let d := ({ d with tls := { d.tls with link := n } } : Dev).bump (UNL_PORT_REPLAY_REPLAYS p) k
    let d := d.setPort p { d.port p with stuck := (d.port p).stuck + k }
    if n ≥ d.get PRT_INJ_LINK_COUNT then (d.set PRT_INJ_LINK_ARMED 0).set PRT_STATUS_FIRED_LINK 1 else d
  else d

/-- What `n` acknowledged flits leave of a replay buffer, and the flits that they reach into its first packet. -/
def ackFlits : Nat → List Packet → Nat × List Packet
  | _, [] => (0, [])
  | n, pk :: rest => if pkFlits pk ≤ n then ackFlits (n - pkFlits pk) rest else (n, pk :: rest)

/-- The receiver acknowledges `n` flits (R271): they leave the replay buffer, and the count of replays without progress starts again. -/
def FPort.acknowledge (x : FPort) (n : Nat) : FPort :=
  let k := min n ((x.replay.map pkFlits).sum - x.part)
  if k = 0 then x
  else
    let r := ackFlits (x.part + k) x.replay
    { x with replay := r.2, part := r.1, flit := (x.flit + k) % 4096, stuck := 0 }

/-- A packet at its timestamp point, where it leaves a port: a PTP message takes its stamp there (R386, R387). -/
def Dev.stampLeaving (d : Dev) (p : Nat) (pk : Packet) : Dev × Packet :=
  if (d.port p).ptp.contains pk then
    let r := d.ptpStampOut (4 + p) pk.payload
    (r.1, { pk with payload := r.2 })
  else (d, pk)

/-- Sends what credits allow, at most `n` packets. -/
def Dev.pump (d : Dev) (p : Nat) : Nat → Dev
  | 0 => d
  | n + 1 =>
    if !d.portUp p then d
    else
      let x := d.port p
      match x.pick (d.leaving p) with
      | none => d
      | some q =>
        let r := d.stampLeaving p q
        let d := r.1
        let pk := d.leaving p r.2
        let c := pkf pk PKT_CLASS
        let x' := { x with
          queue := x.queue.erase q
          ptp := x.ptp.erase q
          replay := x.replay ++ [pk]
          used := sput x.used (vcKey pk) (sget x.used (vcKey pk) 0 + pkUnits pk)
          rr := if c ≤ 2 then (c + 1) % 3 else x.rr }
        let d := d.setPort p x'
        let d := d.linkInject p
        Dev.pump { d with out := { d.out with packets := d.out.packets ++ [(p, pk)] } } p n

/-- Puts a packet on a port. -/
def Dev.toPort (d : Dev) (p : Nat) (pk : Packet) : Dev :=
  let x := d.port p
  (d.setPort p { x with queue := x.queue ++ [pk] }).pump p 1

/-- R250, R269, R273: sends a packet on its route, or holds it while it has none; a packet to the own node does not leave. -/
def Dev.sendPacket (d : Dev) (pk : Packet) : Dev :=
  if pkf pk PKT_DST = d.node then { d with fab := { d.fab with loop := d.fab.loop ++ [pk] } }
  else if !d.is UNL_CTRL_EN then d
  else
    match d.routePort (pkf pk PKT_DST) with
    | some p => d.toPort p pk
    | none => { d with fab := { d.fab with noRoute := d.fab.noRoute ++ [pk] } }

/-- A response to a request (R253, R266): same TAG, to its source in the generation that sent it. -/
def Dev.respond (d : Dev) (req : Packet) (op status : Nat) (payload : List Byte) : Dev :=
  d.sendPacket (setPkf (d.mkPacket (pkf req PKT_SRC) clRESPONSE op (pkf req PKT_SIZE) (pkf req PKT_OFFSET) (pkf req PKT_TAG) 0 0 0
    (pkf req PKT_COUNT) status false payload) PKT_DST_GEN (pkf req PKT_SRC_GEN))

/-- A packet of the MGMT class (R257). -/
def Dev.sendMgmt (d : Dev) (dst op : Nat) (payload : List Byte) : Dev :=
  d.sendPacket (d.mkPacket dst clMGMT op 0 0 0 0 0 0 0 0 false payload)

/-- R277: members of the quad: valid UNL_QUAD entries, when the own node is one of them. -/
def Dev.quad (d : Dev) : List Nat :=
  let ns := (List.range 4).filterMap (fun i =>
    if d.is (UNL_QUAD_VALID i) then some (d.get (UNL_QUAD_NODE i)) else none)
  if ns.contains d.node then ns else []

end Sys2Proof.Machine
end

