-- ==== Sys2Proof/Machine/Memory.lean ====
section
/-!
DEFINITION. Machine/Memory.lean: the unified range (R227-R249): translation, line reads with their error correction, writes,
object checks, the writable mappings, the memory commands, migration, re-fetch, digest.
-/

namespace Sys2Proof.Machine

/-! ### Addresses -/

/-- Stack-local line address A (R243): bit 29 marks the near tier. -/
def localLine (tier slot line : Nat) : Nat := (if tier = 1 then 536870912 else 0) + slot * 8192 + line

/-- Key of a line of a stack. -/
def lineKey (tier stack slot line : Nat) : Nat := stack * 1073741824 + localLine tier slot line

/-- Extent number, line in the extent and byte in the line of a unified offset (R227). -/
def extOf (off : Nat) : Nat := off / 1048576
def lineOf (off : Nat) : Nat := off / 128 % 8192
def byteOf (off : Nat) : Nat := off % 128

/-- Key of the line that serves a unified offset from tier 1 or 2. -/
def Dev.lineAt (d : Dev) (off : Nat) : Nat :=
  let x := extOf off
  lineKey (d.get (TMAP_TIER x)) (d.get (TMAP_STACK x)) (d.get (TMAP_LOC x)) (lineOf off)

/-- Key of a byte of the stacks. -/
def Dev.physAt (d : Dev) (off : Nat) : Nat := d.lineAt off * 128 + byteOf off

/-- The byte that a tier 3 or 4 location serves (R230 LOC). -/
def originByteAt (tier loc off : Nat) : Byte :=
  if tier = 4 then Config.hostByte (loc * 1048576 + off % 1048576)
  else Config.peerByte (loc / 268435456) (loc % 268435456 * 1048576 + off % 1048576)

/-- A byte of the range as stored, without error handling. An unmapped extent has no bytes: zero. -/
def uByte (m : Mem) (d : Dev) (off : Nat) : Byte :=
  let x := extOf off
  let t := d.get (TMAP_TIER x)
  if t = 1 ∨ t = 2 then physGet m d (d.physAt off)
  else if t = 3 ∨ t = 4 then originByteAt t (d.get (TMAP_LOC x)) off
  else 0#8

def uBytes (m : Mem) (d : Dev) (off n : Nat) : List Byte := (List.range n).map (fun i => uByte m d (off + i))

/-- A 64-bit little-endian word of the range. -/
def uWord (m : Mem) (d : Dev) (off : Nat) : W64 := w64 (leNat (uBytes m d off 8))
def uWords (m : Mem) (d : Dev) (off n : Nat) : Words := (List.range n).map (fun i => uWord m d (off + 8 * i))

/-! ### Objects -/

/-- The valid object that owns the extent of an offset. -/
def Dev.objAt (d : Dev) (off : Nat) : Option Nat :=
  let x := extOf off
  if d.get (TMAP_TIER x) = 0 then none else some (d.get (TMAP_OBJECT x))

/-- R58, R206, R217, R341, R451: `len` bytes from `off` lie inside one valid writable object homed in tier 1 or 2, of the
given instance when one is named. A writable object is homed in no other tier (R232). -/
def Dev.insideWritable (d : Dev) (inst : Option Nat) (off len : Nat) : Bool :=
  match d.objAt off with
  | none => false
  | some o =>
    d.is (OBJ_VALID o) && d.is (OBJ_WRITABLE o) &&
    (match inst with | none => true | some i => d.get (OBJ_INSTANCE o) == i) &&
    decide (d.get (OBJ_BASE o) ≤ off) &&
    decide (off + len ≤ d.get (OBJ_BASE o) + d.get (OBJ_EXTENTS o) * 1048576)

/-- Keys of the register table at which a field of an indexed register is listed with a value other than 0: the indices.
`base` is the field at index 0, `stride` and `count` the register's. -/
def Dev.listed (d : Dev) (base : Fld) (stride count : Nat) : List Nat :=
  d.regs.filterMap (fun e =>
    let a := e.1 / 64
    if e.2 != 0 && e.1 % 64 == base.lo && decide (base.addr ≤ a) && (a - base.addr) % stride == 0 &&
       decide ((a - base.addr) / stride < count)
    then some ((a - base.addr) / stride) else none)

/-- Sequence entries that are not FREE, ascending (R208). -/
def Dev.liveSeqs (d : Dev) : List Nat := d.listed (SEQ_STATE 0) 64 65536

/-- Sequence entries that hold pages. -/
def Dev.pagedSeqs (d : Dev) : List Nat := d.listed (SEQ_PAGES 0) 64 65536

/-- R234: whether the serving engine holds a mapping of an object. -/
def Dev.srvMaps (d : Dev) (o : Nat) : Bool :=
  let on (off : Nat) : Bool := d.objAt off == some o
  (d.get SRV_KV_CFG_TOTAL != 0 && (d.is SRV_CTRL_EN || !d.pagedSeqs.isEmpty) &&
    (on (d.get SRV_KV_BASE_BASE * 65536) || on (d.get SRV_KV_LIST_BASE))) ||
  (List.range 16).any (fun p => d.is (SRV_PROF_CFG_VALID p) && on (d.get (SRV_PROF_STEPBUF_BASE p))) ||
  d.liveSeqs.any (fun s => on (d.get (SEQ_PAGE_DIR s)))

/-- A context binds an object (R234). -/
def Dev.binds (d : Dev) (c o : Nat) : Bool :=
  (List.range 8).any (fun s => d.is (MEM_CTX_BIND_VALID c s) && d.get (MEM_CTX_BIND_OBJECT c s) == o)

/-- R234, R235: the writable mappings of an object that are held now, one per holder: each context that binds it and whose mapping has begun, the
Lathe, the serving engine, the radio front end, the host attachment. -/
def Dev.wmap (d : Dev) (o : Nat) : Nat :=
  if !d.is (OBJ_WRITABLE o) then 0
  else
    let on (off : Nat) : Bool := d.objAt off == some o
    let one (b : Bool) : Nat := if b then 1 else 0
    let ctxs := (d.chucks.filterMap (fun e => if e.2.mapped then e.2.ctx else none)).filter (fun c => d.binds c o)
    let iring (en base : Nat → Fld) : Bool := (List.range 128).any (fun i => d.is (en i) && on (d.get (base i) * 4096))
    min 65535 (ctxs.length + one (d.lathe.swaps.any (fun s => on (d.get (LTH_CTX_SAVE_HOME s.ctx)))) + one (d.srvMaps o) +
      one ((d.listed (RAD_RING_CFG_VALID 0) 0x20 1024).any (fun q => on (d.get (RAD_RING_BASE_BASE q) * 4096))) +
      one (iring SQ_CFG_EN SQ_CFG_BASE || iring CQ_CFG_EN CQ_CFG_BASE || iring IQ_CFG_EN IQ_CFG_BASE))

/-! ### Error correction (R243, R244) -/

/-- Product in GF(2^16) modulo x^16 + x^12 + x^3 + x + 1. -/
def gfMulAux : Nat → Nat → Nat → Nat → Nat
  | 0, _, _, acc => acc
  | n + 1, a, b, acc =>
    let acc' := if b % 2 = 1 then acc ^^^ a else acc
    let a2 := 2 * a
    gfMulAux n (if a2 ≥ 65536 then a2 ^^^ 0x1100B else a2) (b / 2) acc'

def gfMul (a b : Nat) : Nat := gfMulAux 16 a b 0

/-- α^n. -/
def gfPow : Nat → Nat
  | 0 => 1
  | n + 1 => gfMul 2 (gfPow n)

/-- Inverse as a^(2^16 - 2): the product of a^(2^i) for i = 1 to 15. -/
def gfInvAux : Nat → Nat → Nat → Nat
  | 0, _, acc => acc
  | n + 1, a, acc => let s := gfMul a a; gfInvAux n s (gfMul acc s)

def gfInv (a : Nat) : Nat := gfInvAux 15 a 1

/-- Error symbols with one value per position and no zero value. -/
def normErrs (es : List (Nat × Nat)) : List (Nat × Nat) :=
  (List.range 72).filterMap (fun p =>
    let v := (es.filter (fun e => e.1 == p)).foldl (fun a e => a ^^^ e.2) 0
    if v = 0 then none else some (p, v))

/-- Syndrome i of an error pattern: c(α^i) of the error alone, since a codeword contributes zero. -/
def syndrome (es : List (Nat × Nat)) (i : Nat) : Nat :=
  es.foldl (fun a e => a ^^^ gfMul e.2 (gfPow (i * e.1))) 0

/-- The correction that the decoder finds: none for an uncorrectable line. One or two positions among the 70 stored symbols
whose syndromes equal the line's; a position at a virtual symbol makes the line uncorrectable (R244). -/
def decodeLine (es : List (Nat × Nat)) : Option (List (Nat × Nat)) :=
  let s := (List.range 6).map (syndrome es)
  if s.all (· == 0) then some []
  else
    let s0 := s.getD 0 0
    let s1 := s.getD 1 0
    let matchOf (c : List (Nat × Nat)) : Bool := (List.range 6).map (syndrome c) == s
    match (List.range 72).find? (fun j => s0 != 0 && matchOf [(j, s0)]) with
    | some j => if j < 70 then some [(j, s0)] else none
    | none =>
      let pairs := (List.range 72).flatMap (fun j => ((List.range 72).filter (fun k => decide (j < k))).map (fun k => (j, k)))
      let solve (jk : Nat × Nat) : Option (List (Nat × Nat)) :=
        let xj := gfPow jk.1
        let xk := gfPow jk.2
        -- e_j + e_k = s0 and e_j x_j + e_k x_k = s1
        let ek := gfMul (s1 ^^^ gfMul s0 xj) (gfInv (xj ^^^ xk))
        let ej := s0 ^^^ ek
        if ej != 0 && ek != 0 && matchOf [(jk.1, ej), (jk.2, ek)] then some [(jk.1, ej), (jk.2, ek)] else none
      match pairs.findSome? solve with
      | some c => if c.all (fun e => decide (e.1 < 70)) then some c else none
      | none => none

/-- Data symbols of an error pattern written into the stored bytes: symbol j + 6 is bytes 2j and 2j + 1 (R243). -/
def xorSymbols (m : Mem) (d : Dev) (line : Nat) (es : List (Nat × Nat)) : Dev :=
  es.foldl (fun d e =>
    if 6 ≤ e.1 ∧ e.1 < 70 then
      let k := line * 128 + 2 * (e.1 - 6)
      (d.physPut k (physGet m d k ^^^ BitVec.ofNat 8 e.2)).physPut (k + 1) (physGet m d (k + 1) ^^^ BitVec.ofNat 8 (e.2 / 256))
    else d) d

def Dev.lineErr (d : Dev) (k : Nat) : LineErr := sget d.mem.lines k {}
def Dev.setLineErr (d : Dev) (k : Nat) (e : LineErr) : Dev :=
  { d with mem := { d.mem with lines := if e = {} then sdel d.mem.lines k else sput d.mem.lines k e } }

/-- Plants the errors that a read will find (an input of the reading command). -/
def Dev.upsets (d : Dev) (us : List Upset) : Dev :=
  us.foldl (fun d u =>
    let t := d.get (TMAP_TIER (extOf u.off))
    if t = 1 ∨ t = 2 then
      let k := d.lineAt u.off
      let e := d.lineErr k
      d.setLineErr k { e with errs := normErrs (e.errs ++ u.errs) }
    else d) d

/-- R245: POISONED of an extent counts the poisoned lines of its slot, at most 255. -/
def Dev.countPoison (d : Dev) (x : Nat) : Dev :=
  let k := lineKey (d.get (TMAP_TIER x)) (d.get (TMAP_STACK x)) (d.get (TMAP_LOC x)) 0
  d.set (TMAP_POISONED x) (min 255 ((d.mem.lines.filter (fun e => decide (k ≤ e.1) && decide (e.1 < k + 8192) && e.2.poison)).length))

/-! ### Records to the Tailstock and containment -/

/-- A detection or fault record on its way to the Tailstock: the 256-entry hardware queue (R398). -/
def Dev.report (d : Dev) (r : FaultRec) : Dev :=
  if d.tls.inQ.length < 256 then { d with tls := { d.tls with inQ := d.tls.inQ ++ [r] } } else d.bump TLS_STATUS_QLOST 1

/-- Asks for a chip reset at the end of the command; the first cause stands (R400). -/
def Dev.contain (d : Dev) (c : ResetCause) (unit detail : Nat) : Dev :=
  match d.resetReq with
  | some _ => d
  | none => { d with resetReq := some { cause := c, unit := unit, detail := detail } }

/-- The reset that has been asked for is an injection's (R493). -/
def Dev.injected (d : Dev) (inj : Bool) : Dev := { d with resetReq := d.resetReq.map (fun r => { r with inj := inj }) }

/-- UNIT code of a stack slot (R401). -/
def unitSlot (stack tier slot : Nat) : Nat := 5 * 268435456 + stack + (if tier = 1 then 16 else 0) + slot * 32

/-! ### Reads (R229, R246) -/

/-- Who reads a line: a consumer, or one of the readers that are not consumers (R245). -/
inductive Reader where
  | consumer
  | internal
deriving DecidableEq, Repr

/-- What a line read came to. -/
inductive LineRes where
  /-- delivered (corrected or clean) -/
  | ok
  /-- the extent is being re-fetched: the access is held (R247) -/
  | held
  /-- the device is reset as containment -/
  | contained
  /-- not delivered and poisoned: only for a reader that is no consumer (R245) -/
  | poisoned
  /-- the origin that serves it failed (R246) -/
  | originFail
  | unmapped
deriving DecidableEq, Repr

/-- The object of an extent has an origin and is read-only (R246). -/
def Dev.hasOrigin (d : Dev) (x : Nat) : Bool :=
  let o := d.get (TMAP_OBJECT x)
  !d.is (TMAP_WRITABLE x) && d.get (OBJ_ORIGIN_KIND o) != 0

/-- MEM_LAST_UE (R246). -/
def Dev.lastUE (d : Dev) (off stack tier action : Nat) : Dev :=
  ((((d.set MEM_LAST_UE_OFFSET off).set MEM_LAST_UE_STACK stack).set MEM_LAST_UE_ACTION action).set MEM_LAST_UE_TIER
    (if tier = 1 then 1 else 0))

/-- Handles an uncorrectable line at unified offset `off` (R245, R246). -/
def Dev.uncorrectable (d : Dev) (off : Nat) (who : Reader) : Dev × LineRes :=
  let x := extOf off
  let stack := d.get (TMAP_STACK x)
  let tier := d.get (TMAP_TIER x)
  let slot := d.get (TMAP_LOC x)
  let k := d.lineAt off
  let inj := (d.lineErr k).inj
  let d := d.bump (MEM_STACK_ECC_UNCORRECTABLE stack) 1
  let rec_ : FaultRec := { unit := unitSlot stack tier slot, confirmed := true, dkind := 0x10, detail := off / 128 * 128, inj := inj }
  if d.hasOrigin x then
    let d := (d.lastUE (off / 128 * 128) stack tier 0).event (srcStack stack) .uncorrectable [off / 128 * 128, 0]
    let d := (d.set (TMAP_REFETCH x) 1).report rec_
    ({ d with mem := { d.mem with refetch := d.mem.refetch ++ [(x, lineOf off)] } }, .held)
  else
    match who with
    | .consumer =>
      let d := (d.lastUE (off / 128 * 128) stack tier 2).event (srcStack stack) .uncorrectable [off / 128 * 128, 2]
      (((d.report rec_).contain .memory (unitSlot stack tier slot) (off / 128 * 128)).injected inj, .contained)
    | .internal =>
      let d := (d.lastUE (off / 128 * 128) stack tier 1).event (srcStack stack) .uncorrectable [off / 128 * 128, 1]
      let d := d.report rec_
      ((d.setLineErr k ⟨[], true, inj⟩).countPoison x, .poisoned)

/-- Adds an access to those that wait for an extent: for its re-fetch, or for its switch (R240, R247). -/
def Dev.hold (d : Dev) (x : Nat) (a : HeldAccess) : Dev :=
  if d.is (TMAP_REFETCH x) then { d with mem := { d.mem with held := d.mem.held ++ [(x, a)] } }
  else { d with mem := { d.mem with moves := d.mem.moves.map (fun v => if v.ext = x then { v with held := v.held ++ [a] } else v) } }

/-- A write to the line of an offset is held for the switch of its extent (R240). -/
def Dev.writeHeld (d : Dev) (off : Nat) : Bool :=
  let hits (o n : Nat) : Bool := decide (o / 128 ≤ off / 128) && decide (off / 128 ≤ (o + n - 1) / 128)
  d.mem.moves.any (fun v => v.ext == extOf off && v.held.any (fun h => match h with
    | .bytes o data => hits o data.length
    | .fabric pk => pkf pk PKT_OP != opLOAD && pkf pk PKT_OP != opGETS && hits (pkf pk PKT_OFFSET) 1
    | _ => false))

/-- A read served from tier 3 or 4 fails (R246). -/
def Dev.originFailed (d : Dev) (off : Nat) : Dev :=
  let a := off / 128 * 128
  ((d.set (TMAP_ORIGIN_FAIL (extOf off)) 1).lastUE a 0 0 4).event srcMemory .originFail [a]

/-- Reads one line of the range: HEAT, correction with write-back, and the error paths. A consumer's read waits behind a held write of its line
(R240); the scrubber and the engines do not. -/
def readLine (m : Mem) (d : Dev) (off : Nat) (who : Reader) : Dev × LineRes :=
  let x := extOf off
  let tier := d.get (TMAP_TIER x)
  if tier = 0 then (d.set MEM_STATUS_UNMAPPED 1, .unmapped)
  else if d.is (TMAP_REFETCH x) || (who == .consumer && d.writeHeld off) then (d, .held)
  else
    let d := d.bump (TMAP_HEAT x) 1
    if tier ≥ 3 then
      if d.mem.failing.contains (off / 128) then
        ({ d with mem := { d.mem with failing := d.mem.failing.filter (· != off / 128) } }, .originFail)
      else if tier = 4 && !d.vir.bme then (d.originFailed off, .originFail)
      else (d.set (TMAP_ORIGIN_FAIL x) 0, .ok)
    else
      let k := d.lineAt off
      let e := d.lineErr k
      if e.poison then
        if who == .consumer || d.hasOrigin x then d.uncorrectable off who else (d, .poisoned)
      else
        match decodeLine e.errs with
        | some [] => if e.errs = [] then (d, .ok) else ((xorSymbols m d k e.errs).setLineErr k {}, .ok)
        | some c =>
          let d := xorSymbols m d k (normErrs (e.errs ++ c))
          ((d.setLineErr k {}).bump (MEM_STACK_ECC_CORRECTED (d.get (TMAP_STACK x))) 1, .ok)
        | none => d.uncorrectable off who

/-- Reads `n` lines from the line at `off` on, stopping at the first that is not delivered. -/
def readLines (m : Mem) (who : Reader) : Nat → Dev → Nat → Dev × LineRes
  | 0, d, _ => (d, .ok)
  | n + 1, d, off =>
    let r := readLine m d off who
    match r.2 with
    | .ok => readLines m who n r.1 (off + 128)
    | _ => r

/-- Reads `len` bytes: their lines, then their bytes. -/
def readRange (m : Mem) (d : Dev) (off len : Nat) (who : Reader) : Dev × LineRes × List Byte :=
  if len = 0 then (d, .ok, [])
  else
    let first := off / 128 * 128
    let n := (off + len - 1) / 128 - off / 128 + 1
    let r := readLines m who n d first
    (r.1, r.2, if r.2 = .ok then uBytes m r.1 off len else [])

/-! ### Writes -/

/-- What a write came to. -/
inductive WrRes where
  | ok | unmapped | readOnly | held | contained
deriving DecidableEq, Repr

/-- PRT_INJ_ECC (R491, R492): the next full write of the named line stores a codeword whose lowest SYMBOLS data symbols are
inverted. -/
def Dev.injectEcc (d : Dev) (off k : Nat) : Dev :=
  if d.is PRT_INJ_ECC_ARMED && d.get PRT_INJ_ECC_OFFSET / 128 == off / 128 then
    let d := (d.set PRT_INJ_ECC_ARMED 0).set PRT_STATUS_FIRED_ECC 1
    d.setLineErr k ⟨(List.range (d.get PRT_INJ_ECC_SYMBOLS)).map (fun i => (6 + i, 0xFFFF)), false, true⟩
  else d

/-- Directory key of a line of the range. -/
def dirKey (off : Nat) : Nat := off / 128

def Dev.setDir (d : Dev) (k : Nat) (e : DirEntry) : Dev := { d with fab := { d.fab with dir := sput d.fab.dir k e } }

/-- R279: a shared line goes to state W: INVAL to each sharer. A line that is in state W stays there. -/
def Dev.startW (d : Dev) (k : Nat) : Dev :=
  match sfind d.fab.dir k with
  | none => d
  | some e =>
    if e.waiting ≠ [] then d
    else
      let d := e.sharers.foldl (fun d n =>
        d.sendPacket (d.mkPacket n clCOHERENCE opINVAL 5 (k * 128) 0 0 0 0 0 0 false [])) d
      d.setDir k { e with waiting := e.sharers }

/-- Adds an access to those that wait for a line to leave state W, starting W for a shared line (R279). -/
def Dev.dirHold (d : Dev) (k : Nat) (a : HeldAccess) : Dev :=
  let d := d.startW k
  match sfind d.fab.dir k with
  | none => d
  | some e => d.setDir k { e with held := e.held ++ [a] }

/-- Quad members hold the line or an access to it waits for them. -/
def Dev.dirBusy (d : Dev) (off : Nat) : Bool := (sfind d.fab.dir (dirKey off)).isSome

/-- Writes bytes inside one line, or holds them while quad members hold the line (R279), the extent moves (R240) or is re-fetched (R247): a write
that waited for the line before waits for the extent after it, so the order of arrival stays. A partial write to a
line whose stored word is uncorrectable or poisoned reaches a consumer (R245); a full line stores a normal codeword. -/
def writeLine (m : Mem) (d : Dev) (off : Nat) (bytes : List Byte) : Dev × WrRes :=
  let x := extOf off
  let tier := d.get (TMAP_TIER x)
  if tier = 0 then (d.set MEM_STATUS_UNMAPPED 1, .unmapped)
  else if !d.is (TMAP_WRITABLE x) then (d.set MEM_STATUS_RO_WRITE 1, .readOnly)
  else if d.dirBusy off then (d.dirHold (dirKey off) (.bytes off bytes), .held)
  else if d.is (TMAP_MIGRATING x) || d.is (TMAP_REFETCH x) then (d.hold x (.bytes off bytes), .held)
  else
    let k := d.lineAt off
    let full := bytes.length = 128
    let bad := (d.lineErr k).poison || (decodeLine (d.lineErr k).errs).isNone
    if bad && !full then
      let r := d.uncorrectable off .consumer
      (r.1, .contained)
    else
      let wasPoison := (d.lineErr k).poison
      let d := if full then d else (readLine m d off .internal).1
      let d := if full then d.setLineErr k {} else d
      let d := if wasPoison then d.countPoison x else d
      let d := if full then d.injectEcc off k else d
      (d.physPuts (d.physAt off) bytes, .ok)

/-- Writes bytes line by line, stopping at the first line that is refused. -/
def writeLines (m : Mem) : Nat → Dev → Nat → List Byte → Dev × WrRes
  | 0, d, _, _ => (d, .ok)
  | n + 1, d, off, bytes =>
    if bytes = [] then (d, .ok)
    else
      let take := 128 - off % 128
      let r := writeLine m d off (bytes.take take)
      match r.2 with
      | .ok => writeLines m n r.1 (off + take) (bytes.drop take)
      | .held => writeLines m n r.1 (off + take) (bytes.drop take)
      | _ => r

def writeRange (m : Mem) (d : Dev) (off : Nat) (bytes : List Byte) : Dev × WrRes :=
  writeLines m (bytes.length / 128 + 2) d off bytes

/-- A write by a block that holds a writable mapping (rings, step buffers, free stack): it meets no refusal (R217, R451). -/
def Dev.deviceWrite (m : Mem) (d : Dev) (off : Nat) (bytes : List Byte) : Dev := (writeRange m d off bytes).1

/-- A write to the line of an offset would wait (R240, R247, R279). -/
def Dev.lineBlocked (d : Dev) (off : Nat) : Bool :=
  d.is (TMAP_MIGRATING (extOf off)) || d.is (TMAP_REFETCH (extOf off)) || d.dirBusy off

/-- Puts an access behind what a line waits for. -/
def Dev.holdBehind (d : Dev) (off : Nat) (a : HeldAccess) : Dev :=
  if d.dirBusy off then d.dirHold (dirKey off) a else d.hold (extOf off) a

/-- The lines of a range that a write to it would wait for. -/
def Dev.blockedLines (d : Dev) (off len : Nat) : List Nat :=
  ((List.range ((off + len - 1) / 128 - off / 128 + 1)).map (fun i => (off / 128 + i) * 128)).filter d.lineBlocked

/-! ### Slots (R238) -/

def slotKey (tier stack slot : Nat) : Nat := tier * 1048576 + stack * 65536 + slot

/-- Slots of a tier of one stack: the top SLOTS near-tier slots hold the quad cache (R278). -/
def Dev.tierSlots (d : Dev) (tier : Nat) : Nat := if tier = 1 then 64 - d.get UNL_QCACHE_CFG_SLOTS else 65536

def Dev.slotFree (d : Dev) (tier stack slot : Nat) : Bool :=
  !d.mem.used.contains (slotKey tier stack slot) && !d.mem.retired.contains (slotKey tier stack slot)

/-- The lowest free slot of a stack. -/
def Dev.lowestSlot (d : Dev) (tier stack : Nat) : Option Nat :=
  (List.range (d.tierSlots tier)).find? (fun s => d.slotFree tier stack s)

/-- Moves a free counter by one without recounting. -/
def Dev.freeStep (d : Dev) (tier stack : Nat) (up : Bool) : Dev :=
  let f := if tier = 1 then MEM_STACK_FREE_T1_FREE stack else MEM_STACK_FREE_T2_FREE stack
  d.set f (if up then d.get f + 1 else d.get f - 1)

/-- T1_FREE of every stack, counted: the slots of the quad cache are not among them (R278). -/
def Dev.countT1 (d : Dev) : Dev :=
  forN 16 d (fun d s => d.set (MEM_STACK_FREE_T1_FREE s) ((List.range (d.tierSlots 1)).filter (fun i => d.slotFree 1 s i)).length)

def Dev.takeSlot (d : Dev) (tier stack slot : Nat) : Dev :=
  { d with mem := { d.mem with used := slotKey tier stack slot :: d.mem.used } }.freeStep tier stack false

/-- Frees a slot; a retired one stays out of use. -/
def Dev.dropSlot (d : Dev) (tier stack slot : Nat) : Dev :=
  let e := { d with mem := { d.mem with used := d.mem.used.filter (· != slotKey tier stack slot) } }
  if d.mem.retired.contains (slotKey tier stack slot) then e else e.freeStep tier stack true

/-- The next stack in ascending cyclic order after `prev` among those of the mask with a free slot (R238). -/
def Dev.nextStack (d : Dev) (tier mask : Nat) (prev : Option Nat) : Option (Nat × Nat) :=
  let start := match prev with | some p => p + 1 | none => 0
  ((List.range 16).map (fun i => (start + i) % 16)).findSome? (fun s =>
    if mask.testBit s then (d.lowestSlot tier s).map (fun sl => (s, sl)) else none)

/-- Allocates `n` slots in turn, or none at all. -/
def allocSlots (tier mask : Nat) : Nat → Dev → Option Nat → List (Nat × Nat) → Option (Dev × List (Nat × Nat))
  | 0, d, _, acc => some (d, acc)
  | n + 1, d, prev, acc =>
    match d.nextStack tier mask prev with
    | none => none
    | some sl => allocSlots tier mask n (d.takeSlot tier sl.1 sl.2) (some sl.1) (acc ++ [sl])

/-- Writes all bytes of a slot; every codeword of it is new. -/
def Dev.writeSlot (d : Dev) (tier stack slot : Nat) (bytes : List Byte) : Dev :=
  let k := lineKey tier stack slot 0
  let d := d.physPuts (k * 128) bytes
  { d with mem := { d.mem with lines := d.mem.lines.filter (fun e => decide (e.1 < k) || decide (k + 8192 ≤ e.1)) } }

/-- R492: the write of a whole slot for an extent is a full write of the line that PRT_INJ_ECC names. -/
def Dev.injectSlot (d : Dev) (x tier stack slot : Nat) : Dev :=
  let off := d.get PRT_INJ_ECC_OFFSET
  if extOf off = x then d.injectEcc off (lineKey tier stack slot (lineOf off)) else d

/-- Fills a slot for an extent. -/
def Dev.fillSlot (d : Dev) (x tier stack slot : Nat) (bytes : List Byte) : Dev :=
  (d.writeSlot tier stack slot bytes).injectSlot x tier stack slot

/-! ### CRC64 and the object digest (R242) -/

/-- One byte into CRC64, most significant bit first, generator 0x42F0_E1EB_A9EA_3693. -/
def crc64Byte (c b : Nat) : Nat :=
  (List.range 8).foldl (fun c _ =>
    if c ≥ 2 ^ 63 then (2 * c) % 2 ^ 64 ^^^ 0x42F0E1EBA9EA3693 else 2 * c) (c ^^^ (b * 2 ^ 56))

/-- CRC64 of `n` bytes given by index. -/
def crc64 (f : Nat → Nat) (n : Nat) : Nat := (List.range n).foldl (fun c i => crc64Byte c (f i)) 0

def rotl64 (x n : Nat) : Nat := (x * 2 ^ (n % 64) % 2 ^ 64) + x / 2 ^ (64 - n % 64)

/-- Digest of an object from the bytes of the range. -/
def objDigest (m : Mem) (d : Dev) (o : Nat) : Nat :=
  (List.range (d.get (OBJ_EXTENTS o))).foldl (fun acc k =>
    let base := d.get (OBJ_BASE o) + k * 1048576
    acc ^^^ rotl64 (crc64 (fun i => (uByte m d (base + i)).toNat) 1048576) (k % 64)) 0

/-- Reads `n` lines from one at `base` on for a digest: corrections, poisonings, re-fetches (R245). -/
def scanLines (m : Mem) (d : Dev) (base n : Nat) : Dev × LineRes :=
  let bad := d.mem.lines.map (·.1)
  (List.range n).foldl (fun r i =>
    let off := base + i * 128
    -- only a line with a stored error, one served by an origin, or one of an extent that is re-fetched, can answer anything but ok
    if d.get (TMAP_TIER (extOf off)) ≥ 3 || bad.contains (d.lineAt off) || r.1.is (TMAP_REFETCH (extOf off)) then
      let q := readLine m r.1 off .internal
      (q.1, if r.2 = .ok then q.2 else r.2)
    else (r.1.bump (TMAP_HEAT (extOf off)) 1, r.2)) (d, .ok)

/-- Reads every line of an object for a digest. -/
def digestScan (m : Mem) (d : Dev) (o : Nat) : Dev × LineRes := scanLines m d (d.get (OBJ_BASE o)) (d.get (OBJ_EXTENTS o) * 8192)

/-! ### Memory commands (R236, R237) -/

/-- Extents of an object. -/
def Dev.objExts (d : Dev) (o : Nat) : List Nat :=
  (List.range (d.get (OBJ_EXTENTS o))).map (fun k => extOf (d.get (OBJ_BASE o)) + k)

/-- R251: a peer origin of `n` extents keeps inside 41 bits of offset. -/
def peerOriginBad (origin n : Nat) : Bool :=
  let off := origin % 2 ^ 48
  off / 2 ^ 41 != 0 || decide (off + n * 1048576 > 2 ^ 41)

/-- LOC of the origin copy of extent k (R230). -/
def originLoc (kind origin k : Nat) : Nat :=
  if kind = 4 then origin / 1048576 + k
  else origin / 2 ^ 48 * 268435456 + (origin % 2 ^ 48 / 1048576 + k)

/-- Bytes of an extent from its origin. -/
def originBytes (kind loc : Nat) : List Byte := (List.range 1048576).map (fun i => originByteAt kind loc i)

/-- The device can read an origin of this kind now: the environment's answer, and Bus Master Enable for the host (R443). -/
def Dev.originReach (d : Dev) (kind : Nat) (ok : Bool) : Bool := ok && !(kind == 4 && !d.vir.bme)

/-- Pushes a memory-command result (R236). -/
def Dev.memResult (d : Dev) (c : MemCmd) (status done : Nat) : Dev :=
  let w := wfld [c.w0]
  let r := w64 (status + w MCMD_OP * 2 ^ 8 + w MCMD_TAG * 2 ^ 16 + done % 2 ^ 22 * 2 ^ 32 + 2 ^ 63)
  { d with mem := { d.mem with results := d.mem.results ++ [r] } }

/-- CREATE (R237): the device after it, its status, extents placed. -/
def memCreate (m : Mem) (d : Dev) (o : Nat) (ok : Bool) : Dev × Nat × Nat :=
  let base := d.get (OBJ_BASE o)
  let n := d.get (OBJ_EXTENTS o)
  let wr := d.is (OBJ_WRITABLE o)
  let pt := d.get (OBJ_PREF_TIER o)
  let kind := d.get (OBJ_ORIGIN_KIND o)
  let origin := d.get (OBJ_ORIGIN o)
  let overlap := (List.range n).any (fun k => d.get (TMAP_TIER (extOf base + k)) != 0)
  let refused := d.is (OBJ_VALID o) || base % 1048576 != 0 || n == 0 || decide (extOf base + n > 2097152) || overlap ||
    (wr && (kind != 0 || pt ≥ 3)) || (!wr && kind == 0) || (pt ≥ 3 && pt != kind) ||
    pt == 0 || pt > 4 || (kind != 0 && kind != 3 && kind != 4) || (kind != 0 && origin % 1048576 != 0) ||
    (kind == 3 && peerOriginBad origin n)
  if refused then (d, stREFUSED_STATE, 0)
  else if pt ≤ 2 then
    match allocSlots pt (d.get (OBJ_STACK_MASK o)) n d none [] with
    | none => (d, stNO_MEMORY, 0)
    | some (d1, slots) =>
      if !wr && !d.originReach kind ok then (d, stUNCORRECTABLE, 0)
      else
        let d2 := (List.range n).foldl (fun d k =>
          let x := extOf base + k
          let sl := slots.getD k (0, 0)
          let d := ((((d.set (TMAP_TIER x) pt).set (TMAP_WRITABLE x) (if wr then 1 else 0)).set (TMAP_STACK x) sl.1).set
            (TMAP_LOC x) sl.2).set (TMAP_OBJECT x) o
          if wr then d.countPoison x
          else (d.fillSlot x pt sl.1 sl.2 (originBytes kind (originLoc kind origin k))).bump (TMAP_HEAT x) 8192) d1
        let d3 := if wr then d2 else d2.set (OBJ_REF_DIGEST o) (objDigest m d2 o)
        (d3.set (OBJ_VALID o) 1, stOK, n)
  else if !d.originReach kind ok then (d, stUNCORRECTABLE, 0)
  else
    let d2 := (List.range n).foldl (fun d k =>
      let x := extOf base + k
      (((d.set (TMAP_TIER x) pt).set (TMAP_LOC x) (originLoc kind origin k)).set (TMAP_OBJECT x) o).bump (TMAP_HEAT x) 8192) d
    ((d2.set (OBJ_REF_DIGEST o) (objDigest m d2 o)).set (OBJ_VALID o) 1, stOK, n)

/-- Unmaps an extent and frees its slot. -/
def Dev.unmap (d : Dev) (x : Nat) : Dev :=
  let t := d.get (TMAP_TIER x)
  let d := if t = 1 ∨ t = 2 then d.dropSlot t (d.get (TMAP_STACK x)) (d.get (TMAP_LOC x)) else d
  let d := { d with mem := { d.mem with failing := d.mem.failing.filter (fun l => l / 8192 != x) } }
  [TMAP_TIER x, TMAP_WRITABLE x, TMAP_MIGRATING x, TMAP_REFETCH x, TMAP_ORIGIN_FAIL x, TMAP_STACK x, TMAP_LOC x,
    TMAP_OBJECT x, TMAP_HEAT x, TMAP_POISONED x].foldl (fun d f => d.set f 0) d

/-- R219, R237: a valid adapter entry names the object. -/
def Dev.adapterNames (d : Dev) (o : Nat) : Bool :=
  (d.listed (SRV_ADAPTER_VALID 0) 32 4096).any (fun a => d.get (SRV_ADAPTER_OBJECT a) == o)

/-- DESTROY (R237). -/
def memDestroy (d : Dev) (o : Nat) : Dev × Nat :=
  let xs := d.objExts o
  if !d.is (OBJ_VALID o) || d.wmap o != 0 || xs.any (fun x => d.is (TMAP_MIGRATING x) || d.is (TMAP_REFETCH x)) ||
     d.adapterNames o || d.srvMaps o
  then (d, stREFUSED_STATE)
  else ((xs.foldl Dev.unmap d).set (OBJ_VALID o) 0, stOK)

/-- SEAL (R237, R245). -/
def memSeal (m : Mem) (d : Dev) (o : Nat) : Dev × Nat :=
  let xs := d.objExts o
  if !d.is (OBJ_VALID o) || !d.is (OBJ_WRITABLE o) || d.wmap o != 0 || xs.any (fun x => d.is (TMAP_MIGRATING x))
  then (d, stREFUSED_STATE)
  else
    let r := digestScan m d o
    if r.2 = .ok then
      let d := (xs.foldl (fun d x => d.set (TMAP_WRITABLE x) 0) r.1).set (OBJ_WRITABLE o) 0
      (d.set (OBJ_REF_DIGEST o) (objDigest m d o), stOK)
    else (r.1, stUNCORRECTABLE)

/-- SET_ORIGIN (R237). -/
def memSetOrigin (d : Dev) (o kind arg : Nat) : Dev × Nat :=
  let xs := d.objExts o
  if !d.is (OBJ_VALID o) || d.is (OBJ_WRITABLE o) || xs.any (fun x => d.get (TMAP_TIER x) ≥ 3 || d.is (TMAP_REFETCH x)) ||
     (kind != 3 && kind != 4) || arg % 1048576 != 0 || (kind == 3 && peerOriginBad arg (d.get (OBJ_EXTENTS o)))
  then (d, stREFUSED_STATE)
  else ((d.set (OBJ_ORIGIN_KIND o) kind).set (OBJ_ORIGIN o) arg, stOK)

/-- DIGEST (R237, R242, R245): the answer, or none while a re-fetch it met is in progress. -/
def memDigest (m : Mem) (d : Dev) (o : Nat) (ok : Bool) : Dev × Option Nat :=
  if !d.is (OBJ_VALID o) then (d, some stREFUSED_STATE)
  else match (d.objExts o).find? (fun x => d.get (TMAP_TIER x) ≥ 3 && !d.originReach (d.get (TMAP_TIER x)) ok) with
  | some x => ((d.bump (TMAP_HEAT x) 1).originFailed (x * 1048576), some stUNCORRECTABLE)
  | none =>
    let r := digestScan m d o
    match r.2 with
    | .ok =>
      let v := objDigest m r.1 o
      (r.1.set (OBJ_LAST_DIGEST o) v, some (if v = d.get (OBJ_REF_DIGEST o) then stOK else stDIGEST_MISMATCH))
    | .held => (r.1, none)
    | _ => (r.1, some stUNCORRECTABLE)

/-! ### Migration (R239-R241) -/

/-- Recalls the lines of an extent that quad members hold (R239, R279). -/
def Dev.recall (d : Dev) (x : Nat) : Dev :=
  d.fab.dir.foldl (fun d e => if e.1 / 8192 = x then d.startW e.1 else d) d

/-- The refusal of one extent of a MIGRATE before it starts (R239). -/
def Dev.moveRefused (d : Dev) (o x tier : Nat) : Bool :=
  d.is (TMAP_MIGRATING x) || d.is (TMAP_REFETCH x) || (d.is (OBJ_WRITABLE o) && d.wmap o != 0) ||
  (d.is (OBJ_WRITABLE o) && tier ≥ 3) || (d.get (OBJ_ORIGIN_KIND o) == 0 && tier ≥ 3) ||
  (tier ≥ 3 && tier != d.get (OBJ_ORIGIN_KIND o)) || !d.is (OBJ_VALID o)

/-- The switch (R239 step 3): the new location is written, MIGRATING is cleared, the accesses held meanwhile are released in
arrival order (R240), and the old slot waits to be freed. -/
def switchExtent (d : Dev) (v : Move) : Dev :=
  let x := v.ext
  let ot := d.get (TMAP_TIER x)
  let os := d.get (TMAP_STACK x)
  let ol := d.get (TMAP_LOC x)
  let d := (((d.set (TMAP_TIER x) v.tier).set (TMAP_STACK x) v.stack).set (TMAP_LOC x) v.loc).set (TMAP_MIGRATING x) 0
  let d := { d with mem := { d.mem with
    moves := d.mem.moves.filter (fun w => w.ext != x)
    failing := d.mem.failing.filter (fun l => l / 8192 != x)
    oldSlots := if ot = 1 ∨ ot = 2 then d.mem.oldSlots ++ [(ot, os, ol)] else d.mem.oldSlots
    released := d.mem.released ++ v.held } }
  d

/-- Starts as many extents of the running MIGRATE as the engines allow, and ends the command when none is left (R239): each
engine moves one extent at a time. `fuel` bounds the extents looked at. -/
def migrateAdvance (m : Mem) : Nat → Dev → Dev
  | 0, d => d
  | fuel + 1, d =>
    match d.mem.running with
    | none => d
    | some (c, done, next, stop) =>
      let ws := [c.w0, c.w1, c.w2]
      let o := wfld ws MCMD_OBJECT
      let tier := wfld ws MCMD_TIER
      let count := wfld ws MCMD_COUNT
      let mine := d.mem.moves.filter (fun v => d.get (TMAP_OBJECT v.ext) == o)
      let finish (st : Nat) : Dev := ({ d with mem := { d.mem with running := none } }).memResult c st done
      match stop with
      | some st => if mine.isEmpty then finish st else d
      | none =>
        if next ≥ count then (if mine.isEmpty then finish stOK else d)
        else
          let x := extOf (d.get (OBJ_BASE o)) + wfld ws MCMD_FIRST + next
          let halt (st : Nat) : Dev := { d with mem := { d.mem with running := some (c, done, next, some st) } }
          if d.moveRefused o x tier then migrateAdvance m fuel (halt stREFUSED_STATE)
          else if tier ≥ 3 then
            let k := x - extOf (d.get (OBJ_BASE o))
            let v : Move := ⟨x, tier, 0, originLoc tier (d.get (OBJ_ORIGIN o)) k, []⟩
            let d := switchExtent (d.recall x) v
            migrateAdvance m fuel { d with mem := { d.mem with running := some (c, done + 1, next + 1, none) } }
          else
            match d.nextStack tier (wfld ws MCMD_STACK_MASK) d.mem.lastStack with
            | none => migrateAdvance m fuel (halt stNO_MEMORY)
            | some (s, sl) =>
              if d.mem.moves.any (fun v => v.stack == s && decide (v.tier ≤ 2)) then d
              else
                let d := ((d.takeSlot tier s sl).set (TMAP_MIGRATING x) 1).recall x
                migrateAdvance m fuel { d with mem := { d.mem with
                  lastStack := some s
                  moves := d.mem.moves ++ [⟨x, tier, s, sl, []⟩]
                  running := some (c, done, next + 1, none) } }

/-- R237: MIGRATE's refusals before any extent moves. -/
def migrateBad (d : Dev) (ws : Words) : Bool :=
  let o := wfld ws MCMD_OBJECT
  !d.is (OBJ_VALID o) || wfld ws MCMD_COUNT == 0 || wfld ws MCMD_TIER == 0 || wfld ws MCMD_TIER > 4 ||
  decide (wfld ws MCMD_FIRST + wfld ws MCMD_COUNT > d.get (OBJ_EXTENTS o))

/-- A replica entry whose object has been destroyed and loaded again is no longer EXPELLED (R420). -/
def Dev.replicaReload (d : Dev) (o st : Nat) : Dev :=
  if st ≠ stOK then d
  else ((List.range 64).filter (fun r => d.get (TLS_REPLICA_STATE r) == 1 && d.get (TLS_REPLICA_OBJECT r) == o)).foldl
    (fun d r => d.set (TLS_REPLICA_STATE r) 0) d

/-- Runs one command (R237). A result is pushed unless the command goes on. -/
def memRun (m : Mem) (d : Dev) (c : MemCmd) : Dev :=
  let ws := [c.w0, c.w1, c.w2]
  let o := wfld ws MCMD_OBJECT
  let op := wfld ws MCMD_OP
  -- R14: reserved bits or a reserved operation
  if reservedSet ws MCMD_USED || op == 0 || decide (op > 6) then d.memResult c stREFUSED_STATE 0
  else if op = 1 then let r := memCreate m d o c.originOk; (if d.is (OBJ_WRITABLE o) then r.1 else r.1.replicaReload o r.2.1).memResult c r.2.1 r.2.2
  else if op = 2 then let r := memDestroy d o; r.1.memResult c r.2 0
  else if op = 3 then let r := memSeal m d o; (r.1.replicaReload o r.2).memResult c r.2 0
  else if op = 4 then let r := memSetOrigin d o (wfld ws MCMD_TIER) (wfld ws MCMD_ARG); r.1.memResult c r.2 0
  else if op = 5 then
    if migrateBad d ws then d.memResult c stREFUSED_STATE 0
    else migrateAdvance m (wfld ws MCMD_COUNT + 2) { d with mem := { d.mem with running := some (c, 0, 0, none), lastStack := none } }
  else
    match memDigest m d o c.originOk with
    | (d, some st) => d.memResult c st 0
    | (d, none) => { d with mem := { d.mem with running := some (c, 0, 0, none) } }

/-- Runs waiting commands while none is in progress (R236: one at a time, in queue order). Accesses that a move has released come before the next
one (R240). -/
def memDrain (m : Mem) : Nat → Dev → Dev
  | 0, d => d
  | n + 1, d =>
    match d.mem.running, d.mem.queue with
    | none, c :: rest =>
      if d.mem.released.isEmpty then memDrain m n (memRun m { d with mem := { d.mem with queue := rest } } c) else d
    | _, _ => d

/-- CMD_BUSY and CMD_DEPTH (R236). -/
def Dev.memStatus (d : Dev) : Dev :=
  (d.set MEM_STATUS_CMD_BUSY (if d.mem.running.isSome then 1 else 0)).set MEM_STATUS_CMD_DEPTH d.mem.queue.length

/-- The write of MEM_CMD_W2's high word (R236): into the queue of 64, then what can run runs. -/
def memIssue (m : Mem) (d : Dev) (c : MemCmd) : Dev :=
  if d.mem.queue.length ≥ 64 then d.set MEM_STATUS_CMD_OVERFLOW 1
  else (memDrain m 65 { d with mem := { d.mem with queue := d.mem.queue ++ [c] } }).memStatus

/-- Goes on with the running command and the queue after an event that may have ended its wait. -/
def memResume (m : Mem) (d : Dev) : Dev :=
  match d.mem.running with
  | none => (memDrain m 65 d).memStatus
  | some (c, _, _, _) =>
    if wfld [c.w0] MCMD_OP = 6 then
      (memDrain m 65 (memRun m { d with mem := { d.mem with running := none } } c)).memStatus
    else (memDrain m 65 (migrateAdvance m 2097154 d)).memStatus

/-- Bytes of an extent as a copy reads them: the stored bytes, or the origin's. -/
def extentBytes (m : Mem) (d : Dev) (x : Nat) : List Byte := uBytes m d (x * 1048576) 1048576

/-- A migration engine finishes copying an extent (R239, R241). `ok`: the origin answered, where the source is tier 3 or 4. -/
def copyDone (m : Mem) (d : Dev) (x : Nat) (ok : Bool) : Dev :=
  match d.mem.moves.find? (fun v => v.ext == x) with
  | none => d
  | some v =>
    if d.is (TMAP_REFETCH x) || d.fab.dir.any (fun e => e.1 / 8192 == x && e.2.waiting != []) then d
    else
      let st := d.get (TMAP_TIER x)
      let bump (d : Dev) : Dev := match d.mem.running with
        | some (c, done, next, stop) => { d with mem := { d.mem with running := some (c, done + 1, next, stop) } }
        | none => d
      if st ≥ 3 && !d.originReach st ok then
        -- R241: the target slot is freed and the extent refused with UNCORRECTABLE
        let d := (((d.dropSlot v.tier v.stack v.loc).set (TMAP_MIGRATING x) 0).bump (TMAP_HEAT x) 1).originFailed (x * 1048576)
        let d := { d with mem := { d.mem with
          moves := d.mem.moves.filter (fun w => w.ext != x)
          released := d.mem.released ++ v.held
          running := d.mem.running.map (fun r => (r.1, r.2.1, r.2.2.1, some stUNCORRECTABLE)) } }
        memResume m d
      else
        -- read every source line that carries an error
        let lines := (List.range 8192).filter (fun l => st ≤ 2 && d.mem.lines.any (fun e => e.1 == d.lineAt (x * 1048576 + l * 128)))
        let r := lines.foldl (fun (r : Dev × Bool) l =>
          let q := readLine m r.1 (x * 1048576 + l * 128) .internal
          (q.1, r.2 || q.2 == .held)) (d, false)
        if r.2 then r.1
        else
          let d := (r.1.bump (TMAP_HEAT x) (8192 - lines.length)).writeSlot v.tier v.stack v.loc (extentBytes m r.1 x)
          let d := if st ≥ 3 then d.set (TMAP_ORIGIN_FAIL x) 0 else d
          -- poisoned lines are copied as poisoned lines (R241)
          let d := (List.range 8192).foldl (fun d l =>
            let src := d.lineAt (x * 1048576 + l * 128)
            let p := st ≤ 2 && (d.lineErr src).poison
            d.setLineErr (lineKey v.tier v.stack v.loc l) ⟨[], p, p && (d.lineErr src).inj⟩) d
          memResume m (bump (switchExtent (d.injectSlot x v.tier v.stack v.loc) v))

/-- The old slot of a migrated extent is freed (R239 step 5). -/
def oldSlotFree (m : Mem) (d : Dev) (tier stack slot : Nat) : Dev :=
  if d.mem.oldSlots.contains (tier, stack, slot) then
    let d := { d with mem := { d.mem with oldSlots := d.mem.oldSlots.erase (tier, stack, slot) } }
    memResume m (d.dropSlot tier stack slot)
  else d

/-- Retires the slot that serves an extent (R247, R401). -/
def Dev.retireSlot (d : Dev) (tier stack slot : Nat) : Dev :=
  let k := slotKey tier stack slot
  if d.mem.retired.contains k then d
  else
    let wasFree := d.slotFree tier stack slot && decide (slot < d.tierSlots tier)
    let d := { d with mem := { d.mem with retired := k :: d.mem.retired } }
    let d := if tier = 1 then d.bump (MEM_STACK_RETIRED_T1 stack) 1 else d.bump (MEM_STACK_RETIRED_T2 stack) 1
    if wasFree then d.freeStep tier stack false else d

/-- Scrub (R249): the next line of a stack, the near tier after the DRAM. -/
def scrubLines : Nat := 536870912 + 64 * 8192

/-- The extent that a slot serves, if any. -/
def Dev.slotExtent (d : Dev) (tier stack slot : Nat) : Option Nat :=
  (d.listed (TMAP_TIER 0) 16 2097152).find? (fun x =>
    d.get (TMAP_TIER x) == tier && d.get (TMAP_STACK x) == stack && d.get (TMAP_LOC x) == slot)

end Sys2Proof.Machine
end

