-- ==== Sys2Proof/Machine/Rings.lean ====
section
/-!
DEFINITION. Machine/Rings.lean: the instance side of the host attachment: who owns what (R449), records written to CQ and IQ
(R451-R453, R456), MSI-X messages (R459), messages to MBOX_IN (R454).
-/

namespace Sys2Proof.Machine

/-! ### Ownership (R449) -/

/-- The instance of a context: the one whose VIR_INST_CTX range holds it, an enabled one first; instance 0 where no range does
(R57, R449). -/
def Dev.ctxInst (d : Dev) (c : Nat) : Nat :=
  let holds (i : Nat) : Bool :=
    decide (d.get (VIR_INST_CTX_CTX_BASE i) ≤ c) && decide (c < d.get (VIR_INST_CTX_CTX_BASE i) + d.get (VIR_INST_CTX_CTX_COUNT i))
  match (List.range 128).find? (fun i => d.is (VIR_INST_CTRL_EN i) && holds i) with
  | some i => i
  | none => ((List.range 128).find? holds).getD 0

/-- A sequence number lies in an instance's range. -/
def Dev.seqInRange (d : Dev) (i s : Nat) : Bool :=
  decide (d.get (VIR_INST_SEQ_SEQ_BASE i) ≤ s) && decide (s < d.get (VIR_INST_SEQ_SEQ_BASE i) + d.get (VIR_INST_SEQ_SEQ_COUNT i))

/-- A context number lies in an instance's range; a context in no range belongs to instance 0. -/
def Dev.ctxOwned (d : Dev) (i c : Nat) : Bool := d.ctxInst c == i

/-- The instance generation. -/
def Dev.igen (d : Dev) (i : Nat) : Nat := d.get (INST_STATUS_GEN i)

/-! ### MSI-X (R459) -/

/-- Word `w` of a vector's table entry; the Mask bit of word 3 is 1 until software clears it (PCI Express). -/
def Dev.msixWord (d : Dev) (i v w : Nat) : Nat := sget d.vir.msixTab (i * 65536 + v * 4 + w) (if w = 3 then 1 else 0)

/-- What the configuration space of a function holds (R442). -/
def Dev.pcieFn (d : Dev) (i : Nat) : PcieFn := sget d.vir.fns i {}

/-- A vector is masked: its own Mask bit, Function Mask, or MSI-X Enable at 0 (R459; PCI Express, log 12). -/
def Dev.msixMasked (d : Dev) (i v : Nat) : Bool :=
  d.msixWord i v 3 % 2 == 1 || !(d.pcieFn i).msixEn || (d.pcieFn i).msixMask

/-- The message of a vector: the instance, the vector, and the address and the data that its table entry holds (R459). -/
def Dev.msixMsg (d : Dev) (i v : Nat) : Nat × Nat × Nat × Nat :=
  (i, v, d.msixWord i v 0 + d.msixWord i v 1 * 2 ^ 32, d.msixWord i v 2)

/-- The driver of a function sets MSI-X Enable in its configuration space (PRESUMED, log 12: with Bus Master Enable for the PF, with VF Enable for
a VF, since the table has no command for other configuration writes). -/
def Dev.msixEnable (d : Dev) (i : Nat) : Dev :=
  { d with vir := { d.vir with fns := sput d.vir.fns i { d.pcieFn i with msixEn := true } } }

/-- Sends a message now, or leaves it pending while the vector is masked or Bus Master Enable is 0 (R443). A message of an
earlier generation is discarded and counted (R456). -/
def Dev.msixSend (d : Dev) (i v gen : Nat) : Dev :=
  if gen ≠ d.igen i then d.bump (VIR_INST_DISC_LATE i) 1
  else if d.msixMasked i v || !d.vir.bme then
    if d.vir.msixPend.any (fun p => p.1 == i && p.2.1 == v) then d
    else { d with vir := { d.vir with msixPend := d.vir.msixPend ++ [(i, v, gen)] } }
  else
    { d with
      out := { d.out with msix := d.out.msix ++ [d.msixMsg i v] }
      vir := { d.vir with recent := d.vir.recent.filter (fun r => !(r.1 == i && r.2.1 == v)) ++ [(i, v, d.T, none)] } }

/-- An event on a vector: sent at once, or merged into the message at the end of the 2 µs after the last one. -/
def Dev.raiseVector (d : Dev) (i v gen : Nat) : Dev :=
  match d.vir.recent.find? (fun r => r.1 == i && r.2.1 == v) with
  | some r =>
    if d.T < r.2.2.1 + 2000 || r.2.2.2.isSome then
      { d with vir := { d.vir with recent := d.vir.recent.map (fun q =>
          if q.1 = i ∧ q.2.1 = v then (i, v, q.2.2.1, some gen) else q) } }
    else d.msixSend i v gen
  | none => d.msixSend i v gen

/-- Pending messages go out once nothing holds them back (R443, R459). -/
def Dev.msixFlush (d : Dev) : Dev :=
  let ps := d.vir.msixPend
  ps.foldl (fun d p => d.msixSend p.1 p.2.1 p.2.2) { d with vir := { d.vir with msixPend := [] } }

/-- MSIX_COALESCE_EXPIRY: the end of the 2 µs after a message. -/
def Dev.coalesceEnd (d : Dev) (i v : Nat) : Dev :=
  match d.vir.recent.find? (fun r => r.1 == i && r.2.1 == v) with
  | none => d
  | some r =>
    let d := { d with vir := { d.vir with recent := d.vir.recent.filter (fun q => !(q.1 == i && q.2.1 == v)) } }
    match r.2.2.2 with
    | none => d
    | some gen => d.msixSend i v gen

/-- Vectors of an instance's CQ, IQ and MBOX_IN. -/
def vecCQ (i : Nat) : Nat := if i = 0 then 1 else 0
def vecIQ (i : Nat) : Nat := if i = 0 then 2 else 1
def vecMbox (i : Nat) : Nat := if i = 0 then 3 else 2

/-! ### Records into CQ and IQ (R451, R453, R456) -/

/-- One more record lost in RING_LOST: the CQ's half or the IQ's. -/
def Dev.ringLost (d : Dev) (i : Nat) (iq : Bool) : Dev :=
  let v := d.get (RING_LOST_V i)
  let c := v % 65536
  let q := v / 65536
  d.set (RING_LOST_V i) (if iq then c + min 65535 (q + 1) * 65536 else min 65535 (c + 1) + q * 65536)

/-- The registers of a completion ring. -/
structure RingRegs where
  base : Fld
  order : Fld
  inten : Fld
  en : Fld
  prod : Fld
  cons : Fld

def cqRegs (i : Nat) : RingRegs := ⟨CQ_CFG_BASE i, CQ_CFG_ORDER i, CQ_CFG_INT_EN i, CQ_CFG_EN i, CQ_PROD_V i, CQ_CONS_V i⟩
def iqRegs (i : Nat) : RingRegs := ⟨IQ_CFG_BASE i, IQ_CFG_ORDER i, IQ_CFG_INT_EN i, IQ_CFG_EN i, IQ_PROD_V i, IQ_CONS_V i⟩

/-- Entries between CONS and PROD of free-running 32-bit indices. -/
def ringUsed (prod cons : Nat) : Nat := (prod + 2 ^ 32 - cons) % 2 ^ 32

/-- Writes a record to a completion ring: late (R456), lost (R453), or written with PROD advanced and its vector raised. -/
def ringPost (m : Mem) (d : Dev) (i gen : Nat) (iq : Bool) (bytes : List Byte) : Dev :=
  let r := if iq then iqRegs i else cqRegs i
  if gen ≠ d.igen i then d.bump (VIR_INST_DISC_LATE i) 1
  else if !d.is r.en || decide (ringUsed (d.get r.prod) (d.get r.cons) ≥ 2 ^ d.get r.order) then d.ringLost i iq
  else
    let slot := d.get r.prod % 2 ^ d.get r.order
    let d := d.deviceWrite m (d.get r.base * 4096 + slot * bytes.length) bytes
    let d := d.set r.prod ((d.get r.prod + 1) % 2 ^ 32)
    if d.is r.inten then d.raiseVector i (if iq then vecIQ i else vecCQ i) gen else d

/-! ### Mailbox (R454, R455) -/

/-- Messages that a mailbox holds at most: 64 for the PF, 16 for a VF. -/
def mboxCap (i : Nat) : Nat := if i = 0 then 64 else 16

def Dev.mbox (d : Dev) (i : Nat) : List Words := sget d.vir.mbox i []

/-- MBOX_CTRL and MBOX_IN show the oldest message. -/
def Dev.mboxShow (d : Dev) (i : Nat) : Dev :=
  let q := d.mbox i
  let d := (d.set (MBOX_CTRL_IN_VALID i) (if q = [] then 0 else 1)).set (MBOX_CTRL_IN_COUNT i) q.length
  forN 8 d (fun d w => d.set (MBOX_IN_W i w) ((q.headD []).getD w 0#64).toNat)

def Dev.mboxPut (d : Dev) (i : Nat) (msg : Words) : Dev :=
  let d := { d with vir := { d.vir with mbox := sput d.vir.mbox i (d.mbox i ++ [msg]) } }
  (d.mboxShow i).raiseVector i (vecMbox i) (d.igen i)

end Sys2Proof.Machine
end

