-- ==== Sys2Proof/Machine/Lathe.lean ====
section
/-!
DEFINITION. Machine/Lathe.lean: items and chains (R43-R52), the context table and its commands (R57-R59), the radio set and
inference cycles (R60-R62), swaps (R68-R71), and the ends of items.
-/

namespace Sys2Proof.Machine

/-! ### The tick and the radio set (R39, R60, R62) -/

/-- Tile cycles of a tick. -/
def Dev.tickCycles (d : Dev) : Nat := 75000 * d.get LTH_TICK_CFG_PERIOD

/-- Nominal tick period in nanoseconds. -/
def Dev.tickNs (d : Dev) : Nat := 125000 * d.get LTH_TICK_CFG_PERIOD

/-- The radio entry that names a tile in the active set. -/
def Dev.radioEntry (d : Dev) (t : Nat) : Option Nat :=
  (List.range 32).find? (fun i => d.is (actF (LTH_RADIO_TILE_VALID i)) && d.get (actF (LTH_RADIO_TILE_TILE i)) == t)

/-- The radio entry that names a tile in an admitted set that awaits its frame boundary (R61, R300). -/
def Dev.pendingEntry (d : Dev) (t : Nat) : Option Nat :=
  if d.is RAD_CFG_CTRL_PENDING then
    (List.range 32).find? (fun i => d.is (LTH_RADIO_TILE_VALID i) && d.get (LTH_RADIO_TILE_TILE i) == t)
  else none

/-- Banks that chuck 0 of a tile holds in the active set: 0 on a tile that is no radio tile. -/
def Dev.radioBanks (d : Dev) (t : Nat) : Nat :=
  match d.radioEntry t with
  | some i => d.get (actF (LTH_RADIO_TILE_CHUCK0_BANKS i))
  | none => 0

/-- Banks to keep free for an admitted set that is pending. -/
def Dev.pendingBanks (d : Dev) (t : Nat) : Nat :=
  match d.pendingEntry t with
  | some i => d.get (LTH_RADIO_TILE_CHUCK0_BANKS i)
  | none => 0

/-- Banks of the radio on a tile, admitted ones counted. -/
def Dev.reservedBanks (d : Dev) (t : Nat) : Nat := max (d.radioBanks t) (d.pendingBanks t)

/-- R62: inference cycles of a tile per tick. -/
def Dev.inferCycles (d : Dev) (t : Nat) : Nat :=
  let c := d.tickCycles
  match d.radioEntry t with
  | some _ => c - c * d.get (actF LTH_RADIO_CFG_RESERVE_PCT) / 100 - 1200
  | none => c - 1200

/-- R193: a disabled logical tile. -/
def Dev.tileDisabled (d : Dev) (t : Nat) : Bool := d.is (CUB_TILE_PHYS_DISABLED t)

/-! ### Completion records (R51) -/

/-- The 16 bytes of an item completion record. -/
def itemRecord (ns source status attempt tag : Nat) : List Byte :=
  wordsBytes (mkWords 2 [(IREC_NS, ns), (IREC_SOURCE, source), (IREC_STATUS, status), (IREC_ATTEMPT, attempt), (IREC_TAG, tag)])

/-- Context number of an item. -/
def Item.ctx (it : Item) : Nat := wfld it.desc ITEM_CONTEXT

/-- The instance whose completion ring takes an item's record: its context's (R451). The record of an SQ item that names a context
outside the submitter's range goes to the submitter (R452; DEDUCED, log 188). -/
def Dev.itemInst (d : Dev) (it : Item) : Nat :=
  if it.origin = 0 && !d.ctxOwned it.inst it.ctx then it.inst else d.ctxInst it.ctx

/-- Writes an item's record to the completion ring of its instance. -/
def itemPost (m : Mem) (d : Dev) (it : Item) (source status attempt : Nat) : Dev :=
  ringPost m d (d.itemInst it) it.igen true (itemRecord d.ns source status attempt (wfld it.desc ITEM_TAG))

/-- The record of a radio item, a Gouge item or a coding item. The radio context is held outside the table, so that no VIR_INST_CTX range holds
it: its records go to the completion ring of instance 0 (R51, R57; DEDUCED, log 120). `tag`: of a submitted item; the spec gives none to the
items that the front end builds, so theirs is a free value. -/
def radioPost (m : Mem) (d : Dev) (source status attempt : Nat) (tag : Option Nat) : Dev :=
  let d' := ringPost m d 0 (d.igen 0) true (itemRecord d.ns source status attempt (tag.getD (Config.radioTag d.free).toNat))
  { d' with free := d'.free + 1 }

/-! ### Chains (R48) -/

def chainSucceeds (st : Nat) : Bool := st == stOK || st == stCHECKSUM_RETRIED || st == stK_ZERO

/-- Records of the chain of an item. -/
def Dev.chainOf (d : Dev) (it : Item) : List ChainRec :=
  d.lathe.chains.filter (fun r => r.origin == it.origin && r.inst == it.inst && r.chain == wfld it.desc ITEM_CHAIN)

/-- Sets what became of an item of a chain. -/
def Dev.chainSet (d : Dev) (it : Item) (st : Option Nat) : Dev :=
  let c := wfld it.desc ITEM_CHAIN
  let i := wfld it.desc ITEM_INDEX
  let rest := d.lathe.chains.filter (fun r => !(r.origin == it.origin && r.inst == it.inst && r.chain == c && r.index == i))
  { d with lathe := { d.lathe with chains := rest ++ [⟨it.origin, it.inst, c, i, st⟩] } }

/-- A new item joins its chain. DESIGN CHOICE (log 121): a chain identifier belongs to one origin and one instance, and when every known item of
the chain has its final record and the new item's INDEX does not go beyond them, the identifier names a new chain. R48 states neither. -/
def Dev.chainJoin (d : Dev) (it : Item) : Dev :=
  let known := d.chainOf it
  let i := wfld it.desc ITEM_INDEX
  let anew := known.all (fun r => r.status.isSome) && known.any (fun r => decide (i ≤ r.index))
  let d := if anew then
    { d with lathe := { d.lathe with chains := d.lathe.chains.filter (fun r =>
        !(r.origin == it.origin && r.inst == it.inst && r.chain == wfld it.desc ITEM_CHAIN)) } } else d
  d.chainSet it none

/-- The item before this one in its chain: the largest lower INDEX known. -/
def Dev.predecessor (d : Dev) (it : Item) : Option ChainRec :=
  let i := wfld it.desc ITEM_INDEX
  (d.chainOf it).foldl (fun best r =>
    if r.index < i then
      match best with
      | some b => if b.index < r.index then some r else best
      | none => some r
    else best) none

/-- The step of the serving engine that an item belongs to has one final record more (R198, R212). -/
def Dev.stepFinal (d : Dev) (num status : Nat) : Dev :=
  { d with srv := { d.srv with steps := d.srv.steps.map (fun s =>
      if s.num = num then { s with left := s.left - 1, failed := s.failed || !chainSucceeds status } else s) } }

/-- The final record of an item: its ring record, its chain, its step. -/
def itemFinal (m : Mem) (d : Dev) (it : Item) (source status attempt : Nat) : Dev :=
  let d := (itemPost m d it source status attempt).chainSet it (some status)
  if it.origin = 1 then d.stepFinal (wfld it.desc ITEM_TAG) status else d

/-! ### Submission (R50, R194, R452) -/

/-- Where an item comes from, and its instance. -/
def submitterOrigin : Submitter → Nat
  | .host _ => 0
  | .serving => 1
  | .radio _ => 2

/-- The conditions of R50 beside the bound. -/
def Dev.itemBad (d : Dev) (src : Submitter) (ws : Words) : Bool :=
  let c := wfld ws ITEM_CONTEXT
  reservedSet ws ITEM_USED || wfld ws ITEM_RADIO == 1 || !d.is (LTH_CTX_VALID c) ||
  wfld ws ITEM_RELEASE != 0 || wfld ws ITEM_DEADLINE != 0 || d.tileDisabled (d.get (LTH_CTX_TILE c)) ||
  (match src with | .host i => !d.ctxOwned i c | _ => false)

/-- A descriptor reaches the Lathe. -/
def itemSubmitOp (m : Mem) (d : Dev) (src : Submitter) (ws : Words) : Dev :=
  match src with
  | .radio e =>
    -- a radio item for chuck 0 of the radio tile of an entry
    let t := d.get (actF (LTH_RADIO_TILE_TILE e))
    let bad := reservedSet ws ITEM_USED || wfld ws ITEM_RADIO != 1 || !d.is (actF (LTH_RADIO_TILE_VALID e)) ||
      decide (wfld ws ITEM_CYCLE_BOUND + wfld ws ITEM_RELEASE + 96 > wfld ws ITEM_DEADLINE)
    if bad then radioPost m d srcLathe stREFUSED_STATE 0 (some (wfld ws ITEM_TAG))
    else
      let x := d.tile t
      d.setTile t { x with radio := x.radio ++
        [{ kind := 5, desc := ws, release := wfld ws ITEM_RELEASE, deadline := wfld ws ITEM_DEADLINE, bound := wfld ws ITEM_CYCLE_BOUND
           tag := some (wfld ws ITEM_TAG) }] }
  | _ =>
    let c := wfld ws ITEM_CONTEXT
    let inst := match src with | .host i => i | _ => d.ctxInst c
    let d := { d with lathe := { d.lathe with seqNo := d.lathe.seqNo + 1 } }
    let it : Item := { desc := ws, origin := submitterOrigin src, inst := inst, igen := d.igen inst, seqNo := d.lathe.seqNo }
    let d := d.chainJoin it
    if d.itemBad src ws || decide (wfld ws ITEM_CYCLE_BOUND > d.inferCycles (d.get (LTH_CTX_TILE c))) then
      itemFinal m d it srcLathe stREFUSED_STATE 0
    else { d with lathe := { d.lathe with pend := d.lathe.pend ++ [it] } }

/-! ### Cuts (R46, R47, R180) -/

/-- An item's run ends in a cut: DEFERRED, and back to the queue, or ABORTED where it is cut at a third consecutive tick (R47). -/
def itemCut (m : Mem) (d : Dev) (it : Item) (tile : Nat) : Dev :=
  let d := (itemPost m d it tile stDEFERRED it.attempt).bump LTH_CUT_CNT_COUNT 1
  let now := d.lathe.ticks
  let again := match it.cutAt with | some n => n + 1 == now | none => false
  let it := { it with cuts := (if again then it.cuts else 0) + 1, cutAt := some now }
  if it.cuts ≥ 3 then
    (itemFinal m d it tile stABORTED it.attempt).event srcLathe .chainAborted [wfld it.desc ITEM_CHAIN, wfld it.desc ITEM_TAG]
  else { d with lathe := { d.lathe with pend := d.lathe.pend ++ [it] } }

/-- Descriptors of a chuck when its item is cut or stopped (R167, R178): those that have not started are discarded, those in
progress complete without their local increment. Descriptors of an earlier item's tail are kept. -/
def Chuck.dropDma (c : Chuck) : Chuck :=
  { c with dq := (c.dq.filter (fun o => o.tail || o.started)).map (fun o => if o.tail then o else { o with cut := true }) }

/-- A chuck without a run: no operation, no wait, nothing frozen. -/
def Chuck.endRun (c : Chuck) : Chuck :=
  { c with run := none, wait := none, mq := [], loops := [], dq := c.dq.map (fun o => { o with own := false }) }

/-- Takes the run off a chuck. -/
def Dev.closeRun (d : Dev) (tc : Nat) : Dev :=
  let d := d.setChuck tc (d.chuck tc).dropDma.endRun
  let t := tc / 4
  let x := d.tile t
  d.setTile t { x with cur := if x.cur = some (tc % 4) then none else x.cur
                       preempted := if x.preempted = some (tc % 4) then none else x.preempted }

/-- Cuts the uncommitted inference run of a chuck. -/
def cutRun (m : Mem) (d : Dev) (tc : Nat) : Dev :=
  match (d.chuck tc).run with
  | none => d
  | some r => if r.committed || r.item.origin = 2 then d else itemCut m (d.closeRun tc) r.item (tc / 4)

/-! ### Contexts (R57-R59, R70, R146) -/

/-- Contexts that are VALID, ascending. -/
def Dev.validCtxs (d : Dev) : List Nat := d.listed (LTH_CTX_VALID 0) 16 4096

/-- R58: pinned. -/
def Dev.ctxPinned (d : Dev) (c : Nat) : Bool := decide (d.get (LTH_CTX_BANKS c) > 8) || d.is (LTH_CTX_PINNED c)

/-- R58, R70: the save home lies inside one valid writable object of the context's instance. -/
def Dev.saveHomeOk (d : Dev) (c : Nat) : Bool :=
  d.get (LTH_CTX_SAVE_HOME c) % 4096 == 0 &&
  d.insideWritable (some (d.ctxInst c)) (d.get (LTH_CTX_SAVE_HOME c)) (d.get (LTH_CTX_BANKS c) * 196608)

/-- R58: why a LOAD is refused. DESIGN CHOICE (log 122): chuck 0's banks are the larger of those of the active set and of an admitted set that
still waits for its frame boundary. -/
def Dev.loadRefused (d : Dev) (c : Nat) : Bool :=
  let t := d.get (LTH_CTX_TILE c)
  let b := d.get (LTH_CTX_BANKS c)
  let others := ((d.validCtxs.filter (fun k => k != c && d.get (LTH_CTX_TILE k) == t && d.ctxPinned k)).map
    (fun k => d.get (LTH_CTX_BANKS k))).sum
  d.is (LTH_CTX_VALID c) || decide (t > 319) || d.tileDisabled t || decide (b < 2) || decide (b > 16 - d.reservedBanks t) ||
  (d.ctxPinned c && decide (b + others + d.reservedBanks t > 16)) || !d.saveHomeOk c

/-- A result in LTH_CTX_RESULT. -/
def Dev.ctxResult (d : Dev) (op c tag status : Nat) : Dev :=
  let r := w64 (status + op * 2 ^ 8 + c * 2 ^ 12 + tag * 2 ^ 24 + 2 ^ 63)
  { d with lathe := { d.lathe with results := d.lathe.results ++ [r] } }

/-- The chuck that holds or takes a context, if any. -/
def Dev.ctxChuck (d : Dev) (c : Nat) : Option Nat :=
  (d.chucks.find? (fun e => e.2.ctx == some c)).map (·.1)

/-- An item of the chuck is in progress, or descriptors that its tail issued, which complete although the item has ended (R155). -/
def Chuck.busy (c : Chuck) : Bool := c.run.isSome || !c.dq.isEmpty

/-- An item of the context is in progress. -/
def Dev.ctxBusy (d : Dev) (c : Nat) : Bool :=
  match d.ctxChuck c with
  | some tc => (d.chuck tc).busy
  | none => false

/-- Fields of a chuck's cube configuration: CUB_CFG, CUB_MASK_MN and CUB_MASK_K. -/
def cfgFields (t k : Nat) : List Fld :=
  [CUB_CFG_FMT_A t k, CUB_CFG_FMT_B t k, CUB_CFG_DATAFLOW t k, CUB_CFG_HOLD t k, CUB_CFG_SHIFT t k,
    CUB_MASK_MN_MASK_M t k, CUB_MASK_MN_MASK_N t k, CUB_MASK_K_MASK_K t k]

/-- Frees the chuck of a context: its banks, its configuration view (a slot that holds no context reads reset values) and its
residence. Descriptors that still have to complete (of a tail, or already in progress: R155, R167, R458) stay with their banks, of which no other context
takes any until the last of them has completed. -/
def Dev.freeChuck (d : Dev) (tc : Nat) : Dev :=
  let t := tc / 4
  let k := tc % 4
  let left := ((d.chuck tc).dq.filter (fun o => o.tail || o.started)).map (fun o => { o with own := false })
  let d := match (d.chuck tc).ctx with
    | some c => (d.set (LTH_CTX_RESIDENT c) 0).set (LTH_CTX_CHUCK c) 0
    | none => d
  let d := { d with chucks := if left.isEmpty then sdel d.chucks tc else sput d.chucks tc { dq := left } }
  let d := if left.isEmpty then d.set (CUB_SEQ_PART_BANKS t k) 0 else d
  let d := [CUB_SEQ_PART_CONTEXT t k, CUB_SEQ_PART_VALID t k].foldl (fun d f => d.set f 0) d
  let d := (cfgFields t k).foldl (fun d f => d.set f f.rst) d
  forN 8 d (fun d s => d.set (CUB_SEQ_SEM_COUNT t k s) 0)

/-- A chuck that no context holds, freed while descriptors were left, is free once the last of them has completed. -/
def Dev.drained (d : Dev) (tc : Nat) : Dev :=
  let x := d.chuck tc
  if x.ctx.isNone && x.dq.isEmpty && d.get (CUB_SEQ_PART_VALID (tc / 4) (tc % 4)) == 0 && d.get (CUB_SEQ_PART_BANKS (tc / 4) (tc % 4)) != 0 then
    d.freeChuck tc
  else d

/-- Items of a context that are not placed complete with REFUSED_STATE (R59). -/
def refuseItems (m : Mem) (d : Dev) (c : Nat) : Dev :=
  let gone := d.lathe.pend.filter (fun i => i.ctx == c)
  let d := { d with lathe := { d.lathe with pend := d.lathe.pend.filter (fun i => i.ctx != c) } }
  gone.foldl (fun d it => itemFinal m d it srcLathe stREFUSED_STATE it.attempt) d

/-- R234: a context's bindings are released. -/
def Dev.unbind (d : Dev) (c : Nat) : Dev := forN 8 d (fun d s => d.set (MEM_CTX_BIND_VALID c s) 0)

/-- The removal of a context: its chuck is freed, its bindings are released, VALID is cleared. -/
def dropState (m : Mem) (d : Dev) (c : Nat) : Dev :=
  let d := refuseItems m d c
  let d := match d.ctxChuck c with | some tc => d.freeChuck tc | none => d
  let d := { d with lathe := { d.lathe with
    swaps := d.lathe.swaps.filter (fun s => s.ctx != c)
    claims := (d.lathe.claims.filter (fun (x : Claim) => x.ctx != c)).map (fun (x : Claim) => { x with outs := x.outs.filter (· != c) })
    dropped := d.lathe.dropped.filter (fun e => e.1 != c)
    widened := d.lathe.widened.filter (· != c)
    waited := sdel d.lathe.waited c
    bindWait := sdel d.lathe.bindWait c
    ctxCfg := sdel d.lathe.ctxCfg c
    ctxSem := d.lathe.ctxSem.filter (fun e => e.1 / 8 != c) } }
  (d.unbind c).set (LTH_CTX_VALID c) 0

/-- The UNLOAD at the head of the queue that waits for the removal of a context. -/
def Dev.unloadHead (d : Dev) (c : Nat) : Option (Nat × Nat) :=
  match d.lathe.cmdQ with
  | (op, c', tag, _) :: _ => if c' = c ∧ (op = 2 ∨ op = 3) ∧ d.lathe.dropped.any (fun e => e.1 == c) then some (op, tag) else none
  | [] => none

/-- Runs the context-command queue until a command waits (R58, R59): each entry is (operation, context, tag, reserved bits
set). -/
def ctxDrain (m : Mem) : Nat → Dev → Dev
  | 0, d => d
  | n + 1, d =>
    match d.lathe.cmdQ with
    | [] => d
    | (op, c, tag, bad) :: rest =>
      let pop (d : Dev) : Dev := { d with lathe := { d.lathe with cmdQ := rest } }
      let refuse : Dev := ctxDrain m n ((pop d).ctxResult op c tag stREFUSED_STATE)
      if bad then refuse
      else if op = 1 then
        if d.loadRefused c then refuse else ctxDrain m n (((pop d).set (LTH_CTX_VALID c) 1).ctxResult op c tag stOK)
      else if op = 2 ∨ op = 3 then
        if !d.is (LTH_CTX_VALID c) then refuse
        else if d.lathe.dropped.any (fun e => e.1 == c) then d
        else { d with lathe := { d.lathe with dropped := d.lathe.dropped ++ [(c, op - 2, false)] } }
      else refuse

/-- The write of LTH_CTX_CMD's high word: into the queue of 64, then what can run runs (R58). -/
def ctxIssue (m : Mem) (d : Dev) (w : W64) : Dev :=
  if d.lathe.cmdQ.length ≥ 64 then d.set LTH_STATUS_CFG_REFUSED 1
  else
    let v := w.toNat
    let e := (v / 4096 % 16, v % 4096, v / 65536 % 65536, decide (v ≥ 2 ^ 32))
    ctxDrain m 65 { d with lathe := { d.lathe with cmdQ := d.lathe.cmdQ ++ [e] } }

/-- The removal of a context with `st` as the result of an UNLOAD that waits for it (R58). -/
def endCtx (m : Mem) (d : Dev) (c st : Nat) : Dev :=
  match d.unloadHead c with
  | none => dropState m d c
  | some (op, tag) =>
    let d := dropState m d c
    ctxDrain m 65 (({ d with lathe := { d.lathe with cmdQ := d.lathe.cmdQ.drop 1 } } : Dev).ctxResult op c tag st)

/-- The removal of a context otherwise than by a command (R59, R70). An UNLOAD of it that waits at the head of the queue is then an unload of a
context that is not VALID: REFUSED_STATE (DEDUCED, log 123). -/
def removeCtx (m : Mem) (d : Dev) (c : Nat) : Dev := endCtx m d c stREFUSED_STATE

/-! ### Partitions (R146, R147) -/

/-- Banks in use on a tile: those of chucks that hold or take a context, those that a runnable context has taken (R68), and the radio's. -/
def Dev.banksUsed (d : Dev) (t : Nat) : Nat :=
  let held := (List.range 4).foldl (fun a k => a ||| d.get (CUB_SEQ_PART_BANKS t k)) (2 ^ d.reservedBanks t - 1)
  d.lathe.claims.foldl (fun a x => if x.tile = t then a ||| x.mask else a) held

/-- The lowest `n` free banks as a mask. -/
def lowestBanks (used n : Nat) : Option Nat :=
  let free := (List.range 16).filter (fun b => !used.testBit b)
  if free.length < n then none else some ((free.take n).foldl (fun a b => a + 2 ^ b) 0)

/-- Set bits of a mask, ascending. -/
def bankList (mask : Nat) : List Nat := (List.range 16).filter (fun b => mask.testBit b)

/-- R147: physical byte of a local address in a partition. -/
def physByte (mask a : Nat) : Nat :=
  let bs := bankList mask
  let n := bs.length
  let line := a / 64
  bs.getD (line % n) 0 * 196608 + line / n * 64 + a % 64

/-- Key of a local byte in `Dev.sram`. -/
def Dev.sramKey (d : Dev) (tc a : Nat) : Nat :=
  tc / 4 * 3145728 + physByte (d.get (CUB_SEQ_PART_BANKS (tc / 4) (tc % 4))) a

/-- A byte of a chuck's partition; SRAM that nothing has written reads zero. -/
def Dev.localGet (d : Dev) (tc a : Nat) : Nat := (sget d.sram (d.sramKey tc a) 0#8).toNat

/-- Writes a byte of a chuck's partition. -/
def Dev.localPut (d : Dev) (tc a : Nat) (v : Byte) : Dev :=
  { d with sram := sput d.sram (d.sramKey tc a) v }

def Dev.localPuts (d : Dev) (tc a : Nat) : List Byte → Dev
  | [] => d
  | b :: t => (d.localPut tc a b).localPuts tc (a + 1) t

/-- Banks of a chuck's partition, and its usable bytes (R148). -/
def Dev.nbanks (d : Dev) (tc : Nat) : Nat := (bankList (d.get (CUB_SEQ_PART_BANKS (tc / 4) (tc % 4)))).length
def Dev.usable (d : Dev) (tc : Nat) : Nat := d.nbanks tc * 196608 - 65536

/-! ### Swaps (R68-R71) -/

/-- A context has a released item in the queue. -/
def Dev.hasReady (d : Dev) (c : Nat) : Bool := d.lathe.pend.any (fun i => i.ctx == c && i.released.isSome)

/-- A context is resident: its partition has arrived and no eviction of it has begun. -/
def Dev.ctxResident (d : Dev) (c : Nat) : Bool :=
  match d.ctxChuck c with
  | some tc => (d.chuck tc).resident
  | none => false

/-- R241: the save home of a context lies in an extent that is being moved. -/
def Dev.homeBusy (d : Dev) (c : Nat) : Bool :=
  let a := d.get (LTH_CTX_SAVE_HOME c)
  let n := d.get (LTH_CTX_BANKS c) * 196608
  (List.range ((a + n - 1) / 1048576 - a / 1048576 + 1)).any (fun i => d.is (TMAP_MIGRATING (a / 1048576 + i)))

/-- An extent is being moved or re-fetched. -/
def Dev.extBusy (d : Dev) (x : Nat) : Bool := d.is (TMAP_MIGRATING x) || d.is (TMAP_REFETCH x)

/-- Extents of the writable objects that a context binds which are being moved or re-fetched now. -/
def Dev.boundBusy (d : Dev) (c : Nat) : List Nat :=
  (List.range 8).flatMap (fun s =>
    let o := d.get (MEM_CTX_BIND_OBJECT c s)
    if d.is (MEM_CTX_BIND_VALID c s) && d.is (OBJ_VALID o) && d.is (OBJ_WRITABLE o) then (d.objExts o).filter d.extBusy else [])

/-- R241: the extents for which a context's bring-in waits, noted when the bring-in is due. -/
def Dev.bindNote (d : Dev) (c : Nat) : Dev :=
  if (sfind d.lathe.bindWait c).isSome then d
  else { d with lathe := { d.lathe with bindWait := sput d.lathe.bindWait c (d.boundBusy c) } }

/-- A bring-in that is due may start. -/
def Dev.bringOk (d : Dev) (c : Nat) : Bool := !d.homeBusy c && !(sget d.lathe.bindWait c []).any d.extBusy

/-- R70: a save home that is no longer valid removes the context, refuses its items and sends an event record. -/
def saveHomeFail (m : Mem) (d : Dev) (c : Nat) : Dev :=
  (removeCtx m d c).event srcLathe .contextDropped [c]

/-- Starts the eviction of a chuck's context. -/
def startEvict (m : Mem) (d : Dev) (tc : Nat) : Dev :=
  match (d.chuck tc).ctx with
  | none => d
  | some c =>
    if !d.saveHomeOk c then saveHomeFail m d c
    else
      let d := d.setChuck tc { d.chuck tc with resident := false }
      let d := (d.set (LTH_CTX_RESIDENT c) 0).set (LTH_CTX_CHUCK c) 0
      { d with lathe := { d.lathe with swaps := d.lathe.swaps ++ [⟨c, tc / 4, tc % 4, true⟩] } }

/-- Bytes of a partition as they go to the save home: byte i is local address i. The save area holds chuck state in a form that
the spec does not lay out, so its bytes are free values. -/
def Dev.partitionBytes (d : Dev) (tc : Nat) : List Byte :=
  let n := d.nbanks tc * 196608
  (List.range n).map (fun a => if a < n - 65536 then BitVec.ofNat 8 (d.localGet tc a) else Config.saveAreaByte d.free a)

/-- Keeps the inbound semaphores of a context while it is not resident (R170). -/
def Dev.saveSems (d : Dev) (tc c : Nat) : Dev :=
  forN 8 d (fun d s => { d with lathe := { d.lathe with
    ctxSem := sput d.lathe.ctxSem (c * 8 + s) (d.get (CUB_SEQ_SEM_COUNT (tc / 4) (tc % 4) s)) } })
def Dev.loadSems (d : Dev) (tc c : Nat) : Dev :=
  forN 8 d (fun d s => d.set (CUB_SEQ_SEM_COUNT (tc / 4) (tc % 4) s) (sget d.lathe.ctxSem (c * 8 + s) 0))

/-- The cube configuration of a chuck is saved with its partition and restored with it (R116). -/
def Dev.saveCfg (d : Dev) (tc c : Nat) : Dev :=
  { d with lathe := { d.lathe with ctxCfg := sput d.lathe.ctxCfg c ((cfgFields (tc / 4) (tc % 4)).map d.get) } }
def Dev.loadCfg (d : Dev) (tc c : Nat) : Dev :=
  match sfind d.lathe.ctxCfg c with
  | some vs => ((cfgFields (tc / 4) (tc % 4)).zip vs).foldl (fun d e => d.set e.1 e.2) d
  | none => d

/-- Writes a chuck's partition to its context's save home. -/
def savePartition (m : Mem) (d : Dev) (tc c : Nat) : Dev :=
  let d := ((d.deviceWrite m (d.get (LTH_CTX_SAVE_HOME c)) (d.partitionBytes tc)).saveSems tc c).saveCfg tc c
  { d with free := d.free + 1 }

/-- SWAP_EVICTION_DONE: the bytes have reached the save home; the chuck and its banks become free. DESIGN CHOICE (log 124): LTH_SWAP_CNT counts an
eviction and a bring-in as one swap each. -/
def evictDone (m : Mem) (d : Dev) (c : Nat) : Dev :=
  match d.lathe.swaps.find? (fun s => s.ctx == c && s.out) with
  | none => d
  | some s =>
    let tc := s.tile * 4 + s.chuck
    let d := { d with lathe := { d.lathe with
      swaps := d.lathe.swaps.filter (fun q => !(q.ctx == c && q.out))
      claims := d.lathe.claims.map (fun (x : Claim) => { x with outs := x.outs.filter (· != c) }) } }
    if !d.saveHomeOk c then saveHomeFail m d c
    else ((savePartition m d tc c).freeChuck tc).bump LTH_SWAP_CNT_COUNT 1

/-- The chuck that a context takes on a tile: the lowest free one that no runnable context has taken, chuck 0 excepted on a radio tile. -/
def Dev.freeChuckOf (d : Dev) (t : Nat) : Option Nat :=
  (List.range 4).find? (fun k =>
    (d.chuck (t * 4 + k)).ctx.isNone && (d.chuck (t * 4 + k)).dq.isEmpty && !d.lathe.claims.any (fun x => x.tile == t && x.chuck == k) && !(k == 0 && ((d.radioEntry t).isSome || (d.pendingEntry t).isSome)))

/-- Starts the bring-in of a context into a chuck and banks. -/
def startBringIn (m : Mem) (d : Dev) (c t k mask : Nat) : Dev :=
  if !d.saveHomeOk c then saveHomeFail m d c
  else
    let d := d.setChuck (t * 4 + k) { ctx := some c }
    let d := ((d.set (CUB_SEQ_PART_BANKS t k) mask).set (CUB_SEQ_PART_CONTEXT t k) c).set (CUB_SEQ_PART_VALID t k) 1
    { d with lathe := { d.lathe with swaps := d.lathe.swaps ++ [⟨c, t, k, false⟩], bindWait := sdel d.lathe.bindWait c } }

/-- SWAP_BRING_IN_DONE: the partition has arrived. A line that reads uncorrectable follows R246. -/
def bringInDone (m : Mem) (d : Dev) (c : Nat) : Dev :=
  match d.lathe.swaps.find? (fun s => s.ctx == c && !s.out) with
  | none => d
  | some s =>
    let tc := s.tile * 4 + s.chuck
    if !d.saveHomeOk c then
      saveHomeFail m { d with lathe := { d.lathe with swaps := d.lathe.swaps.filter (fun q => q.ctx != c) } } c
    else
      let r := readRange m d (d.get (LTH_CTX_SAVE_HOME c)) (d.nbanks tc * 196608) .consumer
      match r.2.1 with
      | .held => r.1
      | _ =>
        let d := r.1.localPuts tc 0 r.2.2
        let d := { d with lathe := { d.lathe with
          swaps := d.lathe.swaps.filter (fun q => !(q.ctx == c && !q.out))
          waited := sdel d.lathe.waited c
          widened := d.lathe.widened.filter (· != c) } }
        let d := { d with lathe := { d.lathe with clock := d.lathe.clock + 1 } }
        let d := d.setChuck tc { d.chuck tc with resident := true, since := d.lathe.clock }
        let d := (d.set (LTH_CTX_RESIDENT c) 1).set (LTH_CTX_CHUCK c) s.chuck
        ((d.loadSems tc c).loadCfg tc c).bump LTH_SWAP_CNT_COUNT 1

/-- Chucks of a tile that the Lathe may evict for a runnable context: swappable, resident, no radio chuck, no item in progress;
its save home not being moved (R241); only blocked ones unless `wide` (R55, R68, R69). In order of least recent run, or longest resident when `wide`. -/
def Dev.victims (d : Dev) (t : Nat) (wide : Bool) : List Nat :=
  let ok (k : Nat) : Bool :=
    let x := d.chuck (t * 4 + k)
    x.resident && !x.busy &&
    (match x.ctx with
      | some c => !d.ctxPinned c && !d.homeBusy c && (wide || !d.hasReady c)
      | none => false)
  let age (k : Nat) : Nat := let x := d.chuck (t * 4 + k); if wide then x.since else x.lastRun
  ((List.range 4).filter ok).mergeSort (fun a b => decide (age a ≤ age b))

/-- Evicts from the front of a list until the incoming partition fits and a chuck is free: the chucks to evict, and the banks and the chuck that
the context takes; nothing when all of them would not do. -/
def evictUntil (t need : Nat) : List Nat → Dev → List Nat → Option (List Nat × Nat × Nat)
  | vs, d, acc =>
    let freed := acc.foldl (fun a k => a - d.get (CUB_SEQ_PART_BANKS t k)) (d.banksUsed t)
    match lowestBanks freed need, (match d.freeChuckOf t with | some k => some k | none => acc.head?) with
    | some mask, some k => some (acc, mask, k)
    | _, _ => match vs with
      | [] => none
      | v :: rest => evictUntil t need rest d (acc ++ [v])
  termination_by structural vs => vs

/-- What has been freed for a runnable context is complete: its bring-in starts with what it took, once nothing that it moves or binds is being moved
(R241). -/
def claimsReady (m : Mem) (d : Dev) : Dev :=
  (d.lathe.claims.filter (fun x => x.outs.isEmpty)).foldl (fun d x =>
    let d := d.bindNote x.ctx
    if d.bringOk x.ctx then
      startBringIn m { d with lathe := { d.lathe with claims := d.lathe.claims.filter (fun y => y.ctx != x.ctx) } } x.ctx x.tile x.chuck x.mask
    else d) d

/-- Evictions for a runnable context: it takes its banks and its chuck at once (R68). -/
def evictFor (m : Mem) (d : Dev) (c t : Nat) (ks : List Nat) (mask k : Nat) : Dev :=
  let outs := ks.filterMap (fun j => (d.chuck (t * 4 + j)).ctx)
  let d := { d with lathe := { d.lathe with claims := d.lathe.claims ++ [⟨c, t, k, mask, outs⟩] } }
  claimsReady m (ks.foldl (fun d j => startEvict m d (t * 4 + j)) d)

/-- Swaps that are under way on a tile, or taken. -/
def Dev.swapping (d : Dev) (t : Nat) : Bool := d.lathe.swaps.any (fun s => s.tile == t) || d.lathe.claims.any (fun x => x.tile == t)

/-- One runnable context at a boundary: bring it in where there is room, once nothing that it moves or binds is being moved (R241), or evict for
it (R68); the widened choice takes the longest resident first, blocked or not (R69). Without room the bring-in is not due, and nothing is noted. -/
def tryBring (m : Mem) (d : Dev) (c : Nat) : Dev :=
  let t := d.get (LTH_CTX_TILE c)
  let need := d.get (LTH_CTX_BANKS c)
  match d.freeChuckOf t, lowestBanks (d.banksUsed t) need with
  | some k, some mask =>
    let d := d.bindNote c
    if d.bringOk c then startBringIn m d c t k mask else d
  | _, _ =>
    let d := { d with lathe := { d.lathe with bindWait := sdel d.lathe.bindWait c } }
    if d.homeBusy c then d
    else
      match evictUntil t need (d.victims t (d.lathe.widened.contains c)) d [] with
      | some (ks, mask, k) => evictFor m d c t ks mask k
      | none => d

/-- The contexts that wait as runnable at a boundary: released items, not resident, not being brought in, not being removed, their tile live
and no mirror tick on it (R190). A context that receives a ready item during its eviction is one of them (R71). The longest wait goes first,
then the lowest number (R68). -/
def Dev.waiting (d : Dev) : List Nat :=
  let cs := (d.lathe.pend.filterMap (fun i => if i.released.isSome then some i.ctx else none)).eraseDups
  let ok (c : Nat) : Bool :=
    d.is (LTH_CTX_VALID c) && !d.ctxResident c && !d.lathe.swaps.any (fun s => s.ctx == c && !s.out) &&
    !d.lathe.claims.any (fun x => x.ctx == c) && !d.lathe.dropped.any (fun e => e.1 == c) &&
    !d.tileDisabled (d.get (LTH_CTX_TILE c)) && (d.tile (d.get (LTH_CTX_TILE c))).mirror == 0
  (cs.filter ok).mergeSort (fun a b =>
    let wa := sget d.lathe.waited a 0
    let wb := sget d.lathe.waited b 0
    decide (wa > wb) || (wa == wb && decide (a ≤ b)))

/-- Those of them that can be brought in: no eviction of theirs is in progress. -/
def Dev.runnable (d : Dev) : List Nat := d.waiting.filter (fun c => (d.ctxChuck c).isNone)

/-- R234: the mappings of a context begin at the boundary at which it has become resident. -/
def Dev.mapResident (d : Dev) : Dev :=
  { d with chucks := d.chucks.map (fun e => if e.2.resident then (e.1, { e.2 with mapped := true }) else e) }

/-- The swap decisions of a boundary (R68, R69): the ticks waited so far are counted, then each runnable context is treated in turn. A context
has waited no tick at the first boundary at which it is runnable. -/
def swapBoundary (m : Mem) (d : Dev) : Dev :=
  let d := claimsReady m d.mapResident
  let ws := d.waiting
  let d := { d with lathe := { d.lathe with
    waited := ws.foldl (fun w c => sput w c (match sfind d.lathe.waited c with | some n => n + 1 | none => 0)) [] } }
  d.runnable.foldl (fun d c => tryBring m d c) d

/-! ### Work lists (R48, R50, R52, R62, R71) -/

/-- R48: releases the items whose predecessor succeeded, at boundary `tick` as `Lathe.ticks` counts them, and ends those whose chain has ended. One
pass goes over the queue in chain order, so that an end runs down its chain. DESIGN CHOICE (log 173): the ABORTED record of an item that never ran
has source 1056, the Lathe's, which R51 names for a refusal alone. -/
def releaseItems (m : Mem) (d : Dev) (tick : Nat) : Dev :=
  let order := d.lathe.pend.mergeSort (fun a b => decide (wfld a.desc ITEM_INDEX ≤ wfld b.desc ITEM_INDEX))
  order.foldl (fun d it =>
    if it.released.isSome then d
    else
      let set (f : Item → Item) : Dev := { d with lathe := { d.lathe with
        pend := d.lathe.pend.map (fun i => if i.seqNo = it.seqNo then f i else i) } }
      match d.predecessor it with
      | none => set (fun i => { i with released := some tick })
      | some r =>
        match r.status with
        | none => d
        | some st =>
          if chainSucceeds st then set (fun i => { i with released := some tick })
          else
            let d := { d with lathe := { d.lathe with pend := d.lathe.pend.filter (fun i => i.seqNo != it.seqNo) } }
            itemFinal m d it srcLathe stABORTED 0) d

/-- R52: list order. -/
def itemBefore (a b : Item) : Bool :=
  let key (i : Item) : List Nat := [i.released.getD 0, i.ctx, wfld i.desc ITEM_CHAIN, wfld i.desc ITEM_INDEX, i.seqNo]
  decide (key a ≤ key b)

/-- Cycles already placed on a tile. -/
def listCycles (l : List Item) : Nat := (l.map (fun i => wfld i.desc ITEM_CYCLE_BOUND)).sum

/-- Builds the lists of the new tick: items in order, each placed on its tile while the tile's list has fewer than 64 items and
its bounds stay within the inference cycles; the first item that does not fit keeps later ones of its tile out. Items whose
bound no longer fits at all are refused. A tile whose cure by the row's spare still waits gets none (R180). -/
def buildLists (m : Mem) (d : Dev) : Dev :=
  let ready := (d.lathe.pend.filter (fun i => i.released.isSome)).mergeSort itemBefore
  (ready.foldl (fun (r : Dev × List Nat) it =>
    let d := r.1
    let t := d.get (LTH_CTX_TILE it.ctx)
    let take (d : Dev) : Dev := { d with lathe := { d.lathe with pend := d.lathe.pend.filter (fun i => i.seqNo != it.seqNo) } }
    if r.2.contains t || !d.ctxResident it.ctx || (d.tile t).withheld || d.tileDisabled t ||
       d.tls.cures.any (fun c => c.tile == t && (c.kind == 1 || c.kind == 2)) ||
       d.lathe.dropped.any (fun e => e.1 == it.ctx) then r
    else if wfld it.desc ITEM_CYCLE_BOUND > d.inferCycles t then
      (itemFinal m (take d) it srcLathe stREFUSED_STATE it.attempt, r.2)
    else
      let x := d.tile t
      if x.list.length ≥ 64 || decide (listCycles x.list + wfld it.desc ITEM_CYCLE_BOUND > d.inferCycles t) then (d, t :: r.2)
      else ((take d).setTile t { x with list := x.list ++ [it] }, r.2)) (d, [])).1

/-- Items that were queued while RUN was 0 (R40). -/
def Dev.markStalled (d : Dev) : Dev :=
  { d with lathe := { d.lathe with pend := d.lathe.pend.map (fun i => if i.attempt = 0 then { i with stalled := true } else i) } }

/-- R59: a boundary has passed since the unload; items not placed are refused. -/
def dropBoundary (m : Mem) (d : Dev) : Dev :=
  d.lathe.dropped.foldl (fun d e => refuseItems m d e.1)
    { d with lathe := { d.lathe with dropped := d.lathe.dropped.map (fun e => (e.1, e.2.1, true)) } }

/-- CTX_REMOVAL (R59): takes effect when a boundary has passed and no item of the context is in progress. -/
def ctxRemovalOp (m : Mem) (d : Dev) (c : Nat) : Dev :=
  match d.lathe.dropped.find? (fun e => e.1 == c && e.2.2) with
  | none => d
  | some (_, mode, _) =>
    if d.ctxBusy c || d.lathe.swaps.any (fun s => s.ctx == c) || d.lathe.claims.any (fun x => x.ctx == c) then d
    else
      let resident := d.ctxResident c
      let lost := mode == 0 && resident && !d.saveHomeOk c
      let d := if mode == 0 && resident && !lost then
          match d.ctxChuck c with | some tc => savePartition m d tc c | none => d
        else d
      if lost then saveHomeFail m d c else endCtx m d c stOK

/-- A swap of a context is in progress or taken (R71: it is completed). -/
def Dev.ctxSwapping (d : Dev) (c : Nat) : Bool := d.lathe.swaps.any (fun s => s.ctx == c) || d.lathe.claims.any (fun x => x.ctx == c)

/-- Drops a context as UNLOAD_DISCARD does, with no command and no result (R194, R457). -/
def Dev.dropCtx (d : Dev) (c : Nat) : Dev :=
  if d.is (LTH_CTX_VALID c) && !d.lathe.dropped.any (fun e => e.1 == c) then
    { d with lathe := { d.lathe with dropped := d.lathe.dropped ++ [(c, 2, false)] } }
  else d

end Sys2Proof.Machine
end

