-- ==== Sys2Proof/Machine/RegFile.lean ====
section
/-!
DEFINITION. Machine/RegFile.lean: a register found by its key, read and written whole under its fields' access types (R12, R14,
R15). What a register's write or read does beside that is in the units and in Machine/Bus.lean.
-/

namespace Sys2Proof.Machine

/-- All register tables. -/
def allRows : List RegRow :=
  rowsLTH ++ rowsCUB ++ rowsSRV ++ rowsMEM ++ rowsUNL ++ rowsRAD ++ rowsGGC ++ rowsTSU ++ rowsTLS ++ rowsFPL ++ rowsPAGE ++
  rowsVIR ++ rowsPRT ++ rowsBAR2 ++ rowsCHN

/-- Bytes of a register. -/
def rowBytes (r : RegRow) : Nat := if r.is64 then 8 else 4

/-- The offset of a copy of a register from its base, when `rel` bytes from the base lie in a copy: the copy's offset. -/
def copyOf (size : Nat) : List (Nat × Nat) → Nat → Option Nat
  | [], rel => if rel < size then some 0 else none
  | (stride, count) :: rest, rel =>
    if rel / stride < count then (copyOf size rest (rel % stride)).map (fun o => rel / stride * stride + o) else none

/-- A register that holds the byte at a key, and the key of its copy. -/
def rowHit (r : RegRow) (key : Nat) : Option Nat :=
  if r.base ≤ key then (copyOf (rowBytes r) r.dims (key - r.base)).map (fun o => r.base + o) else none

def findRow (key : Nat) : Option (RegRow × Nat) := allRows.findSome? (fun r => (rowHit r key).map (fun a => (r, a)))

/-- Reset value of a field of a copy. CUB_TILE_PHYS.PCOL is t mod 20 (R187). -/
def copyRst (r : RegRow) (addr : Nat) (f : FRow) : Nat :=
  if r.base = 0x8102C ∧ f.lo = 0 then (addr - r.base) / 0x400 % 20 else f.rst

/-- The field of a copy as `Dev.get` and `Dev.set` know it. -/
def fldOf (r : RegRow) (addr : Nat) (f : FRow) : Fld := ⟨addr, f.lo, f.width, copyRst r addr f⟩

/-- Stored value of a whole register as a read shows it: WO fields read zero. -/
def regValue (d : Dev) (r : RegRow) (addr : Nat) : Nat :=
  (r.fields.map (fun f => if f.acc = .wo then 0 else d.get (fldOf r addr f) * 2 ^ f.lo)).sum

/-- The bits of a value that a field takes. -/
def fldBits (f : FRow) (v : Nat) : Nat := v / 2 ^ f.lo % 2 ^ f.width

/-- Writes one field under its access type. -/
def writeField (d : Dev) (r : RegRow) (addr v : Nat) (f : FRow) : Dev :=
  let x := fldOf r addr f
  let b := fldBits f v
  match f.acc with
  | .rw => d.set x b
  | .w1c => d.set x (d.get x &&& ((2 ^ f.width - 1) ^^^ b))
  | .w1s => d.set x (d.get x ||| b)
  | _ => d

/-- Writes a whole register: reserved bits are ignored. -/
def writeReg (d : Dev) (r : RegRow) (addr v : Nat) : Dev := r.fields.foldl (fun d f => writeField d r addr v f) d

/-- Clears the RC fields of a register that is read (R15). -/
def clearRC (d : Dev) (r : RegRow) (addr : Nat) : Dev :=
  r.fields.foldl (fun d f => if f.acc = .rc then d.set (fldOf r addr f) 0 else d) d

/-- Writes the register at a key, if there is one. -/
def Dev.putReg (d : Dev) (key v : Nat) : Dev :=
  match findRow key with
  | some (r, a) => writeReg d r a v
  | none => d

/-- The register at a key as a read shows it. -/
def Dev.peekReg (d : Dev) (key : Nat) : Nat :=
  match findRow key with
  | some (r, a) => regValue d r a
  | none => 0

end Sys2Proof.Machine
end

