-- ==== Sys2Proof/Machine/Serving.lean ====
section
/-!
DEFINITION. Machine/Serving.lean: the serving engine (R196-R225): queues, shaper and scheduler, the update port, the step
builder, KV pages, adapters.
-/

namespace Sys2Proof.Machine

/-! ### States, record kinds and reasons (R208, R210, R225) -/

def sqFREE : Nat := 0
def sqQUEUED : Nat := 1
def sqPENDING : Nat := 2
def sqACTIVE : Nat := 3
def sqRUNNING : Nat := 4
def sqPAUSED : Nat := 5
def sqLEAVING : Nat := 6

def rkACCEPT : Nat := 0
def rkTOKEN : Nat := 1
def rkFINAL : Nat := 2
def rkABORT_RESULT : Nat := 3
def rkREFUSED : Nat := 4

def rsABORT_CMD : Nat := 0x01
def rsSTATE_LOST : Nat := 0x02
def rsSTEP_FAILED : Nat := 0x03
def rsINSTANCE_RESET : Nat := 0x04
def rsOVER_BURST : Nat := 0x05
def rsSTOP_TOKEN : Nat := 0x10
def rsMAX_NEW : Nat := 0x11
def rsMAX_CTX : Nat := 0x12

/-! ### Profile limits as the engine uses them -/

/-- A value of 0 counts as 1 (and one above `hi` as `hi`). -/
def atLeast1 (v : Nat) : Nat := max 1 v

def Dev.tpb (d : Dev) (p : Nat) : Nat := min 256 (atLeast1 (d.get (SRV_PROF_CFG_TPB p)))
def Dev.ppb (d : Dev) (p : Nat) : Nat := atLeast1 (d.get (SRV_PROF_CFG_PPB p))
def Dev.prefillTokens (d : Dev) (p : Nat) : Nat := atLeast1 (d.get (SRV_PROF_LIMIT_PREFILL_TOKENS p))
def Dev.maxCtx (d : Dev) (p : Nat) : Nat := atLeast1 (d.get (SRV_PROF_LIMIT_MAX_CTX p))

/-- R196: pages for a number of tokens. -/
def Dev.pagesFor (d : Dev) (p tokens : Nat) : Nat := ceilDiv tokens (d.tpb p) * d.ppb p

/-! ### Records (R225) -/

/-- The 32 bytes of a sequence record. -/
def seqRecord (d : Dev) (inst status kind s reason token nan tag : Nat) : List Byte :=
  wordsBytes (mkWords 4 [(SREC_NS, d.ns), (SREC_SOURCE, srcInstance inst), (SREC_STATUS, status), (SREC_KIND, kind),
    (SREC_SEQ, s), (SREC_SGEN, d.get (SEQ_SGEN s)), (SREC_REASON, reason), (SREC_TOKEN, token), (SREC_NAN_LOGITS, nan),
    (SREC_STEP_CNT, d.get (SEQ_STEP_CNT s)), (SREC_CTX_LEN, d.get (SEQ_CTX_LEN s)), (SREC_TAG, tag)])

/-- A record of a sequence to its owner's ring, under the generation of its submission (R456). -/
def seqPost (m : Mem) (d : Dev) (s status kind reason token nan : Nat) : Dev :=
  let i := d.get (SEQ_INSTANCE s)
  ringPost m d i (sget d.srv.gens s (d.igen i)) false (seqRecord d i status kind s reason token nan (d.get (SEQ_TAG s)))

/-- A record that answers an instance now. -/
def seqAnswer (m : Mem) (d : Dev) (i s status kind tag : Nat) : Dev :=
  ringPost m d i (d.igen i) false (seqRecord d i status kind s 0 0 0 tag)

/-! ### Queues (R199-R203) -/

/-- QUEUED entries of a queue in arrival order. -/
def Dev.queueOf (d : Dev) (q : Nat) : List Nat :=
  (d.liveSeqs.filter (fun s => d.get (SEQ_STATE s) == sqQUEUED && d.get (SEQ_QUEUE s) == q)).mergeSort
    (fun a b => decide (sget d.srv.arrival a 0 ≤ sget d.srv.arrival b 0))

/-- R199: the cost of an entry's request. -/
def Dev.cost (d : Dev) (s : Nat) : Nat := d.get (SEQ_PROMPT_LEN s) + d.get (SEQ_MAX_NEW s)

/-- R202: the finish tag of a request of a queue. -/
def Dev.finishTag (d : Dev) (q s start : Nat) : Nat := start + d.cost s * 65536 / atLeast1 (d.get (SRV_Q_CTRL_WEIGHT q))

/-- Gives the head of a queue its tags, or marks the queue idle. -/
def Dev.setHead (d : Dev) (q start : Nat) : Dev :=
  match d.queueOf q with
  | [] => { d with srv := { d.srv with tags := sdel d.srv.tags q } }
  | h :: _ => { d with srv := { d.srv with tags := sput d.srv.tags q (start, d.finishTag q h start) } }

def Dev.headTags (d : Dev) (q : Nat) : Nat × Nat := sget d.srv.tags q (0, 0)

/-- Takes a QUEUED entry out of its queue other than by admission: a new head takes the removed head's start tag (R201, R202).
The entry must still be QUEUED; `f` changes its state. -/
def Dev.unqueue (d : Dev) (s : Nat) (f : Dev → Dev) : Dev :=
  let q := d.get (SEQ_QUEUE s)
  let wasHead := (d.queueOf q).head? == some s
  let start := (d.headTags q).1
  let d := f d
  if wasHead then d.setHead q start else d

/-- R199: the refill of every queue. -/
def Dev.refill (d : Dev) : Dev :=
  let qs := (d.listed (SRV_Q_RATE_RATE 0) 16 16384 ++ d.listed (SRV_Q_CREDIT_CREDIT 0) 16 16384).eraseDups
  qs.foldl (fun d q =>
    d.set (SRV_Q_CREDIT_CREDIT q) (min (d.get (SRV_Q_BURST_BURST q) * 256) (d.get (SRV_Q_CREDIT_CREDIT q) + d.get (SRV_Q_RATE_RATE q)))) d

/-- Queues that have a QUEUED entry, ascending. -/
def Dev.busyQueues (d : Dev) : List Nat :=
  (((d.liveSeqs.filter (fun s => d.get (SEQ_STATE s) == sqQUEUED)).map (fun s => d.get (SEQ_QUEUE s))).eraseDups).mergeSort
    (fun a b => decide (a ≤ b))

/-- R203: the eligible head with the smallest finish tag, ties to the lower queue number. -/
def Dev.pickHead (d : Dev) : Option (Nat × Nat) :=
  d.busyQueues.foldl (fun best q =>
    match (d.queueOf q).head? with
    | none => best
    | some s =>
      if d.get (SRV_Q_CREDIT_CREDIT q) < d.cost s * 256 then best
      else match best with
        | some (bq, _) => if (d.headTags q).2 < (d.headTags bq).2 then some (q, s) else best
        | none => some (q, s)) none

def Dev.pendingCount (d : Dev) : Nat := (d.liveSeqs.filter (fun s => d.get (SEQ_STATE s) == sqPENDING)).length

/-- R203: admits one head. -/
def Dev.admitOne (d : Dev) (q s : Nat) : Dev :=
  let t := d.headTags q
  let d := d.set (SRV_Q_CREDIT_CREDIT q) (d.get (SRV_Q_CREDIT_CREDIT q) - d.cost s * 256)
  let d := d.set SRV_VTIME_V (max (d.get SRV_VTIME_V) t.1)
  let d := d.set (SEQ_STATE s) sqPENDING
  let d := { d with srv := { d.srv with
    ranks := d.srv.ranks + 1
    rank := sput d.srv.rank s d.srv.ranks
    arrival := sdel d.srv.arrival s
    lastF := sput d.srv.lastF q t.2 } }
  d.setHead q t.2

def admitLoop : Nat → Dev → Dev
  | 0, d => d
  | n + 1, d =>
    if d.pendingCount ≥ min 65536 (atLeast1 (d.get SRV_ADMIT_CFG_PENDING_MAX)) then d
    else match d.pickHead with
      | none => d
      | some (q, s) => admitLoop n (d.admitOne q s)

/-- The admissions of a boundary. -/
def Dev.admitQueues (d : Dev) : Dev :=
  if d.is SRV_STATUS_RUNNING && d.is SRV_CTRL_ADMIT_EN then
    admitLoop (min 256 (atLeast1 (d.get SRV_ADMIT_CFG_ADMIT_PER_TICK))) d
  else d

/-! ### Entries -/

/-- An entry returns to FREE: its adapter's reference is dropped (R220). -/
def Dev.seqFree (d : Dev) (s : Nat) : Dev :=
  let d := if d.is (SEQ_ADAPTER_EN s) then
      let a := d.get (SEQ_ADAPTER s)
      d.set (SRV_ADAPTER_REFS a) (d.get (SRV_ADAPTER_REFS a) - 1)
    else d
  (d.set (SEQ_STATE s) sqFREE).set (SEQ_ABORT_REQ s) 0

/-- An entry ends with its FINAL record and goes to FREE or LEAVING. -/
def seqEnd (m : Mem) (d : Dev) (s status reason : Nat) (leaving : Bool) : Dev :=
  let fin (d : Dev) : Dev :=
    let d := if status = stABORTED then d.set (SEQ_STATUS s) stABORTED else d
    let d := d.set (SEQ_REASON s) reason
    let d := seqPost m d s status rkFINAL reason 0 0
    if leaving then (d.set (SEQ_STATE s) sqLEAVING).set (SEQ_ABORT_REQ s) 0 else d.seqFree s
  if d.get (SEQ_STATE s) = sqQUEUED then d.unqueue s fin else fin d

/-- R201: entries of a queue whose cost exceeds BURST end, in queue order. -/
def overBurst (m : Mem) (d : Dev) (q : Nat) : Dev :=
  (d.queueOf q).foldl (fun d s =>
    if d.cost s > d.get (SRV_Q_BURST_BURST q) then seqEnd m d s stREFUSED_STATE rsOVER_BURST false else d) d

/-! ### Submission (R205, R206) -/

/-- Where a request descriptor names its entry: word 6 [56:41]. -/
def reqSeq (ws : Words) : Nat := (ws.getD 6 0#64).toNat / 2 ^ 41 % 65536

/-- A field of a request, by the table's layout. -/
def reqFld (ws : Words) (f : Fld) : Nat := (ws.getD ((f.addr - 0x12000000) / 8) 0#64).toNat / 2 ^ f.lo % 2 ^ f.width

/-- R206: whether a submission is refused. -/
def Dev.reqRefused (d : Dev) (i : Nat) (ws : Words) : Bool :=
  let f (x : Nat → Fld) : Nat := reqFld ws (x 0)
  let s := reqSeq ws
  let q := f SEQ_QUEUE
  let p := d.get (SRV_Q_CTRL_PROFILE q)
  let cost := f SEQ_PROMPT_LEN + f SEQ_MAX_NEW
  !d.is SRV_STATUS_RUNNING || d.get (SEQ_STATE s) != sqFREE || !d.seqInRange i s ||
  decide (q < 1024) || !d.is (SRV_Q_CTRL_VALID q) || d.get (SRV_Q_CTRL_INSTANCE q) != i ||
  (f SEQ_ADAPTER_EN == 1 && (!d.is (SRV_ADAPTER_VALID (f SEQ_ADAPTER)) || d.get (SRV_ADAPTER_INSTANCE (f SEQ_ADAPTER)) != i)) ||
  f SEQ_PROMPT_LEN == 0 || f SEQ_MAX_NEW == 0 ||
  decide (f SEQ_PROMPT_LEN > d.prefillTokens p) || decide (f SEQ_PROMPT_LEN > d.maxCtx p) ||
  decide (cost > d.get (SRV_Q_BURST_BURST q)) ||
  decide (d.pagesFor p (f SEQ_PROMPT_LEN) > d.get SRV_KV_CFG_TOTAL) ||
  decide (f SEQ_TOP_K > 256) || (ws.getD 5 0#64).toNat / 2 ^ 60 != 0 || (ws.getD 6 0#64).toNat / 2 ^ 57 != 0 ||
  f SEQ_PAGE_DIR % 64 != 0 ||
  !d.insideWritable (some i) (f SEQ_PAGE_DIR) (4 * d.pagesFor p (d.maxCtx p))

/-- A submission at the update port. -/
def seqSubmit (m : Mem) (d : Dev) (i : Nat) (ws : Words) : Dev :=
  let s := reqSeq ws
  if d.reqRefused i ws then seqAnswer m d i s stREFUSED_STATE rkREFUSED (reqFld ws (SEQ_TAG 0))
  else
    let q := reqFld ws (SEQ_QUEUE 0)
    let idle := (d.queueOf q).isEmpty
    let copied : List (Nat → Fld) := [SEQ_QUEUE, SEQ_ADAPTER, SEQ_ADAPTER_EN, SEQ_PRIORITY, SEQ_SEED, SEQ_MAX_NEW, SEQ_STOP_TOKEN,
      SEQ_STOP_EN, SEQ_PROMPT_LEN, SEQ_INV_TEMP, SEQ_TOP_P, SEQ_PROMPT_BASE, SEQ_TOP_K, SEQ_GREEDY, SEQ_PAGE_DIR, SEQ_TAG]
    let d := copied.foldl (fun d f => d.set (f s) (reqFld ws (f 0))) d
    let own : List ((Nat → Fld) × Nat) := [(SEQ_STATE, sqQUEUED), (SEQ_STATUS, stOK), (SEQ_INSTANCE, i), (SEQ_ABORT_REQ, 0),
      (SEQ_PROFILE, d.get (SRV_Q_CTRL_PROFILE q)), (SEQ_FAILS, 0), (SEQ_SGEN, (d.get (SEQ_SGEN s) + 1) % 256),
      (SEQ_STEP_CNT, 0), (SEQ_CTX_LEN, 0), (SEQ_REASON, 0), (SEQ_PAGES, 0)]
    let d := own.foldl (fun d fv => d.set (fv.1 s) fv.2) d
    let d := if d.is (SEQ_ADAPTER_EN s) then d.bump (SRV_ADAPTER_REFS (d.get (SEQ_ADAPTER s))) 1 else d
    let d := { d with srv := { d.srv with
      arrivals := d.srv.arrivals + 1
      arrival := sput d.srv.arrival s d.srv.arrivals
      gens := sput d.srv.gens s (d.igen i) } }
    let d := if idle then d.setHead q (d.get SRV_VTIME_V) else d
    seqPost m d s stOK rkACCEPT 0 0 0

/-! ### Aborts (R210, R213, R427, R455) -/

/-- An abort at the update port. `answer`: the instance that its ABORT_RESULT goes to; `owns`: it may name the entry. -/
def seqAbort (m : Mem) (d : Dev) (s sgen answer : Nat) (owns : Bool) (reason : Nat) : Dev :=
  let result (d : Dev) (st : Nat) : Dev := seqAnswer m d answer s st rkABORT_RESULT (d.get (SEQ_TAG s))
  let st := d.get (SEQ_STATE s)
  if !owns then result d stREFUSED_STATE
  else if sgen ≠ d.get (SEQ_SGEN s) then result d stSTALE_GENERATION
  else if st = sqFREE ∨ st = sqLEAVING then result d stALREADY_DONE
  else if st = sqACTIVE then
    let d := if d.is (SEQ_ABORT_REQ s) then d else (d.set (SEQ_ABORT_REQ s) 1).set (SEQ_REASON s) reason
    result d stABORTED
  else
    let leaving := !(st == sqQUEUED || (st == sqPENDING && d.get (SEQ_PAGES s) == 0))
    result (seqEnd m d s stABORTED reason leaving) stABORTED

/-- The abort that the PF, or another agent with BAR0, issues through SRV_ABORT or TLS_SEQ_LOST: it may name any entry, and the
result goes to the entry's owner. A reserved bit refuses it (R14). -/
def seqAbortReg (m : Mem) (d : Dev) (v reason : Nat) : Dev :=
  let s := v % 65536
  let i := d.get (SEQ_INSTANCE s)
  if v / 2 ^ 24 ≠ 0 then seqAnswer m d i s stREFUSED_STATE rkABORT_RESULT (d.get (SEQ_TAG s))
  else seqAbort m d s (v / 65536 % 256) i true reason

/-- The instance-reset event for one entry (R210). -/
def seqInstReset (m : Mem) (d : Dev) (s : Nat) : Dev :=
  let st := d.get (SEQ_STATE s)
  if st = sqFREE ∨ st = sqLEAVING then d
  else seqEnd m d s stABORTED rsINSTANCE_RESET (d.get (SEQ_PAGES s) != 0)

/-! ### Tokens and step ends (R211, R212, R214, R224) -/

/-- The row of an entry in the step in flight of its profile. -/
def Dev.rowOf (d : Dev) (s : Nat) : Option SRow :=
  d.srv.steps.findSome? (fun st => st.rows.find? (fun r => r.seq == s && r.sgen == d.get (SEQ_SGEN s)))

/-- Marks that an entry's token has arrived. -/
def Dev.markToken (d : Dev) (s : Nat) : Dev :=
  { d with srv := { d.srv with steps := d.srv.steps.map (fun st =>
      { st with rows := st.rows.map (fun r => if r.seq = s ∧ r.sgen = d.get (SEQ_SGEN s) then { r with token := true } else r) }) } }

/-- R211: the reason that a token ends its sequence, if it does. -/
def Dev.lastToken (d : Dev) (s token : Nat) : Option Nat :=
  if d.is (SEQ_STOP_EN s) && token == d.get (SEQ_STOP_TOKEN s) then some rsSTOP_TOKEN
  else if d.get (SEQ_STEP_CNT s) ≥ d.get (SEQ_MAX_NEW s) then some rsMAX_NEW
  else if d.get (SEQ_CTX_LEN s) + 1 ≥ d.maxCtx (d.get (SEQ_PROFILE s)) then some rsMAX_CTX
  else none

/-- A token notification at the update port. -/
def tokenArrive (m : Mem) (d : Dev) (ws : Words) : Dev :=
  let s := wfld ws NTF_SEQ
  if d.get (SEQ_STATE s) ≠ sqACTIVE ∨ wfld ws NTF_SGEN ≠ d.get (SEQ_SGEN s) ∨ wfld ws NTF_STEP_CNT ≠ d.get (SEQ_STEP_CNT s) then
    d.bump SRV_STATUS_NOTIFY_DROP 1
  else if d.is (SEQ_ABORT_REQ s) then seqEnd m (d.markToken s) s stABORTED (d.get (SEQ_REASON s)) true
  else
    let prefill := match d.rowOf s with | some r => r.prefill | none => false
    let d := d.markToken s
    let d := d.set (SEQ_CTX_LEN s) (d.get (SEQ_CTX_LEN s) + (if prefill then d.get (SEQ_PROMPT_LEN s) else 1))
    let d := d.set (SEQ_STEP_CNT s) (d.get (SEQ_STEP_CNT s) + 1)
    let d := (d.set (SEQ_STATE s) sqRUNNING).set (SEQ_STATUS s) stOK
    let d := seqPost m d s stOK rkTOKEN 0 (wfld ws NTF_TOKEN) (wfld ws NTF_NAN_LOGITS)
    match d.lastToken s (wfld ws NTF_TOKEN) with
    | some reason => seqEnd m d s stOK reason true
    | none => d

/-- A row without a token when its step ends (R212). -/
def rowFailed (m : Mem) (d : Dev) (r : SRow) : Dev :=
  let s := r.seq
  if r.token || d.get (SEQ_STATE s) != sqACTIVE || d.get (SEQ_SGEN s) != r.sgen then d
  else if d.is (SEQ_ABORT_REQ s) then seqEnd m d s stABORTED (d.get (SEQ_REASON s)) true
  else
    let d := d.set (SEQ_FAILS s) (d.get (SEQ_FAILS s) + 1)
    if d.get (SEQ_FAILS s) ≥ 3 then seqEnd m d s stABORTED rsSTEP_FAILED true
    else d.set (SEQ_STATE s) (if r.prefill then sqPENDING else sqRUNNING)

/-- STEP_END: every item of the step's chain has its final record. -/
def stepEndOp (m : Mem) (d : Dev) (p : Nat) : Dev :=
  match d.srv.steps.find? (fun s => s.prof == p && s.left == 0) with
  | none => d
  | some st =>
    let d := st.rows.foldl (rowFailed m) d
    { d with srv := { d.srv with steps := d.srv.steps.filter (fun s => s.prof != p) } }

/-! ### KV pages (R217) -/

/-- Sets FREE and the smallest FREE since the last read of SRV_KV_LOW. -/
def Dev.setFreePages (d : Dev) (n : Nat) : Dev :=
  let d := d.set SRV_KV_FREE_FREE n
  { d with srv := { d.srv with low := some (match d.srv.low with | some l => min l n | none => n) } }

/-- Bytes that wait to be written to the line of an offset, in order of arrival. -/
def Dev.waitingBytes (d : Dev) (off : Nat) : List (Nat × Byte) :=
  let held := (match sfind d.fab.dir (dirKey off) with | some e => e.held | none => []) ++
    (d.mem.moves.filter (fun v => v.ext == extOf off)).flatMap (·.held)
  held.flatMap (fun a => match a with
    | .bytes o bs => bs.zipIdx.map (fun b => (o + b.2, b.1))
    | _ => [])

/-- A 32-bit word that the engine reads from its own memory: what it reads is what it has written, also where the line waits for quad members
(R279). -/
def engineRead (m : Mem) (d : Dev) (off : Nat) : Dev × Nat :=
  let w := d.waitingBytes off
  let r := readRange m d off 4 .consumer
  let now := if r.2.1 = .held then uBytes m d off 4 else r.2.2
  let late (i : Nat) (b : Byte) : Byte := match w.reverse.find? (fun e => e.1 == off + i) with | some e => e.2 | none => b
  (r.1, leNat (now.zipIdx.map (fun b => late b.2 b.1)))

def engineWrite (m : Mem) (d : Dev) (off v : Nat) : Dev := d.deviceWrite m off ((toLE v 4).map (BitVec.ofNat 8))

/-- Pops `n` pages and appends them to an entry's directory. -/
def allocPages (m : Mem) (s : Nat) : Nat → Dev → Dev
  | 0, d => d
  | n + 1, d =>
    let top := d.get SRV_KV_FREE_FREE - 1
    let r := engineRead m d (d.get SRV_KV_LIST_BASE + 4 * top)
    let d := engineWrite m r.1 (d.get (SEQ_PAGE_DIR s) + 4 * d.get (SEQ_PAGES s)) r.2
    allocPages m s n ((d.setFreePages top).set (SEQ_PAGES s) (d.get (SEQ_PAGES s) + 1))

/-- Pushes the last `n` directory entries, last first. -/
def releasePages (m : Mem) (s : Nat) : Nat → Dev → Dev
  | 0, d => d.set (SEQ_PAGES s) 0
  | n + 1, d =>
    let r := engineRead m d (d.get (SEQ_PAGE_DIR s) + 4 * n)
    let d := engineWrite m r.1 (d.get SRV_KV_LIST_BASE + 4 * d.get SRV_KV_FREE_FREE) r.2
    releasePages m s n (d.setFreePages (d.get SRV_KV_FREE_FREE + 1))

/-- The free stack as it is initialised: page 0 on top. -/
def initStack (m : Mem) (d : Dev) : Dev :=
  let n := d.get SRV_KV_CFG_TOTAL
  let bytes := (List.range n).flatMap (fun i => (toLE (n - 1 - i) 4).map (BitVec.ofNat 8))
  (d.deviceWrite m (d.get SRV_KV_LIST_BASE) bytes).setFreePages n

/-- R217: pool and stack, and the step buffers of a profile, lie inside writable objects. -/
def Dev.srvMemoryOk (d : Dev) : Bool :=
  let n := d.get SRV_KV_CFG_TOTAL
  (n == 0 || (d.insideWritable none (d.get SRV_KV_BASE_BASE * 65536) (n * 65536) &&
    d.insideWritable none (d.get SRV_KV_LIST_BASE) (4 * n)))
def Dev.stepBufOk (d : Dev) (p : Nat) : Bool := d.insideWritable none (d.get (SRV_PROF_STEPBUF_BASE p)) 262144

/-! ### The step builder (R215, R216) -/

/-- Entries of a profile in a state, ascending. -/
def Dev.profSeqs (d : Dev) (p : Nat) (states : List Nat) : List Nat :=
  d.liveSeqs.filter (fun s => d.get (SEQ_PROFILE s) == p && states.contains (d.get (SEQ_STATE s)))

/-- 1. Leaves. -/
def buildLeaves (m : Mem) (d : Dev) (p : Nat) : Dev :=
  (d.profSeqs p [sqLEAVING]).foldl (fun d s => (releasePages m s (d.get (SEQ_PAGES s)) d).seqFree s) d

/-- Growth order: PRIORITY descending, PAUSED before RUNNING, SEQ ascending. -/
def Dev.growthOrder (d : Dev) (p : Nat) : List Nat :=
  let key (s : Nat) : List Nat := [7 - d.get (SEQ_PRIORITY s), if d.get (SEQ_STATE s) = sqPAUSED then 0 else 1, s]
  (d.profSeqs p [sqRUNNING, sqPAUSED]).mergeSort (fun a b => decide (key a ≤ key b))

/-- 2. Growth: the rows so far are carried with the device. -/
def buildGrowth (m : Mem) (d : Dev) (p : Nat) : Dev × List SRow :=
  (d.growthOrder p).foldl (fun (r : Dev × List SRow) s =>
    let d := r.1
    let need := if d.get (SEQ_CTX_LEN s) % d.tpb p = 0 then d.ppb p else 0
    if need > d.get SRV_KV_FREE_FREE then
      (((d.set (SEQ_STATE s) sqPAUSED).set (SEQ_STATUS s) stNO_MEMORY).bump SRV_PAUSE_CNT_COUNT 1, r.2)
    else ((allocPages m s need d).set (SEQ_STATE s) sqACTIVE, r.2 ++ [⟨s, d.get (SEQ_SGEN s), false, false⟩])) (d, [])

/-- 3. Joins, until one does not fit. -/
def buildJoins (m : Mem) (p : Nat) : List Nat → Dev → Nat → Nat → List SRow → Dev × List SRow
  | [], d, _, _, rows => (d, rows)
  | s :: rest, d, live, prefill, rows =>
    if live = 4096 ∨ prefill + d.get (SEQ_PROMPT_LEN s) > d.prefillTokens p then (d, rows)
    else
      let need := d.pagesFor p (d.get (SEQ_PROMPT_LEN s)) - d.get (SEQ_PAGES s)
      if need > d.get SRV_KV_FREE_FREE then (d.bump SRV_JOIN_WAIT_CNT_COUNT 1, rows)
      else
        let d := (allocPages m s need d).set (SEQ_STATE s) sqACTIVE
        buildJoins m p rest d (live + 1) (prefill + d.get (SEQ_PROMPT_LEN s)) (rows ++ [⟨s, d.get (SEQ_SGEN s), true, false⟩])

/-- Tokens that a row's step writes. -/
def Dev.rowNew (d : Dev) (r : SRow) : Nat := if r.prefill then d.get (SEQ_PROMPT_LEN r.seq) else 1

/-- R216: the length bucket of a row. -/
def Dev.rowBucket (d : Dev) (r : SRow) : Nat :=
  let x := (d.get (SEQ_CTX_LEN r.seq) + d.rowNew r) / 128
  min 15 (if x = 0 then 0 else Nat.log2 x + 1)

/-- R216: the order of rows. -/
def Dev.rowKey (d : Dev) (r : SRow) : List Nat :=
  [if d.is (SEQ_ADAPTER_EN r.seq) then d.get (SEQ_ADAPTER r.seq) + 1 else 0, d.rowBucket r, if r.prefill then 1 else 0, r.seq]

/-- Adapter and bucket of a row, as a group has them. -/
def Dev.groupKey (d : Dev) (r : SRow) : List Nat := (d.rowKey r).take 2

/-- Maximal runs of rows with the same adapter and bucket: (first row, count). -/
def Dev.groupsOf (d : Dev) : List SRow → Nat → List (Nat × Nat × SRow) → List (Nat × Nat × SRow)
  | [], _, acc => acc
  | r :: rest, i, acc =>
    match acc.getLast? with
    | some (f, n, g) =>
      if d.groupKey g = d.groupKey r then d.groupsOf rest (i + 1) (acc.dropLast ++ [(f, n + 1, g)])
      else d.groupsOf rest (i + 1) (acc ++ [(i, 1, r)])
    | none => d.groupsOf rest (i + 1) (acc ++ [(i, 1, r)])

/-- Adapter number as rows and groups carry it: copied from the entry. -/
def rowWords (d : Dev) (r : SRow) : Words :=
  mkWords 2 [(STEP_ROW_SEQ, r.seq), (STEP_ROW_SGEN, r.sgen), (STEP_ROW_KIND, if r.prefill then 1 else 0),
    (STEP_ROW_ADAPTER_EN, d.get (SEQ_ADAPTER_EN r.seq)), (STEP_ROW_ADAPTER, d.get (SEQ_ADAPTER r.seq)),
    (STEP_ROW_BUCKET, d.rowBucket r), (STEP_ROW_STEP_CNT, d.get (SEQ_STEP_CNT r.seq)),
    (STEP_ROW_CTX_LEN, d.get (SEQ_CTX_LEN r.seq)), (STEP_ROW_NEW, d.rowNew r)]

def groupWord (d : Dev) (g : Nat × Nat × SRow) : Words :=
  mkWords 1 [(STEP_GRO_FIRST, g.1), (STEP_GRO_COUNT, g.2.1), (STEP_GRO_ADAPTER, d.get (SEQ_ADAPTER g.2.2.seq)),
    (STEP_GRO_ADAPTER_EN, d.get (SEQ_ADAPTER_EN g.2.2.seq)), (STEP_GRO_BUCKET, d.rowBucket g.2.2)]

/-- Writes the step into its buffer (R216). -/
def writeStep (m : Mem) (d : Dev) (p num : Nat) (rows : List SRow) : Dev :=
  let rows := rows.mergeSort (fun a b => decide (d.rowKey a ≤ d.rowKey b))
  let groups := d.groupsOf rows 0 []
  let prefill := (rows.map (fun r => if r.prefill then d.rowNew r else 0)).sum
  let hdr := mkWords 8 [(STEP_HEA_STEP, num), (STEP_HEA_ROWS, rows.length), (STEP_HEA_GROUPS, groups.length),
    (STEP_HEA_PROFILE, p), (STEP_HEA_PREFILL, prefill)]
  let base := d.get (SRV_PROF_STEPBUF_BASE p) + 131072 * (num % 2)
  let d := d.deviceWrite m base (wordsBytes hdr)
  let d := d.deviceWrite m (base + 64) (wordsBytes (rows.flatMap (rowWords d)))
  d.deviceWrite m (base + 65600) (wordsBytes (groups.flatMap (groupWord d)))

/-- R198: hands the `left` last items of the step's chain to the Lathe. A descriptor whose extent is being re-fetched or moved is waited for, and the
later ones with it (R240, R247). -/
def submitStep (m : Mem) (p num : Nat) : Nat → Dev → Dev
  | 0, d => d
  | left + 1, d =>
    let off := d.get (SRV_PROF_CHAIN_BASE p) + 32 * (d.get (SRV_PROF_CHAIN_COUNT p) - (left + 1))
    let r := readRange m d off 32 .consumer
    if r.2.1 = .held then r.1.hold (extOf off) (.chain p num (left + 1))
    else
      let ws := bytesWords 4 r.2.2
      let w0 := (ws.getD 0 0#64).toNat
      let w0' := w0 - w0 / 2 ^ 16 % 2 ^ 32 * 2 ^ 16 + num % 2 ^ 32 * 2 ^ 16
      submitStep m p num left (itemSubmitOp m r.1 .serving [w64 w0', ws.getD 1 0#64, ws.getD 2 0#64, w64 num])

/-- Builds one step of a profile at a boundary, and submits it. A step without rows is not built and takes no number. -/
def buildStep (m : Mem) (d : Dev) (p : Nat) : Dev :=
  if !d.is (SRV_PROF_CFG_VALID p) || d.srv.steps.any (fun s => s.prof == p) then d
  else
    let d := buildLeaves m d p
    let live := (d.profSeqs p [sqRUNNING, sqPAUSED, sqACTIVE]).length
    let r := buildGrowth m d p
    let pend := (r.1.profSeqs p [sqPENDING]).mergeSort (fun a b => decide (sget d.srv.rank a 0 ≤ sget d.srv.rank b 0))
    let r := buildJoins m p pend r.1 live 0 r.2
    let d := r.1
    if r.2 = [] then d
    else
      let num := (d.get SRV_STEP_COUNT_STEP + 1) % 2 ^ 64
      let d := writeStep m d p num r.2
      let d := d.set SRV_STEP_COUNT_STEP num
      let d := { d with srv := { d.srv with steps := d.srv.steps ++ [⟨p, num, r.2, d.get (SRV_PROF_CHAIN_COUNT p), false⟩] } }
      submitStep m p num (d.get (SRV_PROF_CHAIN_COUNT p)) d

/-- The steps of a boundary (R197). -/
def buildSteps (m : Mem) (d : Dev) : Dev :=
  if d.is SRV_STATUS_RUNNING then forN 16 d (fun d p => buildStep m d p) else d

/-- R218: a cleared EN takes effect at a boundary with no step in flight. -/
def Dev.disableEffect (d : Dev) : Dev :=
  if d.srv.disable && d.srv.steps.isEmpty then
    ({ d with srv := { d.srv with disable := false } }).set SRV_STATUS_RUNNING 0
  else d

/-! ### Register writes (R200, R201, R217, R218, R220) -/

/-- A write of SRV_CTRL. -/
def srvCtrlOp (m : Mem) (d : Dev) (v : Nat) : Dev :=
  let en := v % 2
  let set (d : Dev) : Dev := (d.set SRV_CTRL_EN en).set SRV_CTRL_ADMIT_EN (v / 2)
  if en = 1 && !d.is SRV_CTRL_EN then
    let ok := d.srvMemoryOk && (List.range 16).all (fun p => !d.is (SRV_PROF_CFG_VALID p) || d.stepBufOk p)
    if !ok then d.set SRV_STATUS_CFG_REFUSED 1
    else
      let d := if d.pagedSeqs.isEmpty then initStack m d else d
      (set { d with srv := { d.srv with disable := false } }).set SRV_STATUS_RUNNING 1
  else if en = 0 && d.is SRV_CTRL_EN then set { d with srv := { d.srv with disable := true } }
  else set d

/-- A write of a profile register at its key: discarded while VALID is 1 and an entry names the profile, or when VALID 1 fails
the check of R217. -/
def srvProfOp (d : Dev) (key v : Nat) : Dev :=
  let p := (key - 0x100100) / 0x20
  let named := d.liveSeqs.any (fun s => d.get (SEQ_PROFILE s) == p)
  let setsValid := (key - 0x100100) % 0x20 == 0 && (v / 2 ^ 17) % 2 == 1 && !d.is (SRV_PROF_CFG_VALID p)
  if (d.is (SRV_PROF_CFG_VALID p) && named) || (setsValid && d.is SRV_CTRL_EN && !d.stepBufOk p) then
    d.set SRV_STATUS_CFG_REFUSED 1
  else d.putReg key v

/-- R200: the credit after a write of a queue register. -/
def Dev.resetCredit (d : Dev) (q : Nat) : Dev :=
  d.set (SRV_Q_CREDIT_CREDIT q) (if d.is (SRV_Q_CTRL_RESET_FULL q) then d.get (SRV_Q_BURST_BURST q) * 256 else 0)

/-- A write of SRV_Q_CTRL, SRV_Q_RATE or SRV_Q_BURST. A write of PROFILE is discarded while the queue has QUEUED entries. -/
def srvQueueOp (m : Mem) (d : Dev) (q : Nat) (reg : QReg) (v : Nat) : Dev :=
  match reg with
  | .ctrl =>
    let prof := if (d.queueOf q).isEmpty then v / 2 ^ 9 % 16 else d.get (SRV_Q_CTRL_PROFILE q)
    ((((((d.set (SRV_Q_CTRL_INSTANCE q) v).set (SRV_Q_CTRL_VALID q) (v / 2 ^ 7)).set (SRV_Q_CTRL_RESET_FULL q) (v / 2 ^ 8)).set
      (SRV_Q_CTRL_PROFILE q) prof).set (SRV_Q_CTRL_WEIGHT q) (v / 2 ^ 16))).resetCredit q
  | .rate => (d.set (SRV_Q_RATE_RATE q) v).resetCredit q
  | .burst => overBurst m ((d.set (SRV_Q_BURST_BURST q) v).resetCredit q) q

/-- A write of one word of an adapter entry. -/
def srvAdapterOp (d : Dev) (a word v : Nat) : Dev :=
  if d.get (SRV_ADAPTER_REFS a) ≠ 0 then d.set SRV_STATUS_ADAPTER_BUSY 1
  else d.putReg (0x150000 + 32 * a + 8 * word) v

/-- A write of SRV_KV_BASE, SRV_KV_LIST or SRV_KV_CFG. -/
def srvKvOp (d : Dev) (key v : Nat) : Dev :=
  if d.is SRV_CTRL_EN || !d.pagedSeqs.isEmpty then d.set SRV_STATUS_CFG_REFUSED 1
  else d.putReg key v

end Sys2Proof.Machine
end

