-- ==== Sys2Proof/Machine/Vector.lean ====
section
/-!
DEFINITION. Machine/Vector.lean: what the vector unit computes (R138-R143, R160): lane functions, cross-lane trees,
format conversion of VLD and VST, and QMX.
-/

namespace Sys2Proof.Machine

/-- R138: VEC_INVALID when an FP32 result is NaN from non-NaN operands. -/
def vecInv (ops : List W32) (r : W32) : Bool := (f32 r).isNaN && !(ops.any (fun x => (f32 x).isNaN))

/-- One lane of a floating-point function with its VEC_INVALID. -/
def lane1 (f : W32 → W32) (a : W32) : W32 × Bool := let r := f a; (r, vecInv [a] r)
def lane2 (f : W32 → W32 → W32) (a b : W32) : W32 × Bool := let r := f a b; (r, vecInv [a, b] r)
def lane3 (f : W32 → W32 → W32 → W32) (a b c : W32) : W32 × Bool := let r := f a b c; (r, vecInv [a, b, c] r)

/-- Shift amount: bits [4:0] of the second source (R160). -/
def shAmt (b : W32) : Nat := b.toNat % 32

/-- R140 multiplies: low word, high word signed, high word unsigned. -/
def mulLo (a b : W32) : W32 := a * b
def mulHi (a b : W32) : W32 := BitVec.ofInt 32 (a.toInt * b.toInt / 4294967296)
def mulHiU (a b : W32) : W32 := BitVec.ofNat 32 (a.toNat * b.toNat / 4294967296)

/-- One level of the pairwise tree (R142). -/
def treeLevel (f : W32 → W32 → W32) : List W32 → List W32
  | a :: b :: t => f a b :: treeLevel f t
  | l => l

/-- `n` levels of the pairwise tree. -/
def treeLevels (f : W32 → W32 → W32) : Nat → List W32 → List W32
  | 0, l => l
  | n + 1, l => treeLevels f n (treeLevel f l)

/-- R142: the value of a cross-lane reduction over 128 lanes, masked lanes replaced by the neutral value. -/
def reduceLanes (f : W32 → W32 → W32) (neutral : W32) (mask : BitVec 128) (lanes : List W32) : W32 :=
  let ins := (List.range 128).zipWith (fun i x => if mask.getLsbD i then x else neutral) lanes
  (treeLevels f 7 ins).headD neutral

/-- Bytes of an element of EFMT (R160). -/
def efmtBytes (e : Nat) : Nat := if e = 0 then 4 else 2

/-- VLD: the FP32 word of an element code (exact). -/
def efmtLoad (e x : Nat) : W32 :=
  if e = 0 then BitVec.ofNat 32 x else if e = 1 then toF32 (fmtBF16.decode x) else toF32 (fmtFP16.decode x)

/-- VST: the element code of a lane, rounded as the drain does with SAT = 0 (R137), and DRAIN_SAT. -/
def efmtStore (e : Nat) (x : W32) : Nat × Bool :=
  if e = 0 then (x.toNat, false)
  else if e = 1 then drainFloat fmtBF16 false x else drainFloat fmtFP16 false x

/-- The format of a QMX target code; MXINT8 is handled apart. -/
def qmxFmt (t : Nat) : FFmt :=
  if t = 3 then fmtE4M3 else if t = 4 then fmtE5M2 else if t = 7 then fmtE3M2 else if t = 8 then fmtE2M3 else fmtE2M1

/-- R143 step 1: exponent of the target's largest normal. -/
def qmxEmax (t : Nat) : Int := if t = 3 then 8 else if t = 4 then 15 else if t = 5 then 0 else if t = 7 then 4 else 2

/-- The largest magnitude of a group of finite values. -/
def amaxOf (vs : List FVal) : FVal :=
  vs.foldl (fun a v => match v with
    | .fin _ m e => if a.lt (.fin false m e) then .fin false m e else a
    | _ => a) (.fin false 0 0)

/-- floor(log2) of a positive value m * 2^e. -/
def flog2 (m : Nat) (e : Int) : Int := (Nat.log2 m : Int) + e

/-- R143 steps 3 and 4: the code of one element under a scale exponent, and whether it was clamped. -/
def qmxElem (t : Nat) (se : Int) (v : FVal) : Nat × Bool :=
  match v with
  | .fin n m e =>
    if t = 5 then
      let r := rneInt n m (e - se + 6)
      let c := clampInt (-127) 127 r
      ((BitVec.ofInt 8 c).toNat, c != r)
    else
      let f := qmxFmt t
      let q := f.round n m (e - se)
      -- the exact value beyond the maximum finite value that rounds back to it is not a clamp
      q
  | _ => (0, false)

/-- R143: scale byte, element codes and DRAIN_SAT of one group of 32 lanes. -/
def qmxGroup (t : Nat) (lanes : List W32) : Nat × List Nat × Bool :=
  let vs := lanes.map f32
  if vs.any (fun v => v.isNaN || v.isInf) then (0xFF, lanes.map (fun _ => 0), false)
  else
    let se : Int := match amaxOf vs with
      | .fin _ m e => if m = 0 then -127 else clampInt (-127) 127 (flog2 m e - qmxEmax t)
      | _ => -127
    let es := vs.map (qmxElem t se)
    ((se + 127).toNat, es.map (·.1), es.any (·.2))

/-- R123: codes of `w` bits packed along k into bytes. -/
def packCodes (w : Nat) (cs : List Nat) : List Nat :=
  toLE (cs.foldr (fun c acc => c + 2 ^ w * acc) 0) (w * cs.length / 8)

end Sys2Proof.Machine
end

