-- ==== Sys2Proof/Machine/Tile.lean ====
section
/-!
DEFINITION. Machine/Tile.lean: the tile sequencer (R149-R171): how items start, wait, commit and end, how a command issues,
illegal commands, tile steps, C loads and drains (R95-R113), and checksum detections (R172-R184).
-/

namespace Sys2Proof.Machine

/-! ### Faults of the sequencer (R157) -/

def caENCODING : Nat := 0x01
def caADDRESS : Nat := 0x02
def caCUBE_CFG : Nat := 0x03
def caEXTENT : Nat := 0x04
def caPHASE : Nat := 0x05
def caALIGN : Nat := 0x06
def caBOUND : Nat := 0x07
def caTILE_REFUSED : Nat := 0x08
def caTAIL_TRUNC : Nat := 0x09
def caLOOP : Nat := 0x0A

/-- CUB_SEQ_FAULT keeps the first fault until it is cleared; the tile sends an event record. -/
def Dev.seqFault (d : Dev) (t c off cause : Nat) (tail : Bool) : Dev :=
  let d := if d.is (CUB_SEQ_FAULT_VALID t c) then d
    else (((d.set (CUB_SEQ_FAULT_OFFSET t c) off).set (CUB_SEQ_FAULT_CAUSE t c) cause).set (CUB_SEQ_FAULT_TAIL t c)
      (if tail then 1 else 0)).set (CUB_SEQ_FAULT_VALID t c) 1
  let d := if cause = caCUBE_CFG then d.set (CUB_TILE_STATUS_CFG_ILLEGAL t) 1 else d
  d.event t .seqFault [c, off, cause]

/-- BUSY and CHUCK of CUB_TILE_STATUS follow the chuck that runs. -/
def Dev.tileShow (d : Dev) (t : Nat) : Dev :=
  match (d.tile t).cur with
  | none => d.set (CUB_TILE_STATUS_BUSY t) 0
  | some c =>
    if (d.chuck (t * 4 + c)).mq.isEmpty then d.set (CUB_TILE_STATUS_BUSY t) 0
    else (d.set (CUB_TILE_STATUS_BUSY t) 1).set (CUB_TILE_STATUS_CHUCK t) c

/-! ### Items on chucks (R151) -/

/-- The chuck's state at the start of a dispatch: what R151 sets. DMA descriptors of an earlier tail stay queued. -/
def Chuck.fresh (ch : Chuck) (desc : Words) : Chuck :=
  { ch with
    sregs := [(1, BitVec.ofNat 32 (wfld desc ITEM_INDEX)), (2, BitVec.ofNat 32 (wfld desc ITEM_CHAIN))]
    flags := 0, loops := [], vregs := [], vmask := [], lsem := [], opA := (0, 0), opB := (0, 0), opC := (0, 0),
    mq := [], wait := none }

/-- CUB_CFG, CUB_MASK_MN and CUB_MASK_K of a chuck at their reset values. -/
def Dev.freshCfg (d : Dev) (t c : Nat) : Dev := (cfgFields t c).foldl (fun d f => d.set f f.rst) d

/-- The tile runs a chuck from now on. -/
def Dev.makeCur (d : Dev) (t c : Nat) : Dev :=
  let d := { d with lathe := { d.lathe with clock := d.lathe.clock + 1 } }
  let d := d.setChuck (t * 4 + c) { d.chuck (t * 4 + c) with lastRun := d.lathe.clock }
  d.setTile t { d.tile t with cur := some c }

/-- Dispatches a run on a chuck and makes it the one that runs. -/
def Dev.dispatch (d : Dev) (t c : Nat) (r : Run) : Dev :=
  let tc := t * 4 + c
  let ch := (d.chuck tc).fresh r.item.desc
  (((d.setChuck tc { ch with run := some r }).freshCfg t c).makeCur t c).tileShow t

/-- Chuck 0 runs a radio item. -/
def Dev.radioRuns (d : Dev) (t : Nat) : Bool :=
  (d.tile t).cur == some 0 && (match (d.chuck (t * 4)).run with | some r => r.item.origin == 2 | none => false)

/-- The instance for which a run acts: that of its context, and instance 0 for a radio item, whose context is held outside the table (R57, log 120). -/
def Dev.runInst (d : Dev) (r : Run) : Nat := if r.item.origin = 2 then 0 else d.ctxInst r.item.ctx

/-- A latency in tile cycles that the spec bounds by `hi`. -/
def Dev.latencyOf (d : Dev) (hi : Nat) : Nat := Config.latency d.free % (hi + 1)

/-- Sets the progress of a radio item. -/
def Dev.radioStage (d : Dev) (t i stage : Nat) : Dev :=
  let x := d.tile t
  d.setTile t { x with radio := x.radio.set i { x.radio.getD i {} with stage := stage } }

/-- Starts radio item `i` on chuck 0, preempting what runs (R64, R65). -/
def Dev.radioStart (d : Dev) (t i : Nat) : Dev :=
  let x := d.tile t
  let it := x.radio.getD i {}
  let tag := it.tag.getD (Config.radioTag d.free).toNat
  let desc := if it.kind = 5 then it.desc
    else mkWords 4 [(ITEM_RADIO, 1), (ITEM_CYCLE_BOUND, it.bound), (ITEM_RELEASE, it.release), (ITEM_DEADLINE, it.deadline), (ITEM_TAG, tag)]
  let item : Item := { desc := desc, origin := 2, inst := 0, igen := d.igen 0, seqNo := i, attempt := 1 }
  let d := if d.radioRuns t then d else
    match x.cur with
    | some c =>
      let ch := d.chuck (t * 4 + c)
      (d.setTile t { x with preempted := some c }).setChuck (t * 4 + c) { ch with run := ch.run.map (fun r => { r with preempted := true }) }
    | none => d.setTile t { x with preempted := none }
  let d := d.raise LTH_PREEMPT_MAX_SAVE (d.latencyOf 96)
  let d := { d with free := d.free + 1 }
  (d.dispatch t 0 { item := item, pc := wfld desc ITEM_STREAM_OFF }).radioStage t i 2

/-- The ready radio item that was released first (R63). -/
def Dev.nextRadio (d : Dev) (t : Nat) : Option Nat :=
  let rs := (d.tile t).radio
  (List.range rs.length).foldl (fun best i =>
    let r := rs.getD i {}
    if r.stage = 1 then
      match best with
      | some b => if r.release < (rs.getD b r).release then some i else best
      | none => some i
    else best) none

/-- The radio item on chuck 0 has ended: the next ready one starts, unless the guard has begun (R41), or the preempted chuck resumes (R64). -/
def Dev.radioLeave (d : Dev) (t : Nat) : Dev :=
  let d := d.closeRun (t * 4)
  match (if d.lathe.inGuard then none else d.nextRadio t) with
  | some i => (d.setTile t { d.tile t with cur := (d.tile t).preempted }).radioStart t i
  | none =>
    let x := d.tile t
    let d := d.setTile t { x with preempted := none }
    match x.preempted with
    | some c => (({ d.raise LTH_PREEMPT_MAX_RESTORE (d.latencyOf 96) with free := d.free + 1 } : Dev).makeCur t c).tileShow t
    | none => d.tileShow t

/-- RADIO_ITEM_READY: the item is released and its input has arrived (R64). It waits for a radio item that runs. -/
def radioReadyOp (d : Dev) (t i : Nat) : Dev :=
  match (d.tile t).radio[i]? with
  | none => d
  | some r =>
    if r.stage ≠ 0 || !r.arrived || d.tileDisabled t || (d.tile t).withheld || d.lathe.inGuard then d
    else
      if d.radioRuns t then d.radioStage t i 1 else d.radioStart t i

/-! ### Semaphores (R170) -/

/-- Adds to an inbound semaphore of a context, saturating. A context that is being evicted still has its counts in its chuck, and they are saved when
the eviction ends. -/
def Dev.semAdd (d : Dev) (c s n : Nat) : Dev :=
  let away : Dev := { d with lathe := { d.lathe with
    ctxSem := sput d.lathe.ctxSem (c * 8 + (s - 8)) (min (2 ^ 32 - 1) (sget d.lathe.ctxSem (c * 8 + (s - 8)) 0 + n)) } }
  match d.ctxChuck c with
  | some tc => if (d.chuck tc).resident || d.lathe.swaps.any (fun x => x.ctx == c && x.out) then d.bump (CUB_SEQ_SEM_COUNT (tc / 4) (tc % 4) (s - 8)) n else away
  | none => away

/-- Takes from an inbound semaphore of a chuck, never below zero. -/
def Dev.semTake (d : Dev) (t c s n : Nat) : Dev :=
  let f := CUB_SEQ_SEM_COUNT t c (s - 8)
  d.set f (d.get f - n)

/-- The count of semaphore `s` of a chuck. -/
def Dev.semCount (d : Dev) (t c s : Nat) : Nat :=
  if s < 8 then sget (d.chuck (t * 4 + c)).lsem s 0 else d.get (CUB_SEQ_SEM_COUNT t c (s - 8))

/-- The condition of a wait holds (R154, R159). -/
def Dev.waitMet (d : Dev) (t c : Nat) (w : Wait) : Bool :=
  let ch := d.chuck (t * 4 + c)
  match w with
  | .sem s v => decide (v ≤ d.semCount t c s)
  | .matrix => ch.mq.isEmpty
  | .dma => ch.dq.isEmpty
  | .commit _ => ch.mq.isEmpty && ch.dq.all (fun o => o.tail || o.cut)

/-! ### The command address (R159) -/

/-- The address after a command, and the loops still open: at the end of a body the innermost loop repeats or ends. -/
def nextPc (pc : Nat) : List LoopRec → Nat × List LoopRec
  | [] => (pc, [])
  | l :: rest =>
    if pc = l.stop then
      (if l.left > 1 then (l.start, { l with left := l.left - 1 } :: rest) else nextPc pc rest)
    else (pc, l :: rest)

/-- Goes on to the command at `pc`, or to what the loop that ends there says; a tail command counts towards the limit. -/
def Dev.goTo (d : Dev) (tc pc : Nat) : Dev :=
  let ch := d.chuck tc
  let n := nextPc pc ch.loops
  match ch.run with
  | none => d
  | some r => d.setChuck tc { ch with
      loops := n.2
      run := some { r with pc := n.1, tailCmds := if r.committed then r.tailCmds + 1 else r.tailCmds } }

/-- Goes on to the next command. -/
def Dev.advance (d : Dev) (tc : Nat) : Dev :=
  match (d.chuck tc).run with
  | none => d
  | some r => d.goTo tc (r.pc + 16)

/-! ### Commit, end and stop (R113, R154-R157) -/

/-- The status of a commit (R113). -/
def Run.commitStatus (r : Run) : Nat :=
  if r.rerun || r.item.mism then stCHECKSUM_RETRIED else if r.kzero then stK_ZERO else stOK

/-- A wait other than for a commit ends when its condition holds and its chuck runs. -/
def Dev.wake (d : Dev) (t : Nat) : Dev :=
  match (d.tile t).cur with
  | none => d
  | some c =>
    let ch := d.chuck (t * 4 + c)
    match ch.wait with
    | some (.sem s v) =>
      if d.waitMet t c (.sem s v) then (d.setChuck (t * 4 + c) { ch with wait := none }).advance (t * 4 + c) else d
    | _ => d

/-- Held increments and decrements take effect (R154, R170). DESIGN CHOICE (log 131): the decrements come first. -/
def Dev.applyHeld (d : Dev) (t c : Nat) (r : Run) : Dev :=
  let d := r.heldDec.foldl (fun d e => d.semTake t c e.1 e.2) d
  r.heldInc.foldl (fun d e => (d.semAdd e.2.1 e.2.2 1).wake e.1) d

/-- The item commits: its held semaphore changes are applied and its record is written. A radio item then ends, its outputs to
be moved (R312), without a tail (DESIGN CHOICE, log 177); any other goes on to its tail. -/
def commitItem (m : Mem) (d : Dev) (t c : Nat) : Dev :=
  let tc := t * 4 + c
  match (d.chuck tc).run with
  | none => d
  | some r =>
    let st := r.commitStatus
    let r' := { r with committed := true, status := st, heldInc := [], heldDec := [] }
    let d := (d.setChuck tc { d.chuck tc with wait := none, run := some r' }).applyHeld t c r
    let d := if r.rerun then d.bump CUB_CHK_COUNT_RETRY_OK 1 else d
    if r.item.origin = 2 then
      ((radioPost m d t st r.item.attempt (some (wfld r.item.desc ITEM_TAG))).radioStage t r.item.seqNo 3).radioLeave t
    else itemFinal m d r.item t st r.item.attempt

/-- Whether the tile may leave the chuck that is current: it has none, or its item executes a WAIT whose condition is not met. An item that waits to
commit keeps the tile (R54). -/
def Dev.yields (d : Dev) (t : Nat) : Bool :=
  match (d.tile t).cur with
  | none => true
  | some c => match (d.chuck (t * 4 + c)).wait with
    | some (.commit _) => false
    | some _ => true
    | none => false

/-- The items of a tile whose conditions hold, in list order (R52). -/
def Dev.wakeable (d : Dev) (t : Nat) : List Nat :=
  let item (c : Nat) : Option Item :=
    let ch := d.chuck (t * 4 + c)
    match ch.run, ch.wait with
    | some r, some w => if !r.stopped && d.waitMet t c w then some r.item else none
    | _, _ => none
  let cands := if d.radioRuns t then [0] else if d.yields t then List.range 4 else (d.tile t).cur.toList
  (cands.filter (fun c => (item c).isSome)).mergeSort (fun a b =>
    match item a, item b with | some x, some y => itemBefore x y | _, _ => true)

/-- A waiting item whose condition holds goes on; an item that ended gives the tile to a waiting one (R52). `n` bounds the chucks
looked at. -/
def resume (m : Mem) (t : Nat) : Nat → Dev → Dev
  | 0, d => d
  | n + 1, d =>
    match d.wakeable t with
    | [] => d
    | c :: _ =>
        let d := d.makeCur t c
        let tc := t * 4 + c
        match (d.chuck tc).wait with
        | some (.commit e) =>
          let radio := d.radioRuns t
          let d := commitItem m (d.advance tc) t c
          if e && !radio then resume m t n (d.closeRun tc) else d
        | _ => (d.setChuck tc { d.chuck tc with wait := none }).advance tc

/-- The run of a chuck ends; a waiting item of the tile may go on. -/
def endRun (m : Mem) (d : Dev) (t c : Nat) : Dev := (resume m t 5 (d.closeRun (t * 4 + c))).tileShow t

/-- An uncommitted item is stopped with a final status; a radio item is a slot miss (R78, R157). -/
def stopItem (m : Mem) (d : Dev) (t c status : Nat) : Dev :=
  match (d.chuck (t * 4 + c)).run with
  | none => d
  | some r =>
    if r.item.origin = 2 then
      ((radioPost m d t status r.item.attempt (some (wfld r.item.desc ITEM_TAG))).radioStage t r.item.seqNo 4).radioLeave t
    else endRun m (itemFinal m d r.item t status r.item.attempt) t c

/-- An illegal command (R157): before the commit point the item is stopped, in the tail its run ends. -/
def illegal (m : Mem) (d : Dev) (t c off cause : Nat) : Dev :=
  match (d.chuck (t * 4 + c)).run with
  | none => d
  | some r =>
    let d := d.seqFault t c off cause r.committed
    if r.committed then endRun m d t c
    else stopItem m d t c (if cause = caTILE_REFUSED then stREFUSED_STATE else stABORTED)

/-- The tail goes beyond a limit (R155): the sequencer acts as END and says so. -/
def tailTrunc (m : Mem) (d : Dev) (t c pc : Nat) : Dev := endRun m (d.seqFault t c pc caTAIL_TRUNC true) t c

/-! ### Issue (R150, R155, R157) -/

/-- The run that may issue a command on a chuck now. -/
def Dev.issuing (d : Dev) (t c : Nat) : Option Run :=
  let ch := d.chuck (t * 4 + c)
  if (d.tile t).cur = some c && ch.wait.isNone then
    match ch.run with
    | some r => if r.stopped then none else some r
    | none => none
  else none

/-- Used bits of a command's words: the opcode byte beside the layout's fields. -/
def cmdUsed (used : List Nat) : List Nat := [used.getD 0 0 ||| 0xFF, used.getD 1 0]

/-- Issues one command. `pre`, `tail`: the phases in which it is legal (R159). -/
def issue (m : Mem) (d : Dev) (t c : Nat) (pre tail : Bool) (used : List Nat) (w0 w1 : W64) (body : Run → Dev → Dev) : Dev :=
  match d.issuing t c with
  | none => d
  | some r =>
    if r.committed && r.tailCmds ≥ 1024 then tailTrunc m d t c r.pc
    else if r.pc + 16 > d.usable (t * 4 + c) then illegal m d t c r.pc caADDRESS
    else if reservedSet [w0, w1] (cmdUsed used) then illegal m d t c r.pc caENCODING
    else if !(if r.committed then tail else pre) then illegal m d t c r.pc caPHASE
    else (body r d).tileShow t

/-- A wait: passes at once, or holds the stream until its condition holds. -/
def waitOp (d : Dev) (t c : Nat) (w : Wait) : Dev :=
  let tc := t * 4 + c
  if d.waitMet t c w then d.advance tc else d.setChuck tc { d.chuck tc with wait := some w }

/-- COMMIT, or an END that acts as COMMIT first. -/
def commitOp (m : Mem) (d : Dev) (t c : Nat) (thenEnd : Bool) : Dev :=
  let tc := t * 4 + c
  if d.waitMet t c (.commit thenEnd) then
    let radio := d.radioRuns t
    let d := commitItem m (d.advance tc) t c
    if thenEnd && !radio then endRun m d t c else d
  else d.setChuck tc { d.chuck tc with wait := some (.commit thenEnd) }

/-- END (R156): inside a loop body it may only be the last command of every open body. -/
def endOp (m : Mem) (r : Run) (d : Dev) (t c : Nat) : Dev :=
  if (d.chuck (t * 4 + c)).loops.any (fun l => l.stop != r.pc + 16) then illegal m d t c r.pc caLOOP
  else if r.committed then endRun m d t c
  else commitOp m d t c true

/-- ITEM_START (R52, R54): the tile returns to a waiting item whose condition holds, or starts the first item of its list that is
ready and whose context is resident. -/
def itemStartOp (m : Mem) (d : Dev) (t : Nat) : Dev :=
  if d.radioRuns t || d.lathe.inGuard || (d.tile t).withheld || d.tileDisabled t || !d.is LTH_STATUS_RUNNING then d
  else
    let d := resume m t 5 d
    let x := d.tile t
    let rerunDue := (List.range 4).any (fun c => match (d.chuck (t * 4 + c)).run with | some r => r.stopped | none => false)
    if !d.yields t || rerunDue then d
    else
      let ready (it : Item) : Bool := d.ctxResident it.ctx &&
        (match d.ctxChuck it.ctx with | some tc => tc / 4 == t && (d.chuck tc).run.isNone | none => false)
      match x.list.find? ready with
      | none => d
      | some it =>
        match d.ctxChuck it.ctx with
        | none => d
        | some tc =>
          let it' := { it with attempt := it.attempt + 1, igen := d.igen (d.ctxInst it.ctx), stalled := false }
          let d := d.setTile t { x with list := x.list.filter (fun i => i.seqNo != it.seqNo) }
          let d := if it.stalled then itemPost m d it' t stDEFERRED it'.attempt else d
          d.dispatch t (tc % 4) { item := it', pc := wfld it.desc ITEM_STREAM_OFF }

/-- CYCLE_BOUND_EXCEEDED (R158). -/
def boundOp (m : Mem) (d : Dev) (t c : Nat) : Dev :=
  match (d.chuck (t * 4 + c)).run with
  | none => d
  | some r => if r.committed then d else illegal m d t c r.pc caBOUND

/-- TAIL_LIMIT_REACHED (R155): 1,024 tile cycles since the commit point. -/
def tailLimitOp (m : Mem) (d : Dev) (t c : Nat) : Dev :=
  match (d.chuck (t * 4 + c)).run with
  | none => d
  | some r => if r.committed then tailTrunc m d t c r.pc else d

/-! ### Hazards (R153) -/

/-- The lowest and highest byte of a list of ranges. -/
def hull : List (Nat × Nat) → Option (Nat × Nat)
  | [] => none
  | r :: rs => some (rs.foldl (fun a x => (min a.1 x.1, max a.2 x.2)) r)

def overlap : Option (Nat × Nat) → Option (Nat × Nat) → Bool
  | some a, some b => decide (a.1 ≤ b.2) && decide (b.1 ≤ a.2)
  | _, _ => false

/-- The LOCAL bytes that a descriptor reads and writes. The old values of a compare-and-swap are written over its operands
(R260). -/
def descRanges (ws : Words) : Option (Nat × Nat) × Option (Nat × Nat) :=
  let rows := wfld ws DD_ROWS
  let rb := wfld ws DD_ROW_BYTES
  let span (a s : Nat) : Option (Nat × Nat) := some (a % 2 ^ 22, a % 2 ^ 22 + (rows - 1) * s + rb - 1)
  let rd := if wfld ws DD_SRC_SPACE = 0 then span (wfld ws DD_SRC) (wfld ws DD_SRC_STRIDE) else none
  let wr := if wfld ws DD_DST_SPACE = 0 then span (wfld ws DD_DST) (wfld ws DD_DST_STRIDE) else none
  (rd, if wfld ws DD_OP = 4 then rd else wr)

/-- An earlier, unfinished command of the chuck conflicts with the given ranges. -/
def Chuck.conflicts (ch : Chuck) (rd wr : Option (Nat × Nat)) : Bool :=
  let hits (erd ewr : Option (Nat × Nat)) : Bool := overlap ewr rd || overlap ewr wr || overlap erd wr
  ch.mq.any (fun o => hits (hull o.p.reads) (hull o.p.writes)) ||
  ch.dq.any (fun o => let r := descRanges o.words; hits r.1 r.2)

/-! ### Matrix operations (R96-R112, R152, R163) -/

/-- The scalar register that XREG names. -/
def Chuck.sreg (ch : Chuck) (i : Nat) : W32 := if i = 0 then 0#32 else sget ch.sregs i 0#32

/-- The copies that MATMUL takes. DESIGN CHOICE (log 175): a base and the value of its XREG are added as natural numbers: the sum does not wrap. -/
def Dev.matParams (d : Dev) (t c : Nat) (w0 w1 : W64) : MParams :=
  let ch := d.chuck (t * 4 + c)
  let a := [ch.opA.1, ch.opA.2]
  let b := [ch.opB.1, ch.opB.2]
  let o := [ch.opC.1, ch.opC.2]
  let xa := (ch.sreg (wfld a OPAB_XREG)).toNat
  let xb := (ch.sreg (wfld b OPAB_XREG)).toNat
  let xo := (ch.sreg (wfld o OPC_XREG)).toNat
  let mm := [w0, w1]
  { fmtA := d.get (CUB_CFG_FMT_A t c), fmtB := d.get (CUB_CFG_FMT_B t c), weightStationary := d.is (CUB_CFG_DATAFLOW t c)
    hold := d.get (CUB_CFG_HOLD t c), shift := d.get (CUB_CFG_SHIFT t c), maskM := d.get (CUB_MASK_MN_MASK_M t c)
    maskN := d.get (CUB_MASK_MN_MASK_N t c), maskK := d.get (CUB_MASK_K_MASK_K t c)
    aBase := wfld a OPAB_BASE + xa, aStride := wfld a OPAB_STRIDE, aSBase := wfld a OPAB_SBASE + xa
    aSStride := wfld a OPAB_SSTRIDE, aL2Base := wfld a OPAB_L2BASE + xa, aL2Stride := wfld a OPAB_L2STRIDE
    aL2S := wfld a OPAB_L2S == 1
    bBase := wfld b OPAB_BASE + xb, bStride := wfld b OPAB_STRIDE, bSBase := wfld b OPAB_SBASE + xb
    bSStride := wfld b OPAB_SSTRIDE, bL2Base := wfld b OPAB_L2BASE + xb, bL2Stride := wfld b OPAB_L2STRIDE
    bL2S := wfld b OPAB_L2S == 1
    oBase := wfld o OPC_OBASE + xo, oStride := wfld o OPC_OSTRIDE, outFmt := wfld o OPC_OUT_FMT, sat := wfld o OPC_SAT == 1
    accShift := wfld o OPC_ACC_SHIFT, cBase := wfld o OPC_CBASE + xo, cStride := wfld o OPC_CSTRIDE
    cFmt := wfld o OPC_C_FMT, init := wfld o OPC_INIT == 1, outShift := wfld o OPC_OUT_SHIFT
    m := wfld mm MM_M, n := wfld mm MM_N, k := wfld mm MM_K, setFirst := wfld mm MM_SET_FIRST }

/-- The highest byte of a hull, or zero. -/
def hullTop (h : Option (Nat × Nat)) : Nat := match h with | some x => x.2 + 1 | none => 0

/-- MATMUL: checks the operation and queues it. -/
def matmulOp (m : Mem) (r : Run) (d : Dev) (t c : Nat) (w0 w1 : W64) : Dev :=
  let tc := t * 4 + c
  let p := d.matParams t c w0 w1
  match p.illegal with
  | some cause => illegal m d t c r.pc cause
  | none =>
    if !p.aligned then illegal m d t c r.pc caALIGN
    else if p.empty then d.advance tc
    else
      let rd := hull p.reads
      let wr := hull p.writes
      if hullTop rd > d.usable tc || hullTop wr > d.usable tc then illegal m d t c r.pc caADDRESS
      else
        let ch := d.chuck tc
        if ch.mq.length ≥ 4 || ch.conflicts rd wr then d
        else
          let op : MOp := { p := p, next := List.replicate p.nblocks 0, inited := List.replicate p.nblocks false, drained := 0 }
          (d.setChuck tc { ch with mq := ch.mq ++ [op] }).advance tc

/-- Operands as the chuck's partition holds them. -/
def Dev.operand (d : Dev) (tc : Nat) (a : Nat) : Nat := d.localGet tc a

/-- The accumulator words of a chuck. -/
def Chuck.accGet (ch : Chuck) (k : Nat) : W32 := sget ch.acc k 0#32
def Chuck.accPuts (ch : Chuck) (ws : List (Nat × W32)) : Chuck :=
  { ch with acc := ws.foldl (fun a kw => sput a kw.1 kw.2) ch.acc }

/-- Sticky numeric conditions of a tile (R144). -/
def Dev.numFlags (d : Dev) (t : Nat) (f : NumFlags) : Dev :=
  let s (d : Dev) (b : Bool) (x : Fld) : Dev := if b then d.set x 1 else d
  s (s (s (s (s (s d f.accInf (CUB_TILE_NUM_ACC_INF t)) f.accNan (CUB_TILE_NUM_ACC_NAN t)) f.cpxSat (CUB_TILE_NUM_CPX_SAT t))
    f.drainSat (CUB_TILE_NUM_DRAIN_SAT t)) f.vecInvalid (CUB_TILE_NUM_VEC_INVALID t)) f.scaleNan (CUB_TILE_NUM_SCALE_NAN t)

/-- The chuck whose matrix queue the cubes serve: the one that runs, or one that waits for its queue while no item of the tile
executes (R54). -/
def Dev.cubeChuck (d : Dev) (t : Nat) : Option Nat :=
  let has (c : Nat) : Bool := !(d.chuck (t * 4 + c)).mq.isEmpty
  match (d.tile t).cur with
  | some c => if has c then some c else if d.radioRuns t || !d.yields t then none else (List.range 4).find? has
  | none => (List.range 4).find? has

/-- Index of the operation whose steps issue: the first with steps left. -/
def activeOp (q : List MOp) : Option Nat := q.findIdx? (fun o => o.next.any (fun n => decide (n < o.p.nslices)))

/-- Accumulator sets of block h. -/
def MOp.setsOf (o : MOp) (h : Nat) : List Nat := if o.p.complex then [o.p.setOf h, o.p.setOf h + 1] else [o.p.setOf h]

/-- Sets that operations wait to drain. -/
def setsAwaiting (ops : List MOp) : List Nat :=
  ops.flatMap (fun o => ((List.range o.p.nblocks).filter (fun h => decide (o.drained ≤ h))).flatMap o.setsOf)

/-- The slice whose held block is active: the lowest that a block still lacks. The held block stays active until every block of its slice has
issued (R102, R104). -/
def MOp.slice (o : MOp) : Nat := (List.range o.p.nblocks).foldl (fun a h => min a (o.next.getD h 0)) o.p.nslices

/-- The step that issues next (R99, R101, R102, R163): of the slice whose held block is active, the lowest block whose set neither waits to be
drained nor to be loaded. -/
def pickStep (q : List MOp) (i : Nat) : Option (Nat × Nat) :=
  match q[i]? with
  | none => none
  | some o =>
    let blocked := setsAwaiting (q.take i)
    let ready (h : Nat) : Bool := o.next.getD h 0 == o.slice && decide (o.slice < o.p.nslices) && (!o.p.init || o.inited.getD h false) &&
      (o.setsOf h).all (fun s => !blocked.contains s)
    ((List.range o.p.nblocks).find? ready).map (fun h => (o.slice, h))

/-- The held block of slice q enters the active slot of operation i with the slice's first step. -/
def Chuck.fillSlot (ch : Chuck) (rd : Nat → Nat) (i q : Nat) : Chuck :=
  match ch.mq[i]? with
  | none => ch
  | some o => if o.slotQ = some q then ch else { ch with mq := ch.mq.set i { o with slotQ := some q, slot := o.p.slotFill rd o.slot q } }

/-- Zero initialisation of block h's set or pair of sets when its first step issues (R97). -/
def Chuck.zeroInit (ch : Chuck) (i h : Nat) : Chuck :=
  match ch.mq[i]? with
  | none => ch
  | some o =>
    if o.p.init || o.inited.getD h false then ch
    else { ch.accPuts (o.p.initWords (fun _ => 0) h) with mq := ch.mq.set i { o with inited := o.inited.set h true } }

/-- Block h of operation i has issued its step. -/
def Chuck.stepDone (ch : Chuck) (i h : Nat) : Chuck :=
  match ch.mq[i]? with
  | none => ch
  | some o => { ch with mq := ch.mq.set i { o with next := o.next.set h (o.next.getD h 0 + 1) } }

/-! ### Detections (R172-R184) -/

/-- What the comparisons of a step find: kind, the MAC row if one row is at fault, failing rows, columns and layers. -/
structure Detection where
  kind : Nat
  row : Option Nat
  rows : Nat
  cols : Nat
  layers : Nat

/-- A set of small numbers as a mask. -/
def maskOf (l : List Nat) : Nat := (List.range 8).foldl (fun a i => if l.contains i then a + 2 ^ i else a) 0

/-- R177 for failing column checks (MAC rows) and row checks (columns); `layers` has a bit for each layer in which a comparison failed. DESIGN CHOICE
(log 125): where only column checks fail, in two or more MAC rows, the patterns of COLUMN and CHECK both fit, and the kind is COLUMN. -/
def classifySums (layers : Nat) (rows cols : List Nat) : Option Detection :=
  match rows, cols with
  | [], [] => none
  | [i], _ :: _ => some ⟨1, some i, maskOf rows, maskOf cols, layers⟩
  | _ :: _ :: _, _ => some ⟨2, none, maskOf rows, maskOf cols, layers⟩
  | _, _ => some ⟨3, none, maskOf rows, maskOf cols, layers⟩

/-- The MAC rows whose column checks, and the columns whose row checks, fail in one layer of a step (R173). -/
def sumFailing (e : SumErr) (cpx : Bool) (on : Nat → Nat → Bool) : List Nat × List Nat :=
  let es := e.prods.filter (fun x => on x.1 x.2.1)
  let sum (f : Nat × Nat × Int × Int → Int) : Int := (es.map f).sum
  let bad (here : Nat × Nat × Int × Int → Bool) : Bool :=
    sum (fun x => if here x then x.2.2.1 else 0) != 0 || (cpx && sum (fun x => if here x then x.2.2.2 else 0) != 0)
  ((List.range 8).filter (fun i => bad (fun x => x.1 == i) || (e.rows.contains i && (List.range 8).any (fun j => on i j))),
   (List.range 8).filter (fun j => bad (fun x => x.2.1 == j) || (e.cols.contains j && (List.range 8).any (fun i => on i j))))

/-- A residue of an error: the mod-3 residue of a wrong value differs from the prediction unless 3 divides the error, whatever the value is and
whatever power of two scales it (R132, R174: 2^e is 1 or -1 mod 3). -/
def residueDiffers (e : ResErr) : Bool := e.err % 3 != 0

/-- The detection that an error raises; `on i j` says that word (MAC row i, column j) of the cube takes part in the step, `cpx` that the step is
complex: its real and imaginary parts are then checked separately (R172), and a row or column fails where either part does. -/
def detection (cpx : Bool) (on : Nat → Nat → Bool) : StepErr → Option Detection
  | .sums a b =>
    let x := sumFailing a cpx on
    let y := sumFailing b cpx on
    classifySums ((if x == ([], []) then 0 else 1) + (if y == ([], []) then 0 else 2))
      ((List.range 8).filter (fun i => x.1.contains i || y.1.contains i)) ((List.range 8).filter (fun j => x.2.contains j || y.2.contains j))
  | .residue ws =>
    let es := ws.filter (fun e => on e.row e.col && residueDiffers e)
    let rows := (List.range 8).filter (fun i => es.any (fun e => e.row == i))
    match rows with
    | [] => none
    | [i] => some ⟨4, some i, 0, 0, 2⟩
    | _ => some ⟨4, none, 0, 0, 2⟩
  | .sramSingle _ => none
  | .tag => some ⟨5, none, 0, 0, 2⟩
  | .operand layer => some ⟨6, none, 0, 0, 2 ^ layer⟩
  | .accParity => some ⟨7, none, 0, 0, 2⟩

/-- CUB_TILE_SPARE.ROW_c. -/
def tileSpare (t c : Nat) : Fld := ⟨0x81008 + 0x400 * t, 4 * c, 4, 15⟩

/-- UNIT codes of a tile and of a MAC row (R401), physical position. -/
def unitTile (die row pcol : Nat) : Nat := 268435456 + die + row * 2 + pcol * 16
def unitRow (die row pcol cube prow : Nat) : Nat := 2 * 268435456 + die + row * 2 + pcol * 16 + cube * 512 + prow * 4096
def Dev.tileUnit (d : Dev) (t : Nat) : Nat := unitTile (t / 160) (t / 20 % 8) (d.get (CUB_TILE_PHYS_PCOL t))
def Dev.rowUnit (d : Dev) (t cube row : Nat) : Nat := unitRow (t / 160) (t / 20 % 8) (d.get (CUB_TILE_PHYS_PCOL t)) cube row

/-- The spare of a tile row is FREE and no cure of the row waits for it (R188). -/
def Dev.spareFree (d : Dev) (t : Nat) : Bool :=
  d.get (CUB_ROW_MAP_STATE (t / 20)) == 0 && !d.tls.cures.any (fun c => (c.kind == 1 || c.kind == 4) && c.tile / 20 == t / 20)

/-- The cure that the Tailstock chooses (R180): the first applicable row of its table. `same`: both detections LOCAL to the same
cube and MAC row. A detection on a spare that covers the tile for an in-field test retires the spare once the cover has ended (R193). One on the tile's
own physical tile while its cover begins, where R180's last row and R193 differ, disables the logical tile and leaves the spare (DESIGN CHOICE, log 179). -/
def Dev.chooseCure (d : Dev) (t : Nat) (same : Option (Nat × Nat)) : Cure :=
  let rowCure : Option Cure := match same with
    | some (cube, row) =>
      let taken := d.tls.cures.any (fun c => c.kind == 0 && c.tile == t && c.cube == cube && c.row != row)
      if d.get (tileSpare t cube) = 15 && !taken && d.is CUB_CHK_CFG_AUTO_ROW then some ⟨0, t, cube, row⟩ else none
    | none => none
  match rowCure with
  | some c => c
  | none =>
    let covering := match sfind d.tls.covers (t / 20) with | some (l, test) => test && l != t | none => false
    let byCover := d.get (CUB_TILE_PHYS_PCOL t) == 20 && d.get (CUB_ROW_MAP_STATE (t / 20)) != 4
    if byCover then ⟨4, t, 0, 0⟩
    else if d.spareFree t && d.is CUB_CHK_CFG_AUTO_TILE then ⟨1, t, 0, 0⟩
    else if covering && d.is CUB_CHK_CFG_AUTO_TILE then ⟨2, t, 0, 0⟩
    else ⟨3, t, 0, 0⟩

/-- A cure for the whole tile waits, or the mirror-in of one is in progress. -/
def Dev.tileCured (d : Dev) (t : Nat) : Bool :=
  d.tls.cures.any (fun c => c.tile == t && c.kind != 0) || (match sfind d.tls.covers (t / 20) with | some (l, test) => !test && l == t | none => false)

def Dev.addCure (d : Dev) (c : Cure) : Dev :=
  if d.tls.cures.any (fun x => x == c) then d else { d with tls := { d.tls with cures := d.tls.cures ++ [c] } }

/-- R183: the detection record's words. -/
def Dev.detectWords (d : Dev) (t c : Nat) (r : Run) (p : MParams) (cube : Nat) (det : Detection) (isLocal spare : Bool)
    (hash : Nat) : Words :=
  mkWords 4 [(DREC_NS, d.ns), (DREC_SOURCE, t), (DREC_KIND, det.kind), (DREC_RUN, if r.rerun then 1 else 0),
    (DREC_LOCAL, if isLocal then 1 else 0), (DREC_SPARE, if spare then 1 else 0), (DREC_CUBE, cube),
    (DREC_MROW, if isLocal || spare then det.row.getD 0 else 0), (DREC_CHUCK, c), (DREC_RADIO, if r.item.origin = 2 then 1 else 0),
    (DREC_DIE, t / 160), (DREC_ROW, t / 20 % 8), (DREC_PCOL, d.get (CUB_TILE_PHYS_PCOL t)), (DREC_COLS, det.cols),
    (DREC_ROWS, det.rows), (DREC_LAYERS, det.layers), (DREC_FMT_A, p.fmtA), (DREC_FMT_B, p.fmtB), (DREC_STEP, r.steps),
    (DREC_TAG, wfld r.item.desc ITEM_TAG), (DREC_OP_HASH, hash)]

/-- The end of an item's dispatch at the detection of its re-run (R180, R181): a DEFERRED record and a cut, or a slot miss of a radio item. -/
def secondDetection (m : Mem) (d : Dev) (t c : Nat) (r : Run) : Dev :=
  let it := { r.item with mism := true }
  if it.origin = 2 then
    ((radioPost m d t stSLOT_MISS it.attempt (some (wfld it.desc ITEM_TAG))).radioStage t it.seqNo 4).radioLeave t
  else (resume m t 5 (itemCut m (d.closeRun (t * 4 + c)) it t)).tileShow t

/-- A detection (R178-R184): counters, the record to the Tailstock, and the item stopped for its re-run or for good. -/
def detectOp (m : Mem) (d : Dev) (t c : Nat) (r : Run) (p : MParams) (cube hash : Nat) (det : Detection) (inj : Bool) : Dev :=
  let tc := t * 4 + c
  let inUse := match det.row with | some i => d.get (tileSpare t cube) == i | none => false
  let isLocal := det.row.isSome && !inUse
  let loc : Option (Nat × Nat) := if isLocal then det.row.map (fun i => (cube, i)) else none
  let d := ((((d.bump CUB_CHK_COUNT_DETECT 1).bump (CUB_TILE_CHK_DETECT t) 1).set (CUB_TILE_CHK_LAST_KIND t) det.kind).set
    (CUB_TILE_CHK_LAST_RUN t) (if r.rerun then 1 else 0))
  let same := match r.det, loc with
    | some (some a), some b => if a = b then some a else none
    | _, _ => none
  let unit := match (if r.rerun then same else loc) with
    | some (cu, ro) => d.rowUnit t cu ro
    | none => d.tileUnit t
  let d := d.report {
    unit := unit, confirmed := true, dkind := det.kind, failed := r.rerun, tag := wfld r.item.desc ITEM_TAG,
    detail := hash, load := p.fmtA * 256 + p.fmtB * 4096 + (if r.preempted then 65536 else 0)
    words := d.detectWords t c r p cube det isLocal inUse hash, inj := inj
    cure := if r.rerun then some (t, same, if r.item.origin = 2 then none else some r.item.seqNo) else none }
  if r.rerun then secondDetection m d t c r
  else
    let ch := (d.chuck tc).dropDma
    d.setChuck tc { ch with
      mq := [], loops := [], wait := none
      run := some { r with stopped := true, det := some loc, item := { r.item with mism := true } } }

/-- The stopped item that the tile re-runs next: that of the chuck that is current, or, where no item executes, that of another chuck. -/
def Dev.rerunChuck (d : Dev) (t : Nat) : Option Nat :=
  let stopped (c : Nat) : Bool := match (d.chuck (t * 4 + c)).run with | some r => r.stopped | none => false
  match (d.tile t).cur with
  | some c => if stopped c then some c else if d.radioRuns t || !d.yields t then none else (List.range 4).find? stopped
  | none => (List.range 4).find? stopped

/-- ITEM_RERUN (R179): the stopped item runs again from its first command, once the stopped run's descriptors in progress are
complete. The re-run itself decides the status of this dispatch. -/
def itemRerunOp (d : Dev) (t : Nat) : Dev :=
  match d.rerunChuck t with
  | none => d
  | some c =>
    match (d.chuck (t * 4 + c)).run with
    | none => d
    | some r =>
      if !r.stopped || (d.chuck (t * 4 + c)).dq.any (fun o => o.cut) then d
      else d.dispatch t c { item := r.item, pc := wfld r.item.desc ITEM_STREAM_OFF, rerun := true, det := r.det, inject := r.inject }

/-! ### One tile step (R99-R108) -/

/-- Errors in words whose sums agree (R176) go into the accumulator: the wrong integers in the units of R127, with the layer's
scales, added to V. -/
def errorValue (p : MParams) (ra rb : Nat → Nat) (q h i j layer : Nat) (e : Int) : FVal :=
  let unit (c : Nat) : Int := if c = 0 then -149 else if c = 1 then -133 else if c = 2 then -24 else if c = 3 then -9
    else if c = 4 then -16 else if c = 5 then -6 else if c = 6 then 0 else if c = 7 then -4 else if c = 8 then -3 else -1
  let k := layer * (p.lanes / 2)
  let scale (s : Side) (rd : Nat → Nat) (g r : Nat) : FVal := if fmtIsMX s.fmt then e8m0 (rd (s.scaleAddr p.lanes g q r k)) else .fin false 1 0
  let v : FVal := .fin (decide (e < 0)) e.natAbs (unit p.fmtA + unit p.fmtB)
  (v.mul (scale p.sideA ra (p.grpA h) i)).mul (scale p.sideB rb (p.grpB h) j)

/-- Replaces one word of a step's result. -/
def putWord (ws : List (Nat × W32)) (k : Nat) (w : W32) : List (Nat × W32) := ws.map (fun kw => if kw.1 = k then (k, w) else kw)

/-- The words of a step with undetected wrong sums, those of layer 0 and of layer 1 (R176). -/
def faultyStep (p : MParams) (ra rb : Nat → Nat) (acc : Nat → W32) (q h cube : Nat) (e0 e1 : List (Nat × Nat × Int × Int))
    (ws : List (Nat × W32)) : List (Nat × W32) :=
  let r0 := 8 * (cube / 2 % 2)
  let c0 := 8 * (cube % 2)
  (e0 ++ e1).foldl (fun ws e =>
    let i := r0 + e.1
    let j := c0 + e.2.1
    if p.rowOn h i && p.colOn h j then
      let k := accKey (p.setOf h) i j
      let here (l : List (Nat × Nat × Int × Int)) : List (Nat × Nat × Int × Int) := l.filter (fun x => x.1 == e.1 && x.2.1 == e.2.1)
      let re (l : List (Nat × Nat × Int × Int)) : Int := ((here l).map (fun x => x.2.2.1)).sum
      let im (l : List (Nat × Nat × Int × Int)) : Int := ((here l).map (fun x => x.2.2.2)).sum
      if p.complex then
        let ki := accKey (p.setOf h + 1) i j
        let v := p.stepComplex ra rb q h i j
        putWord (putWord ws k (accComplex (acc k) (v.1 + re (e0 ++ e1)) p.accShift).1) ki
          (accComplex (acc ki) (v.2 + im (e0 ++ e1)) p.accShift).1
      else
        let plus (l : List (Nat × Nat × Int × Int)) (layer : Nat) (v : FVal) : FVal :=
          if (here l).isEmpty then v else v.add (errorValue p ra rb q h i j layer (re l))
        putWord ws k (accUpdate (acc k) (plus e1 1 (plus e0 0 (p.stepValue ra rb q h i j)))
          (p.sideA.l2 ra p.lanes (p.grpA h) q i) (p.sideB.l2 rb p.lanes (p.grpB h) q j))
    else ws) ws

/-- The words of a step whose wrong updates the residues do not catch, since 3 divides each error (R132, R174). DESIGN CHOICE (log 183): an error of the
rounded significand that leaves its 23 stored bits wraps in them, and a negative result stores 0. -/
def residueStep (p : MParams) (ra rb : Nat → Nat) (acc : Nat → W32) (q h cube : Nat) (errs : List ResErr) (ws : List (Nat × W32)) :
    List (Nat × W32) :=
  let r0 := 8 * (cube / 2 % 2)
  let c0 := 8 * (cube % 2)
  errs.foldl (fun ws e =>
    let i := r0 + e.row
    let j := c0 + e.col
    if p.rowOn h i && p.colOn h j then
      if p.complex then
        let k := accKey (p.setOf h + e.plane % 2) i j
        let v := p.stepComplex ra rb q h i j
        putWord ws k (accComplex (acc k) (if e.plane = 0 then v.1 else v.2) p.accShift e.err).1
      else
        let k := accKey (p.setOf h) i j
        let s2a := p.sideA.l2 ra p.lanes (p.grpA h) q i
        let s2b := p.sideB.l2 rb p.lanes (p.grpB h) q j
        let v := p.stepValue ra rb q h i j
        let wrong : FVal := .fin (decide (e.err < 0)) e.err.natAbs e.exp
        if e.place = 0 then putWord ws k (accUpdate (acc k) (v.add wrong) s2a s2b)
        else if e.place = 1 then putWord ws k (toF32 (((f32 (acc k)).add ((v.mul s2a).mul s2b)).add wrong))
        else
          -- the significand written is off in its last bits
          let w := (accUpdate (acc k) v s2a s2b).toNat
          putWord ws k (BitVec.ofNat 32 (w / 2 ^ 23 * 2 ^ 23 + (((w % 2 ^ 23 : Nat) : Int) + e.err).toNat % 2 ^ 23))
    else ws) ws

/-- The error that PRT_INJ_CHK plants in this step, if it fires (R491, R492), and the registers after it. -/
def Dev.injectChk (d : Dev) (t : Nat) (r : Run) : Dev × Option (Nat × Nat × Nat × Nat) × Bool :=
  match r.rerun, r.inject with
  | true, some x => (d, some x, true)
  | _, _ =>
    if d.is PRT_INJ_CHK_ARMED && d.get PRT_INJ_CHK_TILE == t && r.item.origin != 2 then
      ((d.set PRT_INJ_CHK_ARMED 0).set PRT_STATUS_FIRED_CHK 1,
        some (d.get PRT_INJ_CHK_CUBE, d.get PRT_INJ_CHK_ROW, d.get PRT_INJ_CHK_LAYER, d.get PRT_INJ_CHK_BIT),
        d.is PRT_INJ_CHK_REPEAT)
    else (d, none, false)

/-- A read of SRAM corrects a single-bit error (R145). -/
def Dev.sramCorrected (d : Dev) (t bank : Nat) : Dev :=
  (d.bump (CUB_SRAM_ECC_CORRECTED t) 1).set (CUB_SRAM_ECC_LAST_BANK t) bank

/-- The error of PRT_INJ_CHK: bit `bi` of word P(ro, 0) of a cube and layer is inverted. DESIGN CHOICE (log 182): the error is +2^bi whatever the bit
held and however wide P is in the step's format; the spec does not say what inverting a bit that P lacks does. -/
def injected (cu ro la bi : Nat) : StepFault :=
  let e : SumErr := { prods := [(ro, 0, (2 : Int) ^ bi, 0)] }
  ⟨cu, if la = 0 then .sums e {} else .sums {} e⟩

/-- A step that is no bubble: it reads its operands, is checked, and updates its set. STEP counts the run's valid steps from 1, the failing one
included (DESIGN CHOICE, log 185: the spec gives the ordinal no origin). DESIGN CHOICE (log 184): a step with a detection sets no sticky bit, and an undetected
error leaves those of the step without it. -/
def validStep (m : Mem) (d : Dev) (t c i q h : Nat) (p : MParams) (f : Option StepFault) : Dev :=
  let tc := t * 4 + c
  match (d.chuck tc).run with
  | none => d
  | some r0 =>
    let inj := d.injectChk t r0
    let d := (inj.1.bump (CUB_TILE_STEPS_COUNT t) 1).raise (CUB_TILE_LAT_READ_LAT_MAX t) (2 + d.latencyOf 2)
    let d := { d with free := d.free + 1 }
    let r := { r0 with steps := r0.steps + 1
                       inject := if r0.rerun then none else if inj.2.2 then inj.2.1 else r0.inject }
    let ch := { d.chuck tc with run := some r }
    let fault : Option StepFault := match inj.2.1 with
      | some (cu, ro, la, bi) => some (injected cu ro la bi)
      | none => f
    let rd := d.operand tc
    let ch := ch.fillSlot rd i q
    let slot := match ch.mq[i]? with | some o => o.slot | none => []
    let ra := p.readA slot rd
    let rb := p.readB slot rd
    let out := p.step ra rb ch.accGet q h
    let d' := (d.numFlags t out.2).numFlags t { scaleNan := p.stepScaleNaN ra rb q h }
    let plain (ws : List (Nat × W32)) : Dev := d'.setChuck tc ((ch.accPuts ws).stepDone i h)
    match fault with
    | none => plain out.1
    | some s =>
      let on (x y : Nat) : Bool := p.rowOn h (8 * (s.cube / 2 % 2) + x) && p.colOn h (8 * (s.cube % 2) + y)
      match detection p.complex on s.err with
      | some det => detectOp m (d.setChuck tc ch) t c r p s.cube (fnv1a (p.stepBytes ra rb q h)) det inj.2.1.isSome
      | none =>
        match s.err with
        | .sums a b => plain (faultyStep p ra rb ch.accGet q h s.cube a.prods b.prods out.1)
        | .residue errs => plain (residueStep p ra rb ch.accGet q h s.cube errs out.1)
        | .sramSingle bank => (plain out.1).sramCorrected t bank
        | _ => plain out.1

/-- TILE_STEP_ISSUE: one cycle of the cube array in which an operation is active: a valid step or a bubble. `late`: an operand block of the step
has not arrived, for whatever excess of bank accesses, so that its valid bit is 0 (R95, R98, R99). DESIGN CHOICE (log 126): an operation that
has issued all its steps and only loads or drains is no longer active, so that CUB_TILE_BUBBLES counts no cycle of it. -/
def stepIssueOp (m : Mem) (d : Dev) (t : Nat) (late : Bool) (f : Option StepFault) : Dev :=
  match d.cubeChuck t with
  | none => d
  | some c =>
    let tc := t * 4 + c
    let ch := d.chuck tc
    match ch.run with
    | none => d
    | some r =>
      if r.stopped then d
      else match activeOp ch.mq with
        | none => d
        | some i =>
          match pickStep ch.mq i with
          | none => d.bump (CUB_TILE_BUBBLES_COUNT t) 1
          | some (q, h) =>
            if late then d.bump (CUB_TILE_BUBBLES_COUNT t) 1
            else match ch.mq[i]? with
            | none => d
            | some o =>
              let d := d.setChuck tc ((ch.zeroInit i h).fillSlot (d.operand tc) i q)
              if (o.p.lanesOn q).isEmpty then
                (d.setChuck tc ((d.chuck tc).stepDone i h)).bump (CUB_TILE_BUBBLES_COUNT t) 1
              else (validStep m d t c i q h o.p f).tileShow t

/-! ### C loads and drains (R96, R97, R111) -/

/-- The operation whose next set loads C: the one whose steps issue, or one with K = 0 at the head. -/
def loadOp (q : List MOp) : Option Nat :=
  q.findIdx? (fun o => o.p.init && o.inited.any (fun b => !b))

/-- C_LOAD: the next set of an operation takes its C words, once no earlier operation waits to drain it. -/
def cLoadOp (d : Dev) (t : Nat) : Dev :=
  match d.cubeChuck t with
  | none => d
  | some c =>
    let tc := t * 4 + c
    let ch := d.chuck tc
    match loadOp ch.mq with
    | none => d
    | some i =>
      match ch.mq[i]? with
      | none => d
      | some o =>
        match o.inited.findIdx? (fun b => !b) with
        | none => d
        | some h =>
          let blocked := setsAwaiting (ch.mq.take i)
          if (o.setsOf h).any (fun s => blocked.contains s) then d
          else
            let ch' := ch.accPuts (o.p.initWords (d.operand tc) h)
            d.setChuck tc { ch' with mq := ch.mq.set i { o with inited := o.inited.set h true } }

/-- Writes bytes of a partition. -/
def Dev.localWrites (d : Dev) (tc : Nat) (bs : List (Nat × Nat)) : Dev :=
  bs.foldl (fun d ab => d.localPut tc ab.1 (BitVec.ofNat 8 ab.2)) d

/-- DRAIN_SET: the next set of the operation at the head of the queue is written to SRAM, once its steps are complete. Reading the set checks the
parity of its words (R175): `parity` names the cube in which one fails, and the drain writes nothing then. DESIGN CHOICE (log 127): the record's
hash is that of the set's last step, and of no bytes where no step was issued. -/
def drainOp (m : Mem) (d : Dev) (t : Nat) (parity : Option Nat) : Dev :=
  match d.cubeChuck t with
  | none => d
  | some c =>
    let tc := t * 4 + c
    let ch0 := d.chuck tc
    match ch0.mq with
    | [] => d
    | o0 :: _ =>
      let ch := if o0.p.nslices = 0 then ch0.zeroInit 0 o0.drained else ch0
      match ch.mq with
      | [] => d
      | o :: rest =>
        let h := o.drained
        if decide (o.next.getD h 0 < o.p.nslices) || !o.inited.getD h false then d
        else match parity, ch.run with
        | some cube, some r =>
          let rd := d.operand tc
          let hash := if o.p.nslices = 0 then fnv1a [] else fnv1a (o.p.stepBytes rd rd (o.p.nslices - 1) h)
          if r.stopped then d else detectOp m (d.setChuck tc ch) t c r o.p cube hash ⟨7, none, 0, 0, 2⟩ false
        | _, _ =>
          let out := o.p.drain ch.accGet h
          let d := (d.localWrites tc out.1).numFlags t { drainSat := out.2 }
          if h + 1 < o.p.nblocks then d.setChuck tc { ch with mq := { o with drained := h + 1 } :: rest }
          else
            let run := if o.p.k = 0 then ch.run.map (fun r => { r with kzero := true }) else ch.run
            let d := d.setChuck tc { ch with mq := rest, run := run }
            let d := if o.p.k = 0 then d.set (CUB_TILE_STATUS_K_ZERO t) 1 else d
            (resume m t 5 d).tileShow t

end Sys2Proof.Machine
end

