-- ==== Sys2Proof/Machine/RadCfg.lean ====
section
/-!
DEFINITION. Machine/RadCfg.lean: the radio configuration set (R296-R301), its validation (R299), the cost model (R313-R315, R340,
R373, R374) and its admission by the Lathe (R61, R75, R76).
-/

namespace Sys2Proof.Machine

/-! ### The two sets (R296) -/

/-- A field of the staged set, or its copy in the active set. -/
def inSet (act : Bool) (f : Fld) : Fld := if act then actF f else f

/-- Addresses of the registers and windows that belong to the configuration set: RAD_FRAME_CFG, RAD_TIMING, RAD_PROTO_CFG, the cell
table, the prototype filters, LTH_RADIO_TILE, LTH_RADIO_CFG, the Gouge area configurations and the channel plans. -/
def inRadioSet (a : Nat) : Bool :=
  a == 0x280008 || a == 0x280010 || (decide (0x280200 ≤ a) && decide (a < 0x28021C)) ||
  (decide (0x281000 ≤ a) && decide (a < 0x285000)) || (decide (0x28A000 ≤ a) && decide (a < 0x291000)) ||
  (decide (0x40100 ≤ a) && decide (a < 0x40180)) || a == 0x40028 || (decide (0x304000 ≤ a) && decide (a < 0x305000)) ||
  (decide (0x40000000 ≤ a) && decide (a < 0x40140000))

/-- The active set becomes a copy of the staged one. -/
def Dev.activateRegs (d : Dev) : Dev :=
  let kept := d.regs.filter (fun e => !(decide (0x60000000 ≤ e.1 / 64) && inRadioSet (e.1 / 64 - 0x60000000)))
  let moved := kept.filter (fun e => inRadioSet (e.1 / 64))
  { d with regs := moved.foldl (fun r e => sput r (e.1 + 0x60000000 * 64) e.2) kept }

/-- Valid cells of a set, ascending. -/
def Dev.validCells (d : Dev) (act : Bool) : List Nat := d.listed (inSet act (RAD_CELL_VALID 0)) 0x20 512

/-- A channel of a plan (R298). -/
structure ChPlan where
  ch     : Nat
  bin    : Int
  ul     : Bool
  dl     : Bool
  comb   : Nat
  survey : Bool
  mode   : Nat
deriving DecidableEq, Repr

/-- A cell entry (R297), with the taps per branch of its filter (R304) and its plan. -/
structure CellCfg where
  role : Nat
  port : Nat
  pcid : Nat
  rx : Nat
  tx : Nat
  rate : Nat
  ndft : Nat
  ulFmt : Nat
  dlFmt : Nat
  entry : Nat
  scale1 : Nat
  scale2 : Nat
  dlScale1 : Nat
  dlScale2 : Nat
  mac : Nat
  vlan : Nat
  vlanEn : Bool
  taps   : Nat
  plan   : List ChPlan
deriving DecidableEq, Repr

/-- The channels of a cell's plan that have a field set, ascending. -/
def Dev.plan (d : Dev) (act : Bool) (n : Nat) : List ChPlan :=
  (List.range 320).filterMap (fun c =>
    let g (f : Nat → Fld) : Nat := d.get (inSet act (f (320 * n + c)))
    let p : ChPlan := ⟨c, sext 10 (g RAD_CH_BIN), g RAD_CH_UL_EN == 1, g RAD_CH_DL_EN == 1, g RAD_CH_COMB, g RAD_CH_SURVEY == 1,
      g RAD_CH_MODE⟩
    if p = ⟨c, 0, false, false, 0, false, 0⟩ then none else some p)

/-- A cell entry of a set. -/
def Dev.cellCfg (d : Dev) (act : Bool) (n : Nat) : CellCfg :=
  let g (f : Nat → Fld) : Nat := d.get (inSet act (f n))
  { role := g RAD_CELL_ROLE, port := g RAD_CELL_PORT, pcid := g RAD_CELL_PCID_HI, rx := g RAD_CELL_RX_ANT, tx := g RAD_CELL_TX_ANT,
    rate := g RAD_CELL_RATE, ndft := g RAD_CELL_NDFT, ulFmt := g RAD_CELL_UL_FMT, dlFmt := g RAD_CELL_DL_FMT,
    entry := g RAD_CELL_TILE_ENTRY, scale1 := g RAD_CELL_SCALE1, scale2 := g RAD_CELL_SCALE2,
    dlScale1 := g RAD_CELL_DL_SCALE1, dlScale2 := g RAD_CELL_DL_SCALE2, mac := g RAD_CELL_RU_MAC, vlan := g RAD_CELL_VLAN,
    vlanEn := g RAD_CELL_VLAN_EN == 1, taps := d.get (inSet act (RAD_PROTO_CFG_T (g RAD_CELL_NDFT))), plan := d.plan act n }

/-- N and H of a cell (R304). -/
def CellCfg.dft (c : CellCfg) : Nat := 8 * 2 ^ c.ndft
def CellCfg.hop (c : CellCfg) : Nat := 4 * 2 ^ c.ndft

/-- S: samples of an interval (R291) at a tick of `p` * 125 µs. Fs is 0.8 * 2^RATE Msps. -/
def CellCfg.samples (c : CellCfg) (p : Nat) : Nat := 100 * 2 ^ c.rate * p

/-- F_max and Q_max. -/
def CellCfg.fmax (c : CellCfg) (p : Nat) : Nat := ceilDiv (c.samples p) c.hop

/-- N1 and N2 of the uplink and of the downlink (R305). -/
def ulFactor (ndft : Nat) : Nat × Nat :=
  match ndft with
  | 0 => (8, 1) | 1 => (16, 1) | 2 => (32, 1) | 3 => (16, 4) | 4 => (16, 8) | 5 => (16, 16) | _ => (16, 32)
def dlFactor (ndft : Nat) : Nat × Nat :=
  match ndft with
  | 0 => (8, 1) | 1 => (16, 1) | 2 => (32, 1) | 3 => (32, 2) | 4 => (32, 4) | 5 => (32, 8) | _ => (32, 16)

/-- Prototype coefficient h[l] of a DFT size (R304). -/
def Dev.proto (d : Dev) (act : Bool) (ndft l : Nat) : Int :=
  sext 16 (d.get (inSet act (if l % 2 = 0 then RAD_PROTO_H_EVEN ndft (l / 2) else RAD_PROTO_H_ODD ndft (l / 2))))

/-! ### Gouge images and mode descriptors (R320, R321, R352, R372) -/

/-- Key of a data word of a core's memories; half h of instruction i has key n * 65536 + 2 * i + h. -/
def gDataKey (n x : Nat) : Nat := n * 65536 + 16384 + x / 4

/-- A 32-bit data word of a core's staged image or live memory. -/
def Dev.gword (d : Dev) (act : Bool) (n x : Nat) : Nat := (sget (if act then d.gmem else d.gimg) (gDataKey n x) 0#32).toNat

/-- The descriptor of a mode. -/
def Dev.mode (d : Dev) (act : Bool) (n i : Nat) : Words :=
  (List.range 8).map (fun w => w64 (d.gword act n (0x1F000 + 64 * i + 8 * w) + 2 ^ 32 * d.gword act n (0x1F000 + 64 * i + 8 * w + 4)))

/-- Bits per symbol. -/
def modeBps (m : Words) : Nat := wfld m MODE_LEVELS + 1

/-- R321: the descriptor that a MODE value names is VALID and holds for the cell. Rs = Fs * 1,024 / (H * SPS). -/
def Dev.modeOk (d : Dev) (act : Bool) (n : Nat) (c : CellCfg) (i : Nat) : Bool :=
  let m := d.mode act n i
  let den := c.hop * wfld m MODE_SPS
  let num := 800000 * 2 ^ c.rate * 1024
  let pre := wfld m MODE_PRE_BITS
  let std := wfld m MODE_STD == 1
  decide (i < 64) && wfld m MODE_VALID == 1 && decide (2400 * den ≤ num) && decide (num ≤ 400000 * den) &&
  decide (wfld m MODE_PRE_DET * modeBps m ≤ pre) &&
  (modeBps m == 1 || (pre % 2 == 0 && wfld m MODE_SYNC_BITS % 2 == 0)) &&
  (!std || (pre % 8 == 0 && decide (32 ≤ pre) && decide (pre ≤ 256) && decide (wfld m MODE_FEC ≤ 1) && wfld m MODE_RS_EN == 0 &&
    (wfld m MODE_FEC != 0 || wfld m MODE_ILV == 0)))

/-- Rs * bits per symbol * tick period as a fraction (R340). -/
def modeBits (m : Words) (c : CellCfg) (p : Nat) : Nat × Nat :=
  (c.samples p * 1024 * modeBps m, c.hop * wfld m MODE_SPS)

/-! ### Validation (R299) -/

/-- First failing (cell, channel, check) of the staged set: cells ascending, each check over all channels before the next, and the
checks that name no cell last, with cell 0. Channel 0x1FF: none. -/
def Dev.radioCheck (d : Dev) : Option (Nat × Nat × Nat) :=
  let cells := (d.validCells false).map (fun n => (n, d.cellCfg false n))
  let one (n : Nat) (c : CellCfg) : Option (Nat × Nat × Nat) :=
    let used := c.plan.filter (fun x => x.ul || x.dl)
    let lim : Int := ((25 * c.dft / 64 : Nat) : Int) - 1
    let at1 (bad : ChPlan → Bool) (k : Nat) (l : List ChPlan) : Option (Nat × Nat × Nat) := (l.find? bad).map (fun x => (n, x.ch, k))
    if (cells.filter (fun e => e.2.port == c.port && e.2.pcid == c.pcid)).length > 1 then some (n, 0x1FF, 1)
    else if !d.is (LTH_RADIO_TILE_VALID c.entry) then some (n, 0x1FF, 2)
    else if c.role > 1 || c.rx = 0 || c.rx > 8 || c.tx > 4 || c.ndft > 6 || c.ulFmt = 3 || c.dlFmt = 3 || c.scale1 > 16 ||
        c.scale2 > 16 || c.dlScale1 > 16 || c.dlScale2 > 16 || d.get (LTH_RADIO_TILE_TILE c.entry) > 319 ||
        d.get (LTH_RADIO_TILE_CHUCK0_BANKS c.entry) = 0 || d.get (LTH_RADIO_TILE_CHUCK0_BANKS c.entry) > 8 then some (n, 0x1FF, 3)
    else
      ((at1 (fun x => x.comb == 3 || ((x.ul || x.dl) && !d.modeOk false n c x.mode)) 3 c.plan).or
      ((at1 (fun x => decide (x.bin > lim) || decide (x.bin < -lim) || decide ((used.filter (fun y => y.bin == x.bin)).length > 1)) 4
        used).or
      ((((c.plan.filter (fun x => x.survey))[8]?).map (fun x => (n, x.ch, 5))).or
      ((at1 (fun x => x.comb == 2 && decide (c.rx > 2)) 6 c.plan).or
      (at1 (fun x => x.dl && c.tx == 0) 7 c.plan)))))
  let ge (f : Fld) : Nat := d.get f
  (cells.findSome? (fun e => one e.1 e.2)).or
    (if ge RAD_FRAME_CFG_ITEM_CELLS = 0 || ge RAD_FRAME_CFG_ITEM_CELLS > 32 || ge RAD_FRAME_CFG_DL_MSG_SAMPLES < 16 ||
        ge RAD_FRAME_CFG_DL_MSG_SAMPLES > 2048 || ge RAD_FRAME_CFG_DL_MSG_SAMPLES % 16 ≠ 0 ||
        (List.range 7).any (fun i => decide (ge (RAD_PROTO_CFG_T i) < 2) || decide (ge (RAD_PROTO_CFG_T i) > 4)) ||
        ge LTH_RADIO_CFG_RESERVE_PCT < 5 || ge LTH_RADIO_CFG_RESERVE_PCT > 60 || ge LTH_RADIO_CFG_MARGIN_PCT < 10 ||
        ge LTH_RADIO_CFG_MARGIN_PCT > 50 then some (0, 0x1FF, 3)
     else if (List.range 7).any (fun i => (List.range (ge (RAD_PROTO_CFG_T i) * (8 * 2 ^ i))).any (fun l =>
        d.proto false i l == -32768)) then some (0, 0x1FF, 8)
     else if ge RAD_TIMING_UL_REL < ge RAD_TIMING_UL_DEAD ∧ ge RAD_TIMING_UL_DEAD ≤ ge RAD_TIMING_DL_REL ∧
        ge RAD_TIMING_DL_REL < ge RAD_TIMING_DL_DEAD ∧ ge RAD_TIMING_DL_DEAD ≤ 980 ∧ ge RAD_FRAME_CFG_FRAME_TICKS ≥ 5 then none
     else some (0, 0x1FF, 9))

/-! ### The cost model (R313, R314) -/

/-- Cost of one pass of a cell: steps, bytes in, bytes out. -/
def steps (groups rows lanes cols : Nat) : Nat := groups * ceilDiv rows 16 * ceilDiv lanes 8 * ceilDiv cols 16

/-- The passes of a cell as (kind, steps, bytes in, bytes out): kinds 0 U1, 1 U2, 2 CB, 3 D2, 4 D1. U2 and D2 are left out when N2 is
1 (R305); the streams of COMB 2 channels then come from U1. -/
def CellCfg.passes (c : CellCfg) (p : Nat) : List (Nat × Nat × Nat × Nat) :=
  let n := c.dft
  let h := c.hop
  let f := c.fmax p
  let t := c.taps
  let u := ulFactor c.ndft
  let w := dlFactor c.ndft
  let ul := c.plan.filter (fun x => x.ul)
  let cb := ul.filter (fun x => decide (x.comb < 2))
  let two := 4 * f * c.rx * (ul.length - cb.length)
  let outs := (cb.map (fun x => x.comb + 1)).sum
  [(0, steps u.2 (c.rx * f) (u.1 * t) u.1, 4 * c.rx * f * n * t, 4 * c.rx * f * n + (if u.2 = 1 then two else 0))] ++
  (if u.2 = 1 then [] else [(1, steps 1 (c.rx * f * u.1) u.2 u.2, 4 * c.rx * f * n, 4 * c.rx * f * n + two)]) ++
  [(2, (cb.map (fun x => steps 1 f 8 (x.comb + 1))).sum, cb.length * 4 * c.rx * f + 32 * outs, 4 * f * outs)] ++
  (if w.2 = 1 then [] else [(3, steps 1 (c.tx * f * w.1) w.2 w.2, 4 * c.tx * f * n, 4 * c.tx * f * n)]) ++
  [(4, steps w.2 (c.tx * f) (2 * t * w.1) (w.1 / 2), 8 * c.tx * f * t * n, 4 * c.tx * f * h)]

/-- Cells of a tile in groups of ITEM_CELLS (R313). -/
def chunks {α : Type} (k : Nat) : Nat → List α → List (List α)
  | 0, _ => []
  | fuel + 1, l => if l.isEmpty then [] else l.take (max 1 k) :: chunks k fuel (l.drop (max 1 k))

/-- One radio item of the plan: its form for the tick, and the bytes it moves. -/
structure PlanItem where
  item  : RItem
  group : Nat
  moved : Nat
deriving DecidableEq, Repr

/-- Items of one direction in their order (R313): `kinds` in turn, each over all groups. -/
def planItems (d : Dev) (act : Bool) (p banks base dead : Nat) (groups : List (List Nat)) (kinds : List Nat) : List PlanItem :=
  let todo := kinds.flatMap (fun k => (List.range groups.length).map (fun g => (k, g)))
  (todo.foldl (fun (r : List PlanItem × Nat) kg =>
    let cells := groups.getD kg.2 []
    let costs := cells.filterMap (fun n => ((d.cellCfg act n).passes p).find? (fun x => x.1 == kg.1))
    if costs.isEmpty then r
    else
      let acc := (costs.map (fun x => 64 * 12 * x.2.1 + x.2.2.1 + x.2.2.2)).sum
      let bound := ceilDiv acc (64 * banks) + 128
      let input := (costs.map (fun x => x.2.2.1)).sum
      let moved := (costs.map (fun x => x.2.2.1 + x.2.2.2)).sum
      -- the item of the group before it, whose output it takes
      let prod := r.1.reverse.find? (fun x => x.group == kg.2)
      let cum := if prod.isNone then r.2 + ceilDiv input 128 else r.2
      let ready := match prod with
        | some x => x.item.release + x.item.bound + ceilDiv x.moved 128 + 256
        | none => base + cum
      let rel := match r.1.getLast? with
        | some x => max (x.item.release + x.item.bound + 192) ready
        | none => ready
      (r.1 ++ [⟨{ kind := kg.1, cells := cells, release := rel, deadline := dead, bound := bound }, kg.2, moved⟩], cum))
    (([], 0) : List PlanItem × Nat)).1

/-- The items of the cells of one LTH_RADIO_TILE entry per tick. -/
def Dev.entryItems (d : Dev) (act : Bool) (i : Nat) : List PlanItem :=
  let p := d.get LTH_TICK_CFG_PERIOD
  let cells := (d.validCells act).filter (fun n => d.get (inSet act (RAD_CELL_TILE_ENTRY n)) == i)
  let banks := max 1 (d.get (inSet act (LTH_RADIO_TILE_CHUCK0_BANKS i)))
  let at1 (f : Fld) : Nat := d.get (inSet act f) * d.tickCycles / 1000
  let groups := chunks (d.get (inSet act RAD_FRAME_CFG_ITEM_CELLS)) cells.length cells
  planItems d act p banks (at1 RAD_TIMING_UL_REL) (at1 RAD_TIMING_UL_DEAD) groups [0, 1, 2] ++
  planItems d act p banks (at1 RAD_TIMING_DL_REL) (at1 RAD_TIMING_DL_DEAD) groups [3, 4]

/-- R315: bytes of the matrices of every N that the entry's cells use. -/
def Dev.entryMatrices (d : Dev) (act : Bool) (i : Nat) : Nat :=
  let cells := (d.validCells act).filter (fun n => d.get (inSet act (RAD_CELL_TILE_ENTRY n)) == i)
  let sizes := (cells.map (fun n => d.get (inSet act (RAD_CELL_NDFT n)))).eraseDups
  (sizes.map (fun k =>
    let t := d.get (inSet act (RAD_PROTO_CFG_T k))
    let n := 8 * 2 ^ k
    let u := ulFactor k
    let w := dlFactor k
    4 * (t * u.1 * n + u.2 * u.2) + 4 * (t * w.1 * n + w.2 * w.2))).sum

/-- Load of an entry in tile cycles per tick: 2^20 - 1 when the working set does not fit (R315). -/
def Dev.entryLoad (d : Dev) (act : Bool) (i : Nat) : Nat :=
  let items := d.entryItems act i
  let big := (items.map (fun x => x.moved)).foldl max 0
  if d.entryMatrices act i + 2 * big > d.get (inSet act (LTH_RADIO_TILE_CHUCK0_BANKS i)) * 196608 - 65536 then 2 ^ 20 - 1
  else (items.map (fun x => x.item.bound + 192)).sum

/-! ### Gouge bounds (R373, R374) -/

/-- Streams of a channel (R369). -/
def ChPlan.streams (x : ChPlan) (rx : Nat) : Nat := if x.comb = 2 then rx else x.comb + 1

/-- Bounds of the DEMOD and the MOD item of a cell. -/
def Dev.gougeBounds (d : Dev) (act : Bool) (n : Nat) : Nat × Nat :=
  let c := d.cellCfg act n
  let f := c.fmax (d.get LTH_TICK_CFG_PERIOD)
  let cost (x : ChPlan) : Nat := d.gword act n (0x1EE00 + 4 * x.mode)
  let dl := c.plan.filter (fun x => x.dl)
  (d.gword act n 0x1EF00 + ((c.plan.filter (fun x => x.ul)).map (fun x => x.streams c.rx * ceilDiv (f * (cost x % 65536)) 256)).sum,
   d.gword act n 0x1EF04 + (dl.map (fun x => ceilDiv (f * c.tx * (cost x / 65536)) 256)).sum)

/-- Bytes of the inputs and outputs of a cell's items: (MOD input, DEMOD input, MOD output). The coded bits of an interval are laid out
as one bit a bit, in whole bytes for each channel. -/
def Dev.gougeAreas (d : Dev) (act : Bool) (n : Nat) : Nat × Nat × Nat :=
  let c := d.cellCfg act n
  let p := d.get LTH_TICK_CFG_PERIOD
  let f := c.fmax p
  let dl := c.plan.filter (fun x => x.dl)
  ((dl.map (fun x => let b := modeBits (d.mode act n x.mode) c p; ceilDiv (ceilDiv b.1 b.2) 8)).sum,
   ((c.plan.filter (fun x => x.ul)).map (fun x => x.streams c.rx * f * 4)).sum, f * c.tx * dl.length * 4)

/-- Bytes of the DEMOD output of a cell at F_max frames (R371, R373): a MISS segment, and for each output that is demodulated the soft bits of the interval
in one SOFT segment with a START and an END, and a NOISE segment for a survey output. -/
def Dev.demodRoom (d : Dev) (act : Bool) (n : Nat) : Nat :=
  let c := d.cellCfg act n
  let f := c.fmax (d.get LTH_TICK_CFG_PERIOD)
  12 + ((c.plan.filter (fun x => x.ul)).map (fun x =>
    let m := d.mode act n x.mode
    let soft := (ceilDiv (f * 1024) (max 1 (wfld m MODE_SPS)) + 1) * modeBps m
    (if x.comb = 1 then 2 else 1) * (4 + ceilDiv soft 4 * 4 + 20 + 8) + (if x.survey then 12 else 0))).sum

/-- Load of a core: above every limit when a bound exceeds 599,999 or an area does not hold its data or leaves data memory. -/
def Dev.gougeLoad (d : Dev) (act : Bool) (n : Nat) : Nat :=
  let b := d.gougeBounds act n
  let a := d.gougeAreas act n
  let g (f : Nat → Fld) : Nat := d.get (inSet act (f n))
  let fits := decide (a.1 + a.2.1 ≤ g GGC_IN_CFG_SIZE * 16) && decide (g GGC_IN_CFG_BASE + 2 * (g GGC_IN_CFG_SIZE * 16) ≤ 0x20000) &&
    decide (a.2.2 + (if (d.cellCfg act n).plan.any (fun x => x.ul) then d.demodRoom act n else 0) ≤ g GGC_OUT_CFG_SIZE * 16) && decide (g GGC_OUT_CFG_BASE + 2 * (g GGC_OUT_CFG_SIZE * 16) ≤ 0x20000)
  if !fits || b.1 > 599999 || b.2 > 599999 then 2 ^ 24 else b.1 + b.2

/-! ### Coded bits and IQ rates (R315, R340) -/

/-- Sum of two fractions in lowest terms. -/
def addFrac (a b : Nat × Nat) : Nat × Nat :=
  let n := a.1 * b.2 + b.1 * a.2
  let m := a.2 * b.2
  let g := max 1 (Nat.gcd n m)
  (n / g, m / g)

/-- Coded bits per tick of a set. -/
def Dev.codedBits (d : Dev) (act : Bool) : Nat × Nat :=
  let p := d.get LTH_TICK_CFG_PERIOD
  (d.validCells act).foldl (fun s n =>
    let c := d.cellCfg act n
    c.plan.foldl (fun s x =>
      let times := (if x.ul then (if x.comb = 1 then 2 else 1) else 0) + (if x.dl then 1 else 0)
      let b := modeBits (d.mode act n x.mode) c p
      if times = 0 || b.2 = 0 then s else addFrac s (times * b.1, b.2)) s) (0, 1)

/-- Bytes of `k` samples in a format (R289). -/
def iqBytes (fmt k : Nat) : Nat :=
  match fmt with
  | 0 => 4 * k
  | 1 => 3 * k
  | _ => 2 * k + ceilDiv k 16

/-- Bytes of an antenna's interval, with 58 or 62 bytes of framing a message. -/
def iqInterval (fmt s msg : Nat) (tag : Bool) : Nat :=
  let k := s / max 1 msg
  let r := s % max 1 msg
  k * iqBytes fmt msg + iqBytes fmt r + (k + (if r = 0 then 0 else 1)) * (if tag then 62 else 58)

/-- Bytes per interval of a port: the larger of ingress and egress. -/
def Dev.portBytes (d : Dev) (act : Bool) (port : Nat) : Nat :=
  let p := d.get LTH_TICK_CFG_PERIOD
  let msg := d.get (inSet act RAD_FRAME_CFG_DL_MSG_SAMPLES)
  let cells := ((d.validCells act).map (d.cellCfg act)).filter (fun c => c.port == port)
  max (cells.map (fun c => c.rx * iqInterval c.ulFmt (c.samples p) msg c.vlanEn)).sum
    (cells.map (fun c => c.tx * iqInterval c.dlFmt (c.samples p) msg c.vlanEn)).sum

/-! ### Admission (R61, R75, R76) -/

/-- Chucks of a tile, chuck 0 of the radio apart, whose context holds one of banks 0 to `b` - 1. -/
def Dev.bankHolders (d : Dev) (t b : Nat) : List Nat :=
  (List.range 4).filter (fun k => (d.chuck (t * 4 + k)).ctx.isSome &&
    (List.range b).any (fun i => (d.get (CUB_SEQ_PART_BANKS t k)).testBit i))

/-- R61: the staged entry's banks cannot be freed: a pinned context holds one, or chuck 0 is held, every resident context of the tile
is pinned and no other chuck is free. -/
def Dev.entryBlocked (d : Dev) (i : Nat) : Bool :=
  let t := d.get (LTH_RADIO_TILE_TILE i)
  let pinned (k : Nat) : Bool := match (d.chuck (t * 4 + k)).ctx with | some c => d.ctxPinned c | none => false
  let held := (List.range 4).filter (fun k => (d.chuck (t * 4 + k)).ctx.isSome)
  (d.bankHolders t (d.get (LTH_RADIO_TILE_CHUCK0_BANKS i))).any pinned ||
  (held.contains 0 && held.all pinned && held.length == 4)

/-- The Lathe's verdict on the staged set: (KIND, INDEX) of LTH_ADMIT_DETAIL, (0, 0) when it is admitted. The conditions are taken in
the order of R75's table, each over its units in ascending order. -/
def Dev.admitVerdict (d : Dev) : Nat × Nat :=
  let keep := 100 - d.get LTH_RADIO_CFG_MARGIN_PCT
  let p := d.get LTH_TICK_CFG_PERIOD
  let entries := (List.range 32).filter (fun i => d.is (LTH_RADIO_TILE_VALID i))
  let cells := d.validCells false
  let reserved := d.tickCycles * d.get LTH_RADIO_CFG_RESERVE_PCT
  let bits := d.codedBits false
  let hit (k : Nat) (l : List Nat) (bad : Nat → Bool) : Option (Nat × Nat) := (l.find? bad).map (fun i => (k, i))
  ((hit 1 entries (fun i => decide (d.entryLoad false i * 10000 > keep * reserved))).or
  ((hit 2 cells (fun n => decide (d.gougeLoad false n * 100 > keep * 150000 * p))).or
  ((if bits.1 * 100 > keep * 1600000 * p * bits.2 then some (3, 0) else none).or
  ((hit 4 (List.range 4) (fun q => decide (d.portBytes false q * 8000 * 100 > keep * 50000000000 * p))).or
  ((hit 5 entries (fun i => (d.entryItems false i).any (fun x =>
      decide (x.item.bound + x.item.release + 96 > x.item.deadline)))).or
  ((hit 5 cells (fun n => let b := d.gougeBounds false n
      decide (ceilDiv (max b.1 b.2) 2 + 96 > d.tickCycles - 1200))).or
  (hit 6 entries d.entryBlocked))))))).getD (0, 0)

/-! ### Freeing banks and chuck 0 for an admitted set (R61) -/

/-- Moves the context of chuck 0 to another chuck of its tile; its banks, its data and its semaphores stay. -/
def Dev.moveChuck0 (d : Dev) (t k : Nat) : Dev :=
  let x := d.chuck (t * 4)
  let copy (d : Dev) (f : Nat → Nat → Fld) : Dev := d.set (f t k) (d.get (f t 0))
  match x.ctx with
  | none => d
  | some c =>
    let d := d.setChuck (t * 4 + k) x
    let d := [CUB_SEQ_PART_BANKS, CUB_SEQ_PART_CONTEXT, CUB_SEQ_PART_VALID, CUB_CFG_FMT_A, CUB_CFG_FMT_B, CUB_CFG_DATAFLOW, CUB_CFG_HOLD,
      CUB_CFG_SHIFT, CUB_MASK_MN_MASK_M, CUB_MASK_MN_MASK_N, CUB_MASK_K_MASK_K].foldl copy d
    let d := forN 8 d (fun d s => d.set (CUB_SEQ_SEM_COUNT t k s) (d.get (CUB_SEQ_SEM_COUNT t 0 s)))
    let d := d.freeChuck (t * 4)
    if x.resident then (d.set (LTH_CTX_RESIDENT c) 1).set (LTH_CTX_CHUCK c) k else d

/-- A chuck of a tile holds a swappable resident context. -/
def Dev.swappable (d : Dev) (t k : Nat) : Bool :=
  let x := d.chuck (t * 4 + k)
  x.resident && (match x.ctx with | some c => !d.ctxPinned c | none => false)

/-- It may be evicted for the radio now: no item in progress, no mirror tick, its save home not being moved (R241). -/
def Dev.radioVictim (d : Dev) (t k : Nat) : Bool :=
  d.swappable t k && !(match (d.chuck (t * 4 + k)).ctx with | some c => d.homeBusy c | none => false) && !(d.chuck (t * 4 + k)).busy && (d.tile t).mirror == 0

/-- The least recently run swappable context of a tile. -/
def Dev.leastRecent (d : Dev) (t : Nat) : Option Nat :=
  (((List.range 4).filter (d.swappable t)).mergeSort (fun a b =>
    decide ((d.chuck (t * 4 + a)).lastRun ≤ (d.chuck (t * 4 + b)).lastRun))).head?

/-- One boundary's evictions and moves for a pending entry. Where no chuck is free, the least recently run swappable context goes, once it has no item
in progress. -/
def freeEntry (m : Mem) (d : Dev) (i : Nat) : Dev :=
  let t := d.get (LTH_RADIO_TILE_TILE i)
  let d := (d.bankHolders t (d.get (LTH_RADIO_TILE_CHUCK0_BANKS i))).foldl (fun d k =>
    if d.radioVictim t k then startEvict m d (t * 4 + k) else d) d
  if (d.chuck (t * 4)).ctx.isNone || (d.radioEntry t).isSome then d
  else
    match d.freeChuckOf t with
    | some k => if (d.chuck (t * 4)).resident && !(d.chuck (t * 4)).busy then d.moveChuck0 t k else d
    | none =>
      if d.lathe.swaps.any (fun s => s.tile == t && s.out) then d
      else
        match d.leastRecent t with
        | some k => if d.radioVictim t k then startEvict m d (t * 4 + k) else d
        | none => d

/-- The entry's banks are free, and chuck 0 with them. -/
def Dev.entryFree (d : Dev) (i : Nat) : Bool :=
  let t := d.get (LTH_RADIO_TILE_TILE i)
  (d.bankHolders t (d.get (LTH_RADIO_TILE_CHUCK0_BANKS i))).isEmpty && (d.chuck (t * 4)).ctx.isNone

/-- The boundary's part of R61 for the pending set. -/
def freeForRadio (m : Mem) (d : Dev) : Dev :=
  if d.is RAD_CFG_CTRL_PENDING then
    ((List.range 32).filter (fun i => d.is (LTH_RADIO_TILE_VALID i))).foldl (fun d i => freeEntry m d i) d
  else d

/-- The first boundary at least `k` whole ticks later (R300, R303, R416). -/
def Dev.ticksLater (d : Dev) (k : Nat) : Nat :=
  d.get LTH_TICK_COUNT_COUNT + k + (if d.T = d.lathe.boundaryT then 0 else 1)

/-- Ticks per frame, and the first frame boundary from boundary `k` on (R292). -/
def Dev.frameTicks (d : Dev) : Nat := max 1 (d.get (actF RAD_FRAME_CFG_FRAME_TICKS))
def Dev.frameFrom (d : Dev) (k : Nat) : Nat := ceilDiv k d.frameTicks * d.frameTicks

/-- RAD_CFG_COMMIT (R300): validation, admission, and the set is pending. -/
def radioCommitOp (d : Dev) : Dev :=
  if d.is RAD_CFG_CTRL_PENDING then d.set RAD_CFG_CTRL_RESULT stREFUSED_STATE
  else
    match d.radioCheck with
    | some e =>
      (((d.set RAD_CFG_CTRL_RESULT stREFUSED_STATE).set RAD_CFG_ERR_CELL e.1).set RAD_CFG_ERR_CH e.2.1).set RAD_CFG_ERR_CHECK e.2.2
    | none =>
      let d := ((d.set RAD_CFG_ERR_CELL 0).set RAD_CFG_ERR_CH 0x1FF).set RAD_CFG_ERR_CHECK 0
      let v := d.admitVerdict
      let st := if v.1 = 0 then stOK else stREFUSED_STATE
      let d := (((d.set LTH_STATUS_LAST_ADMIT st).set LTH_ADMIT_DETAIL_KIND v.1).set LTH_ADMIT_DETAIL_INDEX v.2).set
        RAD_CFG_CTRL_RESULT st
      if v.1 = 0 then
        let d := { d with rad := { d.rad with admitTick := d.ticksLater 2 } }
        let d := d.set RAD_CFG_CTRL_PENDING 1
        let d := forN 32 d (fun d i => d.set (LTH_RADIO_LOAD_LOAD i) (if d.is (LTH_RADIO_TILE_VALID i) then d.entryLoad false i else 0))
        let b := d.codedBits false
        let d := d.set RAD_CE_LOAD_BITS (ceilDiv b.1 b.2)
        forN 512 d (fun d n => d.set (GGC_LOAD_LOAD n) (if d.is (RAD_CELL_VALID n) then d.gougeLoad false n else 0))
      else d

end Sys2Proof.Machine
end

