-- ==== Sys2Proof/Machine/Chan.lean ====
section
/-!
DEFINITION. Machine/Chan.lean: the channeliser passes U1, U2, CB, D2 and D1 (R304-R311) and the mover's part after each radio item
(R312). A pass is computed as its complex INT16 matrix operation (R133-R135): steps of eight lanes, each shifted by ACC_SHIFT and added to 32-bit
words, then the drain.
-/

namespace Sys2Proof.Machine

/-- A complex INT16 word (R122). -/
def cword (re im : Int) : W32 := BitVec.ofNat 32 (encInt 16 re + 65536 * encInt 16 im)
def wre (w : W32) : Int := cRe w.toNat
def wim (w : W32) : Int := cIm w.toNat

/-- Q(a * e^(j 2π n / d)) of R306, for a whole number of turns per d (the sign is in `n`). -/
def twiddle (a : Int) (n d : Nat) : Int × Int :=
  let t := turnFix n d
  (roundAway (a * t.1) (2 ^ 96), roundAway (a * t.2) (2 ^ 96))

/-- -n modulo d: the conjugate twiddle's index. -/
def negTurn (n d : Nat) : Nat := (d - n % d) % d

/-- The sum of a step's complex products (R133). -/
def stepSum (l : List (W32 × (Int × Int))) : Int × Int :=
  l.foldl (fun s x => (s.1 + wre x.1 * x.2.1 - wim x.1 * x.2.2, s.2 + wre x.1 * x.2.2 + wim x.1 * x.2.1)) (0, 0)

/-- Accumulation over steps of eight lanes (R134), and whether a sum was clamped. -/
def passAcc (sh : Nat) : Nat → List (W32 × (Int × Int)) → Int × Int × Bool → Int × Int × Bool
  | 0, _, a => a
  | fuel + 1, l, a =>
    if l.isEmpty then a
    else
      let v := stepSum (l.take 8)
      let re := a.1 + shiftHalfUp v.1 sh
      let im := a.2.1 + shiftHalfUp v.2 sh
      let c (x : Int) : Int := clampInt (-2147483648) 2147483647 x
      passAcc sh fuel (l.drop 8) (c re, c im, a.2.2 || c re != re || c im != im)

/-- One output element of a pass: the word, whether CPX_SAT is set and whether DRAIN_SAT is set (R134, R135). -/
def passDot (acc out : Nat) (l : List (W32 × (Int × Int))) : W32 × Bool × Bool :=
  let a := passAcc acc (l.length + 1) l (0, 0, false)
  let re := shiftHalfUp a.1 out
  let im := shiftHalfUp a.2.1 out
  let c (x : Int) : Int := clampInt (-32768) 32767 x
  (cword (c re) (c im), a.2.2, c re != re || c im != im)

/-- The words of a pass, with the flags of all of them. -/
def passWords (l : List (W32 × Bool × Bool)) : List W32 × Bool × Bool :=
  (l.map (·.1), l.any (fun x => x.2.1), l.any (fun x => x.2.2))

/-- First and one past the last uplink frame of the interval that begins at sample `s0` (R304): frame m belongs to the interval that holds sample
(m + 1) H - 1. -/
def ulFrames (s0 s h : Nat) : Nat × Nat := (s0 / h, (s0 + s) / h)

/-- First and one past the last downlink frame and block of that interval: block q belongs to the interval that holds sample q H. -/
def dlFrames (s0 s h : Nat) : Nat × Nat := (ceilDiv s0 h, ceilDiv (s0 + s) h)

/-- Frames from `lo` to `hi` - 1. -/
def span (r : Nat × Nat) : List Nat := (List.range (r.2 - r.1)).map (fun i => r.1 + i)

/-- Tap of lane `lane` of U1's run n2 (R306). -/
def u1Tap (c : CellCfg) (n2 lane : Nat) : Nat := (ulFactor c.ndft).2 * (lane / c.taps) + n2 + lane % c.taps * c.dft

/-- The row of frame m of U1's run n2 (R306). `x` holds the samples from sample s0 - TN on. -/
def u1Row (c : CellCfg) (s0 m n2 : Nat) (x : List W32) : List W32 :=
  (List.range ((ulFactor c.ndft).1 * c.taps)).map (fun lane => x.getD ((m + 1) * c.hop + u1Tap c n2 lane - s0) 0#32)

/-- Column k1 of the matrix of U1's run n2 (R306). -/
def u1Col (d : Dev) (c : CellCfg) (n2 k1 : Nat) : List (Int × Int) :=
  (List.range ((ulFactor c.ndft).1 * c.taps)).map (fun lane =>
    twiddle (d.proto true c.ndft (u1Tap c n2 lane)) (negTurn (k1 * u1Tap c n2 lane) c.dft) c.dft)

/-- One frame of U1 (R306): G[n2][k1] at n2 * N1 + k1. -/
def passU1 (d : Dev) (c : CellCfg) (s0 m : Nat) (x : List W32) : List (W32 × Bool × Bool) :=
  let u := ulFactor c.ndft
  (List.range c.dft).map (fun i =>
    passDot 15 c.scale1 ((u1Row c s0 m (i / u.1) x).zip (u1Col d c (i / u.1) (i % u.1))))

/-- The row k1 of a frame of U2 (R306), from the frame's G. -/
def u2Row (c : CellCfg) (g : List W32) (k1 : Nat) : List W32 :=
  (List.range (ulFactor c.ndft).2).map (fun n2 => g.getD (n2 * (ulFactor c.ndft).1 + k1) 0#32)

/-- Column k2 of U2's matrix (R306). -/
def u2Col (c : CellCfg) (k2 : Nat) : List (Int × Int) :=
  (List.range (ulFactor c.ndft).2).map (fun n2 => twiddle 32767 (negTurn (n2 * k2) (ulFactor c.ndft).2) (ulFactor c.ndft).2)

/-- One frame of U2 (R306): Y[k] at k, from G; with N2 = 1 the pass is omitted, and Y is G (R305). -/
def passU2 (c : CellCfg) (g : List W32) : List (W32 × Bool × Bool) :=
  let u := ulFactor c.ndft
  if u.2 = 1 then (List.range c.dft).map (fun k => (g.getD k 0#32, false, false))
  else (List.range c.dft).map (fun k => passDot 15 c.scale2 ((u2Row c g (k % u.1)).zip (u2Col c (k / u.1))))

/-- Bin index of a channel (R307). -/
def binIndex (c : CellCfg) (b : Int) : Nat := (b % (c.dft : Int)).toNat

/-- The row of frame i of a channel's CB (R308), from Y by antenna and frame. -/
def cbRow (c : CellCfg) (y : List (List (List W32))) (x : ChPlan) (i : Nat) : List W32 :=
  (List.range c.rx).map (fun a => ((y.getD a []).getD i []).getD (binIndex c x.bin) 0#32)

/-- The weights of output o of a channel for the first n antennas (R308, R309). -/
def cbWeights (w : SMap W32) (x : ChPlan) (o n : Nat) : List W32 :=
  (List.range n).map (fun a => sget w (x.ch * 16 + o * 8 + a) (if a = 0 then 0x4000#32 else 0#32))

/-- One output of CB (R308): output o of a channel in frame i. -/
def passCB (c : CellCfg) (y : List (List (List W32))) (w : SMap W32) (x : ChPlan) (o i : Nat) : W32 × Bool × Bool :=
  passDot 14 0 ((cbRow c y x i).zip ((cbWeights w x o c.rx).map (fun v => (wre v, wim v))))

/-- The row k1 of a frame of D2 (R311), from the frame's bins. -/
def d2Row (c : CellCfg) (s : List W32) (k1 : Nat) : List W32 :=
  (List.range (dlFactor c.ndft).2).map (fun k2 => s.getD (k1 + (dlFactor c.ndft).1 * k2) 0#32)

/-- Column n2 of D2's matrix (R311). -/
def d2Col (c : CellCfg) (n2 : Nat) : List (Int × Int) :=
  (List.range (dlFactor c.ndft).2).map (fun k2 => twiddle 32767 (n2 * k2) (dlFactor c.ndft).2)

/-- One frame of D2 (R311): G'[n2][k1] at n2 * N1 + k1, from the bins of a frame. -/
def passD2 (c : CellCfg) (s : List W32) : List (W32 × Bool × Bool) :=
  let w := dlFactor c.ndft
  if w.2 = 1 then (List.range c.dft).map (fun k => (s.getD k 0#32, false, false))
  else (List.range c.dft).map (fun i =>
    passDot 15 c.dlScale2 ((d2Row c s (i % w.1)).zip (d2Col c (i / w.1))))

/-- The row of block q of D1's run n2 (R311). `gp` gives G' of a frame. -/
def d1Row (c : CellCfg) (gp : Nat → List W32) (q n2 : Nat) : List W32 :=
  let n1 := (dlFactor c.ndft).1
  (List.range (2 * c.taps * n1)).map (fun lane =>
    if q < lane / n1 then 0#32 else (gp (q - lane / n1)).getD (n2 * n1 + lane % n1) 0#32)

/-- The column of D1's matrices that gives sample p of a block: column p / N2 of run p mod N2 (R311). -/
def d1Col (d : Dev) (c : CellCfg) (p : Nat) : List (Int × Int) :=
  let n1 := (dlFactor c.ndft).1
  (List.range (2 * c.taps * n1)).map (fun lane =>
    let l := p + c.hop * (lane / n1)
    twiddle (d.proto true c.ndft l) (lane % n1 * l) c.dft)

/-- One block of D1 (R311): the H samples of block q of an antenna. -/
def passD1 (d : Dev) (c : CellCfg) (gp : Nat → List W32) (q : Nat) : List (W32 × Bool × Bool) :=
  (List.range c.hop).map (fun p => passDot 15 c.dlScale1 ((d1Row c gp q (p % (dlFactor c.ndft).2)).zip (d1Col d c p)))

/-- The run state of a cell. -/
def Dev.setCell (d : Dev) (n : Nat) (x : CellRun) : Dev := { d with rad := { d.rad with cells := sput d.rad.cells n x } }

/-- Shows the clamps of a pass in CUB_TILE_NUM of the tile that ran it. -/
def Dev.passFlags (d : Dev) (t : Nat) (cpx drain : Bool) : Dev :=
  let d := if cpx then d.set (CUB_TILE_NUM_CPX_SAT t) 1 else d
  if drain then d.set (CUB_TILE_NUM_DRAIN_SAT t) 1 else d

/-- Splits words into lists of n. -/
def splitN (n : Nat) : Nat → List W32 → List (List W32)
  | 0, _ => []
  | k + 1, l => l.take n :: splitN n k (l.drop n)

/-- Sample index of the start of interval k of a cell on air since interval F. -/
def CellRun.start (r : CellRun) (c : CellCfg) (p k : Nat) : Nat := (k - r.first) * c.samples p

/-- The bins of frame i of an antenna in an interval. A SHADOW cell has none, and a cell that became PRIMARY (or went on air) at boundary B none up
to interval B + 3 (R295, R303). -/
def CellRun.binsOf (r : CellRun) (c : CellCfg) (k i a : Nat) : List W32 :=
  if c.role = 1 ∨ k ≤ r.since + 3 then [] else ((sget r.bins k []).getD a []).getD i []

/-- G' of frame m of an antenna as D1 takes it: with no pass D2 the bins themselves for a frame of the interval. -/
def CellRun.gpOf (r : CellRun) (c : CellCfg) (k : Nat) (qs : List Nat) (a m : Nat) : List W32 :=
  if (dlFactor c.ndft).2 = 1 ∧ qs.contains m then r.binsOf c k (m - qs.headD 0) a else (sget r.gp m []).getD a []

/-- The inputs of a radio item for one cell, each a list of rows (R306, R308, R311): U1 and D1 have an operand A for each n2, CB one for each
channel with its weights after it, eight lanes to an output (R314); a cell with N2 = 1 has none in U2 and D2 (R305). -/
def radioOperands (d : Dev) (it : RItem) (n : Nat) : List (List (List W32)) :=
  match sfind d.rad.cells n with
  | none => []
  | some r =>
    let c := d.cellCfg true n
    let s := c.samples (d.get LTH_TICK_CFG_PERIOD)
    let s0 := r.start c (d.get LTH_TICK_CFG_PERIOD) it.interval
    let ul := span (ulFrames s0 s c.hop)
    let qs := span (dlFrames s0 s c.hop)
    let u := ulFactor c.ndft
    let w := dlFactor c.ndft
    match it.kind with
    | 0 => (List.range u.2).map (fun n2 => (List.range c.rx).flatMap (fun a => ul.map (fun m => u1Row c s0 m n2 (r.input.getD a []))))
    | 1 => if u.2 = 1 then [] else [(List.range c.rx).flatMap (fun a => (List.range ul.length).flatMap (fun i =>
        (List.range u.1).map (fun k1 => u2Row c ((r.g.getD a []).getD i []) k1)))]
    | 2 => (c.plan.filter (fun x => x.ul && decide (x.comb < 2))).flatMap (fun x =>
        [(List.range ul.length).map (fun i => cbRow c r.y x i), (List.range (x.comb + 1)).map (fun o => cbWeights r.weights x o 8)])
    | 3 => if w.2 = 1 then [] else [(List.range c.tx).flatMap (fun a => (List.range qs.length).flatMap (fun i =>
        (List.range w.1).map (fun k1 => d2Row c (r.binsOf c it.interval i a) k1)))]
    | 4 => (List.range w.2).map (fun n2 => (List.range c.tx).flatMap (fun a => qs.map (fun q =>
        d1Row c (r.gpOf c it.interval qs a) q n2)))
    | _ => []

/-- Byte offset of lane `lane` of row `row` in an operand of `lanes` lanes (R161): blocks of 16 rows and eight lanes of four bytes, the slices of
a group following one another, the groups likewise. -/
def operandAt (lanes row lane : Nat) : Nat :=
  (row / 16 * ceilDiv lanes 8 + lane / 8) * 512 + row % 16 * 32 + lane % 8 * 4

/-- Bytes that an operand takes. -/
def operandBytes (rows : List (List W32)) : Nat := ceilDiv rows.length 16 * ceilDiv (rows.headD []).length 8 * 512

/-- Writes an operand into chuck 0's partition of a tile. -/
def Dev.putOperand (d : Dev) (t base : Nat) (rows : List (List W32)) : Dev :=
  forN rows.length d (fun d i => forN (rows.getD i []).length d (fun d l =>
    d.localPuts (t * 4) (base + operandAt (rows.headD []).length i l)
      ((toLE ((rows.getD i []).getD l 0#32).toNat 4).map (BitVec.ofNat 8))))

/-- Writes operands one after another into chuck 0's partition of a tile, from a base that the spec leaves open (log 80). -/
def Dev.putOperands (d : Dev) (t : Nat) (ops : List (List (List W32))) : Dev :=
  let d := (ops.foldl (fun (a : Dev × Nat) rows => (a.1.putOperand t a.2 rows, a.2 + operandBytes rows)) (d, Config.radioBase d.free)).1
  { d with free := d.free + 1 }

/-- RADIO_INPUT_ARRIVAL (R312): the mover has finished writing the item's input: it stands in chuck 0's partition. -/
def Dev.radioArrive (d : Dev) (t i : Nat) : Dev :=
  let x := d.tile t
  let it := x.radio.getD i {}
  let d := d.setTile t { x with radio := x.radio.set i { it with arrived := true } }
  d.putOperands t (it.cells.flatMap (fun n => radioOperands d it n))

/-- The matrices of a cell's N, in both directions (R315), as B operands, a row being a column of the matrix: U1 for each n2, U2, D2, and D1 for
each n2. -/
def radioMatrices (d : Dev) (c : CellCfg) : List (List (List W32)) :=
  let u := ulFactor c.ndft
  let w := dlFactor c.ndft
  let col (l : List (Int × Int)) : List W32 := l.map (fun v => cword v.1 v.2)
  (List.range u.2).map (fun n2 => (List.range u.1).map (fun k1 => col (u1Col d c n2 k1))) ++
  [(List.range u.2).map (fun k2 => col (u2Col c k2)), (List.range w.2).map (fun n2 => col (d2Col c n2))] ++
  (List.range w.2).map (fun n2 => (List.range (w.1 / 2)).map (fun j => col (d1Col d c (n2 + w.2 * j))))

/-- The matrices of every N used on a radio tile, put into chuck 0 when a configuration becomes active (R315). -/
def Dev.loadMatrices (d : Dev) (i : Nat) : Dev :=
  let cs := ((d.validCells true).filter (fun n => d.get (actF (RAD_CELL_TILE_ENTRY n)) == i)).map (fun n => d.cellCfg true n)
  let one (k : Nat) : List (List (List W32)) := match cs.find? (fun c => c.ndft == k) with | some c => radioMatrices d c | none => []
  if cs.isEmpty then d else d.putOperands (d.get (actF (LTH_RADIO_TILE_TILE i))) ((List.range 7).flatMap one)

/-- The output of a committed radio item for one cell, as rows in chuck 0 (R32, R162): G or Y by antenna and frame, the combined streams, G' by
frame and antenna, or the samples of each antenna. -/
def radioResult (d : Dev) (it : RItem) (n : Nat) : List (List W32) :=
  match sfind d.rad.cells n with
  | none => []
  | some r =>
    match it.kind with
    | 0 => r.g.flatten
    | 1 => r.y.flatten
    | 2 => r.comb.map (·.2)
    | 3 => r.gp.flatMap (·.2)
    | 4 => sget r.egress it.interval []
    | _ => []

/-- Writes output rows one after another into chuck 0's partition, from a base that the spec leaves open (log 80). -/
def Dev.putResult (d : Dev) (t : Nat) (rows : List (List W32)) : Dev :=
  let d := d.localPuts (t * 4) (Config.radioBase d.free) (rows.flatten.flatMap (fun w => (toLE w.toNat 4).map (BitVec.ofNat 8)))
  { d with free := d.free + 1 }

/-- The output of one radio item for one cell (R306, R308, R311, R312). -/
def radioOutput (d : Dev) (t : Nat) (it : RItem) (n : Nat) : Dev :=
  match sfind d.rad.cells n with
  | none => d
  | some r =>
    let c := d.cellCfg true n
    let p := d.get LTH_TICK_CFG_PERIOD
    let s := c.samples p
    let s0 := r.start c p it.interval
    let ul := span (ulFrames s0 s c.hop)
    match it.kind with
    | 0 =>
      let o := passWords ((List.range c.rx).flatMap (fun a => ul.flatMap (fun m => passU1 d c s0 m (r.input.getD a []))))
      let g := (List.range c.rx).map (fun a => splitN c.dft ul.length (o.1.drop (a * ul.length * c.dft)))
      (d.passFlags t o.2.1 o.2.2).setCell n { r with g := g, y := if (ulFactor c.ndft).2 = 1 then g else r.y }
    | 1 =>
      let o := passWords ((List.range c.rx).flatMap (fun a => (List.range ul.length).flatMap (fun i =>
        passU2 c ((r.g.getD a []).getD i []))))
      let y := (List.range c.rx).map (fun a => splitN c.dft ul.length (o.1.drop (a * ul.length * c.dft)))
      (d.passFlags t o.2.1 o.2.2).setCell n { r with y := y }
    | 2 =>
      (c.plan.filter (fun x => x.ul && decide (x.comb < 2))).foldl (fun d x => forN (x.comb + 1) d (fun d o =>
        let r := sget d.rad.cells n r
        let w := passWords ((List.range ul.length).map (fun i => passCB c r.y r.weights x o i))
        (d.passFlags t w.2.1 w.2.2).setCell n { r with comb := sput r.comb (x.ch * 2 + o) w.1 })) d
    | 3 =>
      (span (dlFrames s0 s c.hop)).foldl (fun d m =>
        let r := sget d.rad.cells n r
        let i := m - (dlFrames s0 s c.hop).1
        let w := (List.range c.tx).map (fun a => passWords (passD2 c (r.binsOf c it.interval i a)))
        (d.passFlags t (w.any (fun x => x.2.1)) (w.any (fun x => x.2.2))).setCell n
          { r with gp := sput r.gp m (w.map (·.1)) }) d
    | 4 =>
      let qs := span (dlFrames s0 s c.hop)
      let frame (a m : Nat) : List W32 := r.gpOf c it.interval qs a m
      let w := (List.range c.tx).map (fun a => passWords (qs.flatMap (fun q => passD1 d c (frame a) q)))
      let lead := ceilDiv s0 c.hop * c.hop - s0
      let out := (List.range c.tx).map (fun a =>
        (match sfind r.carry it.interval with | some l => l.getD a [] | none => List.replicate lead 0#32) ++ (w.getD a ([], false, false)).1)
      let old (m : Nat) : Bool := decide (m + 2 * c.taps ≤ (dlFrames s0 s c.hop).2)
      let keep := qs.foldl (fun g m => if (dlFactor c.ndft).2 = 1 then sput g m ((List.range c.tx).map (fun a => frame a m)) else g) r.gp
      (d.passFlags t (w.any (fun x => x.2.1)) (w.any (fun x => x.2.2))).setCell n
        { r with egress := sput r.egress it.interval (out.map (fun l => l.take s)),
                 carry := [(it.interval + 1, out.map (fun l => l.drop s))],
                 gp := keep.filter (fun e => !old e.1), bins := sdel r.bins it.interval }
    | _ => d

/-- The mover's work after a committed radio item (R312). -/
def moveOutputs (d : Dev) (t i : Nat) : Dev :=
  match (d.tile t).radio[i]? with
  | none => d
  | some it =>
    let d := it.cells.foldl (fun d n => radioOutput d t it n) d
    (d.putResult t (it.cells.flatMap (radioResult d it))).radioStage t i 5

end Sys2Proof.Machine
end

