-- ==== Sys2Proof/Machine/Pins.lean ====
section
/-!
DEFINITION. Machine/Pins.lean: the numbers of the low-speed pins in `Out.edges`, FAULT_N, and what has started (R502, R504).
-/

namespace Sys2Proof.Machine

/-- Pins that the device drives. -/
def pinPPS_OUT : Nat := 0
def pinPULSE (k : Nat) : Nat := 1 + k
def pinSPINDLE_SYNC : Nat := 5
def pinFAULT_N : Nat := 6
def pinTHERM_ALERT_N : Nat := 7
def pinTDO : Nat := 8

def pinNVM_CLK : Nat := 9
def pinNVM_CS_N : Nat := 10
/-- NVM_DQ0-NVM_DQ7, and NVM_DQS as number 8. -/
def pinNVM_DQ (k : Nat) : Nat := 11 + k
def pinAVS_CLK : Nat := 20
def pinAVS_MDATA : Nat := 21

/-- Pins that the device only reads. -/
def pinPWR_GOOD : Nat := 22
def pinSYS_RST_N : Nat := 23
def pinPERST_N : Nat := 24
def pinPPS_IN : Nat := 25
def pinAVS_SDATA : Nat := 26

/-- FAULT_N is driven low (R399, R504). -/
def Dev.faultN (d : Dev) : Dev :=
  if d.pins.faultLow then d else { d with pins := { d.pins with faultLow := true } }.edge pinFAULT_N 0

/-- FAULT_N is released. -/
def Dev.faultRelease (d : Dev) : Dev :=
  if d.pins.faultLow then { d with pins := { d.pins with faultLow := false } }.edge pinFAULT_N 1 else d

/-- The Tailstock has started (R463, R465): it has not in PHASE 0 and 1, and recovery (5) does without it (R478). -/
def Dev.tailstockUp (d : Dev) : Bool := decide (2 ≤ d.get FPL_BOOT_STATUS_PHASE) && d.get FPL_BOOT_STATUS_PHASE != 5

end Sys2Proof.Machine
end

