-- ==== Sys2Proof/Machine/Tsu.lean ====
section
/-!
DEFINITION. Machine/Tsu.lean: the time-stamping unit (R375-R392): the step, rate and slew, holdover, PPS_IN, port stamps, pulse
outputs, PPS_OUT.
-/

namespace Sys2Proof.Machine

/-! ### Numbers -/

/-- Signed value of a 32-bit register field. -/
def s32 (v : Nat) : Int := if v % 2 ^ 32 ≥ 2 ^ 31 then (v % 2 ^ 32 : Int) - 2 ^ 32 else (v % 2 ^ 32 : Int)

/-- Limits of RATE: ±200,000 ppb in units of 1/256 ppb. -/
def clampRate (r : Int) : Int := max (-51200000) (min 51200000 r)

/-- SLEW_MAX in force, ppm. -/
def Dev.slewMax (d : Dev) : Nat := min 200 (max 1 (d.get TSU_SERVO_CFG_SLEW_MAX))

def Dev.rate (d : Dev) : Int := s32 (d.get TSU_RATE_RATE)
def Dev.setRate (d : Dev) (r : Int) : Dev := d.set TSU_RATE_RATE (encInt 32 (clampRate r))

/-- The slew amount remaining, in `fine` units; TSU_SLEW shows it in whole nanoseconds, truncated toward zero. -/
def Dev.setSlew (d : Dev) (s : Int) : Dev :=
  let ns : Int := if s ≥ 0 then s / finePerNs else -((-s) / finePerNs)
  { d with tsu := { d.tsu with slew := s } }.set TSU_SLEW_AMOUNT (encInt 32 ns)

def Dev.setFine (d : Dev) (f : Nat) : Dev := { d with tsu := { d.tsu with fine := f } }

/-- The most that a slew changes T by in one cycle of the reference. -/
def Dev.slewStep (d : Dev) : Nat := 10 * 256000 * d.slewMax

/-- One cycle of the 100 MHz reference (R375, R380, R500): T gains 10 ns times 1 + (RATE + slew) × 10^-9; the slew part comes off the
amount remaining. -/
def tsuTick (d : Dev) : Dev :=
  let base : Int := 10 * finePerNs + 10 * d.rate
  let s := d.tsu.slew
  let part : Int := max (-(d.slewStep : Int)) (min d.slewStep s)
  let d := d.setFine ((d.tsu.fine : Int) + base + part).toNat
  if s = 0 then d else d.setSlew (s - part)

/-- SLEW_DONE (R380): the cycles that the remaining amount takes at SLEW_MAX have passed, and all of it has been applied to T. -/
def slewDoneOp (d : Dev) : Dev :=
  let n := ceilDiv d.tsu.slew.natAbs d.slewStep
  (d.setFine ((d.tsu.fine : Int) + n * (10 * finePerNs + 10 * d.rate) + d.tsu.slew).toNat).setSlew 0

/-! ### Pulse outputs (R390, R391) -/

def pulsesOf (d : Dev) (o : Nat) : Option Pulse := sfind d.tsu.pulses o

def Dev.setPulse (d : Dev) (o : Nat) (p : Pulse) : Dev :=
  ({ d with tsu := { d.tsu with pulses := sput d.tsu.pulses o p } }.set (TSU_PULSE_CTRL_ARMED o) 1).set (TSU_PULSE_NEXT_T o) p.next

/-- The level of an output: an armed one idles at its latched POL and is at 1 - POL in a pulse; an output that is not armed stands at POL. -/
def Dev.pulseLevel (d : Dev) (o : Nat) : Nat :=
  match pulsesOf d o with
  | some p => if p.active then 1 - p.pol else p.pol
  | none => d.get (TSU_PULSE_CTRL_POL o)

/-- Drives the edge that a change of an output's state makes now; `old` is the state before the change. -/
def Dev.pulseShow (d old : Dev) (o : Nat) : Dev :=
  if d.pulseLevel o = old.pulseLevel o then d else d.edge (pinPULSE o) (d.pulseLevel o)

/-- An output is disarmed: a pulse in progress ends, NEXT reads 0, MODE shows idle. -/
def Dev.pulseIdle (d : Dev) (o : Nat) : Dev :=
  (({ d with tsu := { d.tsu with pulses := sdel d.tsu.pulses o } }.set (TSU_PULSE_CTRL_ARMED o) 0).set (TSU_PULSE_NEXT_T o) 0).set
    (TSU_PULSE_CTRL_MODE o) 0

/-- The MODE write of an output: refused (BAD), too late (LATE), or armed. -/
def pulseArm (d : Dev) (o mode pol : Nat) : Dev :=
  let start := d.get (TSU_PULSE_START_T o)
  let period := d.get (TSU_PULSE_PERIOD_NS o)
  let width := d.get (TSU_PULSE_WIDTH_NS o)
  let d := d.pulseIdle o
  if width < 8 || (mode = 2 && width ≥ period) || period < 1000 || period > 4000000000 then d.set (TSU_PULSE_CTRL_BAD o) 1
  else if mode = 1 then
    if start < d.T + 1000 then d.set (TSU_PULSE_CTRL_LATE o) 1
    else (d.set (TSU_PULSE_CTRL_MODE o) 1).setPulse o ⟨start, period, width, pol, 1, start, 0, false⟩
  else
    let first := if start ≥ d.T + 1000 then start else start + ceilDiv (d.T + 1000 - start) period * period
    (d.set (TSU_PULSE_CTRL_MODE o) 2).setPulse o ⟨start, period, width, pol, 2, first, 0, false⟩

/-- TSU_PULSE_CTRL_WRITE: W1C bits, POL, then MODE; a write of MODE 3 leaves MODE as it is and arms nothing (R14). -/
def pulseCtrlOp (d : Dev) (o v : Nat) : Dev :=
  let w1c (d : Dev) (f : Fld) : Dev := if v.testBit f.lo then d.set f 0 else d
  let old := d
  let d := w1c (w1c (w1c d (TSU_PULSE_CTRL_LATE o)) (TSU_PULSE_CTRL_CANCELLED o)) (TSU_PULSE_CTRL_BAD o)
  let d := d.set (TSU_PULSE_CTRL_POL o) (v / 4)
  let d :=
    match v % 4 with
    | 0 => d.pulseIdle o
    | 3 => d
    | mode => pulseArm d o mode (v / 4 % 2)
  d.pulseShow old o

/-- Drives the edge of an armed output at its programmed time. The active level is 1 - POL. -/
def Dev.pulseDrive (d : Dev) (o : Nat) (p : Pulse) : Dev :=
  if p.active then
    let d := d.edgeAt (pinPULSE o) p.pol p.fall
    if p.mode = 1 then (let e := d.pulseIdle o; e.pulseShow (d.setPulse o { p with active := false }) o)
    else d.setPulse o { p with active := false }
  else
    (d.edgeAt (pinPULSE o) (1 - p.pol) p.next).setPulse o
      { p with active := true, next := if p.mode = 2 then p.next + p.period else 0, fall := p.next + p.width }

/-- PULSE_EDGE (R390, R391): an armed output reaches its next edge, which is compared with T: within 2 ns of the programmed T. -/
def pulseEdgeOp (d : Dev) (o : Nat) : Dev :=
  match pulsesOf d o with
  | none => d
  | some p => if d.is TSU_CTRL_EN && decide ((if p.active then p.fall else p.next) ≤ d.T + 2) then d.pulseDrive o p else d

/-- The step disarms every armed output and sets CANCELLED on it. -/
def Dev.pulsesCancel (d : Dev) : Dev :=
  (List.range 4).foldl (fun d o =>
    if (pulsesOf d o).isSome then ((d.pulseIdle o).pulseShow d o).set (TSU_PULSE_CTRL_CANCELLED o) 1 else d) d

/-! ### PPS_OUT (R392) -/

def Dev.setPps (d : Dev) (high : Bool) (last fall : Nat) : Dev :=
  { d with tsu := { d.tsu with ppsHigh := high, ppsLast := last, ppsFall := fall } }

/-- PPS_WIDTH in force, in nanoseconds. -/
def Dev.ppsWidth (d : Dev) : Nat := min 999 (max 1 (d.get TSU_PPS_OUT_CFG_PPS_WIDTH)) * 1000000

/-- PPS_OUT may run: time is valid, or OUT_BEFORE_VALID. -/
def Dev.ppsRuns (d : Dev) : Bool := d.is TSU_STATUS_VALID || d.is TSU_PPS_OUT_CFG_OUT_BEFORE_VALID

/-- PPS_OUT_EDGE (R392): up in the reference cycle in which T reaches a whole second, down after PPS_WIDTH. -/
def ppsOutOp (d : Dev) : Dev :=
  let t := d.T
  let sec := t / 1000000000
  if d.tsu.ppsHigh then
    if d.tsu.ppsFall ≤ t then (d.setPps false d.tsu.ppsLast d.tsu.ppsFall).edgeAt pinPPS_OUT 0 d.tsu.ppsFall else d
  else if d.ppsRuns && decide (t % 1000000000 ≤ 10) && decide (d.tsu.ppsLast < sec) then
    (d.setPps true sec (sec * 1000000000 + d.ppsWidth)).edgeAt pinPPS_OUT 1 (sec * 1000000000)
  else d

/-- PPS_OUT is driven low while it may not run: what a write of TSU_PPS_OUT_CFG does beside the register. -/
def Dev.ppsCheck (d : Dev) : Dev :=
  if d.tsu.ppsHigh && !d.ppsRuns then (d.setPps false d.tsu.ppsLast d.tsu.ppsFall).edge pinPPS_OUT 0 else d

/-- The step makes no edge of PPS_OUT: a pulse in progress keeps what is left of its width, and ends 1 µs before the next whole second at the
latest; the next rising edge falls at a whole second after the new T. -/
def Dev.ppsStep (d : Dev) (old t : Nat) : Dev :=
  let sec := t / 1000000000
  d.setPps d.tsu.ppsHigh sec (min (t + (d.tsu.ppsFall - old)) ((sec + 1) * 1000000000 - 1000))

/-! ### The step and the servo (R379-R385) -/

/-- The T kept of the last boundary and the last edge of SPINDLE_SYNC moves with a step, so that the phase between them stays what it is (R82). -/
def Dev.moveEdges (d : Dev) (by_ : Int) : Dev :=
  { d with lathe := { d.lathe with boundaryT := d.lathe.boundaryT + by_, edgeT := d.lathe.edgeT.map (· + by_) } }

/-- The step: T jumps once. -/
def Dev.step (d : Dev) (t : Nat) : Dev :=
  let old := d.T
  let d := d.moveEdges ((t : Int) - old)
  let d := (d.setFine (t * finePerNs)).setSlew 0
  let d := ((d.set TSU_STEP_OLD_T old).set TSU_STATUS_VALID 1).set TSU_STATUS_STEPPED 1
  (d.ppsStep old t).pulsesCancel.event srcFaceplate .timeStep [old, t]

/-- TSU_STEP's high word is written. -/
def tsuStepOp (d : Dev) (t : Nat) : Dev :=
  if d.get TSU_CTRL_REF = 1 && !d.is TSU_STATUS_STEPPED then d.step t else d.set TSU_STATUS_STEP_REFUSED 1

/-- Holdover begins (R382). -/
def Dev.holdover (d : Dev) : Dev :=
  if d.is TSU_STATUS_HOLDOVER then d
  else
    let left := d.get TSU_SLEW_AMOUNT
    let d := ((d.set TSU_STATUS_HOLDOVER 1).set TSU_CTRL_HOLD 1).set TSU_STATUS_PPS_LOCKED 0
    let d := (d.set TSU_SLEW_LOST_AMOUNT left).setSlew 0
    { d with tsu := { d.tsu with good := 0 } }.event srcFaceplate .holdover []

/-- Holdover ends (R383). -/
def Dev.holdEnd (d : Dev) : Dev := (d.set TSU_STATUS_HOLDOVER 0).set TSU_CTRL_HOLD 0

/-- TSU_CTRL is written: EN, REF (3 leaves it), then HOLD. -/
def tsuCtrlOp (d : Dev) (v : Nat) : Dev :=
  let d := d.set TSU_CTRL_EN v
  let ref := v / 2 % 4
  let d := if ref = 3 then d else d.set TSU_CTRL_REF ref
  if v.testBit 3 && d.get TSU_CTRL_REF = 1 && d.is TSU_STATUS_STEPPED then d.holdover else d

/-- TSU_RATE is written. -/
def tsuRateOp (d : Dev) (v : Nat) : Dev :=
  let d := d.setRate (s32 v)
  if d.get TSU_CTRL_REF = 1 then d.holdEnd else d

/-- TSU_SLEW is written: the amount replaces what remains. -/
def tsuSlewOp (d : Dev) (v : Nat) : Dev :=
  let d := d.setSlew (s32 v * finePerNs)
  if d.get TSU_CTRL_REF = 1 then d.holdEnd else d

/-- SERVO_TIMEOUT (R382). -/
def servoTimeoutOp (d : Dev) : Dev :=
  if d.get TSU_CTRL_REF = 1 && d.is TSU_STATUS_VALID then d.holdover else d

/-- PPS_TIMEOUT (R382). -/
def ppsTimeoutOp (d : Dev) : Dev :=
  if d.get TSU_CTRL_REF = 2 && d.is TSU_STATUS_VALID then d.holdover else d

/-- The error of an edge: T less the nearest whole second. -/
def ppsError (t : Nat) : Int :=
  let r := t % 1000000000
  if r ≥ 500000000 then (r : Int) - 1000000000 else r

/-- PPS_IN rises (R379, R384, R385). -/
def ppsInOp (d : Dev) : Dev :=
  let t := d.T
  if d.get TSU_CTRL_REF = 2 && !d.is TSU_STATUS_STEPPED then
    let s := d.get TSU_PPS_TOD_SEC
    d.step ((if s = 0 then t / 1000000000 + 1 else s) * 1000000000)
  else
    let e := ppsError t
    let a := e.natAbs
    let d := ((d.set TSU_PPS_CAP_T t).set TSU_PPS_ERR_E (encInt 32 e)).bump TSU_PPS_CNT_EDGES 1
    if d.get TSU_CTRL_REF ≠ 2 then d
    else
      let d := if a > 100 then d.set TSU_STATUS_PPS_LOCKED 0 else d
      if a > d.get TSU_SERVO_CFG_PPS_WINDOW * 1000 then
        let d := d.bump TSU_PPS_CNT_REJECT 1
        let n := d.tsu.rejects + 1
        let d := { d with tsu := { d.tsu with good := 0, rejects := n } }
        if n ≥ 3 then d.holdover else d
      else
        let ki := min 8 (d.get TSU_SERVO_CFG_KI)
        let d := (d.setSlew (-e * finePerNs)).setRate (d.rate - e * 256 / 2 ^ ki)
        let d := d.holdEnd
        let n := if a ≤ 100 then d.tsu.good + 1 else 0
        let d := { d with tsu := { d.tsu with good := n, rejects := 0 } }
        if n ≥ 4 then d.set TSU_STATUS_PPS_LOCKED 1 else d

/-! ### The egress log (R388) -/

/-- A read of TSU_TXTS_POP's low word: the oldest entry is removed. -/
def Dev.txPop (d : Dev) : Dev × Option TxStamp :=
  match d.tsu.txLog with
  | [] => (d, none)
  | s :: rest => ({ d with tsu := { d.tsu with txLog := rest, txLost := 0 } }.set TSU_TXTS_TIME_T (s.stamp / 65536 % 2 ^ 64), some s)

end Sys2Proof.Machine
end

