-- ==== Sys2Proof/Machine/Windows.lean ====
section
/-!
DEFINITION. Machine/Windows.lean: the lines of collective windows (R421, R423) as fabric stores write them, and the form of the
Tailstock's messages (R413).
-/

namespace Sys2Proof.Machine

/-! ### Messages of the Tailstock (R413) -/


/-- Payload of a Tailstock message: TYPE in byte 0, the table index in bytes 2-3; the fields that R413 lists for the type follow
from byte 8 on, eight bytes each. -/
def msgPayload (type index : Nat) (fields : List Nat) : List Byte :=
  bytesLE 8 (type + index % 65536 * 65536) ++ fields.flatMap (bytesLE 8)

def msgType (pk : Packet) : Nat := (pk.payload.getD 0 0#8).toNat
def msgIndex (pk : Packet) : Nat := leNat ((pk.payload.drop 2).take 2)
/-- Field `i` of a message. -/
def msgField (pk : Packet) (i : Nat) : Nat := leNat ((pk.payload.drop (8 + 8 * i)).take 8)

/-- Sends a message of the Tailstock to a node (R413). -/
def Dev.sendMsg (d : Dev) (dst type index : Nat) (fields : List Nat) : Dev :=
  d.sendMgmt dst opMGMT_MSG (msgPayload type index fields)

/-! ### Lines of windows (R421) -/

/-- The term of line `i`. -/
def winTerm (line : List Byte) (i : Nat) : Nat :=
  let bs := line ++ bytesLE 8 i
  crc64 (fun j => (bs.getD j 0#8).toNat) bs.length

def Dev.win (d : Dev) (w : Nat) : Cwin := sget d.tls.wins w {}
def Dev.setWin (d : Dev) (w : Nat) (x : Cwin) : Dev := { d with tls := { d.tls with wins := sput d.tls.wins w x } }

/-- The digest of a round: the sum of its terms. -/
def Cwin.digest (x : Cwin) : Nat := (x.terms.map (·.2)).sum % 2 ^ 64

/-- An armed window of a kind covers an offset. -/
def Dev.winCovers (d : Dev) (w kind off : Nat) : Bool :=
  d.is (TLS_CWIN_VALID w) && d.get (TLS_CWIN_KIND w) == kind && decide (d.get (TLS_CWIN_BASE w) ≤ off) &&
  decide (off < d.get (TLS_CWIN_BASE w) + 128 * d.get (TLS_CWIN_LINES w))

/-- A write to a window: a whole line gives its term, anything less makes the state ERROR. A window that has sealed takes no
further line of the round. -/
def Dev.winWrite (d : Dev) (w off : Nat) (bytes : List Byte) : Dev :=
  if bytes.length ≠ 128 then d.set (TLS_CWIN_STATE w) 2
  else if d.get (TLS_CWIN_STATE w) ≠ 0 then d
  else
    let i := (off - d.get (TLS_CWIN_BASE w)) / 128
    let x := d.win w
    d.setWin w { x with terms := sput x.terms i (winTerm bytes i) }

/-- A store that arrives from a peer is recorded by the receive windows that it falls in; other writes of a peer carry fewer
than 128 stored bytes here. -/
def Dev.winReceive (d : Dev) (src off : Nat) (bytes : List Byte) : Dev :=
  (List.range 64).foldl (fun d w =>
    if d.winCovers w 1 off &&
       (d.get (TLS_CWIN_PEER0 w) == src || (d.get (TLS_CWIN_PEER1 w) == src && src != 0xFFFF))
    then d.winWrite w off bytes else d) d

/-- A store that leaves for a node is recorded by the send windows that it falls in; the answer says whether it leaves as
nothing (R423). -/
def Dev.winSend (d : Dev) (dst off : Nat) (bytes : List Byte) : Dev × Bool :=
  (List.range 64).foldl (fun r w =>
    if r.1.winCovers w 0 off && r.1.get (TLS_CWIN_PEER0 w) == dst
    then (r.1.winWrite w off bytes, r.2 || r.1.is (TLS_CWIN_DRY w)) else r) (d, false)

end Sys2Proof.Machine
end

