-- ==== Sys2Proof/Machine/Front.lean ====
section
/-!
DEFINITION. Machine/Front.lean: the fronthaul ports (R281-R283), eCPRI messages (R284-R288), IQ sample formats (R289, R290), ingress windows
(R294), slot misses (R78, R79, R351) and downlink egress (R287).
-/

namespace Sys2Proof.Machine

/-! ### Slot misses (R78, R79, R351) -/

/-- Missed interval already known. -/
def Dev.missKnown (d : Dev) (n k : Nat) (dl : Bool) : Bool :=
  d.rad.misses.any (fun x => x.cell == n && x.interval == k && x.dl == dl)

/-- Reasons of R351. -/
def rsIQ_MISSING : Nat := 0x01
def rsITEM_CUT : Nat := 0x02
def rsMISALIGNED : Nat := 0x07

/-- A slot miss of a cell and interval, once for each direction: counted, reported to the Tailstock, and a record to be written. -/
def Dev.addMiss (d : Dev) (n k : Nat) (dl : Bool) (reason : Nat) : Dev :=
  if d.missKnown n k dl then d
  else
    let d := { d with rad := { d.rad with misses := d.rad.misses ++ [(⟨n, k, dl, reason, false⟩ : Miss)] } }
    (d.bump LTH_SLOT_MISS_CNT_COUNT 1).event srcLathe .slotMiss [n, k, reason]

/-- The reason of a missed interval, if it is one. -/
def Dev.missReason (d : Dev) (n k : Nat) (dl : Bool) : Option Nat :=
  (d.rad.misses.find? (fun x => x.cell == n && x.interval == k && x.dl == dl)).map (·.reason)

/-! ### Ports (R281-R283) -/

/-- The port trains and runs. -/
def Dev.portRuns (d : Dev) (p : Nat) : Bool := d.is RAD_CTRL_EN && d.is (RAD_PORT_CFG_EN p)

/-- FRONTHAUL_LINK_CHANGE. -/
def linkChangeOp (d : Dev) (p : Nat) (up : Bool) : Dev :=
  d.set (RAD_PORT_CFG_UP p) (if up && d.portRuns p then 1 else 0)

/-- Sends an Ethernet frame from the port's address, with an 802.1Q tag of PCP 7 when a VLAN is given (R283). The FCS is not
held. -/
def Dev.sendFrame (d : Dev) (p dst : Nat) (vlan : Option Nat) (etype : Nat) (payload : List Byte) : Dev :=
  let tag := match vlan with | some v => beBytes 2 0x8100 ++ beBytes 2 (7 * 8192 + v) | none => []
  let bytes := beBytes 6 dst ++ beBytes 6 (d.get (RAD_PORT_MAC_MAC p)) ++ tag ++ beBytes 2 etype ++ payload
  { d with out := { d.out with frames := d.out.frames ++ [(p, bytes)] } }

/-- R282: the frame passes the filter. `some true` counts it in FCS, `some false` in OTHER, `none` accepts it. -/
def Dev.frameRefused (d : Dev) (p : Nat) (f : Frame) : Option Bool :=
  if !f.fcsOk then some true
  else if (f.dst = d.get (RAD_PORT_MAC_MAC p) ∨ f.dst = 0x011B19000000 ∨ f.dst = 0x0180C200000E) ∧
      f.tags.length ≤ 1 ∧ f.tags.all (fun t => t.1 == 0x8100) ∧ (f.etype = 0xAEFE ∨ f.etype = 0x88F7) ∧
      14 + 4 * f.tags.length + f.payload.length + 4 ≤ 9216 then none
  else some false

/-! ### IQ samples (R289) -/

/-- Samples of wire bytes in a format: complex INT16 words. -/
def iqDecode (fmt : Nat) (bs : List Byte) (count : Nat) : List W32 :=
  let at1 (i : Nat) : Nat := (bs.getD i 0#8).toNat
  (List.range count).map (fun i =>
    match fmt with
    | 0 => cword (sext 16 (at1 (4 * i) * 256 + at1 (4 * i + 1))) (sext 16 (at1 (4 * i + 2) * 256 + at1 (4 * i + 3)))
    | 1 =>
      let a := at1 (3 * i)
      let b := at1 (3 * i + 1)
      cword (sext 12 (a * 16 + b / 16) * 16) (sext 12 (b % 16 * 256 + at1 (3 * i + 2)) * 16)
    | _ =>
      let o := i / 16 * 33
      let e := at1 o % 16
      cword (sext 8 (at1 (o + 1 + 2 * (i % 16))) * 2 ^ e) (sext 8 (at1 (o + 2 + 2 * (i % 16))) * 2 ^ e))

/-- The samples of a staged message: the mover converts the received format as it writes (R32, R312). -/
def IqRun.samples (r : IqRun) : List W32 := iqDecode r.fmt r.raw r.count

/-- A BFP exponent byte above 8 or with a reserved bit set. -/
def bfpBad (bs : List Byte) (count : Nat) : Bool :=
  (List.range (ceilDiv count 16)).any (fun b => decide ((bs.getD (33 * b) 0#8).toNat > 8))

/-- The current tick. -/
def Dev.tick (d : Dev) : Nat := d.get LTH_TICK_COUNT_COUNT

/-- The tick number near the current one whose low 32 bits are given. -/
def Dev.nearTick (d : Dev) (low : Nat) : Int := (d.tick : Int) + s32 ((low + 2 ^ 32 - d.tick % 2 ^ 32) % 2 ^ 32)

/-- R294: interval k of the cell is open for samples. -/
def Dev.windowOpen (d : Dev) (n : Nat) (k : Int) : Bool :=
  match sfind d.rad.cells n with
  | none => false
  | some r =>
    decide (k ≥ r.first) && decide (k ≤ d.tick + 1) && decide (k + 1 ≥ (d.tick : Int)) &&
    !d.rad.closed.contains (n, k.toNat)

/-- Counts a discarded message (R286): in LATE or ECPRI of the port, and in DISC of the cell where one is known. -/
def Dev.iqDiscard (d : Dev) (p : Nat) (cell : Option Nat) (late : Bool) : Dev :=
  let d := d.bump (if late then RAD_PORT_DISC_LATE p else RAD_PORT_DISC_ECPRI p) 1
  match cell with
  | some n => d.bump (RAD_CELL_STAT_DISC n) 1
  | none => d

/-- R286: PAYLOAD_SIZE agrees with the frame: the message fills the payload, short messages being padded to the least frame. -/
def sizeAgrees (f : Frame) : Bool :=
  let n := 4 + beNat f.payload 2 2
  f.payload.length == n || (f.payload.length == 46 - 4 * f.tags.length && decide (n ≤ f.payload.length))

/-- The active valid cell of a port with a PCID_HI. -/
def Dev.cellOf (d : Dev) (p pcid : Nat) : Option Nat :=
  (d.validCells true).find? (fun n => d.get (actF (RAD_CELL_PORT n)) == p && d.get (actF (RAD_CELL_PCID_HI n)) == pcid)

/-- An IQ data message (R285, R286): its samples are staged, or it is discarded and counted. -/
def iqMessage (d : Dev) (p : Nat) (f : Frame) : Dev :=
  let b := f.payload
  let cell := d.cellOf p (beNat b 4 2 / 8)
  let bad := d.iqDiscard p cell false
  if beNat b 0 1 / 16 ≠ 1 || beNat b 0 1 % 2 ≠ 0 || beNat b 1 1 ≠ 0 then bad
  else
    let fc := beNat b 14 2
    let count := fc % 4096
    let fmt := fc / 4096 % 4
    let off := beNat b 12 2
    let ant := beNat b 4 2 % 8
    let smp := b.drop 16
    if !sizeAgrees f || (fmt < 3 && beNat b 2 2 ≠ 12 + iqBytes fmt count) then bad
    else
      match cell with
      | none => bad
      | some n =>
        let c := d.cellCfg true n
        let s := c.samples (d.get LTH_TICK_CFG_PERIOD)
        if (c.vlanEn && !(f.tags.any (fun t => t.2 % 4096 == c.vlan))) || (!c.vlanEn && !f.tags.isEmpty) then bad
        else if ant ≥ c.rx || beNat b 7 1 ≠ 0x80 then bad
        else if fmt ≠ c.ulFmt || beNat b 0 1 / 2 % 8 ≠ 0 || fc / 16384 ≠ 0 || (fmt = 2 && bfpBad smp count) then bad
        else if count = 0 || count > 2048 || off + count > s || off % 16 ≠ 0 || (count % 16 ≠ 0 && off + count ≠ s) then bad
        else
          let k := d.nearTick (beNat b 8 4)
          if !d.windowOpen n k then d.iqDiscard p cell true
          else
            let k := k.toNat
            if d.rad.iq.any (fun r => r.cell == n && r.interval == k && r.ant == ant && decide (r.off < off + count) &&
                decide (off < r.off + r.count)) then bad
            else { d with rad := { d.rad with iq := d.rad.iq ++
              [⟨n, k, ant, off, count, fmt, smp, if d.stamps p then some (d.portStamp p false) else none⟩] } }

/-! ### Ingress window (R294) -/

/-- The samples of one antenna and interval as received: none where nothing arrived. -/
def Dev.received (d : Dev) (n k a s : Nat) : List (Option W32) :=
  let runs := d.rad.iq.filter (fun r => r.cell == n && r.interval == k && r.ant == a)
  (List.range s).map (fun i =>
    runs.findSome? (fun r => if r.off ≤ i then r.samples[i - r.off]? else none))

/-- INGRESS_WINDOW_CLOSE: at the release of U1 the window of interval tick - 1 closes; what is missing is zero, and an interval with
a missing sample is a slot miss. -/
def windowCloseOp (d : Dev) (n : Nat) : Dev :=
  match sfind d.rad.cells n with
  | none => d
  | some r =>
    let k := d.tick - 1
    if d.tick = 0 || k < r.first || d.rad.closed.contains (n, k) then d
    else
      let c := d.cellCfg true n
      let s := c.samples (d.get LTH_TICK_CFG_PERIOD)
      let tn := c.taps * c.dft
      let got := (List.range c.rx).map (fun a => d.received n k a s)
      let missing := got.any (fun l => l.any (fun x => x.isNone))
      let past := if r.window = some (k - 1) ∧ k ≠ r.first then r.past else []
      let input := (List.range c.rx).map (fun a =>
        let old := past.getD a []
        List.replicate (tn - old.length) 0#32 ++ old.drop (old.length - tn) ++ (got.getD a []).map (fun x => x.getD 0#32))
      let d := d.setCell n { r with window := some k, input := input, past := input.map (fun l => l.drop (l.length - tn)) }
      let d := { d with rad := { d.rad with
        closed := (n, k) :: d.rad.closed.filter (fun e => e.1 != n),
        iq := d.rad.iq.filter (fun x => !(x.cell == n && decide (x.interval ≤ k))) } }
      if missing then (d.bump (RAD_CELL_STAT_MISS n) 1).addMiss n k false rsIQ_MISSING else d

/-! ### One-way delay measurement (R288) -/

def Dev.owd (d : Dev) (p : Nat) : Owd := sget d.rad.owd p {}
def Dev.setOwd (d : Dev) (p : Nat) (x : Owd) : Dev := { d with rad := { d.rad with owd := sput d.rad.owd p x } }

/-- A one-way delay message: measurement ID, action, timestamp, compensation value (in 2^-16 ns). The fraction of the stamp is the
compensation: added to a request's time, taken off a response's. -/
def owdBytes (id action stamp : Nat) : List Byte :=
  let frac := stamp % 65536
  [0x10#8, 0x05#8] ++ beBytes 2 20 ++ beBytes 1 id ++ beBytes 1 action ++ ecpriStamp (stamp / 65536) ++
    beBytes 8 (if action = 2 then (2 ^ 64 - frac) % 2 ^ 64 else frac)

/-- Sends a one-way delay message to a station, stamped at the port; the egress stamp goes into the log (R386, R388). -/
def Dev.owdSend (d : Dev) (p : Nat) (asker : Frame) (id action stamp : Nat) : Dev :=
  let d := d.sendFrame p asker.src ((asker.tags[0]?).map (fun t => t.2 % 4096)) 0xAEFE (owdBytes id action stamp)
  if d.stamps p then d.txLog ⟨id, action, p, true, d.portStamp p true⟩ else d

/-- The time of a type 5 message at the port: its stamp, or a free value where the port takes none (R386: TSU_PORT_CFG.EN is 0). -/
def Dev.owdTime (d : Dev) (p : Nat) (egress : Bool) : Nat :=
  if d.stamps p then d.portStamp p egress else Config.unstamped d.free

/-- An own request of the device: its measurement ID and egress time are kept until the response, and it is sent. -/
def Dev.owdRequest (d : Dev) (p : Nat) (f : Frame) (id : Nat) : Dev :=
  let x := d.owd p
  let t := d.owdTime p true
  (d.setOwd p { x with own := x.own.filter (fun o => o.1 != id) ++ [(id, t)] }).owdSend p f id 0 t

/-- A response to an own request: t2 - tcv2 - t1, t1 being this device's egress time. -/
def Dev.owdResult (d : Dev) (p : Nat) (b : List Byte) (o : Nat × Nat) : Dev :=
  let x := d.owd p
  let delay := ((ecpriTime b 6 * 65536 : Nat) : Int) - sext 64 (beNat b 16 8) - o.2
  let d := d.setOwd p { x with own := x.own.filter (fun q => q.1 != o.1) }
  ((d.set (RAD_PORT_DELAY_DELAY_NS p) (encInt 32 (delay / 65536))).set (RAD_PORT_DELAY_MEAS_ID p) o.1).set (RAD_PORT_DELAY_VALID p) 1

/-- A type 5 message with an action (R288). -/
def owdMessage (d : Dev) (p : Nat) (f : Frame) : Dev :=
  let b := f.payload
  let id := beNat b 4 1
  let x := d.owd p
  let now := d.owdTime p false
  let d : Dev := { d with free := d.free + 1 }
  match beNat b 5 1 with
  | 0 => d.owdSend p f id 2 now
  | 1 => d.setOwd p { x with held := (x.held.filter (fun h => h.1 != id)) ++ [(id, now)] }
  | 5 =>
    match x.held.find? (fun h => h.1 == id) with
    | some h => (d.setOwd p { x with held := x.held.filter (fun q => q.1 != id) }).owdSend p f id 2 h.2
    | none => d
  | 2 =>
    match x.own.find? (fun o => o.1 == id) with
    | some o => d.owdResult p b o
    | none => d
  | 3 => d.owdRequest p f id
  | 4 => d.owdRequest p f id
  | _ => d

/-- A type 5 message that is not discarded (R284, R286): revision 1, C 0, no reserved bit set, its size in agreement. -/
def owdGood (f : Frame) : Bool :=
  beNat f.payload 0 1 == 0x10 && beNat f.payload 1 1 == 5 && sizeAgrees f

/-- A message of type 5, in which no cell is known (R284, R286). -/
def isOwd (f : Frame) : Bool := beNat f.payload 1 1 == 5

/-- An accepted eCPRI frame (R284, R286). -/
def ecpriIn (d : Dev) (p : Nat) (f : Frame) : Dev :=
  if isOwd f then
    if owdGood f then owdMessage d p f else d.iqDiscard p none false
  else iqMessage d p f

/-! ### PTP messages (R378, R386, R388) -/

/-- The firmware sends a PTP message: on an F port as a frame of EtherType 0x88F7, on a U port as an MGMT packet to the neighbour (R282, R386,
R389). It is stamped as it leaves: on a U port that is when credits and the replay buffer let it go. -/
def Dev.ptpOut (d : Dev) (i : Nat) (bytes : List Byte) : Dev :=
  if i < 4 then
    let r := d.ptpStampOut i bytes
    r.1.sendFrame i 0x011B19000000 none 0x88F7 r.2
  else
    let pk := d.mkPacket (d.get (UNL_PORT_STATUS_PEER (i - 4))) clMGMT opMGMT_MSG 0 0 0 0 0 0 0 0 false bytes
    let x := d.port (i - 4)
    (d.setPort (i - 4) { x with ptp := x.ptp ++ [pk] }).toPort (i - 4) pk

/-- A PTP message reaches the firmware, with its stamp where the port takes one (R386, R388). What the firmware then sends is its own. -/
def Dev.ptpIn (d : Dev) (i : Nat) (bytes : List Byte) : Dev :=
  let st := if d.ptpStamped i bytes then some (d.portStamp i false) else none
  let reply := Config.ptpReply d.free i bytes
  let d : Dev := { d with tsu := { d.tsu with rx := d.tsu.rx ++ [(i, st, bytes)] }, free := d.free + 1 }
  match reply with
  | some msg => d.ptpOut i msg
  | none => d

/-- UNEIS_PTP_MESSAGE. -/
def uneisPtpOp (d : Dev) (port : Nat) (bytes : List Byte) : Dev :=
  if d.get (UNL_PORT_STATUS_STATE port) = 2 then d.ptpIn (4 + port) bytes else d

/-- FRONTHAUL_FRAME_RX (R282): the filter, then eCPRI or PTP. -/
def frameRxOp (d : Dev) (p : Nat) (f : Frame) : Dev :=
  if !d.portRuns p then d
  else
    match d.frameRefused p f with
    | some true => d.bump (RAD_PORT_DISC_FCS p) 1
    | some false => d.bump (RAD_PORT_DISC_OTHER p) 1
    | none => if f.etype = 0xAEFE then ecpriIn d p f else d.ptpIn p f.payload

/-- IQ_DATA_MESSAGE: an accepted frame that carries eCPRI IQ data. -/
def iqMessageOp (d : Dev) (p : Nat) (f : Frame) : Dev := if d.portRuns p then iqMessage d p f else d

/-- A type 5 message with one of the given actions. -/
def owdOp (actions : List Nat) (d : Dev) (p : Nat) (f : Frame) : Dev :=
  if d.portRuns p && isOwd f && actions.contains (beNat f.payload 5 1) then ecpriIn d p f else d

/-! ### Downlink egress (R287, R290) -/

/-- Part of a block at exponent e, before the clamp. -/
def bfpPart (v : Int) (e : Nat) : Int := if e = 0 then v else (v + 2 ^ (e - 1)) / 2 ^ e

/-- Egress bytes of samples, and the clamps made. -/
def iqEncode (fmt : Nat) (l : List W32) : List Byte × Nat :=
  match fmt with
  | 0 => (l.flatMap (fun w => beBytes 2 (encInt 16 (wre w)) ++ beBytes 2 (encInt 16 (wim w))), 0)
  | 1 =>
    let part (v : Int) : Int × Nat := let x := (v + 8) / 16; let y := clampInt (-2048) 2047 x; (y, if x = y then 0 else 1)
    (l.flatMap (fun w => beBytes 3 (encInt 12 (part (wre w)).1 * 4096 + encInt 12 (part (wim w)).1)),
     (l.map (fun w => (part (wre w)).2 + (part (wim w)).2)).sum)
  | _ =>
    let blocks := splitN 16 (ceilDiv l.length 16) l
    let one (b : List W32) : List Byte × Nat :=
      let parts := b.flatMap (fun w => [wre w, wim w])
      let e := ((List.range 9).find? (fun e => parts.all (fun v => decide (-128 ≤ bfpPart v e) && decide (bfpPart v e ≤ 127)))).getD 8
      let vs := parts.map (fun v => let x := bfpPart v e; let y := clampInt (-128) 127 x; (y, if x = y then 0 else 1))
      (beBytes 1 e ++ vs.map (fun v => BitVec.ofNat 8 (encInt 8 v.1)), (vs.map (·.2)).sum)
    (blocks.flatMap (fun b => (one b).1), (blocks.map (fun b => (one b).2)).sum)

/-- One downlink IQ data message. -/
def Dev.iqSend (d : Dev) (n a k off : Nat) (c : CellCfg) (l : List W32) : Dev :=
  match sfind d.rad.cells n with
  | none => d
  | some r =>
    let e := iqEncode c.dlFmt l
    let seq := sget r.seqs a 0
    let msg := [0x10#8, 0x00#8] ++ beBytes 2 (12 + e.1.length) ++ beBytes 2 (c.pcid * 8 + a) ++ beBytes 1 (seq % 256) ++ [0x80#8] ++
      beBytes 4 k ++ beBytes 2 off ++ beBytes 2 (l.length + 4096 * c.dlFmt) ++ e.1
    let d := d.setCell n { r with seqs := sput r.seqs a (seq + 1) }
    (d.bump (RAD_CELL_STAT_SAT n) e.2).sendFrame c.port c.mac (if c.vlanEn then some c.vlan else none) 0xAEFE msg

/-- The messages of one antenna's interval, in order of OFFSET. -/
def Dev.iqSendAll (d : Dev) (n a k : Nat) (c : CellCfg) (msg : Nat) : Nat → Nat → List W32 → Dev
  | 0, _, _ => d
  | fuel + 1, off, l =>
    if l.isEmpty then d
    else (d.iqSend n a k off c (l.take msg)).iqSendAll n a k c msg fuel (off + msg) (l.drop msg)

/-- DL_IQ_EGRESS: in tick j - 1 the device sends interval j of a PRIMARY cell, from interval F + 1 on: synthesis output, or zeros where there is
none, where the interval was missed and up to the third interval after the cell became PRIMARY. -/
def egressOp (d : Dev) (n : Nat) : Dev :=
  match sfind d.rad.cells n with
  | none => d
  | some r =>
    let c := d.cellCfg true n
    let j := d.tick + 1
    if c.role ≠ 0 || j ≤ r.first || !d.portRuns c.port then d
    else
      let s := c.samples (d.get LTH_TICK_CFG_PERIOD)
      let zero := List.replicate s 0#32
      let ok := (sfind r.egress j).isSome && (d.missReason n j true).isNone && decide (r.since + 3 < j)
      let msg := max 1 (d.get (actF RAD_FRAME_CFG_DL_MSG_SAMPLES))
      let d := forN c.tx d (fun d a =>
        let l := if ok then (sget r.egress j []).getD a zero else zero
        d.iqSendAll n a j c msg (s + 1) 0 l)
      match sfind d.rad.cells n with
      | some r => d.setCell n { r with egress := r.egress.filter (fun e => decide (e.1 > j)) }
      | none => d

end Sys2Proof.Machine
end

