-- ==== Sys2Proof/Machine/Code.lean ====
section
/-!
DEFINITION. Machine/Code.lean: the frame formats and channel coding of the generic mode (R322-R326): header, check, outer code,
whitening, convolutional code, interleaver, and their decoders. A SUN burst (R316) follows the IEEE standard, which the spec does not repeat: its
parts are free values of Config.
-/

namespace Sys2Proof.Machine

/-! ### Bits and checks (R322-R324) -/

/-- Bits of a value, most significant first. -/
def bitsMsb (w v : Nat) : List Bool := (List.range w).map (fun i => v.testBit (w - 1 - i))

/-- Bits of a value, least significant first. -/
def bitsLsb (w v : Nat) : List Bool := (List.range w).map (fun i => v.testBit i)

/-- Value of bits, least significant first. -/
def lsbVal : List Bool → Nat
  | [] => 0
  | b :: t => (if b then 1 else 0) + 2 * lsbVal t

/-- One byte of a CRC whose register is `w` bits wide and takes the most significant bit first. -/
def crcMsb (w poly : Nat) (c b : Nat) : Nat :=
  (List.range 8).foldl (fun c i =>
    let top := c.testBit (w - 1) != b.testBit (7 - i)
    let c := c * 2 % 2 ^ w
    if top then c ^^^ poly else c) c

/-- CRC-8 of the header value V (R323). -/
def crc8 (v : Nat) : Nat := crcMsb 8 0x07 (crcMsb 8 0x07 0 (v % 256)) (v / 256 % 256)

/-- CRC-16 of R324. -/
def crc16 (bs : List Byte) : Nat := bs.foldl (fun c b => crcMsb 16 0x1021 c b.toNat) 0xFFFF

/-- CRC-32 of R324 (reflected). -/
def crc32 (bs : List Byte) : Nat :=
  (bs.foldl (fun c b => (List.range 8).foldl (fun c _ => if c % 2 = 1 then (c / 2) ^^^ 0xEDB88320 else c / 2) (c ^^^ b.toNat))
    0xFFFFFFFF) ^^^ 0xFFFFFFFF

/-- Payload with its check; the flag marks the bytes that are sent most significant bit first (R322). -/
def withCheck (crc : Nat) (p : List Byte) : List (Byte × Bool) :=
  p.map (fun b => (b, false)) ++
  match crc with
  | 1 => [(BitVec.ofNat 8 (crc16 p / 256), true), (BitVec.ofNat 8 (crc16 p), true)]
  | 2 => (bytesLE 4 (crc32 p)).map (fun b => (b, false))
  | _ => []

/-- Bytes of the check. -/
def checkLen (crc : Nat) : Nat := match crc with | 1 => 2 | 2 => 4 | _ => 0

/-! ### Reed–Solomon (255, 223) over GF(2^8) (R326) -/

/-- Product in GF(2^8) with x^8 + x^4 + x^3 + x^2 + 1. -/
def gf8 (a b : Nat) : Nat :=
  ((List.range 8).foldl (fun (r : Nat × Nat) i =>
    (if b.testBit i then r.1 ^^^ r.2 else r.1, if r.2 ≥ 128 then (r.2 * 2) ^^^ 0x11D else r.2 * 2)) (0, a)).1

def gf8pow (a n : Nat) : Nat := (List.range n).foldl (fun r _ => gf8 r a) 1
def gf8inv (a : Nat) : Nat := gf8pow a 254
def alpha (n : Nat) : Nat := gf8pow 2 (n % 255)

/-- Polynomials over GF(2^8), lowest coefficient first. -/
def polyEval (p : List Nat) (x : Nat) : Nat := p.foldr (fun c a => c ^^^ gf8 a x) 0
def polyAdd (a b : List Nat) : List Nat := (List.range (max a.length b.length)).map (fun i => a.getD i 0 ^^^ b.getD i 0)
def polyMul (a b : List Nat) : List Nat :=
  (List.range (a.length + b.length - 1)).map (fun k => (List.range (k + 1)).foldl (fun s i => s ^^^ gf8 (a.getD i 0) (b.getD (k - i) 0)) 0)
def polyScale (c : Nat) (a : List Nat) : List Nat := a.map (gf8 c)

/-- The generator polynomial: the product of (x - α^i) for i = 0 to 31. -/
def rsGen : List Nat := (List.range 32).foldl (fun g i => polyMul g [alpha i, 1]) [1]

/-- The 32 check bytes of a block, first byte of the block the highest coefficient. -/
def rsCheck (bs : List Nat) : List Nat :=
  bs.foldl (fun r b =>
    let f := b ^^^ r.getD 0 0
    (List.range 32).map (fun i => r.getD (i + 1) 0 ^^^ gf8 f (rsGen.getD (31 - i) 0))) (List.replicate 32 0)

/-- Syndromes r(α^i) of a received block. -/
def rsSyn (bs : List Nat) : List Nat := (List.range 32).map (fun i => bs.foldl (fun a b => gf8 a (alpha i) ^^^ b) 0)

/-- Berlekamp–Massey: one step of the error locator, as (locator, previous locator, length, gap, previous discrepancy). -/
def bmStep (s : List Nat) (r : List Nat × List Nat × Nat × Nat × Nat) (n : Nat) : List Nat × List Nat × Nat × Nat × Nat :=
  let (c, b, l, m, bd) := r
  let dlt := (List.range (l + 1)).foldl (fun a i => a ^^^ gf8 (c.getD i 0) (if i ≤ n then s.getD (n - i) 0 else 0)) 0
  if dlt = 0 then (c, b, l, m + 1, bd)
  else
    let t := polyAdd c (List.replicate m 0 ++ polyScale (gf8 dlt (gf8inv bd)) b)
    if 2 * l ≤ n then (t, c, n + 1 - l, 1, dlt) else (t, b, l, m + 1, bd)

/-- The block with up to 16 errors corrected, or none. -/
def rsDecode (bs : List Nat) : Option (List Nat) :=
  let s := rsSyn bs
  if s.all (· == 0) then some bs
  else
    let r := (List.range 32).foldl (bmStep s) ([1], [1], 0, 1, 1)
    let loc := r.1
    let l := r.2.2.1
    let n := bs.length
    let roots := (List.range n).filter (fun j => polyEval loc (alpha (255 - j % 255)) == 0)
    if l > 16 ∨ roots.length ≠ l then none
    else
      let omega := (polyMul s loc).take 32
      let deriv := (List.range (loc.length - 1)).map (fun i => if i % 2 = 0 then loc.getD (i + 1) 0 else 0)
      let fixed := roots.foldl (fun bs j =>
        let xi := alpha (255 - j % 255)
        let e := gf8 (alpha j) (gf8 (polyEval omega xi) (gf8inv (polyEval deriv xi)))
        bs.set (n - 1 - j) (bs.getD (n - 1 - j) 0 ^^^ e)) bs
      if (rsSyn fixed).all (· == 0) then some fixed else none

/-- Data bytes in blocks of 223, each followed by its check bytes. -/
def rsEncode : Nat → List (Byte × Bool) → List (Byte × Bool)
  | 0, _ => []
  | k + 1, l =>
    if l.isEmpty then []
    else
      let b := l.take 223
      b ++ (rsCheck (b.map (fun x => x.1.toNat))).map (fun v => (BitVec.ofNat 8 v, false)) ++ rsEncode k (l.drop 223)

/-- The data bytes of coded blocks, and whether a block was not corrected. `left` counts the data bytes. -/
def rsStrip : Nat → Nat → List Nat → List Nat × Bool
  | 0, _, _ => ([], false)
  | k + 1, left, l =>
    if left = 0 then ([], false)
    else
      let n := min left 223
      let b := l.take (n + 32)
      let r := rsStrip k (left - n) (l.drop (n + 32))
      match rsDecode b with
      | some x => (x.take n ++ r.1, r.2)
      | none => (b.take n ++ r.1, true)

/-! ### Whitening, convolutional code, interleaver (R324, R325) -/

/-- XORs the whitening sequence into bits. -/
def whiten : Nat → List Bool → List Bool
  | _, [] => []
  | r, b :: t => (b != r.testBit 0) :: whiten (r / 2 + (if r.testBit 0 != r.testBit 5 then 256 else 0)) t

/-- Constraint length and generators of a FEC code: K = 4 with 17 and 13, K = 7 with 171 and 133 (octal). -/
def convCode (fec : Nat) : Nat × Nat × Nat := if fec = 1 then (4, 0xF, 0xB) else (7, 0x79, 0x5B)

def parity (v : Nat) : Bool := (List.range 8).foldl (fun p i => p != v.testBit i) false

/-- Coded bits of a state and a bit. -/
def convOut (fec st : Nat) (b : Bool) : Bool × Bool :=
  let k := convCode fec
  let reg := st + (if b then 2 ^ (k.1 - 1) else 0)
  (parity (k.2.1 &&& reg), parity (k.2.2 &&& reg))

/-- The encoder from a state on. -/
def convRun (fec : Nat) : Nat → List Bool → List Bool
  | _, [] => []
  | st, b :: t =>
    let o := convOut fec st b
    o.1 :: o.2 :: convRun fec ((st + (if b then 2 ^ ((convCode fec).1 - 1) else 0)) / 2) t

/-- R325 with its zero tail. -/
def convEncode (fec : Nat) (bs : List Bool) : List Bool :=
  if fec = 0 then bs else convRun fec 0 (bs ++ List.replicate ((convCode fec).1 - 1) false)

/-- One step of the Viterbi decoder: survivors by state, as a metric and the bits so far, newest first. -/
def viterbiStep (fec : Nat) (s0 s1 : Int) (old : List (Option (Int × List Bool))) : List (Option (Int × List Bool)) :=
  let k := (convCode fec).1
  (List.range (2 ^ (k - 1))).map (fun ns =>
    let b := ns.testBit (k - 2)
    let p0 := 2 * ns % 2 ^ (k - 1)
    let path (p : Nat) : Option (Int × List Bool) :=
      match old.getD p none with
      | none => none
      | some x =>
        let o := convOut fec p b
        some (x.1 + (if o.1 then s0 else -s0) + (if o.2 then s1 else -s1), b :: x.2)
    match path p0, path (p0 + 1) with
    | some x, some y => if y.1 > x.1 then some y else some x
    | some x, none => some x
    | none, y => y)

def viterbiRun (fec : Nat) : Nat → List Int → List (Option (Int × List Bool)) → List (Option (Int × List Bool))
  | 0, _, st => st
  | n + 1, l, st => viterbiRun fec n (l.drop 2) (viterbiStep fec (l.getD 0 0) (l.getD 1 0) st)

/-- The decided bits of a coded block, tail included: the path from state 0 to state 0. -/
def viterbi (fec : Nat) (soft : List Int) : List Bool :=
  match (viterbiRun fec (soft.length / 2) soft [some (0, [])]).getD 0 none with
  | some x => x.2.reverse
  | none => List.replicate (soft.length / 2) false

/-- Order in which the positions of a block of `l` bits are sent: rows of `n` read column by column. -/
def ilvOrder (n l : Nat) : List Nat :=
  (List.range n).flatMap (fun c => ((List.range n).map (fun r => r * n + c)).filter (fun p => decide (p < l)))

/-- Interleaves blocks of `n`² bits. -/
def interleave {α : Type} (dflt : α) (n : Nat) : Nat → List α → List α
  | 0, l => l
  | k + 1, l =>
    if n = 0 ∨ l.isEmpty then l
    else
      let b := l.take (n * n)
      (ilvOrder n b.length).map (fun p => b.getD p dflt) ++ interleave dflt n k (l.drop (n * n))

/-- Undoes `interleave`. -/
def deinterleave {α : Type} (dflt : α) (n : Nat) : Nat → List α → List α
  | 0, l => l
  | k + 1, l =>
    if n = 0 ∨ l.isEmpty then l
    else
      let b := l.take (n * n)
      let o := ilvOrder n b.length
      (List.range b.length).map (fun p => b.getD (o.findIdx (· == p)) dflt) ++ deinterleave dflt n k (l.drop (n * n))

/-! ### The generic frame (R322-R324) -/

/-- Bits of one body byte. -/
def byteBits (b : Byte × Bool) : List Bool := if b.2 then bitsMsb 8 b.1.toNat else bitsLsb 8 b.1.toNat

/-- The body of a payload as it is sent. -/
def bodyBits (m : Words) (p : List Byte) : List Bool :=
  let c := withCheck (wfld m MODE_CRC) p
  let c := if wfld m MODE_RS_EN = 1 then rsEncode (c.length + 1) c else c
  let b := c.flatMap byteBits
  let b := if wfld m MODE_WHITE_EN = 1 then whiten (wfld m MODE_WHITE_SEED) b else b
  let b := convEncode (wfld m MODE_FEC) b
  if wfld m MODE_ILV = 0 then b else interleave false (wfld m MODE_ILV) (b.length + 1) b

/-- Bytes of a body before whitening, and its bits on air. -/
def bodyBytes (m : Words) (len : Nat) : Nat :=
  let n := len + checkLen (wfld m MODE_CRC)
  if wfld m MODE_RS_EN = 1 then n + 32 * ceilDiv n 223 else n
def bodyLen (m : Words) (len : Nat) : Nat :=
  let n := 8 * bodyBytes m len
  if wfld m MODE_FEC = 0 then n else 2 * (n + (convCode (wfld m MODE_FEC)).1 - 1)

/-- The 24 header bits, and the header as it is sent. -/
def headerBits (m : Words) (user len : Nat) : List Bool :=
  let v := user * 2048 + len
  convEncode (wfld m MODE_FEC) (bitsLsb 16 v ++ bitsLsb 8 (crc8 v))
def headerLen (m : Words) : Nat := if wfld m MODE_FEC = 0 then 24 else 2 * (24 + (convCode (wfld m MODE_FEC)).1 - 1)

/-- Decided bits of a coded part without its tail. -/
def decide1 (fec : Nat) (soft : List Int) : List Bool :=
  if fec = 0 then soft.map (fun s => decide (s > 0)) else (viterbi fec soft).take (soft.length / 2 - ((convCode fec).1 - 1))

/-- A received header: (USER, LEN, failure). -/
def headerDecode (m : Words) (soft : List Int) : Nat × Nat × Bool :=
  let b := decide1 (wfld m MODE_FEC) soft
  let v := lsbVal (b.take 16)
  (v / 2048, v % 2048, lsbVal (b.drop 16) != crc8 v || v % 2048 == 0)

/-- What a decoded body gives: payload, check failed, a block not corrected, coded bits that differ from the re-encoded decision. -/
structure Decoded where
  payload : List Byte
  crcBad  : Bool
  rsFail  : Bool
  corr    : Nat
deriving DecidableEq, Repr

/-- The payload of a generic body of `len` payload bytes. -/
def bodyDecode (m : Words) (len : Nat) (soft : List Int) : Decoded :=
  let fec := wfld m MODE_FEC
  let crc := wfld m MODE_CRC
  let coded := if wfld m MODE_ILV = 0 then soft else deinterleave 0 (wfld m MODE_ILV) (soft.length + 1) soft
  let bits := decide1 fec coded
  let corr := if fec = 0 then 0
    else ((List.range coded.length).filter (fun i => decide (coded.getD i 0 > 0) != (convEncode fec bits).getD i false)).length
  let bits := if wfld m MODE_WHITE_EN = 1 then whiten (wfld m MODE_WHITE_SEED) bits else bits
  let n := len + checkLen crc
  -- bytes of a CRC-16 come most significant bit first
  let total := bodyBytes m len
  let pos (i : Nat) : Nat := if wfld m MODE_RS_EN = 1 then i + 32 * (i / 223) else i
  let byteAt (i : Nat) : Nat :=
    let b := (bits.drop (8 * i)).take 8
    if crc = 1 ∧ (i = pos len ∨ i = pos (len + 1)) then lsbVal b.reverse else lsbVal b
  let raw := (List.range total).map byteAt
  let r := if wfld m MODE_RS_EN = 1 then rsStrip (n + 1) n raw else (raw, false)
  let data := r.1.map (BitVec.ofNat 8)
  let pay := data.take len
  let want := (withCheck crc pay).map (·.1)
  { payload := pay, crcBad := data != want, rsFail := r.2, corr := corr }

/-! ### Whole bursts (R318, R322) -/

/-- Preamble bits. -/
def preambleBits (m : Words) : List Bool :=
  (List.range (wfld m MODE_PRE_BITS)).map (fun i =>
    if wfld m MODE_STD = 1 then Config.sunPreamble i
    else if modeBps m = 1 then i % 2 == 0
    else match i % 4 with | 0 => false | _ => true)

/-- A sync alternative: its bits as sent. -/
def syncWord (m : Words) (i : Nat) : List Bool :=
  let v := if wfld m MODE_STD = 1 then Config.sunSfd (wfld m MODE_SFD_SET) i
    else (m.getD (1 + i) 0#64).toNat
  bitsMsb (wfld m MODE_SYNC_BITS) v

/-- The bits on air of a burst. -/
def burstBits (m : Words) (user sel : Nat) (p : List Byte) : List Bool :=
  if wfld m MODE_STD = 1 then
    preambleBits m ++ syncWord m (if wfld m MODE_FEC = 0 then 0 else 1) ++ Config.sunFrame m p
  else
    preambleBits m ++ syncWord m sel ++ (if wfld m MODE_HDR_EN = 1 then headerBits m user p.length else []) ++ bodyBits m p

/-- Levels of bits: 2 levels -1 and +1; 4 levels 01 → +3, 00 → +1, 10 → -1, 11 → -3 (R318). -/
def levels (bps : Nat) : List Bool → List Int
  | [] => []
  | [b] => [if b then 1 else -1]
  | a :: b :: t =>
    if bps = 1 then (if a then 1 else -1) :: levels bps (b :: t)
    else (match a, b with | false, true => 3 | false, false => 1 | true, false => -1 | true, true => -3) :: levels bps t

end Sys2Proof.Machine
end

