-- ==== Sys2Proof/Machine/Recv.lean ====
section
/-!
DEFINITION. Machine/Recv.lean: the receive chain of one stream (R327-R338), sample by sample, and the segments that a demodulation item puts out
(R371). Times are in units of 2^-16 of a stream sample: a symbol is 64 * SPS units, and 1/64 symbol SPS units.
-/

namespace Sys2Proof.Machine

/-- What a stream's receiver needs to know: its mode, its channel and output, the scaling exponent of R337, whether it has two antenna
streams (COMB 2), whether it is a survey stream. -/
structure RxCfg where
  m      : Words
  ch     : Nat
  out    : Nat
  modeNo : Nat
  scale  : Nat
  two    : Bool
  survey : Bool
deriving DecidableEq, Repr

def RxCfg.sps (c : RxCfg) : Int := wfld c.m MODE_SPS
/-- Units of a symbol. -/
def RxCfg.sym (c : RxCfg) : Int := 64 * c.sps
def RxCfg.bps (c : RxCfg) : Nat := modeBps c.m

/-! ### Segments (R371) -/

/-- A segment: header and payload padded to a multiple of 4 bytes. -/
def segment (c : RxCfg) (type len : Nat) (payload : List Byte) : List Byte :=
  bytesLE 4 (type + c.ch * 16 + c.out * 8192 + len * 16384) ++ payload ++ List.replicate ((4 - payload.length % 4) % 4) 0#8

def sgSOFT : Nat := 0
def sgSTART : Nat := 1
def sgEND : Nat := 2
def sgNOISE : Nat := 3
def sgMISS : Nat := 4

/-- START fields in order: MODE, SYNC_IDX, USER, LEN, HDR_BAD, NS, INTERVAL, RSSI (before CAL), CFO. -/
def startBytes (f : List Nat) : List Byte :=
  bytesLE 4 (f.getD 0 0 + f.getD 1 0 * 2 ^ 8 + f.getD 2 0 * 2 ^ 10 + f.getD 3 0 * 2 ^ 15 + f.getD 4 0 * 2 ^ 26) ++
  bytesLE 4 (f.getD 5 0) ++ bytesLE 4 (f.getD 6 0) ++ bytesLE 4 (f.getD 7 0 + f.getD 8 0 * 65536)

/-- The fields of a START payload. -/
def startFields (b : List Byte) : List Nat :=
  let w (i : Nat) : Nat := leNat ((b.drop (4 * i)).take 4)
  [w 0 % 256, w 0 / 2 ^ 8 % 4, w 0 / 2 ^ 10 % 32, w 0 / 2 ^ 15 % 2048, w 0 / 2 ^ 26 % 2, w 1, w 2, w 3 % 65536, w 3 / 65536]

/-- Soft bits as bytes. -/
def softBytes (l : List Int) : List Byte := l.map (fun s => BitVec.ofNat 8 (encInt 8 s))

/-! ### Samples and the discriminator (R330) -/

/-- Sample i of a buffer; zero outside it. -/
def bufAt (base : Nat) (l : List W32) (i : Int) : Int × Int :=
  if i < base then (0, 0) else let w := l.getD (i - base).toNat 0#32; (wre w, wim w)

/-- The AGC output at a time, by 4-point Lagrange cubic interpolation, times a positive constant. -/
def Rx.at (r : Rx) (t : Int) : Int × Int :=
  let i := t / 65536
  let f := t % 65536
  let one : Int := 65536
  let c : List Int := [-(f * (f - one) * (f - 2 * one)), 3 * (f + one) * (f - one) * (f - 2 * one), -(3 * (f + one) * f * (f - 2 * one)),
    (f + one) * f * (f - one)]
  (List.range 4).foldl (fun (s : Int × Int) (k : Nat) =>
    let x := bufAt r.base r.y (i - 1 + (k : Int))
    (s.1 + c.getD k 0 * x.1, s.2 + c.getD k 0 * x.2)) (0, 0)

def sat16 (v : Int) : Int := clampInt (-32768) 32767 v

/-- The discriminator d(t) in Q4.11. -/
def Rx.disc (r : Rx) (c : RxCfg) (t : Int) : Int :=
  let a := r.at t
  let b := r.at (t - c.sym / 2)
  let k := argUnits (a.1 * b.1 + a.2 * b.2) (a.2 * b.1 - a.1 * b.2)
  sat16 (roundAway (32 * k) (wfld c.m MODE_H))

/-- Samples up to a time are there. -/
def Rx.has (r : Rx) (t : Int) : Bool := decide (t / 65536 + 2 < (r.n : Int))

/-! ### AGC (R329) -/

/-- |y|² of a sample. -/
def power (w : W32) : Nat := (wre w * wre w + wim w * wim w).toNat

/-- A sample times the gain. -/
def gainApply (g : Nat) (w : W32) : W32 :=
  cword (sat16 (roundAway (wre w * gainFix g) 65536)) (sat16 (roundAway (wim w * gainFix g) 65536))

/-- p * 2^(g/4) / 2^30 compared with 10^(u / 20): `le` says that it is at most that. Both sides are taken to the 20th power. -/
def Rx.levelLe (r : Rx) (g : Nat) (u : Int) : Bool :=
  let t := pow10 u
  decide (r.pnum ^ 20 * 2 ^ (5 * g) * t.2 ≤ t.1 * 2 ^ 600 * 2 ^ (20 * r.pexp))

/-- The level at gains g and g + 1, averaged, is below the target: the higher gain is nearer. -/
def Rx.nearer (r : Rx) (g : Nat) (u : Int) : Bool :=
  let t := pow10 (2 * u)
  decide (r.pnum ^ 40 * 2 ^ (5 * (2 * g + 1)) * t.2 < t.1 * 2 ^ 1200 * 2 ^ (40 * r.pexp))

/-- Once per symbol: G moves by at most 8 steps towards the value whose level is nearest the target, when the level is off by
more than the hysteresis. -/
def Rx.agc (r : Rx) (c : RxCfg) : Rx :=
  let target : Int := 2 * sext 8 (wfld c.m MODE_AGC_TARGET)
  let hyst : Int := wfld c.m MODE_AGC_HYST
  let above := !r.levelLe r.gain (target + hyst)
  let under := r.levelLe r.gain (target - hyst) && decide (r.pnum ^ 20 * 2 ^ (5 * r.gain) * (pow10 (target - hyst)).2 ≠
    (pow10 (target - hyst)).1 * 2 ^ 600 * 2 ^ (20 * r.pexp))
  if above || under then
    let want := ((List.range 127).find? (fun g => !r.nearer g target)).getD 127
    { r with gain := if want > r.gain then min want (r.gain + 8) else max want (r.gain - 8) }
  else r

/-! ### Decisions and soft bits (R331, R333, R335) -/

/-- The level nearest a Q4.11 value, in Q4.11. -/
def slice (bps : Nat) (z : Int) : Int :=
  let mag : Int := if bps = 2 ∧ (z > 4096 ∨ z < -4096) then 6144 else 2048
  if z > 0 then mag else if z < 0 then -mag else if Config.zeroPositive then mag else -mag

/-- Bits of a decision. -/
def sliceBits (bps : Nat) (a : Int) : List Bool :=
  if bps = 1 then [decide (a > 0)] else [decide (a < 0), decide (a > 4096) || decide (a < -4096)]

/-- Soft bits of z. -/
def softBits (bps : Nat) (z : Int) : List Int :=
  let c (v : Int) : Int := clampInt (-15) 15 v
  if bps = 1 then [c (roundAway z 256)]
  else [c (roundAway (-z) 256), c (roundAway ((if z < 0 then -z else z) - 4096) 256)]

/-! ### Search (R330) -/

/-- Numerator and denominator of C(φ) at symbol s, and the sum of d. -/
def Rx.corr (r : Rx) (c : RxCfg) (s phi : Nat) : Nat × Nat × Int :=
  let n := wfld c.m MODE_PRE_DET
  let ds := (List.range n).map (fun i =>
    let k := s + 1 - n + i
    (k, r.disc c ((k : Int) * c.sym + 4 * c.sps * phi)))
  let alt := (ds.map (fun x => if x.1 % 2 = 0 then x.2 else -x.2)).sum
  (alt.natAbs, (ds.map (fun x => x.2.natAbs)).sum, (ds.map (·.2)).sum)

/-- Sample indices of symbols n0 to n1 at the stream's phase. -/
def Rx.spanOf (r : Rx) (c : RxCfg) (n0 n1 : Int) : List Nat :=
  let lo := n0 * c.sym + 4 * c.sps * r.phi + c.sps * r.adj - c.sym / 2
  let hi := n1 * c.sym + 4 * c.sps * r.phi + c.sps * r.adj + c.sym / 2
  ((List.range r.y.length).map (fun i => r.base + i)).filter (fun i => decide (lo ≤ (i : Int) * 65536) && decide ((i : Int) * 65536 < hi))

/-- Σ y1 conj(y0) over samples (R328). -/
def Rx.cross (r : Rx) (l : List Nat) : Int × Int :=
  l.foldl (fun (s : Int × Int) (i : Nat) =>
    let a := bufAt r.base r.ant1 (i : Int)
    let b := bufAt r.base r.ant0 (i : Int)
    (s.1 + a.1 * b.1 + a.2 * b.2, s.2 + a.2 * b.1 - a.1 * b.2)) (0, 0)

/-- Samples of the detection window at symbol s: from half a symbol before its first centre to its last centre, which are the samples that its
discriminator values span (R328). -/
def Rx.window (r : Rx) (c : RxCfg) (s : Nat) : List Nat :=
  let lo := ((s : Int) + 1 - wfld c.m MODE_PRE_DET) * c.sym + 4 * c.sps * r.phi - c.sym / 2
  let hi := (s : Int) * c.sym + 4 * c.sps * r.phi
  ((List.range r.y.length).map (fun i => r.base + i)).filter (fun i => decide (lo ≤ (i : Int) * 65536) && decide ((i : Int) * 65536 ≤ hi))

/-- One symbol of the search. -/
def Rx.search (r : Rx) (c : RxCfg) : Rx :=
  let s := r.sym
  let r := { r with sym := s + 1 }
  if s + 1 < wfld c.m MODE_PRE_DET then r
  else
    let cs := (List.range 16).map (fun phi => (phi, r.corr c s phi))
    -- a phase whose d is 0 throughout has no ratio
    let cs := cs.filter (fun x => x.2.2.1 != 0)
    let best := cs.foldl (fun (b : Nat × Nat × Nat × Int) x => if x.2.1 * b.2.2.1 > b.2.1 * x.2.2.1 then x else b) (cs.getD 0 (0, 0, 0, 0))
    if best.2.2.1 ≠ 0 ∧ best.2.1 * 256 ≥ wfld c.m MODE_PRE_THR * best.2.2.1 then
      let n := wfld c.m MODE_PRE_DET
      let r := { r with phase := 1, phi := best.1, adj := 0, det := s, cfo := roundAway best.2.2.2 n, bits := [], idle := false }
      if c.two then { r with wOld := r.w, w := some (r.cross (r.window c s)) } else r
    else r

/-- The AGC is released and the search goes on at the next symbol (R331, R336). -/
def Rx.release (r : Rx) : Rx :=
  { r with phase := 0, bits := [], soft := [], left := 0, start := [], esum := 0, ecnt := 0, miss := false, hist := [], taps := [], fb := [],
           gsum := 0, gcnt := 0, adj := 0 }

/-! ### The equaliser (R333, R334) -/

/-- Time of symbol n. -/
def Rx.symTime (r : Rx) (c : RxCfg) (n : Nat) : Int := (n : Int) * c.sym + 4 * c.sps * r.phi + c.sps * r.adj

/-- d of the burst at a half-symbol offset from symbol n. -/
def Rx.dHalf (r : Rx) (c : RxCfg) (n : Nat) (h : Int) : Int := sat16 (r.disc c (r.symTime c n + h * (c.sym / 2)) - r.cfo)

/-- d[2n + c - i] for i = 0 to NF - 1. -/
def Rx.dTaps (r : Rx) (c : RxCfg) (n : Nat) : List Int :=
  let nf := wfld c.m MODE_NF
  (List.range nf).map (fun (i : Nat) => r.dHalf c n (((nf / 2 : Nat) : Int) - (i : Int)))

/-- z[n]. The error e[n] = a[n] - z[n] is a Q4.11 signal and is saturated, as SUB2 gives it in the spec's equaliser. -/
def Rx.equal (r : Rx) (c : RxCfg) (n : Nat) : Int :=
  if wfld c.m MODE_DFE_EN = 0 then r.dHalf c n 0
  else
    let ds := r.dTaps c n
    let s := ((List.range ds.length).map (fun i => r.taps.getD i 0 * ds.getD i 0)).sum -
      ((List.range (wfld c.m MODE_NB)).map (fun j => r.fb.getD j 0 * r.hist.getD j 0)).sum
    sat16 (roundAway s 8192)

/-- The tap updates of symbol n with level a, and a enters the history. -/
def Rx.adapt (r : Rx) (c : RxCfg) (n : Nat) (a e : Int) : Rx :=
  let hist := a :: r.hist.take 15
  if wfld c.m MODE_DFE_EN = 0 then { r with hist := hist }
  else
    let ds := r.dTaps c n
    let f := (List.range ds.length).map (fun i =>
      sat16 (r.taps.getD i 0 + roundAway (e * ds.getD i 0) (2 ^ (9 + wfld c.m MODE_MU_F))))
    let b := (List.range (wfld c.m MODE_NB)).map (fun j =>
      sat16 (r.fb.getD j 0 - roundAway (e * r.hist.getD j 0) (2 ^ (9 + wfld c.m MODE_MU_B))))
    { r with taps := f, fb := b, hist := hist }

/-- Known symbols of a burst whose sync alternative is `i`, in Q4.11: the last PRE_DET of the preamble and the sync word. -/
def knownLevels (c : RxCfg) (i : Nat) : List Int :=
  let pre := levels c.bps (preambleBits c.m)
  ((pre.drop (pre.length - wfld c.m MODE_PRE_DET)) ++ levels c.bps (syncWord c.m i)).map (· * 2048)

/-- One training pass over the known symbols, the last of which is symbol n1. -/
def Rx.trainPass (r : Rx) (c : RxCfg) (n1 : Nat) (known : List Int) : Rx :=
  (List.range known.length).foldl (fun r i =>
    let n := n1 + 1 - known.length + i
    let a := known.getD i 0
    r.adapt c n a (sat16 (a - r.equal c n))) { r with hist := [] }

/-! ### A burst (R331, R335, R336) -/

/-- The interval, its offset in ns and the NS stamp of a time of the stream: sample i is that of the end of frame i. `first` is F, `org` the
NS of interval F's boundary, `fs` the cell's rate in Hz, `hop` H, `tick` the period. -/
structure RxTime where
  first : Nat
  org   : Nat
  fs    : Nat
  hop   : Nat
  tick  : Nat
deriving DecidableEq, Repr

def RxTime.ns (x : RxTime) (t : Int) : Nat := ((t + 65536) * (x.hop * 1000000000 : Nat) / (65536 * x.fs : Nat)).toNat

/-- Puts out what the body has so far. -/
def Rx.flush (r : Rx) (c : RxCfg) : Rx × List Byte :=
  if r.phase = 3 ∧ !r.soft.isEmpty then ({ r with soft := [] }, segment c sgSOFT r.soft.length (softBytes r.soft)) else (r, [])

/-- The end of a burst: its last soft bits and END. -/
def Rx.finish (r : Rx) (c : RxCfg) (status : Nat) : Rx × List Byte :=
  let f := r.flush c
  let q := if r.ecnt = 0 then 0 else min 65535 (roundAway r.esum (1024 * r.ecnt)).toNat
  (f.1.release, f.2 ++ segment c sgEND 4 (bytesLE 4 (q + status * 65536)))

/-- The end of a burst whose payload is not delivered: the last byte of END says so. -/
def Rx.finishBare (r : Rx) (c : RxCfg) (status : Nat) : Rx × List Byte :=
  (r.release, segment c sgEND 4 (bytesLE 4 (status * 65536 + 2 ^ 24)))

/-- The header is known, or there is none: START, and the body begins; a header failure ends the burst. -/
def Rx.beginBody (r : Rx) (c : RxCfg) (user len nbits : Nat) (bad : Bool) : Rx × List Byte :=
  let s := ((r.start.set 2 user).set 3 len).set 4 (if bad then 1 else 0)
  let r := { r with phase := 3, start := s, soft := [], left := nbits, esum := 0, ecnt := 0 }
  let seg := segment c sgSTART 16 (startBytes s)
  if bad ∨ nbits = 0 then let f := r.finish c (if r.miss || r.missNow then stSLOT_MISS else stOK); (f.1, seg ++ f.2) else (r, seg)

/-- The header's soft bits are all there. -/
def Rx.header (r : Rx) (c : RxCfg) : Rx × List Byte :=
  if wfld c.m MODE_STD = 1 then
    let h := Config.sunHeader c.m r.syncIdx r.soft
    -- mode switching is not supported (R316)
    let bad := h.2.2 || Config.sunModeSwitch c.m r.syncIdx r.soft
    r.beginBody c 0 (if bad then 0 else h.1 % 2048) h.2.1 bad
  else
    let h := headerDecode c.m r.soft
    r.beginBody c h.1 (if h.2.2 then 0 else h.2.1) (bodyLen c.m h.2.1) h.2.2

/-- The sync word has matched alternative `i` at symbol n1 (R331, R333, R337). -/
def Rx.matched (r : Rx) (c : RxCfg) (x : RxTime) (i n1 : Nat) : Rx × List Byte :=
  let nsync := wfld c.m MODE_SYNC_BITS / c.bps
  let l := r.spanOf c ((n1 : Int) + 1 - nsync) n1
  let p := (l.map (fun i => power (r.raw.getD (i - r.base) 0#32))).sum / max 1 l.length
  let rssi := if p = 0 then -32768 else log160 (p * 4 ^ c.scale) (2 ^ 30)
  let t := x.ns (r.symTime c n1 + c.sym / 2)
  let k := x.first + t / max 1 x.tick
  let nf := wfld c.m MODE_NF
  let r := { r with syncIdx := i, taps := (List.range nf).map (fun j => if j = nf / 2 then 8192 else 0),
                    fb := List.replicate (wfld c.m MODE_NB) 0, gsum := 0, gcnt := 0,
                    start := [c.modeNo, i, 0, 0, 0, (x.org + t) % 2 ^ 32, k % 2 ^ 32, encInt 16 rssi, encInt 16 (roundAway (r.cfo * wfld c.m MODE_H) 1024)] }
  let known := knownLevels c i
  let r := if wfld c.m MODE_DFE_EN = 1 then forN (wfld c.m MODE_TRAIN + 1) r (fun r _ => r.trainPass c n1 known)
    else { r with hist := known.reverse.take 16 }
  let r := { r with phase := 2, bits := [], soft := [] }
  if wfld c.m MODE_STD = 1 then ({ r with left := Config.sunHeaderBits c.m i }, [])
  else if wfld c.m MODE_HDR_EN = 1 then ({ r with left := headerLen c.m }, [])
  else r.beginBody c 0 (wfld c.m MODE_FIXED_LEN) (bodyLen c.m (wfld c.m MODE_FIXED_LEN)) false

/-- Bit errors between the last SYNC_BITS decisions and an alternative. -/
def Rx.syncErr (r : Rx) (c : RxCfg) (i : Nat) : Nat :=
  let n := wfld c.m MODE_SYNC_BITS
  let b := r.bits.drop (r.bits.length - n)
  ((List.range n).filter (fun j => b.getD j false != (syncWord c.m i).getD j false)).length

/-- The limit of R331 on the bits after a detection: PRE_BITS + SYNC_BITS + 16. -/
def syncLimit (m : Words) : Nat := wfld m MODE_PRE_BITS + wfld m MODE_SYNC_BITS + 16

/-- No match within the limit: the detection is abandoned (R331). The flag says that FALSE_PRE counts it. -/
def Rx.syncTimeout (r : Rx) : Rx × Bool := if r.phase = 1 then ({ r.release with w := r.wOld }, true) else (r, false)

/-- The alternatives within SYNC_ERR errors after the decision on symbol r.sym, as (errors, alternative): the best one first (R331). -/
def Rx.syncHits (r : Rx) (c : RxCfg) : List (Nat × Nat) :=
  let r := { r with bits := r.bits ++ sliceBits c.bps (slice c.bps (r.dHalf c r.sym 0)) }
  let alts := if wfld c.m MODE_STD = 1 then 2 else wfld c.m MODE_SYNC_N + 1
  let hits := if r.bits.length < wfld c.m MODE_SYNC_BITS then []
    else ((List.range alts).map (fun i => (r.syncErr c i, i))).filter (fun e => decide (e.1 ≤ wfld c.m MODE_SYNC_ERR))
  hits.mergeSort (fun a b => decide (a.1 < b.1) || (a.1 == b.1 && decide (a.2 ≤ b.2)))

/-- One symbol of the sync search: (receiver, segments, abandoned). -/
def Rx.syncSymbol (r : Rx) (c : RxCfg) (x : RxTime) : Rx × List Byte × Bool :=
  let n := r.sym
  let hits := r.syncHits c
  let r := { r with sym := n + 1, bits := r.bits ++ sliceBits c.bps (slice c.bps (r.dHalf c n 0)) }
  match hits with
  | h :: _ => let f := r.matched c x h.2 n; (f.1, f.2, false)
  | [] =>
    if r.bits.length ≥ syncLimit c.m then
      let f := r.syncTimeout; (f.1, [], f.2)
    else (r, [], false)

/-- One symbol of the header or body. -/
def Rx.dataSymbol (r : Rx) (c : RxCfg) : Rx × List Byte :=
  let n := r.sym
  let z := r.equal c n
  let a := slice c.bps z
  let e := sat16 (a - z)
  let g := r.dHalf c n (-1) * (a - r.hist.getD 0 0)
  let soft := (softBits c.bps z).take r.left
  let r := { r with sym := n + 1, soft := r.soft ++ soft, left := r.left - soft.length, gsum := r.gsum + g, gcnt := r.gcnt + 1,
                    esum := if r.phase = 3 then r.esum + (e * e).toNat else r.esum, ecnt := if r.phase = 3 then r.ecnt + 1 else r.ecnt }
  let r := r.adapt c n a e
  let r := if r.gcnt = 16 then
      { r with gcnt := 0, gsum := 0, adj := r.adj + (if r.gsum > 0 then -1 else if r.gsum < 0 then 1 else 0) } else r
  if r.left > 0 then (r, [])
  else if r.phase = 2 then r.header c
  else r.finish c (if r.miss || r.missNow then stSLOT_MISS else stOK)

/-- Time up to which samples are needed for the next symbol. -/
def Rx.needs (r : Rx) (c : RxCfg) : Int :=
  match r.phase with
  | 0 => (r.sym : Int) * c.sym + 60 * c.sps
  | 1 => r.symTime c r.sym
  | _ => r.symTime c r.sym + (if wfld c.m MODE_DFE_EN = 1 then ((wfld c.m MODE_NF / 2 : Nat) : Int) * (c.sym / 2) else 0)

/-- Time up to which samples are needed at the sync match: the whole sync word (R337), and d ahead of its last symbol for the training (R333). -/
def Rx.matchNeeds (r : Rx) (c : RxCfg) : Int :=
  r.symTime c r.sym + (if wfld c.m MODE_DFE_EN = 1 then ((max 1 (wfld c.m MODE_NF / 2) : Nat) : Int) else 1) * (c.sym / 2)

/-- Symbols whose samples are there. -/
def Rx.symbols (c : RxCfg) (x : RxTime) : Nat → Rx → List Byte × Nat → Rx × List Byte × Nat
  | 0, r, o => (r, o)
  | fuel + 1, r, o =>
    if !r.has (r.needs c) || c.sps ≤ 0 then (r, o)
    else
      match r.phase with
      | 0 => Rx.symbols c x fuel (r.search c) o
      | 1 =>
        if !(r.syncHits c).isEmpty && !r.has (r.matchNeeds c) then (r, o)
        else let f := r.syncSymbol c x; Rx.symbols c x fuel f.1 (o.1 ++ f.2.1, o.2 + (if f.2.2 then 1 else 0))
      | _ => let f := r.dataSymbol c; Rx.symbols c x fuel f.1 (o.1 ++ f.2, o.2)

/-! ### Samples in (R327-R329) -/

/-- The combined sample of COMB 2: y0 plus y1 times conj(c) / |c|, each part rounded to the nearest integer and saturated. -/
def Rx.combine (r : Rx) (a b : W32) : W32 :=
  match r.w with
  | none => a
  | some (0, 0) => cword (sat16 (wre a + wre b)) (sat16 (wim a + wim b))
  | some (x, y) =>
    let mag := isqrt ((x * x + y * y).toNat * 2 ^ 40)
    let re := (wre b * x + wim b * y) * 2 ^ 20
    let im := (wim b * x - wre b * y) * 2 ^ 20
    cword (sat16 (wre a + roundAway re mag)) (sat16 (wim a + roundAway im mag))

/-- Samples kept: enough for training and for the RSSI of a sync word. -/
def RxCfg.keep (c : RxCfg) : Nat :=
  ((wfld c.m MODE_PRE_DET + wfld c.m MODE_SYNC_BITS + 12) * wfld c.m MODE_SPS) / 1024 + 8

/-- One stream sample: combining, AGC, and the symbols it completes. -/
def Rx.sample (c : RxCfg) (x : RxTime) (s : Rx × List Byte × Nat) (a b : W32) : Rx × List Byte × Nat :=
  let r := s.1
  let y := if c.two then r.combine a b else a
  let sh := wfld c.m MODE_AGC_SHIFT
  -- p + (|y|² - p) / 2^shift
  let r := { r with pnum := r.pnum * (2 ^ sh - 1) + power y * 2 ^ r.pexp, pexp := r.pexp + sh, n := r.n + 1,
                    ant0 := r.ant0 ++ [a], ant1 := if c.two then r.ant1 ++ [b] else [], raw := r.raw ++ [y],
                    y := r.y ++ [gainApply r.gain y], isum := r.isum + power y }
  let edge := r.n > 0 && c.sps > 0 && decide ((r.n : Int) * 1024 / c.sps ≠ ((r.n : Int) - 1) * 1024 / c.sps)
  let r := if r.phase = 0 && edge then r.agc c else r
  let cut := r.y.length - c.keep
  let r := if cut > c.keep then
      { r with base := r.base + cut, ant0 := r.ant0.drop cut, ant1 := r.ant1.drop cut, raw := r.raw.drop cut, y := r.y.drop cut } else r
  Rx.symbols c x 100 r s.2

/-- A fresh receiver whose next sample has index m (R329, RESTART). -/
def Rx.fresh (c : RxCfg) (m : Nat) : Rx :=
  { n := m, base := m, sym := if c.sps ≤ 0 then 0 else ((m : Int) * 1024 / c.sps + 1).toNat }

/-- A receiver that takes up its stream again at sample m: the search starts anew; the AGC, the weights and the count of idle intervals stay (R328, R329,
R338, R351). -/
def Rx.resume (r : Rx) (c : RxCfg) (m : Nat) : Rx :=
  { Rx.fresh c m with pnum := r.pnum, pexp := r.pexp, gain := r.gain, w := r.w, powers := r.powers }

/-- One interval of a stream: `m` is the index of its first sample, `a` and `b` its antenna or combined samples, `miss` whether the
interval is missed for want of IQ. Answers the receiver, the segments and the detections abandoned. -/
def Rx.interval (r : Rx) (c : RxCfg) (x : RxTime) (m : Nat) (a b : List W32) (miss : Bool) : Rx × List Byte × Nat :=
  let r := if r.n = m then r else r.resume c m
  let r := { r with isum := 0, idle := r.phase == 0, missNow := miss }
  let s := (List.range a.length).foldl (fun s i => Rx.sample c x s (a.getD i 0#32) (b.getD i 0#32)) (r, ([], 0))
  let r := { s.1 with miss := s.1.miss || (miss && s.1.phase != 0), missNow := false }
  let f := r.flush c
  let p := r.isum / max 1 a.length
  let r := if c.survey && f.1.idle && !miss then { f.1 with powers := f.1.powers ++ [p] } else f.1
  (r, s.2.1 ++ f.2, s.2.2)

/-- R351: a burst in progress ends at once, without payload; the search starts again with the next interval. -/
def Rx.abort (r : Rx) (c : RxCfg) (status : Nat) : Rx × List Byte :=
  match r.phase with
  | 2 =>
    let f := r.finishBare c status
    (f.1, segment c sgSTART 16 (startBytes r.start) ++ f.2)
  | 3 => r.finishBare c status
  | _ => (r.syncTimeout.1.release, [])

/-- NOISE_MEASUREMENT (R338): the mean and the least of the P values, scaled as in R337 before CAL. -/
def Rx.noise (r : Rx) (c : RxCfg) : Rx × List Byte :=
  let n := r.powers.length
  if n = 0 ∨ n < wfld c.m MODE_NF_INTERVALS then (r, [])
  else
    let db (num den : Nat) : Int := if num = 0 then -32768 else log160 (num * 4 ^ c.scale) (den * 2 ^ 30)
    let least := r.powers.foldl min (r.powers.getD 0 0)
    ({ r with powers := [] }, segment c sgNOISE 8 (bytesLE 4 (encInt 16 (db r.powers.sum n) + 65536 * encInt 16 (db least 1)) ++ bytesLE 4 n))

end Sys2Proof.Machine
end

