-- ==== Sys2Proof/Machine/Modul.lean ====
section
/-!
DEFINITION. Machine/Modul.lean: the modulator (R318, R319). Phases and pulses are computed in units of 2^-96, far below the unit of a bin within
which R319 leaves each part open; which of the two nearest values a part takes is a free value of Config.
-/

namespace Sys2Proof.Machine

/-- 2π / sqrt(ln 2) and 1 / sqrt(2π), in units of 2^-96. -/
def gaussScale : Int := 597925012909658532247026054996
def gaussPeak : Int := 31607463825455920808620519744

/-- Product in units of 2^-96. -/
def fmul (a b : Int) : Int := a * b / 2 ^ 96

/-- exp(-x) for x from 0 to 1/2: the power series. -/
def decaySeries (x : Int) : Nat → Nat → Int → Int
  | 0, _, _ => 0
  | fuel + 1, k, t => t + decaySeries x fuel (k + 1) (-(fmul t x) / ((k + 1 : Nat) : Int))

/-- exp(-x) for x from 0 to 32. -/
def expNeg (x : Int) : Int := (List.range 6).foldl (fun e _ => fmul e e) (decaySeries (x / 64) 30 0 (2 ^ 96))

/-- Σ u^(2k+1) / (1 * 3 * ... * (2k+1)). -/
def phiSeries (u2 : Int) : Nat → Nat → Int → Int
  | 0, _, _ => 0
  | fuel + 1, k, t => t + phiSeries u2 fuel (k + 1) (fmul t u2 / ((2 * k + 3 : Nat) : Int))

/-- The antiderivative u Φ(u) + φ(u) of the normal distribution; beyond 8 deviations the tail is below 2^-48. -/
def gaussG (u : Int) : Int :=
  let one : Int := 2 ^ 96
  if u ≥ 8 * one then u
  else if u ≤ -8 * one then 0
  else
    let pdf := fmul gaussPeak (expNeg (fmul u u / 2))
    fmul u (one / 2 + fmul pdf (phiSeries (fmul u u) 160 0 u)) + pdf

/-- The integral of the untruncated pulse up to time t (in symbols), for BT in tenths. -/
def pulseInt (bt t : Int) : Int :=
  let k := gaussScale * bt / 10
  let half : Int := 2 ^ 95
  (gaussG (fmul k (t + half)) - gaussG (fmul k (t - half))) * 2 ^ 96 / k

/-- BT of a mode, in tenths. -/
def modeBt (m : Words) : Int := match wfld m MODE_BT with | 0 => 3 | 1 => 5 | _ => 10

/-- Integral of g up to time t: truncated to three symbols either side and of unit integral. -/
def pulse (m : Words) (t : Int) : Int :=
  let three : Int := 3 * 2 ^ 96
  if t ≤ -three then 0
  else if t ≥ three then 2 ^ 96
  else
    let lo := pulseInt (modeBt m) (-three)
    (pulseInt (modeBt m) t - lo) * 2 ^ 96 / (pulseInt (modeBt m) three - lo)

/-- θ / 2π at a time (in symbols after t0), in units of 2^-96. -/
def burstTurns (m : Words) (lv : List Int) (t : Int) : Int :=
  let s := ((List.range lv.length).map (fun i => lv.getD i 0 * pulse m (t - (i : Int) * 2 ^ 96))).sum
  s * (wfld m MODE_H : Int) / 512

/-- The amplitude at a time: raised-cosine ramps over the symbol before t0 and over the symbol after the last (R319). In units of
2^-96 of one unit. -/
def burstAmp (a : Nat) (n : Nat) (t : Int) : Int :=
  let one : Int := 2 ^ 96
  let stop := (n : Int) * one
  let ramp (x : Int) : Int := (a : Int) * (one - (turnFix (x / 2).toNat (2 ^ 96)).1) / 2
  if t < -one || t > stop + one then 0
  else if t < 0 then ramp (t + one)
  else if t ≤ stop then (a : Int) * one
  else ramp (stop + one - t)

/-- A part of a bin: rounded down or up, as the free value says. -/
def binPart (x : Int) (free : Nat) : Int := x / 2 ^ 96 + (if x % 2 ^ 96 ≠ 0 && Config.binUp free then 1 else 0)

/-- The bin of frame m for a burst: `t` is the frame's time in symbols after t0, `odd` whether (-1)^(bm) is -1. -/
def burstBin (m : Words) (lv : List Int) (a : Nat) (t : Int) (odd : Bool) (free : Nat) : W32 :=
  let amp := burstAmp a lv.length t
  if amp = 0 then 0#32
  else
    let cs := turnFix (burstTurns m lv t % 2 ^ 96).toNat (2 ^ 96)
    let sg : Int := if odd then -1 else 1
    cword (sat16 (binPart (sg * fmul amp cs.1) free)) (sat16 (binPart (sg * fmul amp cs.2) (free + 1)))

end Sys2Proof.Machine
end

