-- ==== Sys2Proof/Machine/Fabric.lean ====
section
/-!
DEFINITION. Machine/Fabric.lean: the Uneis fabric (R250-R280): how a request is issued and completed at its source, taken in and
applied at its home, forwarded, combined; streams, generations, routes, ports, the register port and its fences.
-/

namespace Sys2Proof.Machine

/-! ### Small tables -/

/-- Client number of the combining entries of a forwarder (no source number of R19). -/
def clientComb : Nat := 4096

/-- Bytes that a SIZE code stands for (R256). -/
def sizeBytes (s : Nat) : Nat := 4 * 2 ^ s

/-- SIZE code of a number of bytes: the largest that does not exceed it. -/
def sizeCode (n : Nat) : Nat :=
  if n ≥ 128 then 5 else if n ≥ 64 then 4 else if n ≥ 32 then 3 else if n ≥ 16 then 2 else if n ≥ 8 then 1 else 0

/-- Bytes of an element of an atomic type (R259), 0 for a reserved type. -/
def elemBytes (atype : Nat) : Nat :=
  match atype % 8 with
  | 1 => 4 | 2 => 4 | 3 => 8 | 4 => 8 | 5 => 4 | _ => 0

/-- The type code of an atomic is one of R259's. -/
def atypeOk (atype : Nat) : Bool := elemBytes atype != 0

/-- Is an operation one that writes at its home. -/
def opWrites (op : Nat) : Bool := op == opSTORE || op == opADD || op == opMIN || op == opMAX || op == opCAS
def opAtomic (op : Nat) : Bool := op == opADD || op == opMIN || op == opMAX || op == opCAS

/-- Operation of the response to a request (R258). -/
def respOp (op : Nat) : Nat := if op = opLOAD ∨ op = opGETS then opDATA else if op = opCAS then opOLD else opACK

/-- DET_STRICT in force (R434). -/
def Dev.strict (d : Dev) : Bool := d.is FPL_REPLAY_CLASS_DET_STRICT

/-- Two's complement value of `8 * n` bits. -/
def signedOf (n v : Nat) : Int := if v ≥ 2 ^ (8 * n - 1) then (v : Int) - 2 ^ (8 * n) else v

/-- R261: one element of ADD, MIN or MAX. -/
def atomElem (op atype old new : Nat) : Nat :=
  let n := elemBytes atype
  if atype % 8 = 5 then
    let a := BitVec.ofNat 32 old
    let b := BitVec.ofNat 32 new
    (if op = opADD then fAdd a b else if op = opMIN then fMin a b else fMax a b).toNat
  else if op = opADD then (old + new) % 2 ^ (8 * n)
  else
    let less (x y : Nat) : Bool := if atype % 8 = 1 || atype % 8 = 3 then signedOf n x < signedOf n y else decide (x < y)
    if op = opMIN then (if less new old then new else old) else (if less old new then new else old)

/-- R261: the elements of `new` applied to those of `old`, where `here` marks the byte positions that are present. -/
def atomApply (op atype : Nat) (here : Nat → Bool) (old new : List Byte) : List Byte :=
  let n := elemBytes atype
  (List.range (old.length / n)).flatMap (fun i =>
    let o := (old.drop (i * n)).take n
    if here (i * n) then bytesLE n (atomElem op atype (leNat o) (leNat ((new.drop (i * n)).take n))) else o)

/-! ### Quad cache (R278, R280) -/

/-- Key of a line of another node. -/
def qcKey (node off : Nat) : Nat := node * 2199023255552 + off / 128 % 2199023255552

def Dev.qcLine (d : Dev) (node off : Nat) : Nat × List Byte := sget d.fab.qcache (qcKey node off) (0, [])
def Dev.setQc (d : Dev) (k : Nat) (v : Nat × List Byte) : Dev :=
  { d with fab := { d.fab with qcache := if v.1 = 0 then sdel d.fab.qcache k else sput d.fab.qcache k v } }

/-- R278, R280: a store or atomic of this device drops its own copy; a fill that is outstanding will not be installed. -/
def Dev.qcDrop (d : Dev) (node off : Nat) : Dev :=
  let l := d.qcLine node off
  d.setQc (qcKey node off) (if l.1 = 2 ∨ l.1 = 4 then (4, []) else (0, []))

/-- Lines that the quad cache holds in all. -/
def Dev.qcSize (d : Dev) : Nat := d.get UNL_QCACHE_CFG_SLOTS * 16 * 8192

/-- DATA of a fill: installed in S (R278), unless an INVAL overtook it (R279). Where no place is free it takes that of a line in S, which one is a
free choice; an X line is never evicted (R280). -/
def Dev.qcFill (d : Dev) (node off : Nat) (data : List Byte) : Dev :=
  let k := qcKey node off
  if (d.qcLine node off).1 = 2 then
    if (d.fab.qcache.filter (fun e => e.2.1 == 1 || e.2.1 == 3)).length < d.qcSize then d.setQc k (1, data)
    else
      let ss := d.fab.qcache.filter (fun e => e.2.1 == 1)
      match ss[Config.latency d.free % ss.length]? with
      | some v => ({ d with free := d.free + 1 }.setQc v.1 (0, [])).setQc k (1, data)
      | none => d.setQc k (0, [])
  else if (d.qcLine node off).1 = 4 then d.setQc k (0, [])
  else d

/-- R280: lines of a reset member go to X, those that wait for their data among them: what its old generation still sends installs nothing. -/
def Dev.qcPoison (d : Dev) (node : Nat) : Dev :=
  { d with fab := { d.fab with qcache := d.fab.qcache.map (fun e =>
      if e.1 / 2199023255552 = node && (e.2.1 = 1 || e.2.1 = 2 || e.2.1 = 4) then (e.1, (3, [])) else e) } }

/-- R280: a rewrite of a member's UNL_QUAD entry drops every X line of the node. -/
def Dev.qcForget (d : Dev) (node : Nat) : Dev :=
  { d with fab := { d.fab with qcache := d.fab.qcache.filter (fun e => !(e.1 / 2199023255552 == node && e.2.1 == 3)) } }

/-! ### Source side: issue (R250, R254, R262) -/

/-- Key of a stream of a node and class. -/
def streamKey (node cls : Nat) : Nat := node * 8 + cls

/-- Requests outstanding in a stream. -/
def Dev.streamLoad (d : Dev) (dst cls : Nat) : Nat :=
  (d.fab.out.filter (fun r => pkf r.pk PKT_DST == dst && pkf r.pk PKT_CLASS == cls)).length

/-- A tag that no outstanding request to the destination carries (R256). -/
def Dev.freshTag (d : Dev) (dst : Nat) : Nat → Nat → Nat
  | 0, t => t % 65536
  | n + 1, t =>
    if d.fab.out.any (fun r => r.tag == t % 65536 && pkf r.pk PKT_DST == dst) then Dev.freshTag d dst n (t + 1) else t % 65536

/-- The request must wait before it is sent. -/
def Dev.mustHold (d : Dev) (r : FReq) : Bool :=
  let dst := pkf r.pk PKT_DST
  let cls := pkf r.pk PKT_CLASS
  !d.is UNL_CTRL_EN || (dst != d.node && d.genOf dst == 0) || decide (d.streamLoad dst cls ≥ 1024) ||
  d.fab.genHold.any (fun h => pkf h.pk PKT_DST == dst && pkf h.pk PKT_CLASS == cls)

/-- Sends a request in its stream. -/
def Dev.launch (d : Dev) (r : FReq) : Dev :=
  let dst := pkf r.pk PKT_DST
  let cls := pkf r.pk PKT_CLASS
  let st := sget d.fab.tx (streamKey dst cls) (0, 0)
  let tag := d.freshTag dst 4096 d.fab.tag
  let pk := [(PKT_SRC, d.node), (PKT_TAG, tag), (PKT_SEQ, st.2), (PKT_EPOCH, st.1), (PKT_SRC_GEN, d.gen),
    (PKT_DST_GEN, d.genOf dst)].foldl (fun p fv => setPkf p fv.1 fv.2) r.pk
  let d := { d with fab := { d.fab with
    tag := (tag + 1) % 65536
    tx := sput d.fab.tx (streamKey dst cls) (st.1, (st.2 + 1) % 65536)
    out := d.fab.out ++ [{ r with tag := tag, epoch := st.1, seq := st.2, pk := pk }] } }
  let op := pkf pk PKT_OP
  let off := pkf pk PKT_OFFSET
  let d := if opWrites op && r.client != clientComb then d.qcDrop dst off else d
  d.sendPacket pk

/-- Issues a request, or holds it: before EN, for an unknown generation (the query goes once), behind 1,024 requests of the
stream, or behind a request that waits (R254, R262). -/
def Dev.fabIssue (d : Dev) (r : FReq) : Dev :=
  let dst := pkf r.pk PKT_DST
  if d.mustHold r then
    let ask := d.is UNL_CTRL_EN && dst != d.node && d.genOf dst == 0 &&
      !d.fab.genHold.any (fun h => pkf h.pk PKT_DST == dst)
    let d := { d with fab := { d.fab with genHold := d.fab.genHold ++ [r] } }
    if ask then d.sendPacket (setPkf (d.mkPacket dst clMGMT opGEN_QUERY 0 0 0 0 0 0 0 0 false []) PKT_DST_GEN 0) else d
  else d.launch r

/-- Sends held requests that need not wait any longer; `ask`: queries go out for unknown generations. -/
def Dev.fabKick (d : Dev) (ask : Bool) : Dev :=
  let rs := d.fab.genHold
  rs.foldl (fun d r =>
    if d.mustHold r then
      let dst := pkf r.pk PKT_DST
      let q := ask && d.is UNL_CTRL_EN && dst != d.node && d.genOf dst == 0 &&
        !d.fab.genHold.any (fun h => pkf h.pk PKT_DST == dst)
      let d := { d with fab := { d.fab with genHold := d.fab.genHold ++ [r] } }
      if q then d.sendPacket (setPkf (d.mkPacket dst clMGMT opGEN_QUERY 0 0 0 0 0 0 0 0 false []) PKT_DST_GEN 0) else d
    else d.launch r) { d with fab := { d.fab with genHold := [] } }

/-! ### Fabric error log (R270) -/

/-- Writes an entry to the 64-entry fabric error log and sends the event record. -/
def Dev.logError (d : Dev) (status client node off : Nat) : Dev :=
  let d := if d.fab.errLog.length < 64
    then { d with fab := { d.fab with errLog := d.fab.errLog ++ [(status, client, node, off)] } }
    else { d with fab := { d.fab with errLost := min 255 (d.fab.errLost + 1) } }
  d.event client .fabricError [status, node, off]

/-! ### The register port (R267, R268) -/

/-- Operation codes of UNL_OP_W0. -/
def uoFENCE : Nat := 0x0F

/-- Fabric operation of a register-port operation: opcode 1 LOAD, 2 STORE, 3 ADD, 4 MIN, 5 MAX, 6 CAS. -/
def uopOp (o : Nat) : Nat :=
  match o with
  | 1 => opLOAD | 2 => opSTORE | 3 => opADD | 4 => opMIN | 5 => opMAX | _ => opCAS

def UOp.f (u : UOp) (b : BF) : Nat := wfld [u.w0] b

/-- The fields of UNL_OP_W0. -/
def UO_OP : BF := ⟨0, 0, 8⟩
def UO_ATYPE : BF := ⟨0, 8, 4⟩
def UO_SIZE8 : BF := ⟨0, 12, 1⟩
def UO_NODE : BF := ⟨0, 16, 16⟩
def UO_USED : List Nat := [0xFFFF1FFF]

def Dev.setOp (d : Dev) (u : UOp) : Dev :=
  { d with fab := { d.fab with ops := d.fab.ops.map (fun v => if v.id = u.id then u else v) } }

/-- An operation of the register port completes (R268, R270). -/
def Dev.opDone (d : Dev) (id status node : Nat) (data : List Byte) : Dev :=
  match d.fab.ops.find? (fun u => u.id == id) with
  | none => d
  | some u =>
    let d := d.setOp { u with stage := 2, status := status, node := node, rdata := leNat (data.take 8) }
    if status = stOK || u.f UO_OP = uoFENCE then d else d.logError status srcRegPort (u.f UO_NODE) u.offset

/-- R268: completes a fence whose earlier operations have all completed. -/
def Dev.fenceDone (d : Dev) (u : UOp) : Dev :=
  let before := d.fab.ops.takeWhile (fun v => v.id != u.id)
  let bad := (before.find? (fun v => !v.covered && v.f UO_OP != uoFENCE && v.status != stOK)).map (fun v => (v.status, v.node))
  let rep := match d.fab.fenceFail with
    | some f => f
    | none => bad.getD (stOK, 0)
  let d := { d with fab := { d.fab with
    ops := d.fab.ops.map (fun (v : UOp) => if before.any (fun (w : UOp) => w.id == v.id) then { v with covered := true } else v)
    fenceFail := none } }
  d.setOp { u with stage := 2, status := rep.1, node := rep.2 }

/-- The words hold a reserved bit or a reserved code of ATYPE (0x6, 0x7, 0x8, 0xE, 0xF), whatever the operation (R14, R259). -/
def UOp.reserved (u : UOp) : Bool := u.bad || [6, 7, 8, 14, 15].contains (u.f UO_ATYPE)

/-- R14, R259, R435: the operation completes with REFUSED_STATE without going out. -/
def Dev.opRefused (d : Dev) (u : UOp) : Bool :=
  let o := u.f UO_OP
  let t := u.f UO_ATYPE
  let n := if u.f UO_SIZE8 = 1 then 8 else 4
  u.reserved || o == 0 || decide (o > 6) ||
  (decide (o ≥ 3) && (!atypeOk t || elemBytes t > n)) ||
  (o == 6 && (t ≥ 8 || elemBytes t != n)) ||
  (o == 3 && t % 8 == 5 && d.strict)

/-- The request of a register-port operation. -/
def Dev.opReq (d : Dev) (u : UOp) : FReq :=
  let o := u.f UO_OP
  let t := if o ≥ 3 then u.f UO_ATYPE else 0
  let n := if u.f UO_SIZE8 = 1 then 8 else 4
  let op := uopOp o
  let cls := if o ≤ 2 then clPLAIN else if t ≥ 8 then clRELAXED else clATOMIC
  let payload := if o = 1 then [] else if o = 6 then bytesLE n u.cmp ++ bytesLE n u.data else bytesLE n u.data
  { client := srcRegPort, owner := 0, desc := u.id, idx := 0, laddr := 0, len := n
    pk := d.mkPacket (u.f UO_NODE) cls op (if n = 8 then 1 else 0) u.offset 0 0 0 t 0 0 (t % 8 == 5 && d.strict) payload }

/-- R423: stores to a DRY send window complete with OK and leave as nothing; the others go out. -/
def Dev.fabSend (d : Dev) (r : FReq) (done : Dev → Dev) : Dev :=
  if pkf r.pk PKT_OP = opSTORE && pkf r.pk PKT_DST != d.node then
    let bytes := r.pk.payload.take (sizeBytes (pkf r.pk PKT_SIZE))
    let w := d.winSend (pkf r.pk PKT_DST) (pkf r.pk PKT_OFFSET) bytes
    if w.2 then done w.1 else w.1.fabIssue r
  else d.fabIssue r

/-- Issues queued operations in order; a fence completes when everything before it has, and what follows waits for it. -/
def Dev.opPump (d : Dev) : Nat → Dev
  | 0 => d
  | n + 1 =>
    match d.fab.ops.find? (fun u => u.stage == 0) with
    | none => d
    | some u =>
      let before := d.fab.ops.takeWhile (fun v => v.id != u.id)
      if u.f UO_OP = uoFENCE && !u.reserved then
        if before.all (fun v => v.stage == 2) then Dev.opPump (d.fenceDone u) n else d
      else if d.opRefused u then Dev.opPump (d.opDone u.id stREFUSED_STATE (u.f UO_NODE) []) n
      else if !d.is UNL_CTRL_EN then d
      else
        let r := d.opReq u
        let d := d.setOp { u with stage := 1 }
        Dev.opPump (d.fabSend r (fun d => d.opDone u.id stOK (u.f UO_NODE) [])) n

/-- The write of UNL_OP_W0's high word (R13): into the 16-entry queue. -/
def Dev.opIssue (d : Dev) (w0 : W64) (offset data cmp : Nat) (bad : Bool) : Dev :=
  if d.fab.ops.length ≥ 16 then d.set UNL_STATUS_OP_OVERFLOW 1
  else
    let isBad := bad || reservedSet [w0] UO_USED
    let u : UOp := { id := d.fab.opId, w0 := w0, offset := offset, data := data, cmp := cmp, bad := isBad }
    Dev.opPump { d with fab := { d.fab with ops := d.fab.ops ++ [u], opId := d.fab.opId + 1 } } 17

/-- A read of the low word of UNL_OP_RESULT: the oldest operation, once it is complete, is removed (R13). -/
def Dev.opPop (d : Dev) : Dev × Option UOp :=
  match d.fab.ops with
  | u :: rest =>
    if u.stage = 2 then
      let fail := if !u.covered && u.f UO_OP != uoFENCE && u.status != stOK && d.fab.fenceFail.isNone
        then some (u.status, u.node) else d.fab.fenceFail
      (({ d with fab := { d.fab with ops := rest, fenceFail := fail } }.set UNL_OP_DATA_DATA u.rdata).opPump 17, some u)
    else (d, none)
  | [] => (d, none)

/-! ### Descriptors of tiles -/

/-- A request of a descriptor has completed: the first-issued failure is kept (R270). -/
def Dev.dmaReqDone (d : Dev) (tc id idx status node off : Nat) : Dev :=
  let ch := d.chuck tc
  let first (o : DmaOp) : Option (Nat × Nat × Nat × Nat) :=
    if status = stOK then o.fail
    else match o.fail with
      | some f => if f.1 ≤ idx then some f else some (idx, status, node, off)
      | none => some (idx, status, node, off)
  d.setChuck tc { ch with dq := ch.dq.map (fun o =>
    if o.id = id then { o with waits := o.waits.filter (· != idx), fail := first o } else o) }

/-- A descriptor takes delivery while its chuck has it: one in progress completes even when its item was cut (R167). -/
def Dev.dmaLive (d : Dev) (tc id : Nat) : Bool := (d.chuck tc).dq.any (fun o => o.id == id)

/-! ### Combining (R275, R276) -/

/-- Image and present positions of an operand: a combined request carries both. -/
def combOperand (pk : Packet) : SMap Byte × Nat :=
  let n := sizeBytes (pkf pk PKT_SIZE)
  let at_ := pkf pk PKT_OFFSET % 128
  if pk.payload.length ≥ 144 then
    let mask := leNat ((pk.payload.drop 128).take 4)
    ((List.range 128).filterMap (fun i => if mask.testBit (i / 4) then some (i, pk.payload.getD i 0#8) else none), mask)
  else
    ((List.range n).map (fun i => (at_ + i, pk.payload.getD i 0#8)),
      (List.range (n / 4)).foldl (fun a i => a + 2 ^ (at_ / 4 + i)) 0)

/-- Two operands combined position by position, the older first (R276). -/
def combMerge (op atype : Nat) (a b : SMap Byte × Nat) : SMap Byte × Nat :=
  let n := elemBytes atype
  let img := (List.range (128 / n)).flatMap (fun e =>
    let ha := a.2.testBit (e * n / 4)
    let hb := b.2.testBit (e * n / 4)
    let rd (m : SMap Byte) : List Byte := (List.range n).map (fun i => sget m (e * n + i) 0#8)
    let put (bs : List Byte) : SMap Byte := (List.range n).map (fun i => (e * n + i, bs.getD i 0#8))
    if ha && hb then put (bytesLE n (atomElem op atype (leNat (rd a.1)) (leNat (rd b.1))))
    else if ha then put (rd a.1) else if hb then put (rd b.1) else [])
  (img, a.2 ||| b.2)

/-- A request that this forwarder may combine (R275). -/
def Dev.combinable (d : Dev) (pk : Packet) : Bool :=
  let op := pkf pk PKT_OP
  let t := pkf pk PKT_ATYPE
  pkf pk PKT_CLASS == clRELAXED && (op == opADD || op == opMIN || op == opMAX) && !(pkf pk PKT_NOCOMBINE == 1) &&
  atypeOk t && d.get UNL_COMBINE_CFG_WINDOW != 0 && pkf pk PKT_OFFSET % elemBytes t == 0 &&
  decide (pkf pk PKT_OFFSET % 128 + sizeBytes (pkf pk PKT_SIZE) ≤ 128) &&
  (t % 8 != 5 || (d.is UNL_COMBINE_CFG_FP_EN && !d.strict))

/-- The combining window in force. -/
def Dev.combWindow (d : Dev) : Nat := min 64 (d.get UNL_COMBINE_CFG_WINDOW)

/-- Closes an open entry: one request from this node in its own stream, COUNT constituents (256 is 0), with
NOCOMBINE for FP32 under DET_STRICT (R275). -/
def Dev.combSend (d : Dev) (e : CombEntry) : Dev :=
  let id := d.fab.opId
  let payload := (List.range 128).map (fun i => sget e.image i 0#8) ++ bytesLE 16 e.present
  let r : FReq := { client := clientComb, owner := 0, desc := id, idx := 0, laddr := 0, len := 0
                    pk := d.mkPacket e.dst clRELAXED e.op 5 (e.line * 128) 0 0 0 e.atype (e.parts.length % 256) 0 (e.atype % 8 == 5 && d.strict) payload }
  let d := { d with fab := { d.fab with
    opId := id + 1, comb := d.fab.comb.map (fun x => if x = e then { x with sent := some id } else x) } }
  d.fabIssue r

/-- The combined request has completed: its status goes to every constituent, in the response of R258 to the generation that
sent it (R276). -/
def Dev.combDone (d : Dev) (id status : Nat) : Dev :=
  match d.fab.comb.find? (fun e => e.sent == some id) with
  | none => d
  | some e =>
    let d := { d with fab := { d.fab with comb := d.fab.comb.filter (fun x => x.sent != some id) } }
    e.parts.foldl (fun d p =>
      let pk := setPkf (d.mkPacket p.1 clRESPONSE opACK 5 p.2.2.1 p.2.1 0 0 0 0 status false []) PKT_DST_GEN p.2.2.2
      -- the source matches the response by the home's node (R266)
      d.sendPacket (setPkf (setPkf pk PKT_SRC e.dst) PKT_SRC_GEN e.dgen)) d

/-! ### Source side: completion (R263, R266, R270) -/

/-- One request completes with a status and data. -/
def Dev.reqDone (d : Dev) (r : FReq) (status : Nat) (data : List Byte) : Dev :=
  let node := pkf r.pk PKT_DST
  let off := pkf r.pk PKT_OFFSET
  if r.client = srcRegPort then d.opDone r.desc status node data
  else if r.client = clientComb then d.combDone r.desc status
  else
    let d := if r.fill then
        (if status = stOK then d.qcFill node off data
         else (let l := d.qcLine node off; if l.1 = 2 ∨ l.1 = 4 then d.setQc (qcKey node off) (0, []) else d))
      else d
    let op := pkf r.pk PKT_OP
    let d := if status = stOK && (op = opLOAD || op = opGETS || op = opCAS) && d.dmaLive r.owner r.desc
      then d.localPuts r.owner r.laddr ((List.range r.len).map (fun i => data.getD (r.skip + i) 0#8))
      else d
    d.dmaReqDone r.owner r.desc r.idx status node off

/-- R263: an operation of a stream completes with NODE_LOST, and so does every other outstanding one of it; the stream goes on in
its next epoch. -/
def Dev.streamLost (d : Dev) (r : FReq) : Dev :=
  let dst := pkf r.pk PKT_DST
  let cls := pkf r.pk PKT_CLASS
  let same (q : FReq) : Bool := pkf q.pk PKT_DST == dst && pkf q.pk PKT_CLASS == cls && q.epoch == r.epoch &&
    pkf q.pk PKT_DST_GEN == pkf r.pk PKT_DST_GEN
  let lost := d.fab.out.filter same
  let st := sget d.fab.tx (streamKey dst cls) (0, 0)
  let tx := if st.1 = r.epoch && d.genOf dst = pkf r.pk PKT_DST_GEN
    then sput d.fab.tx (streamKey dst cls) ((st.1 + 1) % 8, 0) else d.fab.tx
  let d := { d with fab := { d.fab with out := d.fab.out.filter (fun q => !same q), tx := tx } }
  lost.foldl (fun d q => d.reqDone q stNODE_LOST []) d

/-- A request completes, and what waited for it goes on. -/
def Dev.complete (d : Dev) (r : FReq) (status : Nat) (data : List Byte) : Dev :=
  let d := if status = stNODE_LOST then d.streamLost r
    else { d with fab := { d.fab with out := d.fab.out.erase r } }.reqDone r status data
  (d.fabKick false).opPump 17

/-- A response arrives at its destination (R253, R266). -/
def Dev.responseIn (d : Dev) (pk : Packet) : Dev :=
  if pkf pk PKT_DST_GEN ≠ d.gen then d
  else
    match d.fab.out.find? (fun r => r.tag == pkf pk PKT_TAG && pkf r.pk PKT_DST == pkf pk PKT_SRC) with
    | none => d
    | some r => d.complete r (pkf pk PKT_STATUS) pk.payload

/-! ### Home side (R251, R258, R261, R279) -/

/-- A fabric access that waits belongs to the stream of a source and class. -/
def HeldAccess.ofStream (h : HeldAccess) (src cls : Nat) : Bool :=
  match h with
  | .fabric pk => pkf pk PKT_SRC == src && pkf pk PKT_CLASS == cls
  | _ => false

/-- A request of the stream is held at the home, so those after it wait (R264). -/
def Dev.streamHeld (d : Dev) (src cls : Nat) : Bool :=
  d.fab.dir.any (fun e => e.2.held.any (HeldAccess.ofStream · src cls)) ||
  d.mem.held.any (fun e => HeldAccess.ofStream e.2 src cls) ||
  d.mem.moves.any (fun v => v.held.any (HeldAccess.ofStream · src cls)) ||
  d.mem.released.any (HeldAccess.ofStream · src cls)

/-- R279: a place in the line's directory set, or the sharer entry that must go first: an entry that `pick` chooses among those
in state S. -/
def Dev.dirVictim (d : Dev) (k : Nat) : Option Nat :=
  let stack (l : Nat) : Nat := d.get (TMAP_STACK (l / 8192))
  let set (l : Nat) : Nat := Config.dirSet l % 16384
  let ents := d.fab.dir.filter (fun e => stack e.1 == stack k && set e.1 == set k)
  if ents.length < 16 then none
  else
    let ss := ents.filter (fun e => e.2.waiting.isEmpty)
    match ss with
    | [] => (ents.head?).map (·.1)
    | _ => (ss[Config.latency d.free % ss.length]?).map (·.1)

/-- Answers a request that reads: LOAD or GETS. -/
def homeRead (m : Mem) (d : Dev) (pk : Packet) (off n : Nat) : Dev :=
  let r := readRange m d off n .consumer
  match r.2.1 with
  | .ok => r.1.respond pk opDATA stOK r.2.2
  | .held => r.1.hold (extOf off) (.fabric pk)
  | .originFail => r.1.respond pk opDATA stUNCORRECTABLE []
  | _ => r.1

/-- R279: GETS. A member's fill of a writable line makes it a sharer; a read-only line is filled without an entry, and so is
a node outside the quad. -/
def homeGets (m : Mem) (d : Dev) (pk : Packet) (off : Nat) : Dev :=
  let k := dirKey off
  let q := pkf pk PKT_SRC
  let track := d.is (TMAP_WRITABLE (extOf off)) && d.quad.contains q && q != d.node
  if !track then homeRead m d pk off 128
  else
    match sfind d.fab.dir k with
    | some e =>
      if e.waiting ≠ [] then d.setDir k { e with held := e.held ++ [.fabric pk] }
      else
        let r := readRange m d off 128 .consumer
        match r.2.1 with
        | .ok => (r.1.setDir k { e with sharers := if e.sharers.contains q then e.sharers else e.sharers ++ [q] }).respond pk
            opDATA stOK r.2.2
        | .held => r.1.hold (extOf off) (.fabric pk)
        | _ => r.1
    | none =>
      match d.dirVictim k with
      | some v => { d with free := d.free + 1 }.dirHold v (.fabric pk)
      | none =>
        let r := readRange m d off 128 .consumer
        match r.2.1 with
        | .ok => (r.1.setDir k ⟨[q], [], []⟩).respond pk opDATA stOK r.2.2
        | .held => r.1.hold (extOf off) (.fabric pk)
        | _ => r.1

/-- R261: a write or atomic at a line that nothing holds. -/
def homeWrite (m : Mem) (d : Dev) (pk : Packet) (off n : Nat) : Dev :=
  let op := pkf pk PKT_OP
  let t := pkf pk PKT_ATYPE
  let src := pkf pk PKT_SRC
  if op = opSTORE then
    let bytes := (List.range n).map (fun i => pk.payload.getD i 0#8)
    let r := writeLine m d off bytes
    if r.2 = .ok then (r.1.winReceive src off bytes).respond pk opACK stOK [] else r.1
  else
    let len := if op = opCAS then elemBytes t else n
    let r := readRange m d off len .consumer
    match r.2.1 with
    | .ok =>
      let old := r.2.2
      if op = opCAS then
        let cmp := (List.range len).map (fun i => pk.payload.getD i 0#8)
        let new := (List.range len).map (fun i => pk.payload.getD (len + i) 0#8)
        let d := if old = cmp then (writeLine m r.1 off new).1.winReceive src off [] else r.1
        d.respond pk opOLD stOK old
      else
        let comb := decide (pk.payload.length ≥ 144)
        let mask := leNat ((pk.payload.drop 128).take 4)
        let new := atomApply op t (fun i => !comb || mask.testBit (i / 4)) old (pk.payload.take n)
        ((writeLine m r.1 off new).1.winReceive src off []).respond pk opACK stOK []
    | .held => r.1.hold (extOf off) (.fabric pk)
    | _ => r.1

/-- Applies one request at the home, or holds it (R240, R247, R251, R258, R261, R279). -/
def homeApply (m : Mem) (d : Dev) (pk : Packet) : Dev :=
  let op := pkf pk PKT_OP
  let off := pkf pk PKT_OFFSET
  let t := pkf pk PKT_ATYPE
  let x := extOf off
  let n := if op = opGETS then 128 else sizeBytes (pkf pk PKT_SIZE)
  let refuse : Dev := d.respond pk (respOp op) stREFUSED_STATE []
  if off / 2 ^ 41 ≠ 0 then refuse
  else if d.get (TMAP_TIER x) = 0 || (opWrites op && !d.is (TMAP_WRITABLE x)) then refuse
  else if opAtomic op && (!atypeOk t || n < elemBytes t || (op = opCAS && (t ≥ 8 || n ≠ elemBytes t)) ||
      (op = opADD && t % 8 = 5 && d.strict)) then refuse
  else if off % n ≠ 0 then refuse
  else if op = opLOAD then homeRead m d pk off n
  else if op = opGETS then homeGets m d pk off
  else if d.dirBusy off then d.dirHold (dirKey off) (.fabric pk)
  else if d.is (TMAP_REFETCH x) || d.is (TMAP_MIGRATING x) then d.hold x (.fabric pk)
  else homeWrite m d pk off n

/-- Applies the requests of a stream that are next in SEQ order, as long as none is held (R262, R264). -/
def rxDrain (m : Mem) (src cls : Nat) : Nat → Dev → Dev
  | 0, d => d
  | fuel + 1, d =>
    match sfind d.fab.rx (streamKey src cls) with
    | none => d
    | some (ep, exp, early) =>
      if d.streamHeld src cls then d
      else
        match early.find? (fun e => e.1 == exp) with
        | none => d
        | some e =>
          let d := { d with fab := { d.fab with
            rx := sput d.fab.rx (streamKey src cls) (ep, (exp + 1) % 65536, early.filter (fun f => f.1 != exp)) } }
          rxDrain m src cls fuel (homeApply m d e.2)

/-- R263: the requests of a stream that the home holds are discarded. -/
def Dev.dropHeld (d : Dev) (src cls : Nat) : Dev :=
  let keep (l : List HeldAccess) : List HeldAccess := l.filter (fun h => !h.ofStream src cls)
  { d with
    fab := { d.fab with dir := d.fab.dir.map (fun e => (e.1, { e.2 with held := keep e.2.held })) }
    mem := { d.mem with
      held := d.mem.held.filter (fun e => !e.2.ofStream src cls)
      moves := d.mem.moves.map (fun v => { v with held := keep v.held })
      released := keep d.mem.released } }

/-- R262, R263: takes a request into its stream. A first request of a source opens the stream at its epoch; of two epochs the
one at most 3 ahead of the other modulo 8 is the newer; requests of an older epoch are discarded. -/
def streamIn (m : Mem) (d : Dev) (pk : Packet) : Dev :=
  let src := pkf pk PKT_SRC
  let cls := pkf pk PKT_CLASS
  let ep := pkf pk PKT_EPOCH
  let seq := pkf pk PKT_SEQ
  let k := streamKey src cls
  let fresh := match sfind d.fab.rx k with | some (e, _, _) => e != ep | none => false
  let st := match sfind d.fab.rx k with
    | none => some (ep, 0, [])
    | some (e, exp, early) =>
      if e = ep then some (e, exp, early)
      else if (ep + 8 - e) % 8 ≤ 3 then some (ep, 0, []) else none
  match st with
  | none => d
  | some (e, exp, early) =>
    let d := if fresh then d.dropHeld src cls else d
    let d := { d with fab := { d.fab with rx := sput d.fab.rx k (e, exp, early) } }
    if (seq + 65536 - exp) % 65536 ≥ 32768 || early.any (fun f => f.1 == seq) then d.bump UNL_DISCARD_CNT_DUP 1
    else
      let d := { d with fab := { d.fab with rx := sput d.fab.rx k (e, exp, early ++ [(seq, pk)]) } }
      rxDrain m src cls (early.length + 2) d

/-! ### Generations (R252-R254, R280) -/

/-- R280: a quad member has been reset. -/
def Dev.memberReset (d : Dev) (node : Nat) : Dev :=
  let d := d.qcPoison node
  d.fab.dir.foldl (fun d e =>
    let sh := e.2.sharers.filter (· != node)
    let wt := e.2.waiting.filter (· != node)
    if e.2.waiting ≠ [] && wt = [] then
      { d with fab := { d.fab with dir := sdel d.fab.dir e.1 }, mem := { d.mem with released := d.mem.released ++ e.2.held } }
    else if sh = [] then { d with fab := { d.fab with dir := sdel d.fab.dir e.1 } }
    else d.setDir e.1 { e.2 with sharers := sh, waiting := wt }) d

/-- Records a node's generation. A new one starts the streams to and from the node afresh (R255, R264). -/
def Dev.learnGen (d : Dev) (node gen : Nat) : Dev :=
  let old := d.genOf node
  let d := d.setGenOf node gen
  if old = 0 then d.fabKick false
  else
    let keep {α : Type} (m : SMap α) : SMap α := m.filter (fun e => e.1 / 8 != node)
    let d := { d with fab := { d.fab with tx := keep d.fab.tx, rx := keep d.fab.rx } }
    let d := if d.quad.contains node then d.memberReset node else d
    d.fabKick false

/-- R253: the checks of a request's generations: the device after them, and whether the request is processed. -/
def Dev.genCheck (d : Dev) (pk : Packet) (answer : Bool) : Dev × Bool :=
  let src := pkf pk PKT_SRC
  let sg := pkf pk PKT_SRC_GEN
  let d := if d.genOf src = 0 then d.learnGen src sg else d
  if d.genOf src ≠ sg then (d.bump UNL_DISCARD_CNT_STALE 1, false)
  else if pkf pk PKT_DST_GEN ≠ d.gen then
    (if answer then d.respond pk (respOp (pkf pk PKT_OP)) stSTALE_GENERATION [] else d, false)
  else (d, true)

/-- Payload of an ANNOUNCE: node and generation. -/
def announcePayload (node gen : Nat) : List Byte := bytesLE 16 (node + gen * 65536)

/-- R252: announces this device on a port that came up. Its DST is the announcing node. -/
def Dev.announceOn (d : Dev) (p : Nat) : Dev :=
  d.toPort p (d.mkPacket d.node clMGMT opANNOUNCE 0 0 0 0 0 0 0 0 false (announcePayload d.node d.gen))

/-- Ports that are up. -/
def Dev.upPorts (d : Dev) : List Nat := (List.range 12).filter d.portUp

/-- Returns a packet to its source as a response with NODE_LOST from its destination (R266, R269). -/
def Dev.returnLost (d : Dev) (pk : Packet) : Dev :=
  let p := d.mkPacket (pkf pk PKT_SRC) clRESPONSE (respOp (pkf pk PKT_OP)) (pkf pk PKT_SIZE) (pkf pk PKT_OFFSET) (pkf pk PKT_TAG)
    0 0 0 (pkf pk PKT_COUNT) stNODE_LOST false []
  let p := [(PKT_SRC, pkf pk PKT_DST), (PKT_SRC_GEN, pkf pk PKT_DST_GEN), (PKT_DST_GEN, pkf pk PKT_SRC_GEN)].foldl
    (fun p fv => setPkf p fv.1 fv.2) p
  d.sendPacket p

/-- R252: an ANNOUNCE from node SRC with generation SRC_GEN: recorded and forwarded on every other port when it differs from
the table; one whose HOPS would reach 0 goes back to its source (R269). One that has made no hop names the neighbour of the port. -/
def Dev.announceIn (d : Dev) (port : Nat) (pk : Packet) : Dev :=
  let n := pkf pk PKT_SRC
  let g := pkf pk PKT_SRC_GEN
  let d := if pkf pk PKT_HOPS = 31 && pkf pk PKT_DST = n then d.set (UNL_PORT_STATUS_PEER port) n else d
  if n = d.node || d.genOf n = g then d
  else
    let d := d.learnGen n g
    let h := pkf pk PKT_HOPS
    if h ≤ 1 then d.returnLost pk
    else
      let q := setPkf (setPkf pk PKT_DST n) PKT_HOPS (h - 1)
      (d.upPorts.filter (· != port)).foldl (fun d p => d.toPort p q) d

/-- R253, R254: a GEN_QUERY is answered with an ANNOUNCE to the querier alone. -/
def Dev.genQueryIn (d : Dev) (pk : Packet) : Dev :=
  let src := pkf pk PKT_SRC
  let sg := pkf pk PKT_SRC_GEN
  let d := if d.genOf src = 0 then d.learnGen src sg else d
  if d.genOf src ≠ sg then d.bump UNL_DISCARD_CNT_STALE 1
  else d.sendMgmt src opANNOUNCE (announcePayload d.node d.gen)

/-! ### Coherence (R279) -/

/-- INVAL at a member: the line is dropped, a fill that is outstanding will not be installed, and INVAL_ACK goes back. -/
def Dev.invalIn (d : Dev) (pk : Packet) : Dev :=
  let src := pkf pk PKT_SRC
  let off := pkf pk PKT_OFFSET
  let l := d.qcLine src off
  let d := if l.1 = 1 then d.setQc (qcKey src off) (0, []) else if l.1 = 2 then d.setQc (qcKey src off) (4, []) else d
  d.sendPacket (d.mkPacket src clCOHERENCE opINVAL_ACK 5 off (pkf pk PKT_TAG) 0 0 0 0 0 false [])

/-- INVAL_ACK at the home: with the last one the entry is freed and the accesses held go on in arrival order. -/
def Dev.invalAckIn (d : Dev) (pk : Packet) : Dev :=
  let k := dirKey (pkf pk PKT_OFFSET)
  match sfind d.fab.dir k with
  | none => d
  | some e =>
    let w := e.waiting.filter (· != pkf pk PKT_SRC)
    if e.waiting = [] then d
    else if w = [] then
      { d with fab := { d.fab with dir := sdel d.fab.dir k }, mem := { d.mem with released := d.mem.released ++ e.held } }
    else d.setDir k { e with waiting := w }

/-! ### Forwarding (R269, R272-R276) -/

/-- What this forwarder has combined of the stream of a request: 0 not this request, 1 this request, 2 the stream is in a later epoch. -/
def Dev.combState (d : Dev) (pk : Packet) : Nat :=
  match sfind d.fab.combSeen (pkf pk PKT_SRC * 65536 + pkf pk PKT_DST) with
  | none => 0
  | some (g, ep, seqs) =>
    if g ≠ pkf pk PKT_SRC_GEN then 0
    else if ep = pkf pk PKT_EPOCH then (if seqs.contains (pkf pk PKT_SEQ) then 1 else 0)
    else if (pkf pk PKT_EPOCH + 8 - ep) % 8 ≤ 3 then 0 else 2

/-- Notes a combined request; what lies 32,768 or more behind it in its stream is passed (R262). -/
def Dev.combNote (d : Dev) (pk : Packet) : Dev :=
  let k := pkf pk PKT_SRC * 65536 + pkf pk PKT_DST
  let old := match sfind d.fab.combSeen k with
    | some (g, ep, seqs) => if g = pkf pk PKT_SRC_GEN && ep = pkf pk PKT_EPOCH
        then seqs.filter (fun s => (pkf pk PKT_SEQ + 65536 - s) % 65536 < 32768 || (s + 65536 - pkf pk PKT_SEQ) % 65536 < 1024) else []
    | none => []
  { d with fab := { d.fab with combSeen := sput d.fab.combSeen k (pkf pk PKT_SRC_GEN, pkf pk PKT_EPOCH, old ++ [pkf pk PKT_SEQ]) } }

/-- A request joins a combining entry, opens one, or passes (R276): none when it passes. -/
def Dev.combIn (d : Dev) (pk : Packet) : Option Dev :=
  let op := pkf pk PKT_OP
  let t := pkf pk PKT_ATYPE
  let dst := pkf pk PKT_DST
  let dg := pkf pk PKT_DST_GEN
  let line := pkf pk PKT_OFFSET / 128
  let part := (pkf pk PKT_SRC, pkf pk PKT_TAG, pkf pk PKT_OFFSET, pkf pk PKT_SRC_GEN)
  let opd := combOperand pk
  let opens (d : Dev) : Option Dev :=
    if d.fab.comb.length < 256 then
      some { d with fab := { d.fab with comb := d.fab.comb ++ [⟨op, t, dst, dg, line, opd.1, opd.2, [part], d.T, none⟩] } }
    else none
  match d.fab.comb.find? (fun e =>
    e.sent.isNone && e.op == op && e.atype == t && e.dst == dst && e.dgen == dg && e.line == line) with
  | none => opens d
  | some e =>
    if d.T - e.t > d.combWindow then opens (d.combSend e)
    else
      let mg := combMerge op t (e.image, e.present) opd
      let e' := { e with image := mg.1, present := mg.2, parts := e.parts ++ [part] }
      let d := { d with fab := { d.fab with comb := d.fab.comb.map (fun x => if x = e then e' else x) } }
      some (if e'.parts.length ≥ 256 then d.combSend e' else d)

/-- PACKET_FORWARD (R269, R272, R275): one hop fewer; a packet out of hops goes back; an eligible atomic is combined, once (R261). -/
def Dev.forward (d : Dev) (pk : Packet) : Dev :=
  let h := pkf pk PKT_HOPS
  if h ≤ 1 then d.returnLost pk
  else
    let pk := setPkf pk PKT_HOPS (h - 1)
    if !d.combinable pk || d.combState pk = 2 then d.sendPacket pk
    else if d.combState pk = 1 then d
    else
      match d.combIn pk with
      | some d' => d'.combNote pk
      | none => d.sendPacket pk

/-! ### Packets that arrive -/

/-- A packet that every device takes in and passes on: the announcement of a port (R252). -/
def flooded (pk : Packet) : Bool := pkf pk PKT_OP == opANNOUNCE && pkf pk PKT_DST == pkf pk PKT_SRC

/-! ### Credits that this device returns (R274) -/

/-- Two copies of one packet at two places of its path. -/
def samePacket (a b : Packet) : Bool :=
  [PKT_SRC, PKT_DST, PKT_TAG, PKT_SEQ, PKT_CLASS, PKT_OP, PKT_EPOCH].all (fun f => pkf a f == pkf b f)

/-- A held access is an atomic request to a stack. -/
def Dev.atomicAt (d : Dev) (stack : Nat) (pk : Packet) : Bool :=
  (pkf pk PKT_CLASS == clATOMIC || pkf pk PKT_CLASS == clRELAXED) && d.get (TMAP_STACK (extOf (pkf pk PKT_OFFSET))) == stack

/-- Entries in use of a stack's atomic queue: the atomics that the home holds for it. -/
def Dev.atomicQueue (d : Dev) (stack : Nat) : Nat :=
  let held (l : List HeldAccess) : Nat := (l.filter (fun h => match h with | .fabric pk => d.atomicAt stack pk | _ => false)).length
  (d.fab.dir.map (fun e => held e.2.held)).sum + held (d.mem.held.map (·.2)) + (d.mem.moves.map (fun v => held v.held)).sum +
  (d.fab.rx.map (fun e => (e.2.2.2.filter (fun q => d.atomicAt stack q.2)).length)).sum

/-- A port feeds a stack whose atomic queue is full: an atomic for the stack has come by it and the queue has not been empty since. -/
def Dev.feedsFull (d : Dev) (p : Nat) : Bool := d.fab.feeds.any (fun e => e.1 == p && decide (d.atomicQueue e.2 ≥ 256))

/-- A received packet still takes its place in the receive buffer: one to forward until it leaves, and any of the ATOMIC and RELAXED classes on a port that
feeds a full atomic queue (R274). -/
def Dev.occupies (d : Dev) (port : Nat) (pk : Packet) : Bool :=
  if (pkf pk PKT_CLASS == clATOMIC || pkf pk PKT_CLASS == clRELAXED) && d.feedsFull port then true
  else if pkf pk PKT_DST = d.node then false
  else (List.range 12).any (fun p => (d.port p).queue.any (samePacket pk)) || d.fab.noRoute.any (samePacket pk)

/-- The ports that feed a stack's atomic queue: those by which an atomic for it has come since the queue was last empty. -/
def Dev.feedsNow (d : Dev) : List (Nat × Nat) := d.fab.feeds.filter (fun e => d.atomicQueue e.2 != 0)

/-- Returns the credits of the packets that have left the receive buffers. -/
def Dev.creditsBack (d : Dev) : Dev :=
  if d.fab.owed.isEmpty then d
  else
    let d := { d with fab := { d.fab with feeds := d.feedsNow } }
    let go := d.fab.owed.filter (fun e => !d.occupies e.1 e.2)
    { d with
      fab := { d.fab with owed := d.fab.owed.filter (fun e => d.occupies e.1 e.2) }
      out := { d.out with credits := d.out.credits ++ go.map (fun e => (e.1, pkf e.2 PKT_CLASS, pkf e.2 PKT_VC, pkUnits e.2)) } }

/-- OP, CLASS and SIZE are not reserved (R258), and the payload is 0 to 144 bytes in units of 16 (R256). -/
def packetGood (pk : Packet) : Bool :=
  [opLOAD, opSTORE, opGETS, opADD, opMIN, opMAX, opCAS, opACK, opDATA, opOLD, opINVAL, opINVAL_ACK, opANNOUNCE, opGEN_QUERY,
    opMGMT_MSG].contains (pkf pk PKT_OP) && decide (pkf pk PKT_CLASS ≤ 5) && decide (pkf pk PKT_SIZE ≤ 5) && decide (pk.payload.length ≤ 144) &&
  pk.payload.length % 16 == 0

/-- A packet for this node. Messages of the Tailstock and the Faceplate are commands of their own. -/
def packetHome (m : Mem) (d : Dev) (port : Nat) (pk : Packet) : Dev :=
  let op := pkf pk PKT_OP
  if op = opACK ∨ op = opDATA ∨ op = opOLD then d.responseIn pk
  else if op = opINVAL then (let r := d.genCheck pk false; if r.2 then r.1.invalIn pk else r.1)
  else if op = opINVAL_ACK then (let r := d.genCheck pk false; if r.2 then r.1.invalAckIn pk else r.1)
  else if op = opANNOUNCE then d.announceIn port pk
  else if op = opGEN_QUERY then d.genQueryIn pk
  else if op = opMGMT_MSG then d
  else
    let r := d.genCheck pk true
    if r.2 then streamIn m r.1 pk else r.1

/-- An atomic for a stack of this node has come by a port. -/
def Dev.feed (d : Dev) (port : Nat) (pk : Packet) : Dev :=
  let s := d.get (TMAP_STACK (extOf (pkf pk PKT_OFFSET)))
  if pkf pk PKT_DST = d.node ∧ d.atomicAt s pk then { d with fab := { d.fab with feeds := d.feedsNow.filter (· != (port, s)) ++ [(port, s)] } } else d

/-- A packet arrives on a port that is up (R258). An ANNOUNCE of a port (DST is its sender) is for every device that it reaches. -/
def packetIn (m : Mem) (d : Dev) (port : Nat) (pk : Packet) (ups : List Upset) : Dev :=
  if !d.is UNL_CTRL_EN || !d.portUp port then d
  else if !packetGood pk then d.bump (UNL_PORT_REPLAY_BAD port) 1
  else
    let d := (({ d with fab := { d.fab with owed := d.fab.owed ++ [(port, pk)] } } : Dev).feed port pk).upsets ups
    if flooded pk then d.announceIn port pk
    else if pkf pk PKT_DST ≠ d.node then d.forward pk
    else packetHome m d port pk

/-- A packet of a row that names its operation. -/
def packetOf (m : Mem) (d : Dev) (port op : Nat) (pk : Packet) (ups : List Upset) : Dev :=
  packetIn m d port (setPkf pk PKT_OP op) ups

/-- Packets of this device to itself, in order (R250). -/
def loopDrain (m : Mem) : Nat → Dev → Dev
  | 0, d => d
  | fuel + 1, d =>
    match d.fab.loop with
    | [] => d
    | pk :: rest => loopDrain m fuel (packetHome m { d with fab := { d.fab with loop := rest } } 12 pk)

/-! ### Ports (R271, R273, R274) -/

/-- STATE and WIDTH of a port, and its bit of PORT_UP. -/
def Dev.setPortState (d : Dev) (p state width : Nat) : Dev :=
  let d := (d.set (UNL_PORT_STATUS_STATE p) state).set (UNL_PORT_STATUS_WIDTH p) width
  d.set UNL_STATUS_PORT_UP ((List.range 12).foldl (fun a i => if d.portUp i then a + 2 ^ i else a) 0)

/-- Packets that waited for a route or whose route has changed go out (R269, R273). -/
def Dev.reroute (d : Dev) : Dev :=
  let ps := d.fab.noRoute
  ps.foldl Dev.sendPacket { d with fab := { d.fab with noRoute := [] } }

/-- R273: a rewrite of UNL_ROUTE applies to packets that have not left. -/
def Dev.routeChanged (d : Dev) (dst : Nat) : Dev :=
  let d := (List.range 12).foldl (fun d p =>
    let x := d.port p
    let moved := x.queue.filter (fun k => pkf k PKT_DST == dst && !flooded k)
    let d := d.setPort p { x with queue := x.queue.filter (fun k => !(pkf k PKT_DST == dst && !flooded k)) }
    moved.foldl Dev.sendPacket d) d
  d.reroute

/-- A port begins to train. -/
def Dev.portTrain (d : Dev) (p : Nat) : Dev := d.setPortState p 1 0

/-- UNIT code of a fabric port (R401): port 4 + p as the time-stamping unit numbers them (R386). -/
def unitPort (p : Nat) : Nat := 6 * 268435456 + 4 + p

/-- A port is down (R273): what its replay buffer and its queue held goes over the destinations' new routes; with UNL_CTRL.EN 0 it waits for one. -/
def Dev.portDown (d : Dev) (p : Nat) : Dev :=
  let x := d.port p
  let d := (d.setPort p {}).setPortState p 0 0
  let d := { d with fab := { d.fab with owed := d.fab.owed.filter (·.1 != p) } }
  let ps := (x.replay ++ x.queue).filter (fun k => !flooded k)
  if d.is UNL_CTRL_EN then ps.foldl Dev.sendPacket d else { d with fab := { d.fab with noRoute := d.fab.noRoute ++ ps } }

/-- Ports train once EN and their own EN are 1; a port that is no longer enabled goes down, and a FAULTY
one is held disabled (R401). -/
def Dev.portsEnable (d : Dev) : Dev :=
  (List.range 12).foldl (fun d p =>
    let on := d.is UNL_CTRL_EN && d.is (UNL_PORT_CFG_EN p) && !d.unitFaulty (unitPort p)
    let st := d.get (UNL_PORT_STATUS_STATE p)
    if on && st = 0 then d.portTrain p else if !on && st ≠ 0 then d.portDown p else d) d

/-- PORT_RETRAIN (R271). -/
def Dev.portRetrain (d : Dev) (p : Nat) : Dev :=
  if d.portUp p then
    let d := d.bump (UNL_PORT_REPLAY_RETRAINS p) 1
    (d.setPort p { d.port p with stuck := 0 }).portTrain p
  else d

/-- Flits that are sent again meet an armed link injection like any other (R492). -/
def Dev.resent (d : Dev) (p : Nat) : Dev := if (d.port p).replay.isEmpty then d else d.linkInject p

/-- FLIT_REPLAY (R271): the sender replays from the first flit that is not acknowledged, after the `acked` flits that are. A replay without progress is
counted, and the sixteenth in a row makes the port retrain. -/
def Dev.flitReplay (d : Dev) (p acked : Nat) : Dev :=
  if !d.portUp p then d
  else
    let d := d.bump (UNL_PORT_REPLAY_REPLAYS p) 1
    let x := (d.port p).acknowledge acked
    let d := ({ d.setPort p { x with stuck := x.stuck + 1 } with
      out := { d.out with packets := d.out.packets ++ x.replay.map (fun k => (p, k)) } } : Dev).resent p
    if (d.port p).stuck ≥ 16 then d.portRetrain p else d

/-- PORT_TRAINING_DONE (R271, R273): up at 4, 2 or 1 lanes with an ANNOUNCE and the unacknowledged packets again, or down: an
event record, a detection, and what it held goes to the destinations' next routes. -/
def Dev.trainingDone (d : Dev) (p lanes : Nat) : Dev :=
  if d.get (UNL_PORT_STATUS_STATE p) ≠ 1 then d
  else if lanes = 1 ∨ lanes = 2 ∨ lanes = 4 then
    let x := d.port p
    let d := (d.setPort p { x with stuck := 0 }).setPortState p 2 lanes
    let d := ({ d with out := { d.out with packets := d.out.packets ++ x.replay.map (fun k => (p, k)) } } : Dev).resent p
    ((d.announceOn p).reroute).pump p (x.queue.length + 1)
  else
    ((d.event (srcPort (4 + p)) .portDown []).report { unit := unitPort p, confirmed := true, dkind := 0x13 }).portDown p

/-- CREDIT_RETURN (R274): the neighbour returns credits of a class and channel, and acknowledges `acked` flits (R271); waiting packets go out. -/
def Dev.creditReturn (d : Dev) (p cls vc units acked : Nat) : Dev :=
  let x := (d.port p).acknowledge acked
  let k := cls * 2 + vc
  (d.setPort p { x with used := sput x.used k (sget x.used k 0 - units) }).pump p (x.queue.length + 1)

/-! ### Losses (R254, R269) -/

/-- Completes outstanding requests with NODE_LOST, stream by stream. -/
def Dev.loseAll (d : Dev) (rs : List FReq) : Dev :=
  rs.foldl (fun d r => if d.fab.out.contains r then d.complete r stNODE_LOST [] else d) d

/-- R263: a stream goes on in its next epoch from SEQ 0. -/
def Dev.nextEpoch (d : Dev) (dst cls : Nat) : Dev :=
  let st := sget d.fab.tx (streamKey dst cls) (0, 0)
  { d with fab := { d.fab with tx := sput d.fab.tx (streamKey dst cls) ((st.1 + 1) % 8, 0) } }

/-- GEN_QUERY_TIMEOUT (R254): the requests held for an unknown generation complete with NODE_LOST. -/
def Dev.genQueryTimeout (d : Dev) (dst : Nat) : Dev :=
  if dst = d.node || d.genOf dst ≠ 0 then d
  else
    let lost := d.fab.genHold.filter (fun r => pkf r.pk PKT_DST == dst)
    let d := { d with fab := { d.fab with genHold := d.fab.genHold.filter (fun r => pkf r.pk PKT_DST != dst) } }
    let d := ((lost.map (fun r => pkf r.pk PKT_CLASS)).eraseDups).foldl (fun d c => d.nextEpoch dst c) d
    ((lost.foldl (fun d r => d.reqDone r stNODE_LOST []) d).fabKick false).opPump 17

/-- ROUTE_LOSS_TIMEOUT (R269): no usable route to a destination for 10 ms. -/
def Dev.routeLoss (d : Dev) (dst : Nat) : Dev :=
  if dst = d.node || (d.routePort dst).isSome then d
  else
    let d := { d with fab := { d.fab with noRoute := d.fab.noRoute.filter (fun k =>
      !(pkf k PKT_DST == dst && pkf k PKT_SRC == d.node)) } }
    d.loseAll (d.fab.out.filter (fun r => pkf r.pk PKT_DST == dst))

/-- FORWARD_HOLD_TIMEOUT (R269): packets that this forwarder holds for a destination go back to their sources. -/
def Dev.forwardTimeout (d : Dev) (dst : Nat) : Dev :=
  if (d.routePort dst).isSome then d
  else
    let mine := d.fab.noRoute.filter (fun k => pkf k PKT_DST == dst && pkf k PKT_SRC != d.node)
    let d := { d with fab := { d.fab with noRoute := d.fab.noRoute.filter (fun k =>
      !(pkf k PKT_DST == dst && pkf k PKT_SRC != d.node)) } }
    mine.foldl Dev.returnLost d

/-- REQUEST_TIMEOUT (R269): a request has been outstanding for 20 ms. -/
def Dev.requestTimeout (d : Dev) (tag : Nat) : Dev :=
  match d.fab.out.find? (fun r => r.tag == tag) with
  | none => d
  | some r => d.complete r stNODE_LOST []

/-- COMBINING_WINDOW_CLOSE (R276). -/
def Dev.windowClose (d : Dev) (k : Nat) : Dev :=
  match d.fab.comb[k]? with
  | none => d
  | some e => if e.sent.isNone then d.combSend e else d

/-- A released fabric request is applied, and then what waits behind it in its stream (R240, R247, R279). -/
def fabricReleased (m : Mem) (d : Dev) (pk : Packet) : Dev :=
  let d := homeApply m d pk
  rxDrain m (pkf pk PKT_SRC) (pkf pk PKT_CLASS) 65536 d

end Sys2Proof.Machine
end

