-- ==== Sys2Proof/Machine/Units.lean ====
section
/-!
DEFINITION. Machine/Units.lean: the states of the units (R401-R405), the fault journal and the history (R406, R407, R428), FAULT_N
(R399), the replay class (R432, R433), and the cures and covers that take effect at a boundary (R186-R194, R408).
-/

namespace Sys2Proof.Machine

/-! ### Replay class (R432) -/

/-- DIS_HASH: 0 when no tile is disabled, else CRC-32 over CUB_DISABLED. -/
def Dev.disHash (d : Dev) : Nat :=
  let ws := (List.range 10).map (fun w => d.get (CUB_DISABLED_TILES w))
  if ws.all (· == 0) then 0
  else
    let bs := ws.flatMap (bytesLE 4)
    crc32 bs

/-- FPL_REPLAY_CLASS. A factory record that fails makes SPEED read 0 (R473). -/
def Dev.replayClass (d : Dev) : Nat :=
  Config.stepping.toNat + (if d.is FPL_BOOT_STATUS_FACTORY_BAD then 0 else Config.speed.toNat) * 2 ^ 8 +
  d.get FPL_REPLAY_CLASS_DET_STRICT * 2 ^ 12 + d.get FPL_REPLAY_CLASS_FW_VERSION * 2 ^ 16 + d.get FPL_REPLAY_CLASS_DIS_HASH * 2 ^ 32

/-- A change of the class is counted and reported (R433). -/
def Dev.classChange (d : Dev) (old : Nat) : Dev :=
  if d.replayClass = old then d
  else (d.bump FPL_DET_CFG_CLASS_CHANGES 1).event srcFaceplate .replayClass [d.replayClass]

/-- The boundary's part (R433): DET_STRICT and the disabled map enter the class. -/
def Dev.classBoundary (d : Dev) : Dev :=
  let old := d.replayClass
  ((d.set FPL_REPLAY_CLASS_DET_STRICT (d.get FPL_DET_CFG_DET_STRICT)).set FPL_REPLAY_CLASS_DIS_HASH d.disHash).classChange old

/-! ### Units (R401) -/

def unitKind (u : Nat) : Nat := u / 2 ^ 28
def unitGouge (n : Nat) : Nat := 3 * 2 ^ 28 + n
def unitEngine (e : Nat) : Nat := 4 * 2 ^ 28 + e
def unitLink (l : Nat) : Nat := 7 * 2 ^ 28 + l

/-- The fields of a tile's or a MAC row's UNIT code: die, row, physical column, cube, physical MAC row. -/
def unitTileRow (u : Nat) : Nat := u % 2 * 8 + u / 2 % 8
def unitPcol (u : Nat) : Nat := u / 16 % 32
def unitCube (u : Nat) : Nat := u / 512 % 8
def unitProw (u : Nat) : Nat := u / 4096 % 16

/-- The logical tile that a unit's physical tile serves, if any. -/
def Dev.logicalOf (d : Dev) (u : Nat) : Option Nat :=
  ((List.range 20).map (fun l => unitTileRow u * 20 + l)).find? (fun t =>
    d.get (CUB_TILE_PHYS_PCOL t) == unitPcol u && !d.tileDisabled t)

/-- The die whose sensors a unit lies under: 0 and 1 the C-dies, 2 the R-die; stacks have their own sensor. -/
def unitSensor (u : Nat) : Nat :=
  match unitKind u with
  | 1 => u % 2
  | 2 => u % 2
  | 5 => 3 + u % 16
  | 7 => if u % 4 = 1 then 1 else 0
  | _ => 2

/-- The temperature of a unit's die in 0.25 °C: the one last seen at the sensor; one that has reported nothing is read. -/
def Dev.dieTemp (d : Dev) (u : Nat) : Int :=
  match sfind d.pins.temps (unitSensor u) with
  | some t => 4 * t
  | none => ((Config.sensor d.free % 512 : Nat) : Int)

/-- The conditions of a detection (R404). The voltage and the busy shares are what the sensors read. -/
def Dev.conditions (d : Dev) (u load : Nat) : Cond :=
  let temp := d.dieTemp u
  { pos := d.get TLS_POS_POS, temp := temp, mv := Config.sensor (d.free + 1) % 65536,
    load := Config.sensor (d.free + 2) % 101 + load + Config.sensor (d.free + 3) % 101 * 2 ^ 17 }

/-! ### Journal and history (R406, R407, R428) -/

/-- A record of the history. -/
def Dev.histWords (d : Dev) (u event dkind : Nat) (part : Bool) (c : Cond) (detail tag : Nat) : Words :=
  mkWords 8 [(HREC_POS, d.get TLS_POS_POS), (HREC_BOOT, d.fpl.flash.boot), (HREC_TIME, if d.is TSU_STATUS_VALID then d.T else 0),
    (HREC_UNIT, u), (HREC_EVENT, event), (HREC_DKIND, dkind), (HREC_COND_PARTIAL, if part then 1 else 0),
    (HREC_TEMP, encInt 16 c.temp), (HREC_VCORE, c.mv), (HREC_LOAD_SIG, c.load), (HREC_DETAIL, detail), (HREC_TAG, tag)]

/-- An entry of the journal; the oldest of 1,024 is overwritten. -/
def Dev.journalAdd (d : Dev) (w : Words) (unproven : Bool) : Dev :=
  let l := d.tls.journal
  let full := decide (l.length ≥ 1024)
  { d with tls := { d.tls with
    journal := (if full then l.drop 1 else l) ++ [(w.take 5, unproven)],
    jlost := if full then min 255 (d.tls.jlost + 1) else d.tls.jlost } }

/-- A record enters the journal, and with EVENT 0-7 the history unless it is masked (R428, R493). -/
def Dev.record (d : Dev) (u event dkind : Nat) (part : Bool) (c : Cond) (detail tag : Nat) (masked : Bool) : Dev :=
  let w := d.histWords u event dkind part c detail tag
  let d := d.journalAdd w false
  if event ≤ 7 ∧ !masked then { d with tls := { d.tls with toFlash := d.tls.toFlash ++ [w] } } else d

def noCond : Cond := ⟨0, 0, 0, 0⟩

/-- R407: the ring holds 32,768 records; a full ring drops a record older than 1,209,600 powered seconds of a unit that is not FAULTY, else
the oldest. -/
def histAppend (units : SMap UnitRec) (pos : Nat) (ring : List Words) (w : Words) : List Words :=
  if ring.length < 32768 then ring ++ [w]
  else
    match ring.findIdx? (fun r => decide (wfld r HREC_POS + 1209600 < pos) && (sget units (wfld r HREC_UNIT) {}).state != 2) with
    | some i => ring.eraseIdx i ++ [w]
    | none => ring.drop 1 ++ [w]

/-- The summary's entry of a unit (R406): it holds 8,192 and drops none, so a unit that finds it full has none. -/
def Flash.summary (f : Flash) (u : Nat) (r : UnitRec) : SMap UnitRec :=
  if (sfind f.units u).isSome || decide (f.units.length < 8192) then sput f.units u r else f.units

/-! ### The persistent state (R468) -/

/-- Bits [31:0] of word 2 of the persistent record for a slot. -/
def slotWord (s : Slot) : Nat := s.ver % 65536 + s.state % 4 * 2 ^ 16 + s.tries % 4 * 2 ^ 18

/-- The persistent record of the flash's fields under a COUNT. -/
def Flash.record (f : Flash) (count : Nat) : Words :=
  let w := mkWords 8 [(PST_COUNT, count), (PST_BOOT, f.boot), (PST_GEN, f.gen), (PST_POS, f.pos), (PST_MIN_SVN, f.minSvn), (PST_ACTIVE, f.active),
    (PST_OWNER_LOCK, if f.lock then 1 else 0), (PST_VERSION_A, f.slotA.ver), (PST_STATE_A, f.slotA.state), (PST_TRIES_A, f.slotA.tries),
    (PST_SLOT_B, slotWord f.slotB)]
  w.set 7 (w64 (crc32 ((wordsBytes w).take 60) * 2 ^ 32))

/-- Appends a record to the log: 1,024 records fill a sector of 64 KiB; then the other sector is erased and takes the record. -/
def Flash.append (f : Flash) : Flash :=
  let n := (f.count + 1) % 2 ^ 32
  let w := f.record n
  if f.sector.length < 1024 then { f with count := n, sector := f.sector ++ [w] }
  else { f with count := n, sector := [w], other := f.sector }

/-- The fields of the persistent state. -/
def Flash.fields (f : Flash) : List Nat :=
  [f.boot, f.gen, f.pos, f.minSvn, f.active, if f.lock then 1 else 0, f.slotA.ver, f.slotA.state, f.slotA.tries, f.slotB.ver, f.slotB.state,
    f.slotB.tries]

/-- The flash with new contents: a record is appended where a field of the persistent state has changed. -/
def Flash.keep (f old : Flash) : Flash := if f.fields = old.fields then f else f.append

/-- A record's CRC is good. -/
def pstGood (w : Words) : Bool := wfld w PST_CRC == crc32 ((wordsBytes w).take 60)

/-- The record in force at a start: of those whose CRC is good, the one with the highest COUNT. -/
def Flash.inForce (f : Flash) : Option Words :=
  ((f.other ++ f.sector).filter pstGood).foldl (fun b w =>
    match b with
    | some x => if wfld x PST_COUNT < wfld w PST_COUNT then some w else b
    | none => some w) none

/-- A slot with the state that the record in force gives it. -/
def Slot.loaded (s : Slot) (v : Nat) : Slot := { s with ver := v % 65536, state := v / 2 ^ 16 % 4, tries := v / 2 ^ 18 % 4 }

/-- The fields of the persistent state as the record in force gives them; a part on delivery has no record. -/
def Flash.load (f : Flash) : Flash :=
  match f.inForce with
  | none => f
  | some w =>
    { f with
      boot := wfld w PST_BOOT, gen := wfld w PST_GEN, pos := wfld w PST_POS, minSvn := wfld w PST_MIN_SVN, active := wfld w PST_ACTIVE
      lock := wfld w PST_OWNER_LOCK == 1, count := wfld w PST_COUNT
      slotA := f.slotA.loaded ((w.getD 2 0#64).toNat % 2 ^ 32), slotB := f.slotB.loaded (wfld w PST_SLOT_B) }

def Dev.setFlash (d : Dev) (f : Flash) : Dev := { d with fpl := { d.fpl with flash := f.keep d.fpl.flash } }

/-- HISTORY_RECORD_WRITE (R407): the oldest record that waits is written to flash, and the summary with it. -/
def historyWriteOp (d : Dev) : Dev :=
  match d.tls.toFlash with
  | [] => d
  | w :: rest =>
    let f := d.fpl.flash
    { d with tls := { d.tls with toFlash := rest },
             fpl := { d.fpl with flash := { f with units := f.summary (wfld w HREC_UNIT) (d.unit (wfld w HREC_UNIT)),
                                                   hist := histAppend f.units (d.get TLS_POS_POS) f.hist w } } }

/-! ### FAULT_N (R399, R401, R504) -/

/-- FAULT_N follows the Tailstock's state once it has started. -/
def Dev.faultPin (d : Dev) : Dev :=
  if d.is TLS_STATUS_HALTED || d.is TLS_STATUS_NEW_FAULT || (List.range 3).any (fun l => d.unitFaulty (unitLink l)) then d.faultN
  else d.faultRelease

/-! ### Classification (R403) -/

/-- A unit has passed every retest that was due; its record stays. -/
def UnitRec.healthy (r : UnitRec) : UnitRec := { r with state := 0, due := false, left := [], test := 0, wait := none, part := false, blocked := false, first := false }

/-- A port that becomes FAULTY is held disabled (R401): it goes down and its packets take their next routes. -/
def Dev.disablePort (d : Dev) (p : Nat) : Dev :=
  let x := d.port p
  let d := (d.setPort p {}).setPortState p 0 0
  (x.replay ++ x.queue).foldl Dev.sendPacket d

/-- R417: RELINQUISH for a paired PRIMARY cell, with the boundary from which the sender stops. -/
def Dev.relinquish (d : Dev) (n b : Nat) : Dev :=
  if d.is (TLS_PAIR_VALID n) && d.is (actF (RAD_CELL_VALID n)) && d.get (actF (RAD_CELL_ROLE n)) == 0 then
    d.sendMsg (d.get (TLS_PAIR_NODE n)) 0x03 n [b]
  else d

/-- The cure of a unit that becomes FAULTY (R401, R402). A tile or row whose cure the detection chose already (R180), or is in progress, needs no
second one. -/
def Dev.cureAct (d : Dev) (u : Nat) : Dev :=
  match unitKind u with
  | 1 =>
    match d.logicalOf u with
    | some t => if d.tileCured t then d else d.addCure (d.chooseCure t none)
    | none =>
      let i := unitTileRow u
      let d := d.set (CUB_ROW_MAP_RETIRED i) (d.get (CUB_ROW_MAP_RETIRED i) ||| 2 ^ unitPcol u)
      if unitPcol u = 20 then d.set (CUB_ROW_MAP_STATE i) 5 else d
  | 2 =>
    match d.logicalOf u with
    | some t =>
      let rowCured := unitProw u < 8 && (d.get (tileSpare t (unitCube u)) == unitProw u ||
        d.tls.cures.any (fun c => c.kind == 0 && c.tile == t && c.cube == unitCube u && c.row == unitProw u))
      if d.tileCured t || rowCured then d
      else d.addCure (d.chooseCure t (if unitProw u < 8 then some (unitCube u, unitProw u) else none))
    | none => d
  | 3 => d.relinquish (u % 512) (d.get LTH_TICK_COUNT_COUNT + 1)
  | 4 => d.event srcTailstock .unitFaulty [u]
  | 5 => d.retireSlot (if u / 16 % 2 = 1 then 1 else 2) (u % 16) (u / 32 % 65536)
  | 6 => if 4 ≤ u % 16 then d.disablePort (u % 16 - 4) else d.set (RAD_PORT_CFG_UP (u % 16)) 0
  | _ => d

/-- The journal's record of a cure. -/
def Dev.cured (d : Dev) (u : Nat) : Dev := d.record u 5 0 false noCond 0 0 false

/-- The cure of a unit that becomes FAULTY, with its entry in the journal where it takes effect at once (R428); one that waits for a boundary is
recorded there. -/
def Dev.unitCure (d : Dev) (u : Nat) : Dev :=
  let e := d.cureAct u
  let now := match unitKind u with
    | 1 => (d.logicalOf u).isNone
    | 2 => (d.logicalOf u).isNone
    | 7 => false
    | _ => true
  if now then e.cured u else e

/-- A unit becomes FAULTY: record, NEW_FAULT with FAULT_N and the in-band interrupt (R399, R475), cure. -/
def Dev.unitFails (d : Dev) (u dkind : Nat) (c : Cond) (detail tag : Nat) : Dev :=
  if d.unitFaulty u then d
  else
    let r := d.unit u
    let d := d.setUnit u { r.healthy with state := 2 }
    let d := (d.record u 4 dkind false c detail tag false).event srcTailstock .unitFaulty [u]
    let d := if d.is TLS_STATUS_NEW_FAULT then d
      else ({ d.set TLS_STATUS_NEW_FAULT 1 with out := { d.out with ibi := d.out.ibi ++ [1] } } : Dev).raiseVector 0 0 (d.igen 0)
    (d.faultPin).unitCure u

/-- Confirmed detections of a unit within the window (R403). -/
def UnitRec.inWindow (r : UnitRec) (pos : Nat) : Nat := (r.times.filter (fun t => decide (pos ≤ t + 604800))).length

/-- Conditions that a retest reproduces (R405): the distinct sets in the window, the most recent first, four at most. -/
def UnitRec.retestSets (r : UnitRec) (pos : Nat) : List Cond :=
  ((r.conds.filter (fun c => decide (pos ≤ c.pos + 604800))).foldl (fun l c =>
    if l.any (fun x => x.temp == c.temp && x.mv == c.mv && x.load == c.load) then l else l ++ [c]) []).take 4

/-- A further detection while a unit's retest waits or runs (R405): its set comes next, before the others, after the one in hand. -/
def UnitRec.withSet (r : UnitRec) (c : Cond) (pos : Nat) : UnitRec :=
  let same (x : Cond) : Bool := x.temp == c.temp && x.mv == c.mv && x.load == c.load
  let keep := r.left.filter (fun x => !same x && decide (pos ≤ x.pos + 604800))
  if r.wait.isNone && r.test != 2 then { r with left := (c :: keep).take 4 }
  else
    match r.left with
    | [] => { r with left := [c] }
    | x :: _ => { r with left := (x :: c :: keep.filter (· != x)).take 4 }

/-- The item of a detection whose cure disables its tile completes with ABORTED, and its chain ends (R180): it waits, is listed, or runs again
by the time the record is received. -/
def abortItem (m : Mem) (d : Dev) (t seqNo : Nat) : Dev :=
  let x := d.tile t
  match (d.lathe.pend ++ x.list).find? (fun i => i.seqNo == seqNo) with
  | none =>
    match (List.range 4).find? (fun c => match (d.chuck (t * 4 + c)).run with
        | some r => r.item.seqNo == seqNo && r.item.origin != 2 && !r.committed
        | none => false) with
    | some c => stopItem m d t c stABORTED
    | none => d
  | some it =>
    itemFinal m (({ d with lathe := { d.lathe with pend := d.lathe.pend.filter (fun i => i.seqNo != seqNo) } } : Dev).setTile t
      { x with list := x.list.filter (fun i => i.seqNo != seqNo) }) it t stABORTED it.attempt

/-- R180, R397: the Tailstock chooses the cure of a detection of a re-run, unless the tile's cure is chosen or in progress. -/
def cureFor (m : Mem) (d : Dev) (f : FaultRec) : Dev :=
  match f.cure with
  | none => d
  | some (t, same, item) =>
    if (f.inj && d.is PRT_CTRL_MASK_INJ) || d.tileCured t || d.tileDisabled t then d
    else
      let c := d.chooseCure t same
      let d := d.addCure c
      match c.kind, item with
      | 3, some n => abortItem m d t n
      | 4, some n => abortItem m d t n
      | _, _ => d

/-- R403, R404: a detection acts on the unit's state. -/
def Dev.detected (d : Dev) (f : FaultRec) : Dev :=
  let masked := f.inj && d.is PRT_CTRL_MASK_INJ
  let c := d.conditions f.unit f.load
  let d := { d with free := d.free + 4 }
  let d := d.record f.unit (if f.confirmed then 0 else 1) f.dkind false c f.detail f.tag masked
  if masked || d.unitFaulty f.unit then d
  else
    let pos := d.get TLS_POS_POS
    let r := d.unit f.unit
    let again := f.confirmed && decide (r.inWindow pos > 0)
    let r := { r with times := if f.confirmed then pos :: r.times else r.times, conds := c :: r.conds }
    let d := d.setUnit f.unit r
    if f.failed then (d.record f.unit 3 f.dkind false c f.detail f.tag false).unitFails f.unit f.dkind c f.detail f.tag
    else if again then d.unitFails f.unit f.dkind c f.detail f.tag
    else if r.state = 0 then d.setUnit f.unit { r with state := 1, due := true, left := r.retestSets pos }
    else if r.due ∨ r.test = 2 then d.setUnit f.unit (r.withSet c pos)
    else d.setUnit f.unit { r with due := true, left := r.retestSets pos }

/-- FAULT_RECORD_RECEIVE (R397, R398): while the Tailstock runs, it takes the oldest record that waits. -/
def faultReceiveOp (m : Mem) (d : Dev) : Dev :=
  if !d.is TLS_STATUS_RUNNING || d.is TLS_STATUS_HALTED then d
  else
    match d.tls.inQ with
    | [] => d
    | f :: rest => (cureFor m { d with tls := { d.tls with inQ := rest } } f).detected f

/-! ### Watchdog (R398) -/

/-- WATCHDOG_EXPIRY: the Tailstock core restarts; the third expiry within 60 s halts it. -/
def watchdogOp (d : Dev) : Dev :=
  if !d.is TLS_STATUS_RUNNING || d.is TLS_STATUS_HALTED then d
  else
    let past := d.tls.wdogT.filter (fun t => decide (d.T < t + 60000000000))
    let d := (d.bump TLS_STATUS_WDOG_EXP 1).set TLS_STATUS_RUNNING 0
    let d := (d.journalAdd (d.histWords (Config.journalCode 2) (Config.journalCode 3) 0 false noCond 0 0) false).event srcTailstock .watchdog [past.length + 1]
    if past.length ≥ 2 then ({ d with tls := { d.tls with wdogT := d.T :: past } }.set TLS_STATUS_HALTED 1).faultPin
    else { d with tls := { d.tls with wdogT := d.T :: past } }

/-! ### Maps, spare rows and cures at a boundary (R119, R186-R194) -/

/-- CUB_TILE_SPARE of the physical tile that serves a logical tile, as one word. -/
def Dev.spareWord (d : Dev) (t : Nat) : Nat := (List.range 8).foldl (fun a c => a + d.get (tileSpare t c) * 2 ^ (4 * c)) 0

/-- Shows a spare word for a logical tile with what follows from it (R117): SKEW, PIPE_LAT, SPARE_CUBES and the count of tiles. -/
def Dev.showSpare (d : Dev) (t w : Nat) : Dev :=
  let d := forN 8 d (fun d c => d.set (tileSpare t c) (w / 2 ^ (4 * c) % 16))
  let cubes := (List.range 8).foldl (fun a c => if w / 2 ^ (4 * c) % 16 = 15 then a else a + 2 ^ c) 0
  let was := d.get (CUB_TILE_SKEW_ADJ t)
  let adj := if cubes = 0 then 0 else 1
  let d := ((d.set (CUB_TILE_SKEW_ADJ t) adj).set (CUB_TILE_LAT_PIPE_LAT t) (4 + adj)).set (CUB_TILE_LAT_SPARE_CUBES t) cubes
  d.set CUB_LAT_SUMMARY_LAT5_TILES (d.get CUB_LAT_SUMMARY_LAT5_TILES + adj - was)

/-- UNIT of a physical tile of a logical tile's row. -/
def physUnit (t pcol : Nat) : Nat := unitTile (t / 160) (t / 20 % 8) pcol

/-- The logical tile is served by physical column `pcol` from now on (R191). -/
def Dev.mapTile (d : Dev) (t pcol : Nat) : Dev :=
  let old := physUnit t (d.get (CUB_TILE_PHYS_PCOL t))
  let w := sget d.tls.spares (physUnit t pcol) 0xFFFFFFFF
  let d := { d with tls := { d.tls with spares := sput d.tls.spares old (d.spareWord t) } }
  (d.showSpare t w).set (CUB_TILE_PHYS_PCOL t) pcol

def Dev.setSpareState (d : Dev) (t st : Nat) : Dev := d.set (CUB_ROW_MAP_STATE (t / 20)) st
def Dev.retirePcol (d : Dev) (t pcol : Nat) : Dev :=
  d.set (CUB_ROW_MAP_RETIRED (t / 20)) (d.get (CUB_ROW_MAP_RETIRED (t / 20)) ||| 2 ^ pcol)

/-- The row's spare serves the tile for good, and its own physical tile is retired. -/
def Dev.substitute (d : Dev) (t pcol : Nat) : Dev :=
  let d := (d.mapTile t 20).retirePcol t pcol
  (d.set (CUB_ROW_MAP_SUBST (t / 20)) (t % 20)).setSpareState t 4

/-- A logical tile becomes disabled (R193, R194): its contexts are removed as by UNLOAD_DISCARD (R59), one whose swap is in progress after it
(R71), and their items refused; a PRIMARY cell of a disabled radio tile relinquishes (R417). -/
def disableTile (m : Mem) (d : Dev) (t : Nat) : Dev :=
  let p := d.get (CUB_TILE_PHYS_PCOL t)
  let d := d.retirePcol t p
  let d := if p = 20 then d.setSpareState t 5 else d
  let d := d.set (CUB_DISABLED_TILES (t / 32)) (d.get (CUB_DISABLED_TILES (t / 32)) ||| 2 ^ (t % 32))
  let d := (d.set CUB_LIVE_TILES_COUNT (d.get CUB_LIVE_TILES_COUNT - 1)).set (CUB_TILE_PHYS_DISABLED t) 1
  let d := (d.validCtxs.filter (fun c => d.get (LTH_CTX_TILE c) == t)).foldl (fun d c =>
    if d.ctxSwapping c then refuseItems m (d.dropCtx c) c else removeCtx m d c) d
  match d.radioEntry t with
  | some e => ((d.listed (actF (RAD_CELL_VALID 0)) 0x20 512).filter (fun n => d.get (actF (RAD_CELL_TILE_ENTRY n)) == e)).foldl
      (fun d n => d.relinquish n (d.get LTH_TICK_COUNT_COUNT)) d
  | none => d

/-- Covers and mirrors move on at a boundary (R189-R192): what the last tick prepared takes effect. -/
def coverStep (d : Dev) (row t : Nat) (test : Bool) : Dev :=
  let x := d.tile t
  let clear (d : Dev) : Dev := { d with tls := { d.tls with covers := sdel d.tls.covers row, coverFail := d.tls.coverFail.filter (· != t) } }
  let named (d : Dev) (l : Nat) : Dev := d.set (CUB_ROW_MAP_SUBST row) l
  let ending := d.tls.cures.any (fun c => c.tile / 20 == row && (c.kind == 2 || c.kind == 3 || c.kind == 4))
  match d.get (CUB_ROW_MAP_STATE row) with
  | 1 =>
    let d := d.setTile t { x with mirror := 0, withheld := false }
    if test then
      if ending then clear (d.setSpareState t 0)
      else (named (d.mapTile t 20) (t % 20)).setSpareState t 2
    else
      let p := d.get (CUB_TILE_PHYS_PCOL t)
      (clear (d.substitute t p)).cured (physUnit t p)
  | 2 =>
    if d.unitFaulty (physUnit t (t % 20)) || d.tls.coverFail.contains t then
      -- the test failed: the spare stays (R192)
      (clear ((d.retirePcol t (t % 20)).setSpareState t 4)).cured (physUnit t (t % 20))
    else if d.swapping t then d
    else (d.setTile t { x with mirror := 1 }).setSpareState t 3
  | 3 => clear (named (((d.setTile t { x with mirror := 0 }).mapTile t (t % 20)).setSpareState t 0) 31)
  | _ => clear d

/-- A mirror tick may start on a tile (R190). -/
def Dev.mirrorOk (d : Dev) (t : Nat) : Bool := !d.swapping t

/-- Starts a mirror tick; `test`: for an in-field test, else for a detection, which withholds the tile. -/
def Dev.startMirror (d : Dev) (t : Nat) (test : Bool) : Dev :=
  let d := d.setTile t { d.tile t with mirror := 1, withheld := !test }
  ({ d with tls := { d.tls with covers := sput d.tls.covers (t / 20) (t, test) } }).setSpareState t 1

/-- One waiting cure at a boundary. It stays waiting while a cover of the row has to end or a swap is in progress on the tile. A spare row is
switched in only for a FAULTY row and only once in a cube (R186). -/
def cureStep (m : Mem) (d : Dev) (c : Cure) : Dev :=
  let t := c.tile
  let keep (d : Dev) (c : Cure) : Dev := { d with tls := { d.tls with cures := d.tls.cures ++ [c] } }
  let row := sfind d.tls.covers (t / 20)
  if d.tileDisabled t then d
  else
    match c.kind with
    | 0 =>
      if d.get (tileSpare t c.cube) = c.row then d
      else if d.get (tileSpare t c.cube) ≠ 15 then (if d.is TLS_STATUS_RUNNING then d.addCure (d.chooseCure t none) else keep d c)
      else if !d.unitFaulty (d.rowUnit t c.cube c.row) then keep d c
      else (d.showSpare t (d.spareWord t - 15 * 2 ^ (4 * c.cube) + c.row * 2 ^ (4 * c.cube))).cured (d.rowUnit t c.cube c.row)
    | 3 => if row.isSome then keep d c else (disableTile m d t).cured (d.tileUnit t)
    | 4 =>
      if row.isSome then keep d c
      else if d.get (CUB_ROW_MAP_STATE (t / 20)) = 4 ∧ d.get (CUB_TILE_PHYS_PCOL t) = 20 then (disableTile m d t).cured (physUnit t 20)
      else
        let d := d.retirePcol t 20
        (if d.get (CUB_ROW_MAP_STATE (t / 20)) = 0 then d.setSpareState t 5 else d).cured (physUnit t 20)
    | _ =>
      if row.isSome then keep d c
      else if d.get (CUB_ROW_MAP_STATE (t / 20)) ≠ 0 then keep d { c with kind := 3 }
      else if d.mirrorOk t then d.startMirror t false
      else keep d { c with kind := 1 }

/-- Tests that wait for a boundary (R74, R408): a cover where the row's spare is FREE, else one withheld tick of a tile that is no radio
tile; one cover per row, at most four covers started in a tick. An entry of 320 + n asks for the test of Gouge core n. -/
def testStep (r : Dev × Nat) (t : Nat) : Dev × Nat :=
  let d := r.1
  let keep : Dev × Nat := ({ d with tls := { d.tls with asks := d.tls.asks ++ [t] } }, r.2)
  if t ≥ 320 then keep
  else if d.tileDisabled t then r
  else if d.spareFree t then
    if d.mirrorOk t && decide (r.2 < 4) && !(sfind d.tls.covers (t / 20)).isSome then (d.startMirror t true, r.2 + 1) else keep
  else if (d.radioEntry t).isSome || d.swapping t then keep
  else (d.setTile t { d.tile t with withheld := true }, r.2)

/-- Step 3 of R72: map and withholding changes. Waiting tests and cures start only while the Tailstock runs; cures that are already scheduled
take effect in any case (R398). -/
def mapBoundary (m : Mem) (d : Dev) : Dev :=
  let d := (d.tiles.filter (fun e => e.2.withheld)).foldl (fun d e =>
    if (sfind d.tls.covers (e.1 / 20)).isSome then d else d.setTile e.1 { d.tile e.1 with withheld := false }) d
  let d := d.tls.covers.foldl (fun d e => coverStep d e.1 e.2.1 e.2.2) d
  let cs := d.tls.cures
  let d := cs.foldl (fun d c => cureStep m d c) { d with tls := { d.tls with cures := [] } }
  if d.is TLS_STATUS_RUNNING then
    let as := d.tls.asks
    (as.foldl testStep ({ d with tls := { d.tls with asks := [] } }, 0)).1
  else d

end Sys2Proof.Machine
end

