-- ==== Sys2Proof/Machine/Modem.lean ====
section
/-!
DEFINITION. Machine/Modem.lean: radio rings and records (R341-R346), downlink submissions (R347-R350), coding items (R339), and what Gouge items take
in and put out (R368-R371, R349).
-/

namespace Sys2Proof.Machine

/-! ### Times -/

/-- Bits [31:0] of T at boundary k, by the nominal period. -/
def Dev.boundaryNs (d : Dev) (k : Nat) : Nat :=
  encInt 32 ((d.lathe.boundaryT : Int) - ((d.tick : Int) - k) * d.tickNs)

def Dev.rxTime (d : Dev) (r : CellRun) (c : CellCfg) : RxTime :=
  ⟨r.first, d.boundaryNs r.first, 800000 * 2 ^ c.rate, c.hop, d.tickNs⟩

/-! ### Records (R341-R346) -/

/-- RADIO_RING_CFG_WRITE (R341): ORDER and ESIZE while VALID is 0; VALID 1 only for a ring that lies whole in one valid writable object of the PF
homed in tier 1 or 2. -/
def radioRingCfgOp (d : Dev) (q v : Nat) : Dev :=
  let was := d.is (RAD_RING_CFG_VALID q)
  let d := d.set (RAD_RING_CFG_INT_EN q) (v / 256 % 2)
  let d := if was then d else (d.set (RAD_RING_CFG_ORDER q) (v % 32)).set (RAD_RING_CFG_ESIZE q) (v / 32 % 8)
  if v / 2 ^ 31 % 2 = 0 then d.set (RAD_RING_CFG_VALID q) 0
  else if was then d
  else
    let order := d.get (RAD_RING_CFG_ORDER q)
    let es := d.get (RAD_RING_CFG_ESIZE q)
    if order ≤ 16 && es ≤ 5 && d.insideWritable (some 0) (d.get (RAD_RING_BASE_BASE q) * 4096) (128 * 2 ^ es * 2 ^ order) then
      d.set (RAD_RING_CFG_VALID q) 1
    else d.set RAD_STATUS_CFG_REFUSED 1

/-- The ring's vector, when PROD or CONS advances with INT_EN set. -/
def Dev.radioVector (d : Dev) (q : Nat) : Dev :=
  if d.is (RAD_RING_CFG_INT_EN q) then d.raiseVector 0 (1024 + q) (d.igen 0) else d

/-- The DIGEST of a record (R345): CRC64 of bytes 8-31 with TRUNC 0 and RSSI before CAL, then the payload. -/
def recDigest (ws : Words) (rssi : Nat) (payload : List Byte) : Nat :=
  let w1 := (ws.getD 1 0#64).toNat
  let w3 := (ws.getD 3 0#64).toNat
  let body := wordsBytes [w64 (w1 - wfld ws UREC_TRUNC * 2 ^ 23), ws.getD 2 0#64, w64 (w3 - wfld ws UREC_RSSI + rssi)] ++ payload
  crc64 (fun i => (body.getD i 0#8).toNat) body.length

/-- RSSI in a record: the value before CAL, of which −32,768 stands for P = 0, and CAL (R337). -/
def rssiCal (raw : Nat) (cal : Int) : Nat :=
  let v := sext 16 raw + cal
  if sext 16 raw = -32768 then raw else if -32768 ≤ v ∧ v ≤ 32767 then encInt 16 v else Config.rssiOut v % 2 ^ 16

/-- A record of a cell with its digest. `rssi`: RSSI before CAL. -/
def mkRec (n : Nat) (kind : Nat) (keys : List Nat) (fs : List (BF × Nat)) (rssi : Nat) (payload : List Byte) : RadRec :=
  let ws := mkWords 8 ([(UREC_SOURCE, 512 + n), (UREC_KIND, match kind with | 0 => 1 | 1 => 0 | k => k)] ++ fs)
  ⟨kind, keys, ws.set 4 (w64 (recDigest ws rssi payload)), payload⟩

/-- Entries of Q2n that are written and not shown by PROD yet. -/
def Dev.unseen (d : Dev) (q : Nat) : List Nat := sget d.rad.unseen q []
def Dev.setUnseen (d : Dev) (q : Nat) (l : List Nat) : Dev := { d with rad := { d.rad with unseen := sput d.rad.unseen q l } }

/-- PROD advances past the entries whose every byte is visible, in order (R341). `fuel` bounds the entries looked at. -/
def showEntries (q : Nat) : Nat → Dev → Dev
  | 0, d => d
  | fuel + 1, d =>
    match d.unseen q with
    | 0 :: rest => showEntries q fuel (((d.setUnseen q rest).set (RAD_RING_PROD_PROD q) (d.get (RAD_RING_PROD_PROD q) + 1)).radioVector q)
    | _ => d

/-- Writes an entry behind those that PROD does not show yet. -/
def entryWrite (m : Mem) (d : Dev) (q off : Nat) (bytes : List Byte) : Dev :=
  let k := (d.get (RAD_RING_PROD_PROD q) + (d.unseen q).length) % 2 ^ 32
  let held := d.blockedLines off bytes.length
  let d := held.foldl (fun d l => d.holdBehind l (.entry q k l)) (d.deviceWrite m off bytes)
  let d := d.setUnseen q (d.unseen q ++ [held.length])
  showEntries q (d.unseen q).length d

/-- A held line of entry `k` has been written, or waits again. -/
def entryLineDone (d : Dev) (q k off : Nat) : Dev :=
  if d.lineBlocked off then d.holdBehind off (.entry q k off)
  else
    let i := (k + 2 ^ 32 - d.get (RAD_RING_PROD_PROD q)) % 2 ^ 32
    let l := d.unseen q
    showEntries q l.length (d.setUnseen q (l.modify i (· - 1)))

/-- A record enters Q2n, or is lost (R342). `true`: it was written. -/
def recWrite (m : Mem) (d : Dev) (n : Nat) (r : RadRec) : Dev × Bool :=
  let q := 2 * n
  let prod := d.get (RAD_RING_PROD_PROD q) + (d.unseen q).length
  let order := d.get (RAD_RING_CFG_ORDER q)
  let size := 128 * 2 ^ d.get (RAD_RING_CFG_ESIZE q)
  let lost := sget d.rad.lostQ n 0
  if !d.is (RAD_RING_CFG_VALID q) || ringUsed (prod % 2 ^ 32) (d.get (RAD_RING_CONS_CONS q)) ≥ 2 ^ order then
    ({ d.bump (RAD_RING_LOST_LOST q) 1 with rad := { d.rad with lostQ := sput d.rad.lostQ n (lost + 1) } }, false)
  else
    let trunc := decide (64 + r.payload.length > size)
    let w1 := w64 ((r.words.getD 1 0#64).toNat + (if trunc then 2 ^ 23 else 0))
    let ws := (r.words.set 1 w1).set 5 (w64 (min 65535 lost))
    let d := { d with rad := { d.rad with lostQ := sput d.rad.lostQ n 0 } }
    (entryWrite m d q (d.get (RAD_RING_BASE_BASE q) * 4096 + prod % 2 ^ order * size) ((wordsBytes ws ++ r.payload).take size), true)

/-- Queues a record of the cell. -/
def Dev.queueRec (d : Dev) (n : Nat) (r : RadRec) : Dev :=
  { d with rad := { d.rad with recs := sput d.rad.recs n (sget d.rad.recs n [] ++ [r]) } }

/-- A coding item of this tick has run or been cut; its engine. -/
def Dev.codingRan (d : Dev) (n : Nat) (dl : Bool) : Bool := d.rad.coded.any (fun x => x.1 == n && x.2.1 == dl)
def Dev.codingEngine (d : Dev) (n : Nat) (dl : Bool) : Nat :=
  ((d.rad.coded.find? (fun x => x.1 == n && x.2.1 == dl)).map (·.2.2)).getD 0

/-- A record is written, counted and, for a BURST, kept for the partner (R411, R412). -/
def recEnter (m : Mem) (d : Dev) (n : Nat) (r : RadRec) : Dev :=
  let w := recWrite m d n r
  let d := w.1
  if r.kind ≠ 1 then d
  else
    let st := wfld r.words UREC_STATUS
    let d := if st = stOK then d.bump (RAD_MODEM_STAT_BURSTS n) 1
      else if st = stUNCORRECTABLE then d.bump (RAD_MODEM_STAT_BAD n) 1 else d
    if st = stSLOT_MISS ∨ st = stABORTED then
      if d.is (TLS_PAIR_VALID n) then d.bump (TLS_SHADOW_STAT_SKIPPED n) 1 else d
    else if w.2 then
      { d with rad := { d.rad with digests := d.rad.digests ++
        [(n, [w64 (wfld r.words UREC_CHANNEL), w64 (wfld r.words UREC_OUTPUT), w64 (wfld r.words UREC_INTERVAL), r.words.getD 4 0#64, w64 (d.codingEngine n false)])] } }
    else d

/-- Queued records of the given kinds enter in the order of R346. -/
def flushRecs (m : Mem) (d : Dev) (n : Nat) (kinds : List Nat) : Dev :=
  let all := sget d.rad.recs n []
  let out := (all.filter (fun r => kinds.contains r.kind)).mergeSort (fun a b =>
    decide ((a.kind :: a.keys) ≤ (b.kind :: b.keys)))
  let d := { d with rad := { d.rad with recs := sput d.rad.recs n (all.filter (fun r => !kinds.contains r.kind)) } }
  out.foldl (fun d r => recEnter m d n r) d

/-! ### Submissions (R347, R348) -/

def rnLATE : Nat := 0x01
def rnOVERLAP : Nat := 0x02
def rnBAD_FIELD : Nat := 0x03
def rnCELL_STOPPED : Nat := 0x04
def rnROLE : Nat := 0x05
def rnFAR : Nat := 0x06

def Dev.subsOf (d : Dev) (n : Nat) : List Sub := sget d.rad.subs n []
def Dev.setSubs (d : Dev) (n : Nat) (l : List Sub) : Dev := { d with rad := { d.rad with subs := sput d.rad.subs n l } }

/-- A TX_RETURN of a submission. -/
def Dev.txReturn (d : Dev) (n : Nat) (s : Sub) (status reason : Nat) : Dev :=
  let d := if reason = rnLATE ∧ status = stREFUSED_STATE then d.bump (RAD_MODEM_STAT_LATE_SUB n) 1 else d
  d.queueRec n (mkRec n 3 [s.interval, s.pos]
    [(UREC_NS, d.ns), (UREC_STATUS, status), (UREC_CHANNEL, wfld s.hdr SUBM_CHANNEL), (UREC_MODE, wfld s.hdr SUBM_MODE),
     (UREC_REASON, reason), (UREC_INTERVAL, wfld s.hdr SUBM_START_INTERVAL), (UREC_TAG, wfld s.hdr SUBM_TAG)] 0 [])

/-- A burst's t0 - T, t0, end and end + T in units of 1 / (1,024 Fs) ns of the time of boundary 0. -/
def Dev.subSpan (d : Dev) (n : Nat) (c : CellCfg) (s : Sub) : Nat × Nat :=
  let m := d.mode true n (wfld s.hdr SUBM_MODE)
  let bits := match s.bits with
    | some b => b
    | none => burstBits m (wfld s.hdr SUBM_USER) (wfld s.hdr SUBM_SYNC_SEL) s.payload
  let unit := 1024 * 800000 * 2 ^ c.rate
  let t := c.hop * wfld m MODE_SPS * 1000000000
  let t0 := (s.interval * d.tickNs + wfld s.hdr SUBM_OFFSET_NS) * unit
  (t0 - t, t0 + (ceilDiv bits.length (modeBps m) + 1) * t)

/-- The last interval in which a burst is on air. -/
def Dev.subLast (d : Dev) (n : Nat) (c : CellCfg) (s : Sub) : Nat :=
  (d.subSpan n c s).2 / (d.tickNs * (1024 * 800000 * 2 ^ c.rate))

/-- The first interval in which a burst is on air, its ramp included. -/
def Dev.subFirst (d : Dev) (n : Nat) (c : CellCfg) (s : Sub) : Nat :=
  (d.subSpan n c s).1 / (d.tickNs * (1024 * 800000 * 2 ^ c.rate))

/-- BAD_FIELD of R348. -/
def Dev.subBad (d : Dev) (n : Nat) (c : CellCfg) (s : Sub) (room : Nat) : Bool :=
  let h := s.hdr
  let ch := c.plan.find? (fun x => x.ch == wfld h SUBM_CHANNEL)
  reservedSet h SUBM_USED ||
  match wfld h SUBM_KIND with
  | 0 =>
    let i := wfld h SUBM_MODE
    let m := d.mode true n i
    let len := wfld h SUBM_LEN
    match ch with
    | none => true
    | some x =>
      let pm := d.mode true n x.mode
      !x.dl || !d.modeOk true n c i ||
      -- Rs * bits per symbol above that of the plan's mode: Rs is inverse to SPS
      decide (modeBps m * wfld pm MODE_SPS > modeBps pm * wfld m MODE_SPS) ||
      len == 0 || decide (len > room) ||
      -- a PSDU of SUN FSK has at most 2,047 octets with its FCS (R316)
      (wfld m MODE_STD == 1 && decide (len + checkLen (wfld m MODE_CRC) > 2047)) ||
      (wfld m MODE_STD == 0 && wfld m MODE_HDR_EN == 0 && len != wfld m MODE_FIXED_LEN) ||
      wfld h SUBM_ANT_MASK == 0 || decide (wfld h SUBM_ANT_MASK ≥ 2 ^ c.tx) || decide (wfld h SUBM_OFFSET_NS ≥ d.tickNs)
  | 1 => match ch with | none => true | some x => !x.ul || x.comb == 2
  | _ => true

/-- Overlap with a burst accepted on the channel. -/
def Dev.subOverlap (d : Dev) (n : Nat) (c : CellCfg) (s : Sub) (others : List Sub) : Bool :=
  wfld s.hdr SUBM_KIND == 0 &&
  (let a := d.subSpan n c s
   others.any (fun o => o.pos != s.pos && wfld o.hdr SUBM_KIND == 0 && wfld o.hdr SUBM_CHANNEL == wfld s.hdr SUBM_CHANNEL &&
    (let b := d.subSpan n c o; decide (a.1 ≤ b.2) && decide (b.1 ≤ a.2))))

/-- RING_DOORBELL (R341): PROD of a downlink ring. -/
def ringDoorbellOp (d : Dev) (q v : Nat) : Dev := if q % 2 = 1 then d.set (RAD_RING_PROD_PROD q) v else d

/-- SUBMISSION_FETCH (R348): the next submission of an on-air PRIMARY cell's ring is fetched, checked, and kept or returned.
Its lines are read like any consumer's (R230, R240, R246): while one is held, the fetch waits for a later command. -/
def submissionFetchOp (m : Mem) (d : Dev) (n : Nat) : Dev :=
  let q := 2 * n + 1
  match sfind d.rad.cells n with
  | none => d
  | some r =>
    let c := d.cellCfg true n
    let cons := d.get (RAD_RING_CONS_CONS q)
    if c.role ≠ 0 || !d.is (RAD_RING_CFG_VALID q) || ringUsed (d.get (RAD_RING_PROD_PROD q)) cons = 0 || (d.subsOf n).length ≥ 64 then d
    else
      let size := 128 * 2 ^ d.get (RAD_RING_CFG_ESIZE q)
      let off := d.get (RAD_RING_BASE_BASE q) * 4096 + cons % 2 ^ d.get (RAD_RING_CFG_ORDER q) * size
      let x := readRange m d off 64 .consumer
      let h := bytesWords 8 x.2.2
      let len := if wfld h SUBM_KIND = 1 then 64 else min (wfld h SUBM_LEN) (size - 64)
      let y := readRange m x.1 (off + 64) len .consumer
      if x.2.1 ≠ .ok then x.1
      else if y.2.1 ≠ .ok then y.1
      else
        let d := y.1
        let j := d.nearTick (wfld h SUBM_START_INTERVAL)
        let s : Sub := ⟨h, y.2.2, cons, j.toNat, none⟩
        let d := (d.set (RAD_RING_CONS_CONS q) (cons + 1)).radioVector q
        let dead : Int := if r.since = d.tick then d.tick + 3 else d.tick + 4
        if d.subBad n c s (size - 64) then d.txReturn n s stREFUSED_STATE rnBAD_FIELD
        else if j ≤ dead then d.txReturn n s stREFUSED_STATE rnLATE
        else if j - d.tick > 65535 then d.txReturn n s stREFUSED_STATE rnFAR
        else if d.subOverlap n c s (d.subsOf n) then d.txReturn n s stREFUSED_STATE rnOVERLAP
        else d.setSubs n (d.subsOf n ++ [s])

/-- The second check, at tick j - 4 (R348). -/
def Dev.subRecheck (d : Dev) (n : Nat) : Dev :=
  let c := d.cellCfg true n
  (d.subsOf n).foldl (fun d s =>
    if s.interval ≠ d.tick + 4 ∨ s.bits.isSome then d
    else
      let rest := (d.subsOf n).filter (fun o => o.pos != s.pos)
      if d.subBad n c s 2047 then (d.setSubs n rest).txReturn n s stREFUSED_STATE rnBAD_FIELD
      else if d.subOverlap n c s (rest.filter (fun o => o.bits.isSome || decide (o.interval < s.interval))) then
        (d.setSubs n rest).txReturn n s stREFUSED_STATE rnOVERLAP
      else d) d

/-- Bursts whose last interval has been sent are returned OK (R346). -/
def Dev.subsSent (d : Dev) (n j : Nat) : Dev :=
  let c := d.cellCfg true n
  (d.subsOf n).foldl (fun d s =>
    if wfld s.hdr SUBM_KIND = 0 ∧ s.bits.isSome ∧ d.subLast n c s ≤ j then
      (d.setSubs n ((d.subsOf n).filter (fun o => o.pos != s.pos))).txReturn n s stOK 0
    else d) d

/-- All submissions of a cell go back at boundary B: bursts on air, whose first interval is B (the last one sent, R303) or an earlier one, as
ABORTED, the others as REFUSED_STATE (R350). -/
def Dev.subsReturn (d : Dev) (n b reason : Nat) : Dev :=
  (d.subsOf n).foldl (fun d s =>
    let air := decide (wfld s.hdr SUBM_KIND = 0) && s.bits.isSome && decide (s.interval ≤ b)
    d.txReturn n s (if air then stABORTED else stREFUSED_STATE) reason) (d.setSubs n [])

/-- DL_IQ_EGRESS with the returns that follow the last interval of a burst. -/
def dlEgressOp (d : Dev) (n : Nat) : Dev := (egressOp d n).subsSent n (d.tick + 1)

/-! ### Coding items (R339) -/

/-- Coded bits of this tick (RAD_CE_PEAK). -/
def Dev.countCoded (d : Dev) (k : Nat) : Dev :=
  let d := { d with rad := { d.rad with ceBits := d.rad.ceBits + k } }
  d.raise RAD_CE_PEAK_BITS d.rad.ceBits

/-- Downlink coding of a cell: bursts whose interval lies four ticks ahead are encoded. The bits counted are those of the bursts that air in
that interval. -/
def codingDl (d : Dev) (n : Nat) : Dev :=
  let c := d.cellCfg true n
  if c.role ≠ 0 then d
  else
    let j := d.tick + 4
    let l := (d.subsOf n).map (fun s =>
      if wfld s.hdr SUBM_KIND = 0 ∧ s.interval ≤ j ∧ s.bits.isNone then
        { s with bits := some (burstBits (d.mode true n (wfld s.hdr SUBM_MODE)) (wfld s.hdr SUBM_USER) (wfld s.hdr SUBM_SYNC_SEL) s.payload) }
      else s)
    let d := d.setSubs n l
    let air := l.filter (fun s => s.bits.isSome && decide (s.interval ≤ j) && decide (j ≤ d.subLast n c s))
    d.countCoded ((air.map (fun s => let b := modeBits (d.mode true n (wfld s.hdr SUBM_MODE)) c (d.get LTH_TICK_CFG_PERIOD); ceilDiv b.1 b.2)).sum)

/-- The BURST record of a burst that ends. `soft` is complete or the burst has no payload. Bursts that are cut end together, in the tick of the cut: they
follow those that ended on air, by channel and output (R346). -/
def Dev.burstRec (d : Dev) (n ch out : Nat) (b : Burst) (quality status : Nat) (cut : Bool) : RadRec :=
  let f (i : Nat) : Nat := b.start.getD i 0
  let c := d.cellCfg true n
  let m := d.mode true n (f 0)
  let len := f 3
  let std := wfld m MODE_STD == 1
  let cal := sext 16 (if out = 0 then b.cal % 65536 else b.cal / 65536)
  let want := if std then b.soft.length else bodyLen m len
  let full := f 4 == 0 && decide (b.soft.length ≥ want) && decide (0 < b.soft.length)
  let x : Decoded :=
    if !full then ⟨[], false, false, 0⟩
    else if std then (let r := Config.sunBody m (f 1) len b.soft; ⟨r.1, r.2.1, false, r.2.2⟩)
    else bodyDecode m len b.soft
  let st := if status ≠ stOK then status
    else if f 4 = 1 || x.crcBad || x.rsFail then stUNCORRECTABLE else stOK
  let dur := (b.soft.length + (if std then Config.sunHeaderBits m (f 1) else if wfld m MODE_HDR_EN = 1 then headerLen m else 0)) *
    (c.hop * wfld m MODE_SPS * 1000000000) / (modeBps m * (1024 * 800000 * 2 ^ c.rate))
  let at0 := f 6 * d.tickNs + (f 5 + 2 ^ 32 - d.boundaryNs (d.nearTick (f 6)).toNat) % 2 ^ 32
  mkRec n 1 [if cut then d.tick * d.tickNs else at0 + dur, ch, out]
    [(UREC_NS, f 5), (UREC_STATUS, st), (UREC_CHANNEL, ch), (UREC_OUTPUT, out), (UREC_MODE, f 0), (UREC_SYNC_IDX, f 1), (UREC_HDR_BAD, f 4),
     (UREC_CRC_BAD, if x.crcBad then 1 else 0), (UREC_RS_FAIL, if x.rsFail then 1 else 0), (UREC_INTERVAL, f 6),
     (UREC_LEN, x.payload.length), (UREC_USER, f 2), (UREC_RSSI, rssiCal (f 7) cal), (UREC_CFO, f 8), (UREC_QUALITY, quality),
     (UREC_BIT_CORR, min 65535 x.corr)] (f 7) x.payload

/-- Key of a stream's receiver. -/
def rxKey (n ch out : Nat) : Nat := (n * 320 + ch) * 2 + out

/-! ### Gouge items: areas, inputs and outputs (R349, R369, R371, R373) -/

def Dev.setGword (d : Dev) (n x v : Nat) : Dev := { d with gmem := sput d.gmem (gDataKey n x) (BitVec.ofNat 32 v) }

/-- Writes bytes from a 4-byte aligned data address on. -/
def Dev.gwrite (d : Dev) (n x : Nat) (bs : List Byte) : Dev :=
  (List.range ((bs.length + 3) / 4)).foldl (fun d i => d.setGword n (x + 4 * i) (leNat ((bs.drop (4 * i)).take 4))) d

/-- Bytes of data memory. -/
def Dev.gread (d : Dev) (n x len : Nat) : List Byte :=
  (List.range len).map (fun i => BitVec.ofNat 8 (d.gword true n ((x + i) / 4 * 4) / 256 ^ ((x + i) % 4)))

/-- Addresses of an item's data: (IN_ADDR, IN_LEN, OUT_ADDR, OUT_LIMIT) (R373). The MOD item's data comes first. -/
def Dev.gougeAddrs (d : Dev) (n : Nat) (mod : Bool) : Nat × Nat × Nat × Nat :=
  let a := d.gougeAreas true n
  let inSize := d.get (actF (GGC_IN_CFG_SIZE n)) * 16
  let outSize := d.get (actF (GGC_OUT_CFG_SIZE n)) * 16
  let inB := d.get (actF (GGC_IN_CFG_BASE n)) + d.tick % 2 * inSize
  let outB := d.get (actF (GGC_OUT_CFG_BASE n)) + d.tick % 2 * outSize
  let modIn := (a.1 + 3) / 4 * 4
  if mod then (inB, a.1, outB, a.2.2) else (inB + modIn, a.2.1, outB + a.2.2, outSize - a.2.2)

/-- Frame `fr`'s time after a burst's t0, in units of 2^-96 symbol. -/
def Dev.burstTime (d : Dev) (n : Nat) (r : CellRun) (c : CellCfg) (b : Sub) (fr : Nat) : Int :=
  let fs := 800000 * 2 ^ c.rate
  let m := d.mode true n (wfld b.hdr SUBM_MODE)
  let t0 : Int := ((b.interval : Int) - r.first) * d.tickNs + wfld b.hdr SUBM_OFFSET_NS
  (((fr * c.hop * 1000000000 : Nat) : Int) - t0 * fs) * 1024 * 2 ^ 96 / ((1000000000 * c.hop * wfld m MODE_SPS : Nat) : Int)

/-- Levels of a burst. One that is not yet encoded ramps up before its first symbol. -/
def Dev.burstLevels (d : Dev) (n : Nat) (b : Sub) : List Int :=
  let m := d.mode true n (wfld b.hdr SUBM_MODE)
  levels (modeBps m) (b.bits.getD (burstBits m (wfld b.hdr SUBM_USER) (wfld b.hdr SUBM_SYNC_SEL) b.payload))

/-- The bins of interval j (R319): for each frame, transmit antenna and channel with DL_EN, in order. -/
def Dev.modBins (d : Dev) (n j : Nat) (r : CellRun) (c : CellCfg) : List W32 :=
  let s := c.samples (d.get LTH_TICK_CFG_PERIOD)
  let air := if c.role ≠ 0 then [] else (d.subsOf n).filter (fun x => wfld x.hdr SUBM_KIND == 0 && decide (d.subFirst n c x ≤ j) &&
    (x.bits.isSome || decide (j < x.interval)))
  (span (dlFrames ((j - r.first) * s) s c.hop)).flatMap (fun (fr : Nat) =>
    (List.range c.tx).flatMap (fun a =>
      (c.plan.filter (fun x => x.dl)).map (fun x =>
        match (air.filter (fun b => wfld b.hdr SUBM_CHANNEL == x.ch && (wfld b.hdr SUBM_ANT_MASK).testBit a)).map (fun b =>
            burstBin (d.mode true n (wfld b.hdr SUBM_MODE)) (d.burstLevels n b) (min 32767 (wfld b.hdr SUBM_AMPL)) (d.burstTime n r c b fr)
              (decide (x.bin * (fr : Int) % 2 ≠ 0)) (d.free + 2 * (fr * 2048 + a * 320 + x.ch))) |>.find? (fun w => w != 0#32) with
        | some w => w
        | none => 0#32)))

/-- The bytes of the bins of interval j. -/
def Dev.modBytes (d : Dev) (n j : Nat) : List Byte :=
  match sfind d.rad.cells n with
  | none => []
  | some r => (d.modBins n j r (d.cellCfg true n)).flatMap (fun x => bytesLE 4 x.toNat)

/-- A burst that stops is taken out of the bins of interval j and later ones that have been written. -/
def Dev.binsStop (d : Dev) (n j : Nat) (s : Sub) : Dev :=
  match sfind d.rad.cells n with
  | none => d
  | some r =>
    let c := d.cellCfg true n
    let p := c.samples (d.get LTH_TICK_CFG_PERIOD)
    let lv := d.burstLevels n s
    let ks := (c.plan.filter (fun x => x.ch == wfld s.hdr SUBM_CHANNEL)).map (fun x => binIndex c x.bin)
    let clear (q : Nat) (l : List (List (List W32))) : List (List (List W32)) :=
      l.mapIdx (fun a fs => if (wfld s.hdr SUBM_ANT_MASK).testBit a then
        fs.mapIdx (fun i f =>
          if burstAmp 32767 lv.length (d.burstTime n r c s ((dlFrames ((q - r.first) * p) p c.hop).1 + i)) = 0 then f
          else ks.foldl (fun f k => f.set k 0#32) f) else fs)
    d.setCell n { r with bins := r.bins.map (fun e => if j ≤ e.1 then (e.1, clear e.1 e.2) else e) }

/-- What a MOD item that runs makes, again. -/
def Dev.remade (d : Dev) (n : Nat) : Dev :=
  let g := sget d.gouge n {}
  match g.item with
  | some (true, _, j) => { d with gouge := sput d.gouge n { g with made := d.modBytes n j } }
  | _ => d

/-- A missed downlink interval (R351): every burst that airs in it stops and is returned. -/
def Dev.dlMiss (d : Dev) (n j reason : Nat) : Dev :=
  if d.missKnown n j true then d
  else
    let d := d.addMiss n j true reason
    let c := d.cellCfg true n
    let stop := (d.subsOf n).filter (fun s =>
      wfld s.hdr SUBM_KIND == 0 && decide (d.subFirst n c s ≤ j) && decide (j ≤ d.subLast n c s))
    if stop.isEmpty then d
    else
      (stop.foldl (fun d s => ((d.setSubs n ((d.subsOf n).filter (fun o => o.pos != s.pos))).txReturn n s stSLOT_MISS reason).binsStop n j s)
        d).remade n

/-- The input of the MOD item: the coded bits of the interval, one bit a bit, in whole bytes for each channel with DL_EN, ascending. -/
def Dev.modInput (d : Dev) (n j : Nat) (c : CellCfg) : List Byte :=
  (c.plan.filter (fun x => x.dl)).flatMap (fun x =>
    let b := modeBits (d.mode true n x.mode) c (d.get LTH_TICK_CFG_PERIOD)
    let nbits := ceilDiv b.1 b.2
    let bits := match (d.subsOf n).find? (fun s => s.bits.isSome && wfld s.hdr SUBM_CHANNEL == x.ch && decide (s.interval ≤ j)) with
      | some s => ((s.bits.getD []).drop ((j - s.interval) * nbits)).take nbits
      | none => []
    bytesLE (ceilDiv nbits 8) (lsbVal bits))

/-- The streams of a channel in the interval that U2 and CB put out last. -/
def CellRun.stream (r : CellRun) (c : CellCfg) (x : ChPlan) (o : Nat) : List W32 :=
  if x.comb = 2 then (r.y.getD o []).map (fun f => f.getD (binIndex c x.bin) 0#32) else sget r.comb (x.ch * 2 + o) []

/-- The sign of R307 taken off a stream sample of frame m. -/
def unfactor (b : Int) (m : Nat) (w : W32) : W32 := if b * ((m : Int) + 1) % 2 = 0 then w else cword (sat16 (-wre w)) (sat16 (-wim w))

/-- Configuration of a stream's receiver. -/
def Dev.rxCfg (d : Dev) (n : Nat) (c : CellCfg) (x : ChPlan) (o : Nat) : RxCfg :=
  ⟨d.mode true n x.mode, x.ch, o, x.mode, c.scale1 + (if (ulFactor c.ndft).2 = 1 then 0 else c.scale2), x.comb == 2, x.survey && o == 0⟩

/-- The streams of a cell abandon what is in progress (R351): the segments that end their bursts. The search goes on with the samples that
follow. -/
def Dev.goneStreams (d : Dev) (n status : Nat) : Dev × List Byte :=
  let c := d.cellCfg true n
  (c.plan.filter (fun ch => ch.ul)).foldl (fun s ch =>
    (List.range (if ch.comb = 2 then 1 else ch.comb + 1)).foldl (fun s o =>
      match sfind s.1.rad.rx (rxKey n ch.ch o) with
      | some r =>
        let f := r.abort (d.rxCfg n c ch o) status
        ({ s.1 with rad := { s.1.rad with rx := sput s.1.rad.rx (rxKey n ch.ch o) f.1 } }, s.2 ++ f.2)
      | none => s) s) (d, [])

/-- A MISS segment (R371). -/
def missSegment (reason interval : Nat) : List Byte :=
  bytesLE 4 (sgMISS + 0x1FF * 16 + 8 * 16384) ++ bytesLE 4 reason ++ bytesLE 4 interval

/-- Segments join those that the coding engine takes for an interval. -/
def Dev.addSegs (d : Dev) (n k : Nat) (bs : List Byte) : Dev :=
  { d with rad := { d.rad with segs := sput d.rad.segs n (sget d.rad.segs n [] ++ [(k, bs)]) } }

/-- Segments follow those of the DEMOD item of this tick. -/
def Dev.demodAppend (d : Dev) (n : Nat) (bs : List Byte) : Dev :=
  let g := sget d.gouge n {}
  match g.item with
  | some (false, _, _) => { d with gouge := sput d.gouge n { g with made := g.made ++ bs } }
  | _ => d.addSegs n (d.tick - 2) bs

/-- Bursts that the engines decode end at once, each with a record without payload (R351). -/
def Dev.burstsStop (d : Dev) (n status : Nat) : Dev :=
  let mine := d.rad.bursts.filter (fun e => e.1 / 640 == n)
  let d := mine.foldl (fun d e => d.queueRec n (d.burstRec n (e.1 / 2 % 320) (e.1 % 2) { e.2 with soft := [] } 0 status true)) d
  { d with rad := { d.rad with bursts := d.rad.bursts.filter (fun e => e.1 / 640 != n) } }

/-- The SLOT_MISS record of a missed interval (R351). -/
def Dev.missRec (d : Dev) (n interval reason : Nat) : Dev :=
  d.queueRec n (mkRec n 0 [interval]
    [(UREC_NS, d.boundaryNs interval), (UREC_STATUS, stSLOT_MISS), (UREC_CHANNEL, 0x1FF), (UREC_REASON, reason),
     (UREC_INTERVAL, interval % 2 ^ 32)] 0 [])

/-- A burst that starts. One that has not ended on its stream ends without payload. -/
def Dev.burstStart (d : Dev) (n ch out : Nat) (p : List Byte) : Dev :=
  { d with rad := { d.rad with bursts := sput d.rad.bursts (rxKey n ch out) ⟨startFields p, sget d.rad.cal n 0, []⟩ } }

/-- A burst that ends: its record. -/
def Dev.burstEnd (d : Dev) (n ch out : Nat) (f : Burst → Burst) (quality status : Nat) (cut : Bool) : Dev :=
  match sfind d.rad.bursts (rxKey n ch out) with
  | some b =>
    let r := d.burstRec n ch out (f b) quality status cut
    ({ d with rad := { d.rad with bursts := sdel d.rad.bursts (rxKey n ch out) } }).queueRec n r
  | none => d

/-- A MISS segment (R371): the record of the missed interval, once; unless IQ was missing, every burst in progress on the cell ends
without payload. -/
def Dev.segMiss (d : Dev) (n reason interval : Nat) : Dev :=
  let mine (x : Miss) : Bool := x.cell == n && !x.dl && x.interval % 2 ^ 32 == interval
  let d := match d.rad.misses.find? mine with
    | some x =>
      if x.done then d
      else ({ d with rad := { d.rad with misses := d.rad.misses.map (fun y => if mine y then { y with done := true } else y) } } : Dev).missRec
        n x.interval reason
    | none => d.missRec n interval reason
  if reason = rsIQ_MISSING then d else d.burstsStop n stSLOT_MISS

/-- One segment of a demodulation item (R371) in the coding engine. -/
def codingSeg (d : Dev) (n interval type ch out len : Nat) (p : List Byte) : Dev :=
  let k := rxKey n ch out
  let cal := sget d.rad.cal n 0
  if type = sgSTART then d.burstStart n ch out p
  else if type = sgSOFT then
    match sfind d.rad.bursts k with
    | some b =>
      ({ d with rad := { d.rad with bursts := sput d.rad.bursts k { b with soft := b.soft ++ (p.take len).map (fun x => sext 8 x.toNat) } } } :
        Dev).countCoded len
    | none => d
  else if type = sgEND then
    d.burstEnd n ch out (fun b => if leNat ((p.drop 3).take 1) = 0 then b else { b with soft := [] }) (leNat (p.take 2)) (leNat ((p.drop 2).take 1))
      (leNat ((p.drop 3).take 1) != 0 && leNat ((p.drop 2).take 1) != stOK)
  else if type = sgNOISE then
    let c := sext 16 (if out = 0 then cal % 65536 else cal / 65536)
    let x := d.plan true n |>.find? (fun y => y.ch == ch)
    d.queueRec n (mkRec n 2 [ch] [(UREC_NS, d.boundaryNs (interval + 1)), (UREC_STATUS, stOK), (UREC_CHANNEL, ch), (UREC_OUTPUT, out),
      (UREC_MODE, match x with | some y => y.mode | none => 0), (UREC_INTERVAL, interval % 2 ^ 32), (UREC_COUNT, leNat ((p.drop 4).take 2)),
      (UREC_RSSI, rssiCal (leNat (p.take 2)) c), (UREC_CFO, rssiCal (leNat ((p.drop 2).take 2)) c)] (leNat (p.take 2)) [])
  else if type = sgMISS then d.segMiss n (leNat (p.take 4)) (leNat ((p.drop 4).take 4))
  else d

/-- A segment of an interval whose results are not used (R79, R344, R351): the bursts that start or end in it end without payload. -/
def cutSeg (status : Nat) (d : Dev) (n _interval type ch out _len : Nat) (p : List Byte) : Dev :=
  if type = sgSTART then d.burstStart n ch out p
  else if type = sgEND then d.burstEnd n ch out (fun b => { b with soft := [] }) 0 status true
  else d

/-- The segments of a demodulation item in turn. -/
def codingSegs (seg : Dev → Nat → Nat → Nat → Nat → Nat → Nat → List Byte → Dev) (n interval : Nat) : Nat → Dev → List Byte → Dev
  | 0, d, _ => d
  | fuel + 1, d, bs =>
    if bs.length < 4 then d
    else
      let h := leNat (bs.take 4)
      let len := h / 16384 % 65536
      codingSegs seg n interval fuel (seg d n interval (h % 16) (h / 16 % 512) (h / 8192 % 2) len ((bs.drop 4).take len))
        (bs.drop (4 + (len + 3) / 4 * 4))

/-- SLOT_MISS records of intervals up to k that have none yet (R351). -/
def missRecs (d : Dev) (n k : Nat) : Dev :=
  let due := d.rad.misses.filter (fun x => x.cell == n && !x.done && (x.dl || decide (x.interval ≤ k)))
  let d := { d with rad := { d.rad with misses := d.rad.misses.map (fun x => if due.contains x then { x with done := true } else x) } }
  due.foldl (fun d x => d.missRec n x.interval x.reason) d

/-- Takes the segments of a cell up to interval k out of the queue, and gives them to `seg`. -/
def Dev.takeSegs (d : Dev) (seg : Dev → Nat → Nat → Nat → Nat → Nat → Nat → List Byte → Dev) (n k : Nat) : Dev :=
  let segs := sget d.rad.segs n []
  let d := { d with rad := { d.rad with segs := sput d.rad.segs n (segs.filter (fun x => decide (x.1 > k))) } }
  (segs.filter (fun x => decide (x.1 ≤ k))).foldl (fun d x => codingSegs seg n x.1 (x.2.length + 1) d x.2) d

/-- Uplink coding of a cell up to interval k: decoding, and the records enter Q2n. -/
def codingUl (m : Mem) (d : Dev) (n k : Nat) : Dev :=
  let had := (sget d.rad.segs n []).any (fun x => x.1 == k)
  let d := d.takeSegs codingSeg n k
  -- an interval whose items did not run ends every burst in progress (R351)
  let cut := match d.missReason n k false with | some v => v != rsIQ_MISSING | none => false
  let d := if cut && !had then d.burstsStop n stSLOT_MISS else d
  flushRecs m (missRecs d n k) n [0, 1, 2]

/-- The coding engines in the pool: not FAULTY (R402), and not withheld for a test (R408). -/
def Dev.pool (d : Dev) : List Nat := (List.range 32).filter (fun e => !d.unitFaulty (unitEngine e) && (d.unit (unitEngine e)).test == 0)

/-- The engine that a coding item is placed on: any one of the pool (R339). -/
def Dev.anEngine (d : Dev) : Nat := d.pool.getD (Config.engine d.free % max 1 d.pool.length) 0

/-- More coded bits in the tick than the engines of the pool can take (R402): one that has lost none meets the admitted load (R75). -/
def Dev.poolShort (d : Dev) : Bool :=
  decide (d.pool.length < 32) && decide (d.rad.ceBits * 1000000 > d.pool.length * 400000000 * (d.tickNs / 1000))

/-- A coding item is placed on an engine. -/
def Dev.codingPlace (d : Dev) (n : Nat) (dl : Bool) : Dev :=
  { d with rad := { d.rad with coded := d.rad.coded ++ [(n, dl, d.anEngine)] }, free := d.free + 1 }

/-- The completion record of a coding item (R51). -/
def codingPost (m : Mem) (d : Dev) (n : Nat) (dl : Bool) (status attempt : Nat) : Dev :=
  radioPost m d (1088 + d.codingEngine n dl) status attempt none

/-- A coding item that is cut, or cannot run (R79, R351): its interval is missed, its results are not written, and the streams restart their search.
While a FAULTY engine is out of the pool the Tailstock sends an event record with the cut (R402). -/
def codingCut (m : Mem) (d : Dev) (n : Nat) (dl : Bool) (attempt : Nat) : Dev :=
  let short := (List.range 32).any (fun e => d.unitFaulty (unitEngine e))
  let d := if short && !d.codingRan n dl && (dl || decide (3 ≤ d.tick)) then d.event srcTailstock .poolShort [n] else d
  if d.codingRan n dl || (!dl && decide (d.tick < 3)) then d
  else if dl then codingPost m ((d.codingPlace n true).dlMiss n (d.tick + 4) rsITEM_CUT) n true stSLOT_MISS attempt
  else
    let k := d.tick - 3
    let d := d.codingPlace n false
    let d := (d.addMiss n k false rsITEM_CUT).takeSegs (cutSeg stSLOT_MISS) n k
    let f := (d.burstsStop n stSLOT_MISS).goneStreams n stSLOT_MISS
    codingPost m (f.1.demodAppend n f.2) n false stSLOT_MISS attempt

/-- CODING_ITEM: the uplink item of interval tick - 3, or the downlink item of interval tick + 4. One that needs more than the pool can give is
cut. A cell without uplink has its SLOT_MISS records written by its downlink items. -/
def codingItemOp (m : Mem) (d : Dev) (n : Nat) (dl : Bool) : Dev :=
  match sfind d.rad.cells n with
  | none => d
  | some r =>
    let c := d.cellCfg true n
    let ul := c.plan.any (fun x => x.ul)
    if d.lathe.inGuard || d.codingRan n dl || (dl && c.role != 0) || (!dl && decide (d.tick < 3)) then d
    else
      let e := d.codingPlace n dl
      let x := if dl then (let e := codingDl e n; if ul then e else flushRecs m (missRecs e n 0) n [0]) else codingUl m e n (d.tick - 3)
      if x.poolShort then codingCut m d n dl 1
      else if dl || (ul && decide (r.first + 3 ≤ d.tick)) then codingPost m x n dl stOK 1
      else x

/-- A coding item of this tick has work and has not run. -/
def Dev.codingOpen (d : Dev) (n : Nat) (dl : Bool) : Bool :=
  let c := d.cellCfg true n
  !d.codingRan n dl &&
  (if dl then c.role == 0 && (d.subsOf n).any (fun s => wfld s.hdr SUBM_KIND == 0 && decide (s.interval ≤ d.tick + 4) &&
      decide (d.tick + 4 ≤ d.subLast n c s))
    else (sget d.rad.segs n []).any (fun x => x.1 + 3 == d.tick))

/-- The streams of the DEMOD input, by channel (R369): `f` reads word i of it, `fr` is the number of frames. -/
def streamsAt (f : Nat → W32) (fr rx : Nat) : List ChPlan → Nat → List (Nat × List (List W32))
  | [], _ => []
  | x :: xs, o =>
    (x.ch, (List.range (x.streams rx)).map (fun i => (List.range fr).map (fun q => f (o + i * fr + q)))) ::
      streamsAt f fr rx xs (o + x.streams rx * fr)

/-- The receive chain over interval k (R327): the segments of the DEMOD item, from its input. -/
def demodRun (d : Dev) (n k : Nat) (r : CellRun) (c : CellCfg) : Dev × List Byte :=
  let p := d.get LTH_TICK_CFG_PERIOD
  let fr := ulFrames (r.start c p k) (c.samples p) c.hop
  let miss := d.missReason n k false
  let head : List Byte := match miss with | some v => missSegment v k | none => []
  if (match miss with | some v => v != rsIQ_MISSING | none => false) then
    let f := d.goneStreams n stSLOT_MISS
    (f.1, head ++ f.2)
  else
    let x := d.rxTime r c
    let ups := c.plan.filter (fun ch => ch.ul)
    let base := (d.gougeAddrs n false).1
    let streams := streamsAt (fun i => BitVec.ofNat 32 (d.gword true n (base + 4 * i))) (fr.2 - fr.1) c.rx ups 0
    ups.foldl (fun s ch =>
      (List.range (if ch.comb = 2 then 1 else ch.comb + 1)).foldl (fun s o =>
        let d := s.1
        let cfg := d.rxCfg n c ch o
        let key := rxKey n ch.ch o
        let rx := (sfind d.rad.rx key).getD (Rx.fresh cfg fr.1)
        let get (q : Nat) : List W32 :=
          let l := ((streams.find? (fun e => e.1 == ch.ch)).map (·.2)).getD [] |>.getD q []
          (List.range (fr.2 - fr.1)).map (fun i => unfactor ch.bin (fr.1 + i) (l.getD i 0#32))
        let f := rx.interval cfg x fr.1 (get o) (if ch.comb = 2 then get 1 else []) miss.isSome
        let d := { d with rad := { d.rad with rx := sput d.rad.rx key f.1 } }
        (d.bump (RAD_MODEM_STAT_FALSE_PRE n) f.2.2, s.2 ++ f.2.1)) s) (d, head)

/-- The longest part of a list of segments that an output area of `room` bytes takes, segment by segment. -/
def fitSegs : Nat → Nat → List Byte → List Byte
  | 0, _, _ => []
  | fuel + 1, room, bs =>
    let len := 4 + (leNat (bs.take 4) / 16384 % 65536 + 3) / 4 * 4
    if bs.length < 4 || room < len then [] else bs.take len ++ fitSegs fuel (room - len) (bs.drop len)

/-- The argument block of an item (R369). -/
def Dev.argBlock (d : Dev) (n i : Nat) (mod : Bool) (interval frames inLen : Nat) (restart : Bool) (miss : Nat) :
    Dev :=
  let a := d.gougeAddrs n mod
  d.gwrite n (64 * i) (wordsBytes (mkWords 8 [(GARG_KIND, if mod then 0 else 1), (GARG_RESTART, if restart then 1 else 0), (GARG_MISS, miss),
    (GARG_INTERVAL, interval), (GARG_TICK, d.tick), (GARG_FRAMES, frames), (GARG_IN_ADDR, a.1), (GARG_IN_LEN, inLen),
    (GARG_OUT_ADDR, a.2.2.1), (GARG_OUT_LIMIT, a.2.2.2), (GARG_OUT_LEN, 0), (GARG_NS, d.boundaryNs interval)]))

/-- WEIGHTS submissions of the current tick's interval (R349): into the bank that is not in force. -/
def Dev.takeWeights (d : Dev) (n : Nat) : Dev :=
  (d.subsOf n).foldl (fun d s =>
    if wfld s.hdr SUBM_KIND = 1 ∧ s.interval ≤ d.tick then
      let d := (d.setSubs n ((d.subsOf n).filter (fun o => o.pos != s.pos))).txReturn n s stOK 0
      match sfind d.rad.cells n with
      | some r => d.setCell n { r with wnew := (List.range 16).foldl (fun w i =>
          sput w (wfld s.hdr SUBM_CHANNEL * 16 + i) (BitVec.ofNat 32 (leNat ((s.payload.drop (4 * i)).take 4)))) r.wnew }
      | none => d
    else d) d

/-- Frames of the interval that an item works on. -/
def Dev.itemFrames (d : Dev) (n : Nat) (r : CellRun) (mod : Bool) : Nat :=
  let c := d.cellCfg true n
  let p := d.get LTH_TICK_CFG_PERIOD
  let fr := if mod then dlFrames ((d.tick + 3 - r.first) * c.samples p) (c.samples p) c.hop
    else ulFrames (r.start c p (d.tick - 2)) (c.samples p) c.hop
  fr.2 - fr.1

/-- The input of an item of this tick (R369). -/
def Dev.itemInput (d : Dev) (n : Nat) (r : CellRun) (mod : Bool) : List Byte :=
  let c := d.cellCfg true n
  if mod then d.modInput n (d.tick + 3) c
  else
    (c.plan.filter (fun x => x.ul)).flatMap (fun x => (List.range (x.streams c.rx)).flatMap (fun o =>
      (List.range (d.itemFrames n r false)).flatMap (fun i => bytesLE 4 ((r.stream c x o).getD i 0#32).toNat)))

/-- The mover writes an item's input before the item's release (R354). -/
def Dev.gougeInput (d : Dev) (n : Nat) (mod : Bool) : Dev :=
  match sfind d.rad.cells n with
  | none => d
  | some r => d.gwrite n (d.gougeAddrs n mod).1 (d.itemInput n r mod)

/-- What an item brings with it when it starts: the argument block, and what the modem's arithmetic makes of its input (R319, R327): `i` is its
index in the core's list. The item is the cell's next one: RESTART is taken. -/
def gougeItemData (d : Dev) (n i : Nat) (mod : Bool) : Dev :=
  match sfind d.rad.cells n with
  | none => d
  | some r =>
    let c := d.cellCfg true n
    let d := (d.takeWeights n)
    let d := match sfind d.rad.cells n with | some r => d.setCell n { r with restart := false } | none => d
    let frames := d.itemFrames n r mod
    if mod then
      let d := d.argBlock n i true (d.tick + 3) frames (d.itemInput n r true).length r.restart 0
      let g := sget d.gouge n {}
      { d with gouge := sput d.gouge n { g with made := d.modBytes n (d.tick + 3) }, free := d.free + 2 }
    else
      let k := d.tick - 2
      let inLen := 4 * frames * ((c.plan.filter (fun x => x.ul)).map (fun x => x.streams c.rx)).sum
      let d := d.argBlock n i false k frames inLen r.restart ((d.missReason n k false).getD 0)
      let old := d.rad.rx.filter (fun e => e.1 / 640 == n)
      let f := demodRun d n k r c
      let g := sget f.1.gouge n {}
      { f.1 with gouge := sput f.1.gouge n { g with made := f.2, rxOld := old } }

/-- The output of an item that ends: what the modem's arithmetic makes, unless the item has stored to OUT_LEN itself, be it 0 (log 81). -/
def Dev.gougePut (d : Dev) (n i : Nat) (mod : Bool) : Dev :=
  let blk := 64 * i
  let limit := d.gword true n (blk + 28) % 2 ^ 18
  let made := (sget d.gouge n {}).made
  let bs := if mod then (if made.length ≤ limit then made else []) else fitSegs (made.length + 1) limit made
  if (sget d.gouge n {}).outSet then d
  else (d.gwrite n (d.gword true n (blk + 24) % 2 ^ 18) bs).setGword n (blk + 32) bs.length

/-- The mover collects an item's output (R370). -/
def gougeCollect (d : Dev) (n i : Nat) (mod : Bool) (interval : Nat) : Dev :=
  let addr := d.gword true n (64 * i + 24) % 2 ^ 18
  let bs := d.gread n addr (d.gword true n (64 * i + 32) % 2 ^ 18)
  match sfind d.rad.cells n with
  | none => d
  | some r =>
    if mod then
      let c := d.cellCfg true n
      let dl := c.plan.filter (fun x => x.dl)
      let p := d.get LTH_TICK_CFG_PERIOD
      let fr := dlFrames ((interval - r.first) * c.samples p) (c.samples p) c.hop
      let word (i a q : Nat) : W32 := BitVec.ofNat 32 (leNat ((bs.drop (4 * ((i * c.tx + a) * dl.length + q))).take 4))
      let bins := (List.range c.tx).map (fun a => (List.range (fr.2 - fr.1)).map (fun i => (List.range c.dft).map (fun k =>
        match dl.findIdx? (fun x => binIndex c x.bin == k) with
        | some q => word i a q
        | none => 0#32)))
      d.setCell n { r with bins := sput r.bins interval bins }
    else d.addSegs n interval bs

/-- SYNC_SEARCH_TIMEOUT: a detection in progress on a stream that has reached the limit of R331 is abandoned. -/
def syncTimeoutOp (d : Dev) (n ch o : Nat) : Dev :=
  match sfind d.rad.rx (rxKey n ch o), (d.plan true n).find? (fun x => x.ch == ch) with
  | some r, some x =>
    if r.bits.length < syncLimit (d.mode true n x.mode) then d
    else
      let f := r.syncTimeout
      let d := { d with rad := { d.rad with rx := sput d.rad.rx (rxKey n ch o) f.1 } }
      if f.2 then d.bump (RAD_MODEM_STAT_FALSE_PRE n) 1 else d
  | _, _ => d

/-- NOISE_MEASUREMENT: the record of a survey stream whose count is complete goes to the DEMOD item's output. -/
def noiseOp (d : Dev) (n ch o : Nat) : Dev :=
  match sfind d.rad.rx (rxKey n ch o), (d.plan true n).find? (fun x => x.ch == ch) with
  | some r, some x =>
    let f := r.noise (d.rxCfg n (d.cellCfg true n) x o)
    ({ d with rad := { d.rad with rx := sput d.rad.rx (rxKey n ch o) f.1 } } : Dev).demodAppend n f.2
  | _, _ => d

end Sys2Proof.Machine
end

