-- ==== Sys2Proof/Machine/Gouge.lean ====
section
/-!
DEFINITION. Machine/Gouge.lean: the Gouge cores (R352-R374): registers and addressing, how an instruction issues and its results
land, the operations, loops, branches, interrupts, items and images. A command carries the instruction word, whose OP field names the
operation.
-/

namespace Sys2Proof.Machine

def Dev.gcore (d : Dev) (n : Nat) : GCore := sget d.gouge n {}
def Dev.setG (d : Dev) (n : Nat) (g : GCore) : Dev := { d with gouge := sput d.gouge n g }

/-! ### Registers (R355, R356) -/

/-- Control registers by number. -/
def crP (i : Nat) : Nat := i
def crN (i : Nat) : Nat := 8 + i
def crL (i : Nat) : Nat := 16 + i
def crBA (i : Nat) : Nat := 24 + i
def crH (i : Nat) : Nat := 32 + i
def crSR : Nat := 40
def crRRB : Nat := 41
def crLC0 : Nat := 42
def crLC1 : Nat := 43
def crIE : Nat := 44
def crIPEND : Nat := 45
def crCYC : Nat := 46
def crTMR : Nat := 47
/-- SR written by MVTC or ADDC, which do not clear AOV and SAT (R361). -/
def crSRkeep : Nat := 40 + 64

/-- Width of a control register. -/
def cregWidth (c : Nat) : Nat :=
  if c < 32 then 18 else if c < 40 then 5 else if c ≤ 41 then 4 else if c ≤ 43 then 20 else if c ≤ 45 then 3 else 32

def GCore.cget (g : GCore) (c : Nat) : Nat := sget g.creg c 0
def GCore.cset (g : GCore) (c v : Nat) : GCore := { g with creg := sput g.creg c (v % 2 ^ cregWidth c) }
def GCore.cyc (g : GCore) : Nat := g.cget crCYC

/-- Physical number of a named D register. -/
def GCore.phys (g : GCore) (r : Nat) : Nat := if r < 16 then r else 16 + (r - 16 + 16 - g.cget crRRB) % 16
def GCore.rd (g : GCore) (r : Nat) : W32 := sget g.regs (g.phys r) 0#32

/-- RRB advances by one. -/
def GCore.rotate (g : GCore) : GCore := g.cset crRRB ((g.cget crRRB + 1) % 16)

/-- Sticky flags of SR. -/
def GCore.sticky (g : GCore) (aov sat : Bool) : GCore :=
  g.cset crSR (g.cget crSR ||| (if aov then 4 else 0) ||| (if sat then 8 else 0))

/-! ### Results land (R359) -/

/-- One result at its place. -/
def Dev.gLandOne (d : Dev) (n : Nat) (dst : GDst) (v : Int) : Dev :=
  let g := d.gcore n
  match dst with
  | .reg r lanes =>
    let old := sget g.regs r 0#32
    let new := BitVec.ofInt 32 v
    let pick (lane : Nat) : Nat := (if lanes / 2 ^ lane % 2 = 1 then new else old).toNat / 65536 ^ lane % 65536
    d.setG n { g with regs := sput g.regs r (BitVec.ofNat 32 (pick 0 + 65536 * pick 1)) }
  | .acc a => d.setG n { g with accX := sput g.accX a v }
  | .creg c =>
    if c = crSRkeep then d.setG n (g.cset crSR (v.toNat % 16 ||| (g.cget crSR / 4 * 4)))
    else d.setG n (g.cset c (encInt 32 v))
  | .cmp => d.setG n (g.cset crSR (g.cget crSR / 4 * 4 + v.toNat % 4))
  | .word a =>
    if a < 0x20000 then
      let d := d.setGword n a (encInt 32 v)
      match (d.gcore n).item with
      | some (_, i, _) => if a = 64 * i + 32 then d.setG n { d.gcore n with outSet := true } else d
      | none => d
    else
      match sfind d.rad.cells n with
      | some r => d.setCell n { r with wnew := sput r.wnew ((a - 0x20000) / 4) (BitVec.ofInt 32 v) }
      | none => d

/-- Results usable at cycle `t` land, in the order of their cycles. -/
def Dev.gLand (d : Dev) (n t : Nat) : Dev :=
  let g := d.gcore n
  let due := (g.flight.filter (fun e => decide (e.1 ≤ t))).mergeSort (fun a b => decide (a.1 ≤ b.1))
  due.foldl (fun d e => d.gLandOne n e.2.1 e.2.2) (d.setG n { g with flight := g.flight.filter (fun e => decide (t < e.1)) })

/-! ### Faults and cuts (R370, R79) -/

def gcENCODING : Nat := 1
def gcADDRESS : Nat := 2
def gcSLOT : Nat := 3
def gcLOOP : Nat := 4
def gcSTACK : Nat := 5

/-- The hold-off that ends now counts towards GGC_INT_MAX. -/
def Dev.endHold (d : Dev) (n : Nat) : Dev :=
  let g := d.gcore n
  match g.held with
  | some t => (d.raise (GGC_INT_MAX_HOLDOFF n) (g.cyc - t)).setG n { g with held := none }
  | none => d

/-- A slot miss of an item of the core (R79, R351): its record, and RESTART for the cell's next item. The streams of a DEMOD item abandon what is
in progress. -/
def gougeMiss (m : Mem) (d : Dev) (n : Nat) (mod : Bool) (k attempt : Nat) : Dev :=
  let d := match sfind d.rad.cells n with | some r => d.setCell n { r with restart := true } | none => d
  let d := if mod then d.dlMiss n k rsITEM_CUT
    else
      let f := (d.addMiss n k false rsITEM_CUT).goneStreams n stSLOT_MISS
      f.1.addSegs n k (missSegment rsITEM_CUT k ++ f.2)
  radioPost m d (512 + n) stSLOT_MISS attempt none

/-- The item is cut: nothing is collected, data memory keeps what the core has written, and the interval is a slot miss. -/
def gougeCut (m : Mem) (d : Dev) (n : Nat) : Dev :=
  let g := d.gcore n
  match g.item with
  | none => d
  | some (mod, _, k) =>
    let d := (d.gLand n (g.cyc + 1)).endHold n
    let d := d.setG n { d.gcore n with
      item := none, flight := [], slots := none, rep := none, loops := [], shadow := none, made := [], rxOld := [] }
    let d := d.set (GGC_CORE_STAT_BUSY n) 0
    let rx := g.rxOld.foldl (fun (s : SMap Rx) (e : Nat × Rx) => sput s e.1 e.2) (d.rad.rx.filter (fun e => e.1 / 640 != n))
    let d := if mod then d else { d with rad := { d.rad with rx := rx } }
    gougeMiss m d n mod k 1

/-- An illegal instruction (R370). -/
def gFault (m : Mem) (d : Dev) (n cause : Nat) : Dev :=
  let g := d.gcore n
  let d := if d.is (GGC_FAULT_VALID n) then d
    else ((d.set (GGC_FAULT_PC n) g.pc).set (GGC_FAULT_CAUSE n) cause).set (GGC_FAULT_VALID n) 1
  gougeCut m (d.event (512 + n) .gougeFault [g.pc, cause]) n

/-! ### The next instruction (R363-R367) -/

/-- CYC advances. -/
def GCore.spend (g : GCore) (k : Nat) : GCore := ({ g with was := g.cyc } : GCore).cset crCYC (g.cyc + k)

/-- Ends of loops at instruction index `next`: innermost first. `next` continues there, or the loop goes back to its start, at 2 cycles for a
body of more than 64 instructions. -/
def loopEnds : Nat → GCore → Nat → GCore × Nat
  | 0, g, next => (g, next)
  | fuel + 1, g, next =>
    match g.loops with
    | [] => (g, next)
    | (lc, start, stop, rot) :: rest =>
      if next ≠ stop then (g, next)
      else
        let g := if rot then g.rotate else g
        let left := g.cget (crLC0 + lc)
        if left ≤ 1 then loopEnds fuel ({ g with loops := rest }.cset (crLC0 + lc) 0) next
        else
          let g := g.cset (crLC0 + lc) (left - 1)
          ((if stop - start > 64 then g.cset crCYC (g.cyc + 2) else g), start)

/-- RTI has ended its delay slots: the shadow set returns (R366). -/
def GCore.unshadow (g : GCore) : GCore :=
  match g.shadow with
  | none => g
  | some s =>
    { ((((g.cset crSR s.sr).cset crRRB s.rrb).cset crLC0 s.lc0).cset crLC1 s.lc1) with
      pc := s.pc, loops := s.loops, rep := s.rep, shadow := none }

/-- An enabled interrupt is pending. -/
def GCore.wants (g : GCore) : Bool := (g.cget crIE &&& g.cget crIPEND) != 0 && g.shadow.isNone

/-- R367 holds an interrupt off at this boundary. -/
def GCore.holds (g : GCore) : Bool := g.slots.isSome || !g.loops.isEmpty || g.rep.isSome

/-- An enabled interrupt that must wait at this boundary has waited since now (R367). -/
def GCore.noteHeld (g : GCore) : GCore := if g.wants && g.holds && g.held.isNone then { g with held := some g.cyc } else g

/-- The instruction that ends: the counts of REP, of delay slots and of loops, and the index of the next one. -/
def GCore.next (g : GCore) : GCore :=
  match g.rep with
  | some k =>
    if k > 1 then { g with rep := some (k - 1) }
    else let x := loopEnds 3 { g with rep := none } (g.pc + 1); { x.1 with pc := x.2 % 4096 }
  | none =>
    match g.slots with
    | some (k, target, rti) =>
      if k > 1 then { g with slots := some (k - 1, target, rti), pc := (g.pc + 1) % 4096 }
      else
        let g := { g with slots := none }
        if rti && g.shadow.isSome then g.unshadow
        else match target with | some t => { g with pc := t } | none => { g with pc := (g.pc + 1) % 4096 }
    | none => let x := loopEnds 3 g (g.pc + 1); { x.1 with pc := x.2 % 4096 }

/-- One cycle, and on to the next instruction. -/
def GCore.done (g : GCore) : GCore := (g.spend 1).next.noteHeld

/-- The same with `extra` cycles that the accesses to the banks add: they hold an interrupt off too (R353, R367). -/
def Dev.gDone (d : Dev) (n : Nat) (g : GCore) (extra : Nat) (rt : Bool) : Dev :=
  let late := g.wants && g.held.isNone && decide (0 < extra)
  let g := g.spend (1 + extra)
  let g := (if rt then g.rotate else g).next
  let g := if late then { g with held := some (g.cyc - extra) } else g.noteHeld
  let d := d.setG n g
  if g.holds then d else d.endHold n

/-- An instruction issues on a core that runs an item: results usable now have landed. -/
def gIssue (d : Dev) (n : Nat) (body : GCore → Dev → Dev) : Dev :=
  if (d.gcore n).item.isNone then d
  else
    let d := d.gLand n (d.gcore n).cyc
    body (d.gcore n) d

/-! ### Moves (R353, R357, R362) -/

/-- A move: store, update mode, pointer, D register. -/
structure GMove where
  store : Bool
  mode  : Nat
  ptr   : Nat
  reg   : Nat
deriving DecidableEq, Repr

def gMove (m : Nat) : Option GMove :=
  if m.testBit 11 then some ⟨m.testBit 10, m / 256 % 4, m / 32 % 8, m % 32⟩ else none

/-- Active moves in the order X, Y, K. -/
def gMoves (w : W64) : List GMove :=
  ([wfld [w] GA_MOVE_X, wfld [w] GA_MOVE_Y, wfld [w] GA_MOVE_K].map gMove).filterMap id

/-- P after the access (R362). -/
def GCore.stepPtr (g : GCore) (v : GMove) : GCore :=
  let p := g.cget (crP v.ptr)
  let step : Int := match v.mode with | 1 => 4 | 2 => sext 18 (g.cget (crN v.ptr)) | 3 => -4 | _ => 0
  if v.mode = 0 then g
  else
    let l := g.cget (crL v.ptr)
    let ba := g.cget (crBA v.ptr)
    let q := if l = 0 then encInt 18 ((p : Int) + step) else encInt 18 ((ba : Int) + (((p : Int) - ba + step) % (l : Int)))
    g.cset (crP v.ptr) q

/-- An access that R370 calls ADDRESS. -/
def gAccessBad (store : Bool) (a : Nat) : Bool :=
  a % 4 != 0 || decide (a ≥ 0x25000) || (!store && decide (a ≥ 0x20000)) ||
  (store && decide (0x1E3E0 ≤ a) && decide (a < 0x1EE00))

/-- Bank of an address: 0 X, 1 Y, 2 K; the weight window is none of them. -/
def gBank (a : Nat) : Nat := if a < 0xC000 then 0 else if a < 0x18000 then 1 else if a < 0x20000 then 2 else 3

/-- Cycles that accesses to one bank add (R353). -/
def bankCycles (l : List (Bool × Nat)) : Nat :=
  ((List.range 3).map (fun b =>
    ((l.filter (fun x => gBank x.2 == b && x.1)).length - 1) + ((l.filter (fun x => gBank x.2 == b && !x.1)).length - 1))).sum

/-- Some element occurs twice. -/
def repeats (l : List Nat) : Bool := decide (l.eraseDups.length < l.length)

/-! ### Arithmetic (R360, R361) -/

/-- What an operation gives: results with the cycles until they can be used, accumulators at once, AOV and SAT. -/
structure GOut where
  writes : List (Nat × GDst × Int) := []
  accs   : List (Nat × Int) := []
  aov    : Bool := false
  sat    : Bool := false
deriving DecidableEq, Repr

/-- sat16, and whether it clamps. -/
def gSat (v : Int) : Int × Bool := let c := clampInt (-32768) 32767 v; (c, c != v)

/-- A word of two lanes. -/
def gPair (lo hi : Int) : Int := ((encInt 16 lo + 65536 * encInt 16 hi : Nat) : Int)

/-- rnd of R361: half up, or half away. -/
def gRnd (x : Int) (s : Nat) (away : Bool) : Int :=
  if s = 0 then x else if away then roundAway x (2 ^ s) else (x + 2 ^ (s - 1)) / 2 ^ s

/-- SLICE: the nearest level in Q4.11. A tie between the two smallest levels has equal magnitudes on both sides. -/
def gSlice (four : Bool) (v : Int) : Int :=
  let neg := decide (v < 0) || (v == 0 && !Config.zeroPositive)
  let mag : Int := if four && decide (v.natAbs > 4096) then 6144 else 2048
  if neg then -mag else mag

/-- An accumulator update: OVW, SUB, and the wrap modulo 2^40 that sets AOV. -/
def gAcc (g : GCore) (modf a : Nat) (v : Int) : (Nat × Int) × Bool :=
  let v := if modf.testBit 1 then -v else v
  let s := if modf.testBit 0 then v else sget g.acc a 0 + v
  let w := sext 40 (encInt 40 s)
  ((a, w), w != s)

/-- The result of accumulator updates. -/
def gMac (l : List ((Nat × Int) × Bool)) : GOut :=
  { writes := l.map (fun x => (2, .acc x.1.1, x.1.2)), accs := l.map (·.1), aov := l.any (·.2) }

/-- Operands of an instruction of format A. -/
structure GArgs where
  dst  : Nat
  a    : W32
  b    : W32
  a1   : W32
  b1   : W32
  sb   : Nat
  acc  : Nat
  modf : Nat
  old  : W32
deriving DecidableEq, Repr

def GCore.args (g : GCore) (w : W64) : GArgs :=
  let f (x : BF) : Nat := wfld [w] x
  { dst := g.phys (f GA_DST), a := g.rd (f GA_SA), b := g.rd (f GA_SB), a1 := g.rd ((f GA_SA + 1) % 32), b1 := g.rd ((f GA_SB + 1) % 32),
    sb := f GA_SB, acc := f GA_ACC, modf := f GA_MODF, old := g.rd (f GA_DST) }

/-- A whole register. -/
def gReg (x : GArgs) (lat : Nat) (v : Int) : GOut := { writes := [(lat, .reg x.dst 3, v)] }

/-- An instruction of format A: its operation, then its moves. -/
def gFormatA (m : Mem) (d : Dev) (n : Nat) (w : W64) (bad : GArgs → Bool) (op : GCore → GArgs → GOut) : Dev :=
  gIssue d n (fun g d =>
    let ms := gMoves w
    let x := g.args w
    let at1 (v : GMove) : Nat := g.cget (crP v.ptr)
    if bad x || repeats ((ms.filter (fun v => !v.store)).map (fun v => g.phys v.reg)) then gFault m d n gcENCODING
    else if ms.any (fun v => gAccessBad v.store (at1 v)) || repeats (ms.map (·.ptr)) then gFault m d n gcADDRESS
    else
      let t := g.cyc
      let r := op g x
      let own : List (Nat × GDst × Int) := r.writes.map (fun e => (t + e.1, e.2.1, e.2.2))
      let moved : List (Nat × GDst × Int) := ms.map (fun v =>
        if v.store then (t + 2, .word (at1 v), ((g.rd v.reg).toNat : Int))
        else (t + 2, .reg (g.phys v.reg) 3, (d.gword true n (at1 v) : Int)))
      -- no order is given between results that reach one place in the same cycle
      let l := if Config.lastStands d.free then own ++ moved else moved.reverse ++ own
      let d := { d with free := d.free + 1 }
      let g : GCore := ms.foldl GCore.stepPtr (g.sticky r.aov r.sat)
      let g := { g with flight := g.flight ++ l, acc := r.accs.foldl (fun (a : SMap Int) (e : Nat × Int) => sput a e.1 e.2) g.acc }
      d.gDone n g (bankCycles (ms.map (fun (v : GMove) => (v.store, at1 v)))) (wfld [w] GA_RT == 1))

def gOk : GArgs → Bool := fun _ => false

/-- A lane-by-lane operation that saturates. -/
def gLanes (f : Int → Int → Int) (x : GArgs) : GOut :=
  let lo := gSat (f (wre x.a) (wre x.b))
  let hi := gSat (f (wim x.a) (wim x.b))
  { gReg x 2 (gPair lo.1 hi.1) with sat := lo.2 || hi.2 }

/-- ASR2. -/
def gAsr2 (x : GArgs) : GOut :=
  let f (v : Int) : Int := if x.modf.testBit 1 then gRnd v x.sb false else v / 2 ^ x.sb
  gReg x 2 (gPair (f (wre x.a)) (f (wim x.a)))

/-- CMAC. -/
def gCmac (g : GCore) (x : GArgs) : GOut :=
  let im := if x.modf.testBit 2 then -wim x.b else wim x.b
  gMac [gAcc g x.modf x.acc (wre x.a * wre x.b - wim x.a * im), gAcc g x.modf (x.acc + 1) (wre x.a * im + wim x.a * wre x.b)]

/-- The sum of RDOT2. -/
def gDot (a b : W32) : Int := wre a * wre b + wim a * wim b

/-- RMUL4. -/
def gRmul4 (g : GCore) (x : GArgs) : GOut :=
  gMac [gAcc g x.modf x.acc (wre x.a * wre x.b), gAcc g x.modf (x.acc + 1) (wim x.a * wre x.b),
    gAcc g x.modf (x.acc + 2) (wre x.a * wim x.b), gAcc g x.modf (x.acc + 3) (wim x.a * wim x.b)]

/-- DUPD. -/
def gDupd (g : GCore) (x : GArgs) : GOut :=
  let h := g.cget (crH x.acc)
  let f (old b : Int) : Int × Bool :=
    let p := gRnd (wre x.a * b) h true
    gSat (if x.modf.testBit 1 then old - p else old + p)
  let lo := f (wre x.old) (wre x.b)
  let hi := f (wim x.old) (wim x.b)
  { gReg x 2 (gPair lo.1 hi.1) with sat := lo.2 || hi.2 }

/-- EXT and EXTC: accumulators as EXT sees them. -/
def gExtVal (g : GCore) (x : GArgs) (a : Nat) : Int × Bool := gSat (gRnd (sget g.accX a 0) x.sb (x.modf.testBit 1))
def gExt (g : GCore) (x : GArgs) : GOut :=
  let v := gExtVal g x x.acc
  { writes := [(2, .reg x.dst (if x.modf.testBit 0 then 2 else 1), gPair v.1 v.1)], sat := v.2 }
def gExtc (g : GCore) (x : GArgs) : GOut :=
  let lo := gExtVal g x x.acc
  let hi := gExtVal g x (x.acc + 1)
  { gReg x 2 (gPair lo.1 hi.1) with sat := lo.2 || hi.2 }

/-! ### Formats B and C (R358) -/

/-- An instruction of format B: reserved bits and, where the control register is used, its number. -/
def gFormatB (m : Mem) (d : Dev) (n : Nat) (w : W64) (creg : Bool) (op : GCore → Nat → Nat → Nat → Option (GDst × Int)) : Dev :=
  gIssue d n (fun g d =>
    let c := wfld [w] GBC_CREG
    if w.toNat / 2 ^ 32 % 2 ^ 15 ≠ 0 ∨ (creg ∧ c > 47) then gFault m d n gcENCODING
    else
      let l := match op g c (wfld [w] GBC_DREG) (wfld [w] GBC_IMM) with
        | some (dst, v) => [(g.cyc + 2, dst, v)]
        | none => []
      d.gDone n ({ g with flight := g.flight ++ l } : GCore) 0 false)

/-- A write of a control register: read-only ones take nothing; only LDC clears AOV and SAT. -/
def gCwrite (c : Nat) (ldc : Bool) (v : Int) : Option (GDst × Int) :=
  if c = crIPEND ∨ c = crCYC then none
  else if c = crSR ∧ !ldc then some (.creg crSRkeep, v % 16)
  else some (.creg c, v)

/-- An instruction of format C: reserved bits and COND, then what R363, R365 and R370 forbid at its place. `branch`: one of those that no loop
body may contain. -/
def gFormatC (m : Mem) (d : Dev) (n : Nat) (w : W64) (bad branch : Bool) (op : GCore → Dev → Dev) : Dev :=
  gIssue d n (fun g d =>
    if w.toNat / 2 ^ 24 % 2 ^ 8 ≠ 0 ∨ wfld [w] GBC_COND > 4 ∨ bad then gFault m d n gcENCODING
    else if g.slots.isSome || g.rep.isSome then gFault m d n gcSLOT
    else if branch && !g.loops.isEmpty then gFault m d n gcLOOP
    else op g d)

/-- COND (R358). -/
def GCore.cond (g : GCore) (c : Nat) : Bool :=
  let sr := g.cget crSR
  match c with
  | 0 => true
  | 1 => sr.testBit 0
  | 2 => !sr.testBit 0
  | 3 => sr.testBit 1
  | _ => !sr.testBit 1

/-- A branch: two delay slots follow in any case (R365). -/
def GCore.branch (g : GCore) (target : Option Nat) (rti : Bool) : GCore :=
  ({ g with pc := (g.pc + 1) % 4096, slots := some (2, target, rti) }.spend 1).noteHeld

/-- A boundary without a hold-off point ends a hold-off; at one, an enabled interrupt waits. -/
def Dev.settle (d : Dev) (n : Nat) : Dev := if (d.gcore n).holds then d.setG n (d.gcore n).noteHeld else d.endHold n

/-- COUNT of REP and LOOP. -/
def GCore.count (g : GCore) (w : W64) : Nat :=
  if wfld [w] GBC_RCNT = 1 then (g.rd (wfld [w] GBC_COUNT % 32)).toNat % 2 ^ 20 else wfld [w] GBC_COUNT

/-- REP (R363): a count of 0 skips the instruction. -/
def gRep (m : Mem) (d : Dev) (n : Nat) (w : W64) : Dev :=
  gFormatC m d n w false false (fun g d =>
    let k := g.count w
    let g := g.spend 1
    let x := loopEnds 3 g (g.pc + 1)
    let g := { x.1 with pc := x.2 % 4096 }
    if k = 0 then
      let y := loopEnds 3 g (g.pc + 1)
      (d.setG n { y.1 with pc := y.2 % 4096 }).settle n
    else d.setG n ({ g with rep := some k } : GCore).noteHeld)

/-- LOOP (R363, R364). -/
def gLoop (m : Mem) (d : Dev) (n : Nat) (w : W64) : Dev :=
  let body := wfld [w] GBC_BODY
  gFormatC m d n w (body == 0) false (fun g d =>
    let stop := g.pc + 1 + body
    let outer := match g.loops with | (_, _, s, _) :: _ => s | [] => 4096
    if g.loops.length ≥ 2 ∨ stop > outer then gFault m d n gcLOOP
    else
      let k := g.count w
      let lc := g.loops.length
      let g := g.spend 1
      if k = 0 then
        let x := loopEnds 3 g stop
        (d.setG n { x.1 with pc := x.2 % 4096 }).settle n
      else
        let g := { g with pc := g.pc + 1, loops := (lc, g.pc + 1, stop, wfld [w] GBC_ROT == 1) :: g.loops }
        d.setG n (g.cset (crLC0 + lc) k).noteHeld)

/-- BR. -/
def gBr (m : Mem) (d : Dev) (n : Nat) (w : W64) : Dev :=
  gFormatC m d n w false true (fun g d =>
    d.setG n (g.branch (if g.cond (wfld [w] GBC_COND) then some (wfld [w] GBC_TARGET) else none) false))

/-- CALL: the instruction after the delay slots is where RET returns to. -/
def gCall (m : Mem) (d : Dev) (n : Nat) (w : W64) : Dev :=
  gFormatC m d n w false true (fun g d =>
    if g.stack.length ≥ 8 then gFault m d n gcSTACK
    else d.setG n ({ g with stack := (g.pc + 3) % 4096 :: g.stack }.branch (some (wfld [w] GBC_TARGET)) false))

/-- RET. -/
def gRet (m : Mem) (d : Dev) (n : Nat) (w : W64) : Dev :=
  gFormatC m d n w false true (fun g d =>
    match g.stack with
    | [] => gFault m d n gcSTACK
    | r :: rest => d.setG n ({ g with stack := rest }.branch (some r) false))

/-- RTI. -/
def gRti (m : Mem) (d : Dev) (n : Nat) (w : W64) : Dev :=
  gFormatC m d n w false true (fun g d => d.setG n (g.branch none true))

/-! ### Interrupts (R366, R367) -/

/-- Sets a source's pending bit. -/
def GCore.pend (g : GCore) (v : Nat) : GCore := (g.cset crIPEND (g.cget crIPEND ||| 2 ^ v)).noteHeld

/-- SWI. -/
def gSwi (m : Mem) (d : Dev) (n : Nat) (w : W64) : Dev :=
  gFormatC m d n w false true (fun g d => d.setG n (g.pend 1).done)

/-- GOUGE_TIMER: CYC equals TMR, or did in a cycle of the instruction that has just ended: its added cycles have then held the interrupt off since TMR
(R367). -/
def gTimerOp (d : Dev) (n : Nat) : Dev :=
  let g := (d.gLand n (d.gcore n).cyc).gcore n
  let tmr := g.cget crTMR
  if g.item.isSome && (tmr == g.cyc || (decide (g.was < tmr) && decide (tmr < g.cyc))) then
    let late := g.held.isNone && decide (tmr < g.cyc)
    let g := g.pend 0
    let d := (d.gLand n g.cyc).setG n (if late && g.wants then { g with held := some tmr } else g)
    if g.holds then d else d.endHold n
  else d

/-- GGC_DOORBELL. -/
def ggcDoorbellOp (d : Dev) (n : Nat) : Dev := d.setG n ((d.gcore n).pend 2)

/-- INTERRUPT_TAKE: the lowest enabled pending source, at an instruction boundary that R367 allows. -/
def interruptTakeOp (d : Dev) (n : Nat) : Dev :=
  let d := if (d.gcore n).item.isNone then d else d.gLand n (d.gcore n).cyc
  let g := d.gcore n
  let want := g.cget crIE &&& g.cget crIPEND
  if g.item.isNone || g.shadow.isSome || g.slots.isSome || !g.loops.isEmpty || g.rep.isSome || want == 0 then d
  else
    let v := if want.testBit 0 then 0 else if want.testBit 1 then 1 else 2
    let d := d.endHold n
    let g := d.gcore n
    let s : GShadow := ⟨g.pc, g.cget crSR, g.cget crRRB, g.cget crLC0, g.cget crLC1, g.loops, g.rep⟩
    let g := (g.cset crIPEND (g.cget crIPEND - 2 ^ v)).spend 3
    d.setG n { g with shadow := some s, pc := 4 * v }

/-! ### Items (R368-R370) -/

/-- HALT: every result lands, the mover collects the output, pending interrupts are discarded. -/
def gHalt (m : Mem) (d : Dev) (n : Nat) (w : W64) : Dev :=
  gFormatC m d n w false false (fun g d =>
    match g.item with
    | none => d
    | some (mod, i, k) =>
      let d := ((d.gLand n (g.cyc + 8)).endHold n).gougePut n i mod
      let g := (d.gcore n).cset crIPEND 0
      let d := d.setG n { g with item := none, loops := [], shadow := none, made := [], rxOld := [] }
      radioPost m (gougeCollect (d.set (GGC_CORE_STAT_BUSY n) 0) n i mod k) (512 + n) stOK 1 none)

/-- The items of a cell's core in a tick (R368, R293): whether there is a MOD and a DEMOD item. -/
def Dev.gougeList (d : Dev) (n : Nat) : Bool × Bool :=
  match sfind d.rad.cells n with
  | none => (false, false)
  | some r =>
    let c := d.cellCfg true n
    if d.tick ≤ r.first then (false, false)
    else (c.plan.any (fun x => x.dl), c.plan.any (fun x => x.ul) && decide (r.first + 2 ≤ d.tick))

/-- The core takes items: enabled, its image loaded, in service. -/
def Dev.gougeUp (d : Dev) (n : Nat) : Bool := d.is GGC_CTRL_EN && !d.rad.loads.contains n && !(d.gcore n).off

/-- Interval of an item of this tick (R293). -/
def Dev.gougeInterval (d : Dev) (mod : Bool) : Nat := if mod then d.tick + 3 else d.tick - 2

/-- GOUGE_ITEM_START (R369): no item starts in the guard (R41). -/
def gougeItemStartOp (d : Dev) (n : Nat) (mod : Bool) : Dev :=
  let g := d.gcore n
  let l := d.gougeList n
  if !d.gougeUp n || d.lathe.inGuard || g.item.isSome || g.ran.contains mod then d
  else if (if mod then l.1 && g.ran.isEmpty else l.2 && (!l.1 || g.ran.contains true)) then
    let i := if mod || !l.1 then 0 else 1
    let k := d.gougeInterval mod
    let keep := g.creg.filter (fun e => (decide (8 ≤ e.1) && decide (e.1 < 40)) || e.1 == crTMR)
    let g : GCore := { item := some (mod, i, k), ran := g.ran ++ [mod], pc := Config.gougeEntry mod % 4096, creg := keep }
    let d := d.setG n (g.cset (crP 7) (64 * i))
    let d := (d.set (GGC_CORE_STAT_BUSY n) 1).set (GGC_CORE_STAT_ITEM n) i
    gougeItemData d n i mod
  else d

/-- An item reaches its DEADLINE: the one that runs is cut, and one of the tick's list that has not started is missed (R43, R78). -/
def gougeDeadline (m : Mem) (d : Dev) (n : Nat) (mod : Bool) : Dev :=
  let g := d.gcore n
  let l := d.gougeList n
  match g.item with
  | some (r, _, _) =>
    if r = mod then gougeCut m d n
    else if !g.ran.contains mod && (if mod then l.1 else l.2) && d.gougeUp n then
      gougeMiss m (d.setG n { g with ran := g.ran ++ [mod] }) n mod (d.gougeInterval mod) 0
    else d
  | none =>
    if !g.ran.contains mod && (if mod then l.1 else l.2) && d.gougeUp n then
      gougeMiss m (d.setG n { g with ran := g.ran ++ [mod] }) n mod (d.gougeInterval mod) 0
    else d

/-- GOUGE_IMAGE_LOAD_DONE (R372): the loads of the cluster of core n are complete. -/
def imageLoadDoneOp (d : Dev) (n : Nat) : Dev :=
  let rest := d.rad.loads.filter (fun k => k / 32 != n / 32)
  ({ d with rad := { d.rad with loads := rest } } : Dev).set GGC_STATUS_LOADING (if rest.isEmpty then 0 else 1)

/-- The image of a core is loaded (R372): program, K ranges and the copy of the cell entry and plan; banks X and Y and all registers are
cleared. The copy holds UL_CH and DL_CH as the register shows them (R297). -/
def Dev.loadImage (d : Dev) (n : Nat) : Dev :=
  let rest := d.gmem.filter (fun e => e.1 / 65536 != n)
  let image := d.gimg.filter (fun e => e.1 / 65536 == n)
  let d := { d with gmem := image.foldl (fun (s : SMap W32) (e : Nat × W32) => sput s e.1 e.2) rest }
  let d := d.setG n { off := (d.gcore n).off }
  -- the staged set is a copy of the active one (R300)
  let on (f : ChPlan → Bool) : Nat := ((d.plan true n).filter f).length
  let put (d : Dev) (x key : Nat) : Dev :=
    let v := d.peekReg key + if x = 0x1E3F0 then on (fun c => c.ul) + 2 ^ 9 * on (fun c => c.dl) else 0
    (d.setGword n x (v % 2 ^ 32)).setGword n (x + 4) (v / 2 ^ 32)
  let d := forN 4 d (fun d w => put d (0x1E3E0 + 8 * w) ((RAD_CELL_VALID n).addr + 8 * w))
  forN 320 d (fun d c => put d (0x1E400 + 8 * c) (RAD_CH_BIN (320 * n + c)).addr)

/-! ### Which instruction a word spells (R360) -/

/-- The instructions of R360. -/
inductive GougeOp where
  | nop | mov | add2 | sub2 | and | or | xor | asr2 | pack | cmp | slice | atan | cmac | rdot2 | rdot4 | rmul4 | dupd | ext | extc
  | ldi | ldc | mvtc | mvfc | addc | br | call | ret | rep | loop | rti | swi | halt
deriving DecidableEq, Repr

/-- OP of each instruction. -/
def gougeCodes : List (Nat × GougeOp) :=
  [(0x00, .nop), (0x01, .mov), (0x02, .add2), (0x03, .sub2), (0x04, .and), (0x05, .or), (0x06, .xor), (0x07, .asr2), (0x08, .pack),
   (0x09, .cmp), (0x0A, .slice), (0x0B, .atan), (0x10, .cmac), (0x11, .rdot2), (0x12, .rdot4), (0x13, .rmul4), (0x14, .dupd),
   (0x15, .ext), (0x16, .extc), (0x30, .ldi), (0x31, .ldc), (0x32, .mvtc), (0x33, .mvfc), (0x34, .addc), (0x38, .br), (0x39, .call),
   (0x3A, .ret), (0x3B, .rep), (0x3C, .loop), (0x3D, .rti), (0x3E, .swi), (0x3F, .halt)]

/-- The instruction that a word spells, if any. -/
def gougeOp (w : W64) : Option GougeOp := (gougeCodes.find? (fun e => e.1 == wfld [w] GA_OP)).map (·.2)

/-- A 32-bit logic operation. -/
def gLogic (f : W32 → W32 → W32) : GCore → GArgs → GOut := fun _ x => gReg x 2 (f x.a x.b).toNat
def gPack : GCore → GArgs → GOut := fun _ x => gReg x 2 (gPair (wre x.a) (wre x.b))
def gCmp : GCore → GArgs → GOut := fun _ x =>
  { writes := [(2, .cmp, (if wre x.a = wre x.b then 1 else 0) + (if wre x.a < wre x.b then 2 else 0))] }
def gSliceOp : GCore → GArgs → GOut := fun _ x => gReg x 2 (gPair (gSlice (x.modf.testBit 0) (wre x.a)) 0)
def gAtanOp : GCore → GArgs → GOut := fun _ x => gReg x 4 (gPair (argUnits (wre x.a) (wim x.a)) 0)
def gRdot2 : GCore → GArgs → GOut := fun g x => gMac [gAcc g x.modf x.acc (gDot x.a x.b)]
def gRdot4 : GCore → GArgs → GOut := fun g x => gMac [gAcc g x.modf x.acc (gDot x.a x.b + gDot x.a1 x.b1)]

/-- What an instruction does. -/
def gougeBody (op : GougeOp) (m : Mem) (d : Dev) (n : Nat) (w : W64) : Dev :=
  match op with
  | .nop => gFormatA m d n w gOk (fun _ _ => {})
  | .mov => gFormatA m d n w gOk (gLogic (fun x _ => x))
  | .add2 => gFormatA m d n w gOk (fun _ x => gLanes (· + ·) x)
  | .sub2 => gFormatA m d n w gOk (fun _ x => gLanes (· - ·) x)
  | .and => gFormatA m d n w gOk (gLogic (fun x y => x &&& y))
  | .or => gFormatA m d n w gOk (gLogic (fun x y => x ||| y))
  | .xor => gFormatA m d n w gOk (gLogic (fun x y => x ^^^ y))
  | .asr2 => gFormatA m d n w (fun x => decide (x.sb > 15)) (fun _ x => gAsr2 x)
  | .pack => gFormatA m d n w gOk gPack
  | .cmp => gFormatA m d n w gOk gCmp
  | .slice => gFormatA m d n w gOk gSliceOp
  | .atan => gFormatA m d n w gOk gAtanOp
  | .cmac => gFormatA m d n w (fun x => x.acc % 2 == 1) gCmac
  | .rdot2 => gFormatA m d n w gOk gRdot2
  | .rdot4 => gFormatA m d n w (fun x => x.sb == 31 || wfld [w] GA_SA == 31) gRdot4
  | .rmul4 => gFormatA m d n w (fun x => x.acc != 0 && x.acc != 4) gRmul4
  | .dupd => gFormatA m d n w gOk gDupd
  | .ext => gFormatA m d n w gOk gExt
  | .extc => gFormatA m d n w (fun x => x.acc == 7) gExtc
  | .ldi => gFormatB m d n w false (fun g _ r v => some (.reg (g.phys r) 3, v))
  | .ldc => gFormatB m d n w true (fun _ k _ v => gCwrite k true v)
  | .mvtc => gFormatB m d n w true (fun g k r _ => gCwrite k false (g.rd r).toNat)
  | .mvfc => gFormatB m d n w true (fun g k r _ => some (.reg (g.phys r) 3, g.cget k))
  | .addc => gFormatB m d n w true (fun g k _ v => gCwrite k false ((g.cget k : Int) + s32 v))
  | .br => gBr m d n w
  | .call => gCall m d n w
  | .ret => gRet m d n w
  | .rep => gRep m d n w
  | .loop => gLoop m d n w
  | .rti => gRti m d n w
  | .swi => gSwi m d n w
  | .halt => gHalt m d n w

/-- A core executes the instruction that the word spells. A reserved OP is illegal (R370). -/
def gougeCommand (m : Mem) (d : Dev) (n : Nat) (w : W64) : Dev :=
  match gougeOp w with
  | some op => gougeBody op m d n w
  | none => gIssue d n (fun _ d => gFault m d n gcENCODING)

/-- A row of the command table: the instruction of that name where the word spells it, else what the word spells. -/
def gougeRow (op : GougeOp) (body : Mem → Dev → Nat → W64 → Dev) (m : Mem) (d : Dev) (n : Nat) (w : W64) : Dev :=
  if gougeOp w = some op then body m d n w else gougeCommand m d n w

end Sys2Proof.Machine
end

