-- ==== Sys2Proof/Machine/HostPort.lean ====
section
/-!
DEFINITION. Machine/HostPort.lean: the host attachment (R443-R459): BAR4 accesses, submission rings, mailboxes, instance control and
reset, virtual functions, events of the PCIe link.
-/

namespace Sys2Proof.Machine

/-! ### Agents (R460) -/

/-- The instance whose page an agent reaches: a VF its own; every agent that reaches BAR0, instance 0's. -/
def agentInst : Agent → Nat
  | .vf n => n
  | _ => 0

/-- A VF that VF Enable and NumVFs make present. -/
def Dev.vfLive (d : Dev) (n : Nat) : Bool := d.is VIR_STATUS_VF_EN && decide (1 ≤ n) && decide (n ≤ d.get VIR_STATUS_NUM_VFS)

/-- The agent is there: a VF that is not present reaches nothing. -/
def Dev.agentLive (d : Dev) (a : Agent) : Bool := match a with | .vf n => d.vfLive n | _ => true

/-- The agent owns the page of an instance. -/
def Dev.ownsPage (d : Dev) (a : Agent) (i : Nat) : Bool := d.agentLive a && agentInst a == i

/-- INST_STATUS.STATE. -/
def isDISABLED : Nat := 0
def isENABLED : Nat := 1
def isRESETTING : Nat := 2

def Dev.resetting (d : Dev) (i : Nat) : Bool := d.get (INST_STATUS_STATE i) == isRESETTING

/-! ### BAR4 (R446, R447) -/

/-- Unified offset of a BAR4 offset of a function. -/
def Dev.winBase (d : Dev) (fn : Nat) : Nat :=
  if fn = 0 then d.get VIR_PF_WIN_BASE * 2 ^ 30 else d.get (VIR_INST_WIN_BASE fn) * 2 ^ 20

/-- The access to a line of the range is allowed to the function: the PF reaches the whole range within the size of
its BAR4 (R445), VF n the extents of valid objects
whose INSTANCE is n, within its window. -/
def Dev.winAllows (d : Dev) (fn w off : Nat) : Bool :=
  if fn = 0 then decide (off < 2 ^ 41) && decide (w < 2 ^ d.vir.rbar)
  else
    decide (off < 2 ^ 41) && decide (w < 2 ^ (30 + min 6 (d.get VIR_VF_WIN_CFG_LOG))) &&
    (match d.objAt off with | some o => d.is (OBJ_VALID o) && d.get (OBJ_INSTANCE o) == fn | none => false)

/-- The pieces of an access, each inside one line: (offset in the window, length). -/
def linePieces : Nat → Nat → Nat → Nat → List (Nat × Nat)
  | 0, _, _, _ => []
  | fuel + 1, base, w, len =>
    if len = 0 then []
    else
      let n := min len (128 - (base + w) % 128)
      (w, n) :: linePieces fuel base (w + n) (len - n)

/-- All ones. -/
def onesBytes (n : Nat) : List Byte := List.replicate n 0xFF#8

/-- Reads a BAR4 range piece by piece. `none`: a piece is held, and the access with it. -/
def hostReadPieces (m : Mem) (fn base : Nat) : List (Nat × Nat) → Dev → List Byte → Dev × Option (List Byte) × Nat
  | [], d, acc => (d, some acc, 0)
  | (w, n) :: rest, d, acc =>
    let off := base + w
    if !d.winAllows fn w off then hostReadPieces m fn base rest d (acc ++ onesBytes n)
    else
      let r := readRange m d off n .consumer
      match r.2.1 with
      | .ok => hostReadPieces m fn base rest r.1 (acc ++ r.2.2)
      | .held => (r.1, none, off)
      | _ => hostReadPieces m fn base rest r.1 (acc ++ onesBytes n)

/-- The function's BAR4 takes accesses: in service (R465), and for a VF while it is present. -/
def Dev.barLive (d : Dev) (fn : Nat) : Bool := d.is FPL_BOOT_STATUS_IN_SERVICE && (fn == 0 || d.vfLive fn)

/-- An access of which some piece is not performed is one refused access in WIN_DENY (R447). -/
def Dev.winCount (d : Dev) (fn base : Nat) (ps : List (Nat × Nat)) : Dev :=
  if fn ≠ 0 && ps.any (fun p => !d.winAllows fn p.1 (base + p.1)) then d.bump (VIR_INST_DISC_WIN_DENY fn) 1 else d

/-- HOST_BAR4_READ. -/
def hostReadOp (m : Mem) (d : Dev) (fn off len : Nat) (ups : List Upset) : Dev :=
  if !d.barLive fn then { d with mem := { d.mem with hostData := onesBytes len } }
  else
    let base := d.winBase fn
    let ps := linePieces (len / 128 + 2) base off len
    let r := hostReadPieces m fn base ps (d.upsets ups) []
    match r.2.1 with
    | some bs => { r.1.winCount fn base ps with mem := { r.1.mem with hostData := bs } }
    | none => r.1.hold (extOf r.2.2) (.hostRead fn off len)

/-- HOST_BAR4_WRITE. -/
def hostWriteOp (m : Mem) (d : Dev) (fn off : Nat) (bytes : List Byte) : Dev :=
  if !d.barLive fn then d
  else
    let base := d.winBase fn
    let ps := linePieces (bytes.length / 128 + 2) base off bytes.length
    ps.foldl (fun d p =>
      let o := base + p.1
      if d.winAllows fn p.1 o then (writeLine m d o ((bytes.drop (p.1 - off)).take p.2)).1 else d) (d.winCount fn base ps)

/-! ### Rings (R451, R452) -/

/-- Bytes of an entry of a ring: SQ 64, CQ 32, IQ 16. -/
def ringEntry (ring : Nat) : Nat := if ring = 0 then 64 else if ring = 1 then 32 else 16

/-- The configuration fields of a ring: BASE, ORDER, INT_EN, EN. -/
def ringCfg (i ring : Nat) : Fld × Fld × Fld × Fld :=
  if ring = 0 then (SQ_CFG_BASE i, SQ_CFG_ORDER i, SQ_CFG_INT_EN i, SQ_CFG_EN i)
  else if ring = 1 then (CQ_CFG_BASE i, CQ_CFG_ORDER i, CQ_CFG_INT_EN i, CQ_CFG_EN i)
  else (IQ_CFG_BASE i, IQ_CFG_ORDER i, IQ_CFG_INT_EN i, IQ_CFG_EN i)

/-- RING_CFG_WRITE (R451): BASE and ORDER while EN is 0; EN = 1 only for a ring of 2^4 to 2^16 entries that lies whole in one
valid writable object of the instance. -/
def ringCfgOp (d : Dev) (i ring v : Nat) : Dev :=
  if d.resetting i then d
  else
    let (base, order, inten, en) := ringCfg i ring
    let fb (f : Fld) : Nat := v / 2 ^ f.lo % 2 ^ f.width
    let d := if d.is en then d else (d.set base (fb base)).set order (fb order)
    let d := if ring = 0 then d else d.set inten (fb inten)
    if fb en = 0 then d.set en 0
    else if d.is en then d
    else
      let n := d.get order
      if decide (4 ≤ n) && decide (n ≤ 16) && d.insideWritable (some i) (d.get base * 4096) (2 ^ n * ringEntry ring)
      then d.set en 1
      else d.set (INST_STATUS_RING_REFUSED i) 1

/-- A doorbell that is discarded (R452): the ring is not enabled, or would hold more than its entries. -/
def Dev.sqRefuses (d : Dev) (i v : Nat) : Bool :=
  !d.is (SQ_CFG_EN i) || decide (ringUsed v (d.get (SQ_CONS_V i)) > 2 ^ d.get (SQ_CFG_ORDER i))

/-- SQ_DOORBELL (R452). -/
def sqDoorbellOp (d : Dev) (i v : Nat) : Dev :=
  if d.resetting i then d
  else if d.sqRefuses i v then d.set (INST_STATUS_SQ_BAD i) 1
  else d.set (SQ_PROD_V i) v

/-- An instance has entries to fetch. -/
def Dev.sqWaiting (d : Dev) (i : Nat) : Bool :=
  d.is (SQ_CFG_EN i) && d.get (INST_STATUS_STATE i) == isENABLED && d.get (SQ_PROD_V i) != d.get (SQ_CONS_V i)

/-- The instance whose entry is fetched next: in turn, one entry each. -/
def Dev.sqNext (d : Dev) : Option Nat := ((List.range 128).map (fun k => (d.vir.turn + k) % 128)).find? d.sqWaiting

/-- Fetches the next entry of an instance when it is its turn and fewer than 8,192 entries were fetched in this tick. A read that delivers nothing
leaves what it did to the device: containment (R246). -/
def sqFetch (m : Mem) (d : Dev) (i : Nat) : Dev × Option Words :=
  if d.sqNext = some i && d.vir.fetched < 8192 then
    let slot := d.get (SQ_CONS_V i) % 2 ^ d.get (SQ_CFG_ORDER i)
    let off := d.get (SQ_CFG_BASE i) * 4096 + slot * 64
    let r := readRange m d off 64 .consumer
    match r.2.1 with
    | .ok => ({ r.1 with vir := { r.1.vir with turn := (i + 1) % 128, fetched := r.1.vir.fetched + 1 } }.set (SQ_CONS_V i)
        ((d.get (SQ_CONS_V i) + 1) % 2 ^ 32), some (bytesWords 8 r.2.2))
    | _ => (r.1, none)
  else (d, none)

/-- Kind of an SQ entry. -/
def sqKind (ws : Words) : Nat := (ws.getD 0 0#64).toNat % 16

/-- SQ_REQUEST. -/
def sqRequestOp (m : Mem) (d : Dev) (i : Nat) : Dev :=
  match sqFetch m d i with
  | (d', some ws) => if sqKind ws = 1 then seqSubmit m d' i ws else d
  | (d', none) => d'

/-- SQ_ITEM: words 0-3 hold nothing but the kind; anything else there makes the descriptor one with a reserved bit. -/
def sqItemOp (m : Mem) (d : Dev) (i : Nat) : Dev :=
  match sqFetch m d i with
  | (d', some ws) =>
    if sqKind ws = 2 then
      let clean := (ws.take 4).map BitVec.toNat == [2, 0, 0, 0]
      let desc := ws.drop 4
      let desc := if clean then desc else desc.set 2 (w64 ((desc.getD 2 0#64).toNat % 2 ^ 63 + 2 ^ 63))
      itemSubmitOp m d' (.host i) desc
    else d
  | (d', none) => d'

/-- SQ_BAD_KIND. -/
def sqBadKindOp (m : Mem) (d : Dev) (i : Nat) : Dev :=
  match sqFetch m d i with
  | (d', some ws) =>
    if sqKind ws = 1 ∨ sqKind ws = 2 then d
    else seqAnswer m d' i (reqSeq ws) stREFUSED_STATE rkREFUSED (reqFld ws (SEQ_TAG 0))
  | (d', none) => d'

/-! ### Mailbox (R454, R455) -/

/-- MAILBOX_SEND: the write of MBOX_OUT's last high word. -/
def mailboxSendOp (m : Mem) (d : Dev) (i : Nat) (ws : Words) : Dev :=
  if d.resetting i then d
  else
    let f := wfld ws
    let done (d : Dev) (st : Nat) : Dev := d.set (MBOX_CTRL_SEND_STATUS i) st
    if f MSG_IGEN ≠ d.igen i then done d stSTALE_GENERATION
    else if f MSG_TYPE = 1 then
      let s := f MSG_SEQ
      done (seqAbort m d s (f MSG_SGEN) i (d.seqInRange i s) rsABORT_CMD) stOK
    else if f MSG_TYPE = 2 then
      let tgt := if i = 0 then f MSG_TARGET else 0
      if (i = 0 && tgt = 0) || (d.mbox tgt).length ≥ mboxCap tgt then done d stREFUSED_STATE
      else
        let w0 := (ws.getD 0 0#64).toNat
        let w0' := w0 % 2 ^ 15 + f MSG_IGEN * 2 ^ 16 + i * 2 ^ 32
        done (d.mboxPut tgt (ws.set 0 (w64 w0'))) stOK
    else done d stREFUSED_STATE

/-- MAILBOX_POP: a write of 1 to MBOX_CTRL.POP. -/
def mailboxPopOp (d : Dev) (i v : Nat) : Dev :=
  if d.resetting i || v / 2 % 2 = 0 then d
  else ({ d with vir := { d.vir with mbox := sput d.vir.mbox i ((d.mbox i).drop 1) } }).mboxShow i

/-! ### Instance control and reset (R449, R456, R457) -/

/-- Ranges of `n` numbers from `b` overlap. -/
def rangesMeet (b n b' n' : Nat) : Bool := n != 0 && n' != 0 && decide (b < b' + n') && decide (b' < b + n)

/-- R449: the instance's ranges overlap those of another whose EN is 1. -/
def Dev.rangeClash (d : Dev) (i : Nat) : Bool :=
  (List.range 128).any (fun j => j != i && d.is (VIR_INST_CTRL_EN j) &&
    (rangesMeet (d.get (VIR_INST_SEQ_SEQ_BASE i)) (d.get (VIR_INST_SEQ_SEQ_COUNT i)) (d.get (VIR_INST_SEQ_SEQ_BASE j))
      (d.get (VIR_INST_SEQ_SEQ_COUNT j)) ||
     rangesMeet (d.get (VIR_INST_CTX_CTX_BASE i)) (d.get (VIR_INST_CTX_CTX_COUNT i)) (d.get (VIR_INST_CTX_CTX_BASE j))
      (d.get (VIR_INST_CTX_CTX_COUNT j))))

/-- Drops the messages of a mailbox queue that an instance sent. -/
def Dev.dropMail (d : Dev) (i : Nat) : Dev :=
  let touched := (d.vir.mbox.filter (fun e => e.1 == i || e.2.any (fun m => wfld m MSG_SENDER == i))).map (·.1)
  let d := { d with vir := { d.vir with mbox := d.vir.mbox.map (fun e =>
    (e.1, if e.1 = i then [] else e.2.filter (fun m => wfld m MSG_SENDER != i))) } }
  touched.foldl Dev.mboxShow d

/-- The start of an instance reset, steps 1 and 2 (R457). A reset in progress takes a further request in (R458). -/
def instResetOp (m : Mem) (d : Dev) (i : Nat) (removed : Bool) : Dev :=
  if d.resetting i then
    let r := sget d.vir.resets i (0, false)
    { d with vir := { d.vir with resets := sput d.vir.resets i (r.1, r.2 || removed) } }
  else
    let g := d.igen i
    let d := (d.set (INST_STATUS_STATE i) isRESETTING).set (INST_STATUS_GEN i) (if g = 65535 then 1 else g + 1)
    let d := (d.bump (VIR_INST_DISC_RESETS i) 1).dropMail i
    let d := { d with vir := { d.vir with resets := sput d.vir.resets i (0, removed) } }
    let d := (d.liveSeqs.filter (d.seqInRange i)).foldl (seqInstReset m) d
    (d.validCtxs.filter (fun c => d.ctxInst c == i)).foldl Dev.dropCtx d

/-- A boundary has passed for every reset in progress. -/
def Dev.resetsTick (d : Dev) : Dev :=
  { d with vir := { d.vir with resets := d.vir.resets.map (fun e => (e.1, (e.2.1 + 1, e.2.2))), fetched := 0 } }

/-- INSTANCE_RESET_COMPLETE, step 4 (R457): at the second boundary after the reset began, or while no tick runs, and after every swap of the
instance's contexts that has started (R71). Entries of the SQ that were not fetched are never fetched: SQ_PROD takes the value of SQ_CONS
(DESIGN CHOICE, log 187). -/
def instResetDone (m : Mem) (d : Dev) (i : Nat) : Dev :=
  match sfind d.vir.resets i with
  | none => d
  | some (n, removed) =>
    if n < 2 && d.is LTH_STATUS_RUNNING then d
    else if (d.validCtxs.filter (fun c => d.ctxInst c == i)).any d.ctxSwapping then d
    else
      let d := (d.validCtxs.filter (fun c => d.ctxInst c == i)).foldl (removeCtx m) d
      let d := (((d.set (SQ_CFG_EN i) 0).set (CQ_CFG_EN i) 0).set (IQ_CFG_EN i) 0).set (SQ_PROD_V i) (d.get (SQ_CONS_V i))
      let d := if i = 0 then d else { d with vir := { d.vir with
        msixTab := d.vir.msixTab.filter (fun e => e.1 / 65536 != i)
        msixPend := d.vir.msixPend.filter (fun e => e.1 != i)
        recent := d.vir.recent.filter (fun e => e.1 != i) } }
      let d := if removed then d.set (VIR_INST_CTRL_EN i) 0 else d
      let d := d.set (INST_STATUS_STATE i) (if d.is (VIR_INST_CTRL_EN i) then isENABLED else isDISABLED)
      { d with vir := { d.vir with resets := sdel d.vir.resets i } }

/-- A write to VIR_INST_CTRL: EN, then RESET (R449, R457). -/
def instCtrlOp (m : Mem) (d : Dev) (i v : Nat) : Dev :=
  let en := v % 2
  let was := d.get (VIR_INST_CTRL_EN i)
  let d :=
    if en = 1 && was = 0 && d.rangeClash i then d.set VIR_STATUS_CFG_REFUSED 1
    else
      let d := d.set (VIR_INST_CTRL_EN i) en
      if d.resetting i then d else d.set (INST_STATUS_STATE i) (if en = 1 then isENABLED else isDISABLED)
  if v / 2 % 2 = 1 then instResetOp m d i false else d

/-! ### Functions and the link (R443, R444, R457) -/

/-- The port takes configuration requests: in service (R465), and in recovery, which brings up the PCIe port (R478). -/
def Dev.cfgUp (d : Dev) : Bool := d.is FPL_BOOT_STATUS_IN_SERVICE || d.get FPL_BOOT_STATUS_PHASE == 5

/-- NumVFs takes a value, with VF Enable as it follows; the instances of the VFs above it are reset. -/
def Dev.numVfs (m : Mem) (d : Dev) (gone : List Nat) (num : Nat) : Dev :=
  let d := ((gone.foldl (fun d n => instResetOp m d n true) d).set VIR_STATUS_NUM_VFS num).set VIR_STATUS_VF_EN (if num = 0 then 0 else 1)
  { d with vir := { d.vir with fns := d.vir.fns.filter (fun e => decide (e.1 ≤ num)) } }

/-- VFs that are present above a number. -/
def Dev.vfsAbove (d : Dev) (num : Nat) : List Nat := (List.range 128).filter (fun n => d.vfLive n && decide (n > num))

/-- VF_ENABLE_SET: VF Enable is set with a number of VFs; those that a lower number takes away are removed (R457). -/
def vfEnableOp (m : Mem) (d : Dev) (num : Nat) : Dev := if d.cfgUp then
    let new := (List.range 128).filter (fun n => decide (1 ≤ n) && decide (n ≤ num) && !d.vfLive n)
    new.foldl Dev.msixEnable (d.numVfs m (d.vfsAbove num) num)
  else d

/-- VF_REMOVAL: NumVFs is lowered to a number, or VF Enable is cleared (0): the VFs above it are removed, and their instances are
reset. -/
def vfRemovalOp (m : Mem) (d : Dev) (num : Nat) : Dev :=
  let gone := d.vfsAbove num
  if gone = [] || !d.cfgUp then d else d.numVfs m gone num

/-- The events of R444: the configuration spaces are reset, VF Enable is cleared, every instance is reset. -/
def linkReset (m : Mem) (d : Dev) : Dev :=
  let live := (List.range 128).filter d.vfLive
  let d := (List.range 128).foldl (fun d n => instResetOp m d n (live.contains n)) d
  let d := (d.set VIR_STATUS_NUM_VFS 0).set VIR_STATUS_VF_EN 0
  { d with vir := { d.vir with bme := false, fns := [], rbar := 41 } }

/-- The PCIe link comes up at one of the rates and widths of R442; which, the host's end decides (a draw). A link that is up stays as it is. -/
def Dev.linkTrain (d : Dev) : Dev :=
  if d.vir.linkUp then d
  else
    let r := Config.pcieLink d.free
    { d with free := d.free + 1, vir := { d.vir with linkUp := true, link := (1 + r.1 % 7, 2 ^ (r.2 % 5)) } }

/-- The PCIe link goes down. -/
def Dev.linkLost (d : Dev) : Dev := { d with vir := { d.vir with linkUp := false, link := (0, 0) } }

/-- BUS_MASTER_ENABLE_SET (R443), over a link that is up. -/
def busMasterOp (d : Dev) : Dev :=
  if !d.cfgUp then d
  else
    let d := d.linkTrain.msixEnable 0
    { d with vir := { d.vir with bme := true } }.msixFlush

end Sys2Proof.Machine
end

