-- ==== Sys2Proof/Machine/LatheTime.lean ====
section
/-!
DEFINITION. Machine/LatheTime.lean: the writes that start, stop and set the Lathe's tick (R40) and the determinism setting (R434).
-/

namespace Sys2Proof.Machine

/-- LTH_CTRL_WRITE (R40): clearing RUN is refused while a cell is on air; RUN set again marks the items that were queued while it was
0. RUNNING follows RUN at the next boundary. -/
def lthCtrlOp (d : Dev) (v : Nat) : Dev :=
  if v % 2 = 1 then
    let d := if d.is LTH_CTRL_RUN || d.is LTH_STATUS_RUNNING then d else d.markStalled
    d.set LTH_CTRL_RUN 1
  else if d.is LTH_CTRL_RUN && !d.rad.cells.isEmpty then d.set LTH_STATUS_CFG_REFUSED 1
  else d.set LTH_CTRL_RUN 0

/-- LTH_TICK_CFG_WRITE (R40): only while RUN is 0. A PERIOD of 0 or above 8 leaves the field. In standalone mode LOCKED and ON_GRID are 0 (R84).
DESIGN CHOICE (log 128): SYNC_LOST, and the edge last seen, stay as they are when SYNC_MODE leaves follower. -/
def lthTickCfgOp (d : Dev) (v : Nat) : Dev :=
  if d.is LTH_CTRL_RUN then d.set LTH_STATUS_CFG_REFUSED 1
  else
    let p := v % 16
    let d := if p = 0 ∨ p > 8 then d else d.set LTH_TICK_CFG_PERIOD p
    let d := d.set LTH_TICK_CFG_SYNC_MODE (v / 16)
    if d.get LTH_TICK_CFG_SYNC_MODE = 0 then (d.set LTH_STATUS_LOCKED 0).set LTH_STATUS_ON_GRID 0 else d

/-- FPL_DET_CFG_WRITE (R434): a change of DET_STRICT is accepted only while LTH_CTRL.RUN and UNL_CTRL.EN are both 0; it takes effect
at the next boundary, or at once while no tick runs: before service, where the class is not in use yet and no change of it is counted (log 110).
Ticks run in service whatever RUN holds (R40, R42). -/
def detCfgOp (d : Dev) (v : Nat) : Dev :=
  let d := if v / 2 % 2 = 1 then d.set FPL_DET_CFG_REFUSED 0 else d
  if v % 2 = d.get FPL_DET_CFG_DET_STRICT then d
  else if d.is LTH_CTRL_RUN || d.is UNL_CTRL_EN then d.set FPL_DET_CFG_REFUSED 1
  else
    let d := d.set FPL_DET_CFG_DET_STRICT v
    if d.is FPL_BOOT_STATUS_IN_SERVICE then d else d.set FPL_REPLAY_CLASS_DET_STRICT v

end Sys2Proof.Machine
end

