-- ==== Sys2Proof/Machine/Crypto.lean ====
section
/-!
DEFINITION. Machine/Crypto.lean: the digest and the signatures of R470, R473, R474 and R476: SHA-512 (FIPS 180-4) and Ed25519
(RFC 8032), which the spec names and does not repeat.
-/

namespace Sys2Proof.Machine

/-! ### SHA-512 -/

/-- The first `n` primes from `k` on. -/
def primesFrom : Nat → Nat → Nat → List Nat
  | 0, _, _ => []
  | _, 0, _ => []
  | fuel + 1, n + 1, k =>
    if (List.range 21).all (fun i => decide (i < 2) || k % i != 0 || k == i) then k :: primesFrom fuel n (k + 1)
    else primesFrom fuel (n + 1) (k + 1)

/-- floor of the cube root, by bits from bit `b` down. -/
def icbrt (n : Nat) : Nat → Nat → Nat
  | 0, r => r
  | b + 1, r => let s := r + 2 ^ b; if s * s * s ≤ n then icbrt n b s else icbrt n b r

/-- Round constants: the first 64 bits of the fractional parts of the cube roots of the first 80 primes. -/
def shaK : List W64 := (primesFrom 420 80 2).map (fun p => w64 (icbrt (p * 2 ^ 192) 68 0))

/-- Initial values: of the square roots of the first eight primes. -/
def shaH : List W64 := (primesFrom 30 8 2).map (fun p => w64 (isqrt (p * 2 ^ 128)))

def rotr64 (x : W64) (n : Nat) : W64 := x.rotateRight n

/-- The message schedule, newest word first. -/
def shaSchedule : Nat → List W64 → List W64
  | 0, w => w
  | n + 1, w =>
    let g (i : Nat) : W64 := w.getD i 0#64
    let s0 := rotr64 (g 14) 1 ^^^ rotr64 (g 14) 8 ^^^ (g 14 >>> 7)
    let s1 := rotr64 (g 1) 19 ^^^ rotr64 (g 1) 61 ^^^ (g 1 >>> 6)
    shaSchedule n ((g 15 + s0 + g 6 + s1) :: w)

/-- One round on the eight working variables. -/
def shaRound (v : List W64) (kw : W64 × W64) : List W64 :=
  match v with
  | [a, b, c, d, e, f, g, h] =>
    let s1 := rotr64 e 14 ^^^ rotr64 e 18 ^^^ rotr64 e 41
    let ch := (e &&& f) ^^^ (~~~e &&& g)
    let t1 := h + s1 + ch + kw.1 + kw.2
    let s0 := rotr64 a 28 ^^^ rotr64 a 34 ^^^ rotr64 a 39
    let mj := (a &&& b) ^^^ (a &&& c) ^^^ (b &&& c)
    [t1 + (s0 + mj), a, b, c, d + t1, e, f, g]
  | _ => v

/-- Big-endian 64-bit words of bytes. -/
def beWords : Nat → List Byte → List W64
  | 0, _ => []
  | n + 1, bs => w64 ((bs.take 8).foldl (fun a b => a * 256 + b.toNat) 0) :: beWords n (bs.drop 8)

/-- The blocks of a padded message. -/
def shaBlocks (k : List W64) : Nat → List Byte → List W64 → List W64
  | 0, _, h => h
  | n + 1, bs, h =>
    let w := (shaSchedule 64 (beWords 16 (bs.take 128)).reverse).reverse
    let v := (k.zip w).foldl shaRound h
    shaBlocks k n (bs.drop 128) (List.zipWith (· + ·) h v)

/-- SHA-512 of bytes. -/
def sha512 (bs : List Byte) : List Byte :=
  let n := bs.length
  let pad := (239 - n % 128) % 128
  let m := bs ++ [0x80#8] ++ List.replicate pad 0#8 ++ (bytesLE 16 (8 * n)).reverse
  (shaBlocks shaK (m.length / 128) m shaH).flatMap (fun w => (bytesLE 8 w.toNat).reverse)

/-! ### Ed25519 -/

/-- The field, the group order, and modular powers by squaring over the bits of the exponent. -/
def edP : Nat := 2 ^ 255 - 19
def edL : Nat := 2 ^ 252 + 27742317777372353535851937790883648493
def powMod (m : Nat) : Nat → Nat → Nat → Nat → Nat
  | 0, _, _, r => r
  | fuel + 1, b, e, r => powMod m fuel (b * b % m) (e / 2) (if e % 2 = 1 then r * b % m else r)
def fpow (b e : Nat) : Nat := powMod edP 256 b e 1
def finv (x : Nat) : Nat := fpow x (edP - 2)
def edD : Nat := (edP - 121665) * finv 121666 % edP

/-- x of a point from y and its sign, if y names a point. -/
def edX (y sign : Nat) : Option Nat :=
  let u := (y * y + edP - 1) % edP
  let v := (edD * y % edP * y + 1) % edP
  let x := u * v % edP * v % edP * v % edP * fpow (u * fpow v 7 % edP) ((edP - 5) / 8) % edP
  let vx := v * x % edP * x % edP
  let x := if vx = u then some x else if vx = (edP - u) % edP then some (x * fpow 2 ((edP - 1) / 4) % edP) else none
  match x with
  | none => none
  | some x => if x = 0 ∧ sign = 1 then none else some (if x % 2 = sign then x else (edP - x) % edP)

/-- The base point. -/
def edB : Nat × Nat := let y := 4 * finv 5 % edP; ((edX y 0).getD 0, y)

/-- Points in extended coordinates (X, Y, Z, T). -/
abbrev EdPt := Nat × Nat × Nat × Nat
def edAdd (p q : EdPt) : EdPt :=
  let a := (p.2.1 + edP - p.1) * (q.2.1 + edP - q.1) % edP
  let b := (p.2.1 + p.1) * (q.2.1 + q.1) % edP
  let c := 2 * p.2.2.2 * q.2.2.2 % edP * edD % edP
  let d := 2 * p.2.2.1 * q.2.2.1 % edP
  let e := (b + edP - a) % edP
  let f := (d + edP - c) % edP
  let g := (d + c) % edP
  let h := (b + a) % edP
  (e * f % edP, g * h % edP, f * g % edP, e * h % edP)
def edMulAux : Nat → Nat → EdPt → EdPt → EdPt
  | 0, _, _, r => r
  | fuel + 1, k, p, r => edMulAux fuel (k / 2) (edAdd p p) (if k % 2 = 1 then edAdd r p else r)
def edMul (k : Nat) (p : Nat × Nat) : EdPt := edMulAux 256 k (p.1, p.2, 1, p.1 * p.2 % edP) (0, 1, 1, 0)
def edAffine (p : EdPt) : Nat × Nat := let z := finv p.2.2.1; (p.1 * z % edP, p.2.1 * z % edP)
def edEncode (p : Nat × Nat) : List Byte := bytesLE 32 (p.2 + p.1 % 2 * 2 ^ 255)
def edDecode (bs : List Byte) : Option (Nat × Nat) :=
  let n := leNat (bs.take 32)
  let y := n % 2 ^ 255
  if y ≥ edP then none else (edX y (n / 2 ^ 255)).map (fun x => (x, y))

/-- The secret scalar and the prefix bytes of a seed. -/
def edSecret (seed : List Byte) : Nat × List Byte :=
  let h := sha512 seed
  let a := leNat (h.take 32)
  (2 ^ 254 + (a % 2 ^ 254 / 8 * 8), h.drop 32)
def edPublic (seed : List Byte) : List Byte := edEncode (edAffine (edMul (edSecret seed).1 edB))

/-- Ed25519 signature of a message. -/
def edSign (seed msg : List Byte) : List Byte :=
  let s := edSecret seed
  let pub := edEncode (edAffine (edMul s.1 edB))
  let r := leNat (sha512 (s.2 ++ msg)) % edL
  let rb := edEncode (edAffine (edMul r edB))
  let k := leNat (sha512 (rb ++ pub ++ msg)) % edL
  rb ++ bytesLE 32 ((r + k * s.1) % edL)

/-- Ed25519 verification: [S]B = R + [k]A. -/
def edVerify (pub msg sig : List Byte) : Bool :=
  match edDecode pub, edDecode (sig.take 32) with
  | some a, some r =>
    let s := leNat ((sig.drop 32).take 32)
    let k := leNat (sha512 (sig.take 32 ++ pub.take 32 ++ msg)) % edL
    decide (sig.length = 64) && decide (s < edL) &&
      decide (edAffine (edMul s edB) = edAffine (edAdd (r.1, r.2, 1, r.1 * r.2 % edP) (edMul k a)))
  | _, _ => false

end Sys2Proof.Machine
end

