-- ==== Sys2Proof/Machine/Dma.lean ====
section
/-!
DEFINITION. Machine/Dma.lean: the DMA engine of a tile (R148, R157, R164-R170, R229, R260, R270, R278, R509): the DMA command, the
start and the completion of a descriptor.
-/

namespace Sys2Proof.Machine

/-! ### Legality (R157, R164, R165, R168, R260) -/

def spLOCAL : Nat := 0
def spTILE : Nat := 1
def spUNIFIED : Nat := 2
def spFABRIC : Nat := 3

/-- An address has the form of its space (R165). DESIGN CHOICE (log 178): bits above the form make the descriptor illegal with cause ENCODING. -/
def addrForm (space a : Nat) : Bool :=
  if space = spLOCAL then decide (a < 2 ^ 22)
  else if space = spTILE then decide (a < 2 ^ 43)
  else if space = spUNIFIED then decide (a < 2 ^ 41)
  else true

/-- Highest local byte of a LOCAL side, plus one. -/
def localEnd (a rows stride rb : Nat) : Nat := a + (rows - 1) * stride + rb

/-- Why a descriptor is illegal, if it is. -/
def Dev.descIllegal (d : Dev) (tc : Nat) (committed : Bool) (ws : Words) : Option Nat :=
  let f := wfld ws
  let rb := f DD_ROW_BYTES
  let rows := f DD_ROWS
  let op := f DD_OP
  let t := f DD_ATYPE
  let ss := f DD_SRC_SPACE
  let ds := f DD_DST_SPACE
  let es := elemBytes t
  let encoding := reservedSet ws DD_USED || decide (rb < 16) || decide (rb > 1048560) || rows == 0 || decide (op > 4) ||
    decide (ss > 3) || decide (ds > 3) || (ss != spLOCAL && ds != spLOCAL) || ss == spTILE ||
    !addrForm ss (f DD_SRC) || !addrForm ds (f DD_DST) ||
    (op != 0 && (ss != spLOCAL || (ds != spFABRIC && ds != spUNIFIED))) ||
    (f DD_SEM_EN == 1 && decide (f DD_SEM ≥ 8) && ds != spTILE) ||
    (op == 0 && t != 0) || (op != 0 && es == 0) || (op == 4 && decide (t ≥ 8)) ||
    (op == 1 && t % 8 == 5 && d.strict)
  let align := rb % 16 != 0 || f DD_SRC_STRIDE % 16 != 0 || f DD_DST_STRIDE % 16 != 0 ||
    (op != 0 && f DD_DST % es != 0) || (op == 4 && f DD_SRC % (2 * es) != 0) || (ss == spFABRIC && f DD_SRC % 4 != 0) || (ds == spFABRIC && f DD_DST % 4 != 0)
  let beyond := (ss == spLOCAL && decide (localEnd (f DD_SRC) rows (f DD_SRC_STRIDE) rb > d.usable tc)) ||
    (ds == spLOCAL && decide (localEnd (f DD_DST) rows (f DD_DST_STRIDE) rb > d.usable tc))
  if encoding then some caENCODING
  else if align then some caALIGN
  else if beyond then some caADDRESS
  else if !committed && (ds == spFABRIC || op != 0) then some caPHASE
  else none

/-! ### The DMA command (R159, R164) -/

/-- Words of the descriptor at a local address. -/
def Dev.descAt (d : Dev) (tc a : Nat) : Words :=
  bytesWords 4 ((List.range 32).map (fun i => BitVec.ofNat 8 (d.localGet tc (a + i))))

/-- The local bytes that several descriptors read and write, as ranges. -/
def descsConflict (ch : Chuck) (ds : List Words) : Bool :=
  ds.any (fun ws => let r := descRanges ws; ch.conflicts r.1 r.2)

/-- DMA: queues COUNT descriptors from ADDR on, all of them legal, or none. The engine queues at most 64 descriptors of a chuck;
the command is held while there is no room or an earlier command conflicts (R153). -/
def dmaCmd (m : Mem) (d : Dev) (t c : Nat) (w0 w1 : W64) : Dev :=
  issue m d t c true true [0x7FFFFFFCF00, 0] w0 w1 (fun r d =>
    let tc := t * 4 + c
    let a := wfld [w0, w1] DMAC_ADDR
    let n := wfld [w0, w1] DMAC_COUNT
    if wfld [w0, w1] DMAC_KIND ≠ 0 ∨ n = 0 ∨ n > 64 then illegal m d t c r.pc caENCODING
    else if a % 32 ≠ 0 then illegal m d t c r.pc caALIGN
    else if a + 32 * n > d.usable tc then illegal m d t c r.pc caADDRESS
    else
      let ds := (List.range n).map (fun i => (a + 32 * i, d.descAt tc (a + 32 * i)))
      match ds.findSome? (fun e => (d.descIllegal tc r.committed e.2).map (fun cause => (e.1, cause))) with
      | some e => illegal m d t c e.1 e.2
      | none =>
        let ch := d.chuck tc
        if ch.dq.length + n > 64 || descsConflict ch (ds.map (·.2)) then d
        else
          let inst := d.runInst r
          let ops := (List.range n).map (fun i =>
            let e := ds.getD i (0, [])
            ({ id := d.fab.opId + i, words := e.2, addr := e.1, tail := r.committed, inst := inst } : DmaOp))
          let d := { d with fab := { d.fab with opId := d.fab.opId + n } }
          (d.setChuck tc { ch with dq := ch.dq ++ ops }).advance tc)

/-! ### Requests of a descriptor -/

/-- The pieces of `len` bytes at an offset: naturally aligned, 4 to 128 bytes, each the largest that fits. -/
def pieces : Nat → Nat → Nat → List (Nat × Nat)
  | 0, _, _ => []
  | fuel + 1, off, len =>
    if len = 0 then []
    else
      let s := ([128, 64, 32, 16, 8].find? (fun s => off % s == 0 && decide (s ≤ len))).getD 4
      (off, s) :: pieces fuel (off + s) (len - s)

/-- A fabric address: node and offset (R165). -/
def fabNode (a : Nat) : Nat := a / 2 ^ 48
def fabOff (a : Nat) : Nat := a % 2 ^ 48

/-- Adds a request to a descriptor's list: (index, request). -/
def Dev.reqOf (d : Dev) (t : Nat) (tc id idx dst cls op size off atype : Nat) (payload : List Byte) (laddr len skip : Nat)
    (fill : Bool) : FReq :=
  { client := t, owner := tc, desc := id, idx := idx, laddr := laddr, len := len, skip := skip, fill := fill
    pk := d.mkPacket dst cls op size off 0 0 0 atype 0 0 (atype % 8 == 5 && d.strict) payload }

/-- Marks the requests of a descriptor as awaited, then issues them (R166); `direct`: at the own home without a packet that
leaves (R260). -/
def Dev.issueReqs (d : Dev) (tc id : Nat) (direct : Bool) (rs : List FReq) : Dev :=
  let ch := d.chuck tc
  let d := d.setChuck tc { ch with dq := ch.dq.map (fun o =>
    if o.id = id then { o with waits := o.waits ++ rs.map (·.idx) } else o) }
  rs.foldl (fun d r =>
    if direct then d.launch r
    else d.fabSend r (fun d => d.dmaReqDone r.owner r.desc r.idx stOK (pkf r.pk PKT_DST) (pkf r.pk PKT_OFFSET))) d

/-- Rows of a descriptor as (local or other source address, destination address). -/
def descRows (ws : Words) : List (Nat × Nat) :=
  (List.range (wfld ws DD_ROWS)).map (fun i =>
    (wfld ws DD_SRC + i * wfld ws DD_SRC_STRIDE, wfld ws DD_DST + i * wfld ws DD_DST_STRIDE))

/-- `n` bytes of a chuck's partition. -/
def Dev.localBytes (d : Dev) (tc a n : Nat) : List Byte := (List.range n).map (fun i => BitVec.ofNat 8 (d.localGet tc (a + i)))

/-- FABRIC to LOCAL (R166, R278): plain loads, or through the quad cache for a line of another quad member. -/
def dmaLoad (d : Dev) (t tc : Nat) (o : DmaOp) : Dev :=
  let rb := wfld o.words DD_ROW_BYTES
  let quad := d.quad
  let cut := (descRows o.words).flatMap (fun r =>
    let node := fabNode r.1
    let cached := quad.contains node && node != d.node && d.get UNL_QCACHE_CFG_SLOTS != 0
    if cached then
      -- line by line
      let off := fabOff r.1
      (List.range ((off + rb - 1) / 128 - off / 128 + 1)).map (fun i =>
        let a := max off ((off / 128 + i) * 128)
        let b := min (off + rb) ((off / 128 + i + 1) * 128)
        (true, node, a, b - a, r.2 + (a - off)))
    else (pieces (rb / 4) (fabOff r.1) rb).map (fun p => (false, node, p.1, p.2, r.2 + (p.1 - fabOff r.1))))
  let go := (List.range cut.length).foldl (fun (acc : Dev × List FReq) i =>
    let (d, rs) := acc
    let (cached, node, off, len, la) := cut.getD i (false, 0, 0, 0, 0)
    if !cached then (d, rs ++ [d.reqOf t tc o.id i node clPLAIN opLOAD (sizeCode len) off 0 [] la len 0 false])
    else
      let l := d.qcLine node off
      if l.1 = 1 then (d.localPuts tc la ((List.range len).map (fun j => l.2.getD (off % 128 + j) 0#8)), rs)
      else if l.1 = 3 then (d.dmaReqDone tc o.id i stUNCORRECTABLE node off, rs)
      else
        let first := l.1 == 0
        let d := if first then d.setQc (qcKey node off) (2, []) else d
        (d, rs ++ [d.reqOf t tc o.id i node clPLAIN opGETS 5 (off / 128 * 128) 0 [] la len (off % 128) first])) (d, [])
  go.1.issueReqs tc o.id false go.2

/-- Fabric operation of an atomic descriptor. -/
def dmaAtomOp (op : Nat) : Nat := if op = 1 then opADD else if op = 2 then opMIN else if op = 3 then opMAX else opCAS

/-- LOCAL to FABRIC stores, and atomics to FABRIC or to the own range (R259, R260). -/
def dmaSend (d : Dev) (t tc : Nat) (o : DmaOp) (direct : Bool) : Dev :=
  let f := wfld o.words
  let rb := f DD_ROW_BYTES
  let op := f DD_OP
  let at_ := f DD_ATYPE
  let es := elemBytes at_
  let dstOf (a : Nat) : Nat × Nat := if direct then (d.node, a) else (fabNode a, fabOff a)
  let cls := if op = 0 then clPLAIN else if at_ ≥ 8 then clRELAXED else clATOMIC
  let cut := (descRows o.words).flatMap (fun r =>
    let dst := dstOf r.2
    if op = 4 then
      (List.range (rb / (2 * es))).map (fun i => (dst.1, dst.2 + i * es, es, r.1 + 2 * i * es))
    else (pieces (rb / 4) dst.2 rb).map (fun p => (dst.1, p.1, p.2, r.1 + (p.1 - dst.2))))
  let rs := (List.range cut.length).map (fun i =>
    let (node, off, len, la) := cut.getD i (0, 0, 0, 0)
    let n := if op = 4 then 2 * es else len
    d.reqOf t tc o.id i node cls (if op = 0 then opSTORE else dmaAtomOp op) (sizeCode len) off at_ (d.localBytes tc la n) la
      (if op = 4 then es else 0) 0 false)
  d.issueReqs tc o.id direct rs

/-! ### Start (R166, R169, R229, R246) -/

/-- R229: an access to a range of the unified range is refused for a context of an instance. -/
def Dev.unifiedRefused (d : Dev) (inst off len : Nat) (write : Bool) : Bool :=
  (List.range ((off + len - 1) / 1048576 - off / 1048576 + 1)).any (fun i =>
    let x := off / 1048576 + i
    decide (x ≥ 2097152) || d.get (TMAP_TIER x) == 0 || (write && !d.is (TMAP_WRITABLE x)) ||
    d.get (OBJ_INSTANCE (d.get (TMAP_OBJECT x))) != inst)

/-- Sets the record of a queued descriptor. -/
def Dev.setDma (d : Dev) (tc : Nat) (o : DmaOp) : Dev :=
  let ch := d.chuck tc
  d.setChuck tc { ch with dq := ch.dq.map (fun p => if p.id = o.id then o else p) }

/-- Index that stands for a held line of a descriptor among what it waits for. -/
def heldWait (off : Nat) : Nat := 2 ^ 48 + off / 128

/-- Writes a row of a descriptor to the unified range; the lines that are held are awaited. -/
def dmaWriteRow (m : Mem) (d : Dev) (tc id off : Nat) (bytes : List Byte) : Dev :=
  let held := d.blockedLines off bytes.length
  let d := (writeRange m d off bytes).1
  held.foldl (fun d l =>
    let d := d.holdBehind l (.dmaDone tc id l)
    let ch := d.chuck tc
    d.setChuck tc { ch with dq := ch.dq.map (fun o => if o.id = id then { o with waits := o.waits ++ [heldWait l] } else o) }) d

/-- What a tail descriptor that cannot be performed leaves (R157, R169, R509): the fault, and a tail that goes on or ends. -/
def Dev.tailFault (m : Mem) (d : Dev) (t c : Nat) (o : DmaOp) (cause : Nat) (stop : Bool) : Dev :=
  let d := d.seqFault t c o.addr cause true
  if stop && o.own then endRun m d t c else d

/-- R169: the chuck that takes a TILE write, when the destination meets every condition. -/
def Dev.tileDest (d : Dev) (o : DmaOp) : Option Nat :=
  let a := wfld o.words DD_DST
  let ctx := a / 2 ^ 22 % 4096
  match d.ctxChuck ctx with
  | some tc => if tc / 4 = a / 2 ^ 34 % 512 && d.ctxResident ctx && d.ctxInst ctx = o.inst then some tc else none
  | none => none

/-- Reads and writes of a LOCAL or UNIFIED source and destination, row by row. `m`'s bytes are read before any of them is
written over by the descriptor's own rows, row by row in ascending order. -/
def dmaRows (m : Mem) (d : Dev) (tc : Nat) (o : DmaOp) (dstTc : Nat) : List (Nat × Nat) → Dev × LineRes × Nat
  | [] => (d, .ok, 0)
  | r :: rest =>
    let f := wfld o.words
    let rb := f DD_ROW_BYTES
    let src := if f DD_SRC_SPACE = spUNIFIED then readRange m d r.1 rb .consumer else (d, .ok, d.localBytes tc r.1 rb)
    match src.2.1 with
    | .ok =>
      let d := src.1
      let d := if f DD_DST_SPACE = spUNIFIED then dmaWriteRow m d tc o.id r.2 src.2.2
        else if f DD_DST_SPACE = spTILE then d.localPuts dstTc (r.2 % 2 ^ 22) src.2.2
        else d.localPuts tc r.2 src.2.2
      dmaRows m d tc o dstTc rest
    | e => (src.1, e, r.1)

/-- Performs a descriptor whose start nothing refuses. A read that is held leaves the descriptor to be performed again when the
extent is released; a failed origin stops the item as a cut (R246). -/
def dmaPerform (m : Mem) (d : Dev) (t c : Nat) (o : DmaOp) (dstTc : Nat) : Dev :=
  let tc := t * 4 + c
  let f := wfld o.words
  if f DD_SRC_SPACE = spFABRIC then dmaLoad d t tc o
  else if f DD_DST_SPACE = spFABRIC then dmaSend d t tc o false
  else if f DD_OP ≠ 0 then dmaSend d t tc o true
  else
    let r := dmaRows m d tc o dstTc (descRows o.words)
    match r.2.1 with
    | .held =>
      let bad := (List.range (ceilDiv (f DD_ROW_BYTES) 128 + 1)).map (fun i => r.2.2 / 128 * 128 + 128 * i)
      let x := ((bad.find? (fun a => r.1.is (TMAP_REFETCH (extOf a)) || r.1.writeHeld a)).map extOf).getD (extOf r.2.2)
      (r.1.setDma tc { o with started := true, held := true }).hold x (.dma tc o.id)
    | .originFail => if o.tail || o.cut then r.1 else cutRun m r.1 tc
    | _ => r.1

/-- R229, R169: why a descriptor is refused at its start, and whether it counts as a UNIFIED refusal. -/
def Dev.startRefused (d : Dev) (o : DmaOp) : Option (Nat × Bool) :=
  let f := wfld o.words
  let rb := f DD_ROW_BYTES
  let uni (write : Bool) (sel : Nat × Nat → Nat) : Bool :=
    -- a pair of a CAS covers one element of the destination (R260)
    (descRows o.words).any (fun r => d.unifiedRefused o.inst (sel r) (if write && f DD_OP == 4 then rb / 2 else rb) write)
  if f DD_SRC_SPACE = spUNIFIED && uni false (·.1) then some (caADDRESS, true)
  else if f DD_DST_SPACE = spUNIFIED && uni true (·.2) then some (caADDRESS, true)
  else if f DD_DST_SPACE = spTILE then
    match d.tileDest o with
    | none => some (caTILE_REFUSED, false)
    | some tc =>
      if localEnd (f DD_DST % 2 ^ 22) (f DD_ROWS) (f DD_DST_STRIDE) rb > d.usable tc then some (caADDRESS, false) else none
  else none

/-- Starts one descriptor. One of an item that has been cut or stopped says nothing to the run that is now on the chuck (R167). -/
def dmaStartOne (m : Mem) (d : Dev) (t c : Nat) (o : DmaOp) : Dev :=
  let tc := t * 4 + c
  let d := d.setDma tc { o with started := true }
  match d.startRefused o with
  | some (cause, uni) =>
    if o.tail then
      -- an inbound increment of a refused TILE write has no context to reach
      let w3 := (o.words.getD 3 0#64).toNat - (if wfld o.words DD_SEM ≥ 8 then wfld o.words DD_SEM_EN * 2 ^ 38 else 0)
      let d := if uni then d else d.setDma tc { o with started := true, words := o.words.set 3 (w64 w3) }
      d.tailFault m t c o cause (!uni)
    else if o.cut then d
    else illegal m d t c o.addr cause
  | none => dmaPerform m d t c o ((d.tileDest o).getD 0)

/-- The descriptor of a chuck that starts next: the first one that has not started, unless an unfinished one before it, of the same command too,
writes LOCAL bytes that it touches or reads bytes that it writes (R153). -/
def Chuck.nextDma (ch : Chuck) : Option DmaOp :=
  match ch.dq.find? (fun o => !o.started) with
  | none => none
  | some o =>
    let r := descRanges o.words
    if ({ ch with mq := [], dq := ch.dq.takeWhile (fun p => p.id != o.id) } : Chuck).conflicts r.1 r.2 then none else some o

/-- DMA_DESCRIPTOR_START (R166): chuck 0's descriptors go first. -/
def dmaStartOp (m : Mem) (d : Dev) (t : Nat) (ups : List Upset) : Dev :=
  let d := d.upsets ups
  let next (c : Nat) : Option DmaOp := (d.chuck (t * 4 + c)).nextDma
  match (List.range 4).find? (fun c => (next c).isSome) with
  | none => d
  | some c =>
    match next c with
    | none => d
    | some o => dmaStartOne m d t c o

/-- A descriptor whose read was held is performed again (R247). -/
def dmaRetry (m : Mem) (d : Dev) (tc id : Nat) : Dev :=
  match (d.chuck tc).dq.find? (fun o => o.id == id) with
  | none => d
  | some o => dmaStartOne m (d.setDma tc { o with held := false }) (tc / 4) (tc % 4) { o with held := false }

/-- A held line of a descriptor's write has been applied, or waits again. -/
def dmaLineDone (d : Dev) (tc id off : Nat) : Dev :=
  if d.lineBlocked off then d.holdBehind off (.dmaDone tc id off)
  else
    let ch := d.chuck tc
    d.setChuck tc { ch with dq := ch.dq.map (fun o => if o.id = id then { o with waits := o.waits.erase (heldWait off) } else o) }

/-! ### Completion (R166, R170, R270) -/

/-- The semaphore increment of a descriptor that completes: local at once; inbound at the sender's commit, or at once in the
tail. -/
def Dev.dmaSem (d : Dev) (t c : Nat) (o : DmaOp) : Dev :=
  let tc := t * 4 + c
  let s := wfld o.words DD_SEM
  if wfld o.words DD_SEM_EN = 0 || o.cut then d
  else if s < 8 then
    let ch := d.chuck tc
    d.setChuck tc { ch with lsem := sput ch.lsem s (min (2 ^ 32 - 1) (sget ch.lsem s 0 + 1)) }
  else
    let a := wfld o.words DD_DST
    let dt := a / 2 ^ 34 % 512
    let ctx := a / 2 ^ 22 % 4096
    if o.tail then (d.semAdd ctx s 1).wake dt
    else
      match (d.chuck tc).run with
      | some r => d.setChuck tc { d.chuck tc with run := some { r with heldInc := r.heldInc ++ [(dt, ctx, s)] } }
      | none => d

/-- DMA_DESCRIPTOR_COMPLETE: the descriptor at the head of a chuck's queue completes when its writes are visible or its
acknowledgements have returned. -/
def dmaCompleteOp (m : Mem) (d : Dev) (t c : Nat) : Dev :=
  let tc := t * 4 + c
  match (d.chuck tc).dq with
  | [] => d
  | o :: rest =>
    if !o.started || o.held || o.waits ≠ [] then d
    else
      let d := d.setChuck tc { d.chuck tc with dq := rest }
      let d := match o.fail with
        | none => (resume m t 5 (d.dmaSem t c o)).tileShow t
        | some (_, st, node, off) =>
          let d := d.logError st t node off
          if o.cut then (resume m t 5 d).tileShow t
          else if o.tail then (resume m t 5 (d.dmaSem t c o)).tileShow t
          else if st = stREFUSED_STATE then illegal m d t c o.addr caADDRESS
          else (resume m t 5 (cutRun m d tc)).tileShow t
      d.drained tc

end Sys2Proof.Machine
end

