-- ==== Sys2Proof/Machine/MemEvents.lean ====
section
/-!
DEFINITION. Machine/MemEvents.lean: events of the memory tiers beside commands and accesses: re-fetches (R247), failing origins (R246), scrub reads (R249)
and the halving of HEAT (R230).
-/

namespace Sys2Proof.Machine

/-- Position of an extent in its object. -/
def Dev.extIndex (d : Dev) (x : Nat) : Nat := x - d.get (OBJ_BASE (d.get (TMAP_OBJECT x))) / 1048576

/-- Kind and location of an extent's origin. -/
def Dev.extOrigin (d : Dev) (x : Nat) : Nat × Nat :=
  let o := d.get (TMAP_OBJECT x)
  let kind := d.get (OBJ_ORIGIN_KIND o)
  (kind, originLoc kind (d.get (OBJ_ORIGIN o)) (d.extIndex x))

/-- R247 step 4: the slot that failed again is retired, and the extent goes to the lowest free slot of its stack and tier, or to its origin. -/
def Dev.refetchElsewhere (d : Dev) (x : Nat) (kind loc : Nat) (bytes : List Byte) : Dev :=
  let tier := d.get (TMAP_TIER x)
  let stack := d.get (TMAP_STACK x)
  let slot := d.get (TMAP_LOC x)
  let u := unitSlot stack tier slot
  let d := d.retireSlot tier stack slot
  let d := match d.lowestSlot tier stack with
    | some s => ((d.takeSlot tier stack s).fillSlot x tier stack s bytes).set (TMAP_LOC x) s
    | none => ((d.set (TMAP_TIER x) kind).set (TMAP_STACK x) 0).set (TMAP_LOC x) loc
  (d.dropSlot tier stack slot).report { unit := u, confirmed := true, dkind := 0x10, failed := true, detail := x * 1048576 }

/-- The re-fetch of an extent under migration ends with its switch (R241): into the target slot, or, where that reads back badly, into the lowest
free slot of the target's stack and tier, or to the origin; the bad slot is retired. -/
def Dev.refetchMove (d : Dev) (x kind loc : Nat) (v : Move) (good : Bool) (bytes : List Byte) : Dev :=
  if good then switchExtent (d.fillSlot x v.tier v.stack v.loc bytes) v
  else
    let u := unitSlot v.stack v.tier v.loc
    let d := d.retireSlot v.tier v.stack v.loc
    let d := match d.lowestSlot v.tier v.stack with
      | some s => switchExtent ((d.takeSlot v.tier v.stack s).fillSlot x v.tier v.stack s bytes) { v with loc := s }
      | none => switchExtent d { v with tier := kind, stack := 0, loc := loc }
    (d.dropSlot v.tier v.stack v.loc).report { unit := u, confirmed := true, dkind := 0x10, failed := true, detail := x * 1048576 }

/-- A slot whose read-back is clean has passed its retest (R401, R403). -/
def Dev.readBackPassed (d : Dev) (u : Nat) : Dev :=
  let r := d.unit u
  if r.state = 1 ∧ r.due then (d.record u 2 0x10 false noCond 0 0 false).setUnit u r.healthy else d

/-- The end of a re-fetch (R247 step 5): the accesses held for the extent go on. -/
def Dev.refetchEnd (d : Dev) (x stack : Nat) : Dev :=
  -- the read-back of the failing lines is a read; every line has been written anew
  let d := (d.bump (TMAP_HEAT x) ((d.mem.refetch.filter (fun e => e.1 == x)).length)).set (TMAP_POISONED x) 0
  let d := ((d.set (TMAP_REFETCH x) 0).bump (OBJ_REFETCH_CNT (d.get (TMAP_OBJECT x))) 1).bump (MEM_STACK_ECC_REFETCHED stack) 1
  { d with mem := { d.mem with
      refetch := d.mem.refetch.filter (fun e => e.1 != x)
      held := d.mem.held.filter (fun e => e.1 != x)
      released := d.mem.released ++ (d.mem.held.filter (fun e => e.1 == x)).map (·.2) } }

/-- REFETCH_DONE: the origin has answered or failed; the failing lines read back clean or not. An extent that was being migrated is written into
its new slot and switched. -/
def refetchDoneOp (m : Mem) (d : Dev) (x : Nat) (originOk readBackOk : Bool) : Dev :=
  if !d.is (TMAP_REFETCH x) then d
  else
    let src := d.extOrigin x
    let stack := d.get (TMAP_STACK x)
    let tier := d.get (TMAP_TIER x)
    let slot := d.get (TMAP_LOC x)
    let line := match d.mem.refetch.find? (fun e => e.1 == x) with | some e => e.2 | none => 0
    if !d.originReach src.1 originOk then
      let off := x * 1048576 + line * 128
      ((d.lastUE off stack tier 2).event (srcStack stack) .originFail [off]).contain .refetch (unitSlot stack tier slot) off
    else
      let bytes := originBytes src.1 src.2
      match d.mem.moves.find? (fun v => v.ext == x) with
      | some v =>
        let d := d.refetchMove x src.1 src.2 v readBackOk bytes
        let d := { d with mem := { d.mem with running := d.mem.running.map (fun (r : MemCmd × Nat × Nat × Option Nat) => (r.1, r.2.1 + 1, r.2.2.1, r.2.2.2)) } }
        memResume m (d.refetchEnd x stack)
      | none =>
        let d := if readBackOk then (d.fillSlot x tier stack slot bytes).readBackPassed (unitSlot stack tier slot)
          else d.refetchElsewhere x src.1 src.2 bytes
        memResume m (d.refetchEnd x stack)

/-- ORIGIN_READ_FAIL (R246): a read served from tier 3 or 4 fails. The descriptor at the head of a tile's engine moves nothing and its item is cut. -/
def originReadFailOp (m : Mem) (d : Dev) (off : Nat) (hit : OriginUser) : Dev :=
  let x := extOf off
  if d.get (TMAP_TIER x) < 3 then d
  else
    let d := d.originFailed off
    match hit with
    | .other => { d with mem := { d.mem with failing := d.mem.failing.filter (· != off / 128) ++ [off / 128] } }
    | .dma t =>
      let next (c : Nat) : Option DmaOp := (d.chuck (t * 4 + c)).nextDma
      match (List.range 4).find? (fun c => (next c).isSome) with
      | none => d
      | some c =>
        match next c with
        | none => d
        | some o =>
          let d := d.setDma (t * 4 + c) { o with started := true }
          if o.tail then d else cutRun m d (t * 4 + c)

/-- A scrub read of a line that no extent uses: a slot with an uncorrectable line is rewritten with zeros (R246). -/
def scrubFree (m : Mem) (d : Dev) (stack tier slot k : Nat) : Dev :=
  let e := d.lineErr k
  match (if e.poison then none else decodeLine e.errs) with
  | some c =>
    if e.errs = [] ∧ c = [] then d
    else
      let d := (xorSymbols m d k (normErrs (e.errs ++ c))).setLineErr k {}
      if c = [] then d else d.bump (MEM_STACK_ECC_CORRECTED stack) 1
  | none =>
    let d := ((d.bump (MEM_STACK_ECC_UNCORRECTABLE stack) 1).lastUE 0 stack tier 3).event (srcStack stack) .uncorrectable [0, 3]
    let d := d.report { unit := unitSlot stack tier slot, confirmed := true, dkind := 0x10, inj := e.inj }
    d.writeSlot tier stack slot (List.replicate 1048576 0#8)

/-- SCRUB_READ (R249): the base die of a stack reads its next line. -/
def scrubReadOp (m : Mem) (d : Dev) (stack : Nat) (errs : List (Nat × Nat)) : Dev :=
  if !d.is MEM_CTRL_SCRUB_EN then d
  else
    let n := sget d.mem.scrub stack 0 % scrubLines
    let d := { d with mem := { d.mem with scrub := sput d.mem.scrub stack ((n + 1) % scrubLines) } }
    let k := stack * 1073741824 + n
    let tier := if n < 536870912 then 2 else 1
    let slot := n % 536870912 / 8192
    let e := d.lineErr k
    let d := if errs.isEmpty then d else d.setLineErr k { e with errs := normErrs (e.errs ++ errs) }
    match d.slotExtent tier stack slot with
    | some x => (readLine m d (x * 1048576 + n % 8192 * 128) .internal).1
    | none => scrubFree m d stack tier slot k

/-- HEAT_HALVING (R230). -/
def heatHalvingOp (d : Dev) : Dev :=
  if d.mem.heatTicks < max 1 (d.get MEM_HEAT_CFG_PERIOD) then d
  else
    let d := (d.listed (TMAP_HEAT 0) 16 2097152).foldl (fun d x => d.set (TMAP_HEAT x) (d.get (TMAP_HEAT x) / 2)) d
    { d with mem := { d.mem with heatTicks := 0 } }

end Sys2Proof.Machine
end

