-- ==== Sys2Proof/Machine/RadOps.lean ====
section
/-!
DEFINITION. Machine/RadOps.lean: radio items of a tick and their deadlines (R43, R78, R84), activation of a configuration (R300, R301, R372), role
changes and takeovers (R303, R350, R416, R417), cells that go on air (R84, R295), and the radio's part of a tick boundary.
-/

namespace Sys2Proof.Machine

/-! ### Cells (R84, R295) -/

/-- Cell numbers on air. -/
def Dev.onAir (d : Dev) : List Nat := d.rad.cells.map (·.1)

def Dev.showOnAir (d : Dev) : Dev := d.set RAD_STATUS_ON_AIR d.rad.cells.length

/-- A bring-in runs (R426). -/
def Dev.onTrial (d : Dev) : Bool := d.tls.probes.any (fun e => d.get (TLS_PAIR_PROBE e.1) == 1)

/-- A cell that is on air from boundary `k` on. A bring-in of a paired SHADOW cell begins with it (R426), and that of the stage with the first of them. -/
def Dev.airCell (d : Dev) (n k : Nat) : Dev :=
  let d := d.setCell n { first := k, since := k }
  if d.is (TLS_PAIR_VALID n) && d.get (actF (RAD_CELL_ROLE n)) == 1 then
    let stage := if d.onTrial then d.tls.stage else (0, 0, 0)
    { d.set (TLS_PAIR_PROBE n) 1 with tls := { d.tls with probes := sput d.tls.probes n {}, stage := stage } }
  else d

/-- CELLS_ON_AIR: at a frame boundary with time valid and LOCKED 1, every valid active cell that is not yet on air. -/
def cellsOnAirOp (d : Dev) : Dev :=
  if d.is RAD_CTRL_EN && d.is TSU_STATUS_VALID && d.is LTH_STATUS_LOCKED && d.tick % d.frameTicks == 0 &&
     d.get LTH_TICK_CFG_SYNC_MODE != 0 then
    (((d.validCells true).filter (fun n => (sfind d.rad.cells n).isNone)).foldl (fun d n => d.airCell n d.tick) d).showOnAir
  else d

/-! ### The radio items of a tick (R293, R313) -/

/-- A radio item of a plan for this tick: its cells on air, and the interval it works on. The first uplink interval of a cell is F, the first
downlink interval with synthesis output F + 4. -/
def Dev.tickItem (d : Dev) (it : RItem) : Option RItem :=
  let ul := decide (it.kind ≤ 2)
  let cells := it.cells.filter (fun n => match sfind d.rad.cells n with
    | some r => if ul then decide (r.first + 1 ≤ d.tick) else decide (r.first + 2 ≤ d.tick)
    | none => false)
  if cells.isEmpty then none else some { it with cells := cells, interval := if ul then d.tick - 1 else d.tick + 2 }

/-- The radio items of every tile for the tick that begins. -/
def Dev.buildRadio (d : Dev) : Dev :=
  let d := (d.tiles.filter (fun e => !e.2.radio.isEmpty)).foldl (fun d e => d.setTile e.1 { d.tile e.1 with radio := [] }) d
  ((List.range 32).filter (fun i => d.is (actF (LTH_RADIO_TILE_VALID i)))).foldl (fun d i =>
    let t := d.get (actF (LTH_RADIO_TILE_TILE i))
    let l := (d.entryItems true i).filterMap (fun x => d.tickItem x.item)
    if l.isEmpty then d else d.setTile t { d.tile t with radio := l }) d

/-! ### Cuts and misses (R43, R78, R79, R351) -/

/-- A radio tile's item is cut or cannot run: its record (R51), and it is over. -/
def tileItemCut (m : Mem) (d : Dev) (t i : Nat) : Dev :=
  match (d.tile t).radio[i]? with
  | none => d
  | some r =>
    if r.stage ≥ 3 then d
    else if r.stage = 2 then ((radioPost m d t stSLOT_MISS 1 r.tag).radioStage t i 4).radioLeave t
    else (radioPost m d t stSLOT_MISS 0 r.tag).radioStage t i 4

/-- Every uplink burst of a cell ends, and its next Gouge item restarts. -/
def Dev.missUl (d : Dev) (n k reason : Nat) : Dev :=
  let d := d.addMiss n k false reason
  match sfind d.rad.cells n with
  | some r => d.setCell n { r with restart := true }
  | none => d

/-- The slot misses of a radio item that was cut or stopped. -/
def Dev.itemMiss (d : Dev) (r : RItem) : Dev :=
  if r.kind ≤ 2 then r.cells.foldl (fun d n => d.missUl n r.interval rsITEM_CUT) d
  else if r.kind ≤ 4 then r.cells.foldl (fun d n => d.dlMiss n r.interval rsITEM_CUT) d
  else d

/-- What follows a radio item that has ended: outputs move, or its cells miss the interval. -/
def Dev.radioFollow (d : Dev) : Dev :=
  d.tiles.foldl (fun d e =>
    (List.range e.2.radio.length).foldl (fun d i =>
      match (e.2.radio[i]?) with
      | none => d
      | some r =>
        if r.stage = 3 then moveOutputs d e.1 i
        else if r.stage = 4 then (d.itemMiss r).radioStage e.1 i 5
        else d) d) d

/-- RADIO_DEADLINE_CUT. A coding item is there to cut where the cell is PRIMARY, transmits and has a burst to encode, or where its channels receive. -/
def deadlineCutOp (m : Mem) (d : Dev) (u : RadioUnit) : Dev :=
  match u with
  | .tile t i => tileItemCut m d t i
  | .gouge n mod => gougeDeadline m d n mod
  | .coding n dl =>
    match sfind d.rad.cells n with
    | none => d
    | some r =>
      let c := d.cellCfg true n
      let there := if dl then decide (r.first < d.tick) && c.role == 0 && decide (0 < c.tx) && d.codingOpen n true
        else decide (r.first + 3 ≤ d.tick) && c.plan.any (fun x => x.ul)
      if there then codingCut m d n dl 1 else d

/-- Radio items that are still open when the guard begins have passed their DEADLINE (R43, R44): those of the tiles, of the Gouge cores, MOD before
DEMOD, and of the coding engines. The TX_RETURN records of the tick enter behind its other records (R346). -/
def radioGuard (m : Mem) (d : Dev) : Dev :=
  let d := d.tiles.foldl (fun d e => (List.range e.2.radio.length).foldl (fun d i => tileItemCut m d e.1 i) d) d
  let d := d.onAir.foldl (fun d n => gougeDeadline m (gougeDeadline m d n true) n false) d
  let d := d.onAir.foldl (fun d n => [true, false].foldl (fun d dl => if d.codingOpen n dl then codingCut m d n dl 0 else d) d) d
  (d.rad.recs.map (·.1)).foldl (fun d n => flushRecs m d n [3]) d

/-! ### Stopping a cell (R301, R350, R372) -/

/-- Submissions left in the ring of a removed cell are fetched up to PROD and returned. -/
def ringReturn (m : Mem) (n : Nat) : Nat → Dev → Dev
  | 0, d => d
  | fuel + 1, d =>
    let q := 2 * n + 1
    let cons := d.get (RAD_RING_CONS_CONS q)
    if !d.is (RAD_RING_CFG_VALID q) || ringUsed (d.get (RAD_RING_PROD_PROD q)) cons = 0 then d
    else
      let size := 128 * 2 ^ d.get (RAD_RING_CFG_ESIZE q)
      let h := uWords m d (d.get (RAD_RING_BASE_BASE q) * 4096 + cons % 2 ^ d.get (RAD_RING_CFG_ORDER q) * size) 8
      let s : Sub := ⟨h, [], cons, (d.nearTick (wfld h SUBM_START_INTERVAL)).toNat, none⟩
      let d := (d.set (RAD_RING_CONS_CONS q) (cons + 1)).radioVector q
      ringReturn m n fuel (d.txReturn n s stREFUSED_STATE rnCELL_STOPPED)

/-- A cell on air that changes or is removed at boundary F = tick: records up to interval F - 3, bursts in progress ABORTED, submissions
returned. -/
def stopCell (m : Mem) (d : Dev) (n : Nat) (removed : Bool) : Dev :=
  let d := if d.tick < 3 then d else codingUl m d n (d.tick - 3)
  let f := d.goneStreams n stABORTED
  let d := (codingSegs (cutSeg stABORTED) n (d.tick - 3) (f.2.length + 1) f.1 f.2).burstsStop n stABORTED
  let d := { d with rad := { d.rad with rx := d.rad.rx.filter (fun e => e.1 / 640 != n) } }
  let d := d.subsReturn n d.tick rnCELL_STOPPED
  let d := if removed then ringReturn m n (2 ^ d.get (RAD_RING_CFG_ORDER (2 * n + 1))) d else d
  let d := flushRecs m d n [0, 1, 2, 3]
  { d with rad := { d.rad with
      cells := sdel d.rad.cells n
      misses := d.rad.misses.filter (fun x => x.cell != n)
      iq := d.rad.iq.filter (fun x => x.cell != n)
      closed := d.rad.closed.filter (fun x => x.1 != n)
      segs := sdel d.rad.segs n } }

/-! ### Activation (R300, R301, R372) -/

/-- The image of a core in a table, zero words apart. -/
def imageOf (s : SMap W32) (n : Nat) : SMap W32 := s.filter (fun e => e.1 / 65536 == n && e.2 != 0#32)

/-- A cell whose entry, plan and image do not change, ROLE apart. -/
def Dev.cellSame (d : Dev) (n : Nat) : Bool :=
  let norm (c : CellCfg) : CellCfg := { c with role := 0, taps := 0 }
  d.is (actF (RAD_CELL_VALID n)) && decide (norm (d.cellCfg false n) = norm (d.cellCfg true n)) &&
  imageOf d.gimg n == imageOf d.gact n &&
  [GGC_IN_CFG_BASE n, GGC_IN_CFG_SIZE n, GGC_OUT_CFG_BASE n, GGC_OUT_CFG_SIZE n].all (fun f => d.get f == d.get (actF f))

/-- The pending set may become active at this boundary. -/
def Dev.mayActivate (d : Dev) : Bool :=
  d.is RAD_CFG_CTRL_PENDING && d.tick % d.frameTicks == 0 && decide (d.rad.admitTick ≤ d.tick) &&
  (List.range 32).all (fun i => !d.is (LTH_RADIO_TILE_VALID i) || d.entryFree i)

/-- Items of an interval that was missed at the boundary do not run. -/
def Dev.dropMissed (d : Dev) : Dev :=
  d.tiles.foldl (fun d e =>
    if e.2.radio.isEmpty then d
    else
      let f (r : RItem) : RItem :=
        if r.kind ≤ 4 then
          let ul := decide (r.kind ≤ 2)
          let gone (n : Nat) : Bool := match d.missReason n r.interval (!ul) with | some v => v != rsIQ_MISSING | none => false
          { r with cells := r.cells.filter (fun n => !gone n) }
        else r
      d.setTile e.1 { d.tile e.1 with radio := (e.2.radio.map f).filter (fun r => r.kind == 5 || !r.cells.isEmpty) }) d

/-- Chuck 0 of each tile shows the partition that the active set gives it: banks 0 to CHUCK0_BANKS - 1 of a radio tile (R56, R146), none where the tile
leaves the radio set. `was`: the tiles of the set before. -/
def Dev.showRadioParts (d : Dev) (was : List Nat) : Dev :=
  let now := (List.range 32).filterMap (fun i =>
    if d.is (actF (LTH_RADIO_TILE_VALID i)) then some (d.get (actF (LTH_RADIO_TILE_TILE i)), d.get (actF (LTH_RADIO_TILE_CHUCK0_BANKS i))) else none)
  let gone := was.filter (fun t => !now.any (fun e => e.1 == t))
  let d := gone.foldl (fun d t => (d.set (CUB_SEQ_PART_BANKS t 0) 0).set (CUB_SEQ_PART_VALID t 0) 0) d
  now.foldl (fun d e => (d.set (CUB_SEQ_PART_BANKS e.1 0) (2 ^ e.2 - 1)).set (CUB_SEQ_PART_VALID e.1 0) 1) d

/-- CONFIG_ACTIVATE. -/
def configActivateOp (m : Mem) (d : Dev) : Dev :=
  if !d.mayActivate then d
  else
    let now := d.validCells false
    let same := now.filter d.cellSame
    let changed := now.filter (fun n => !same.contains n)
    let air := d.onAir
    let d := (air.filter (fun n => !same.contains n)).foldl (fun d n => stopCell m d n (!now.contains n)) d
    let d := same.foldl (fun d n => d.set (RAD_CELL_ROLE n) (d.get (actF (RAD_CELL_ROLE n)))) d
    let was := (List.range 32).filterMap (fun i =>
      if d.is (actF (LTH_RADIO_TILE_VALID i)) then some (d.get (actF (LTH_RADIO_TILE_TILE i))) else none)
    let d := { d.activateRegs with gact := d.gimg }
    let d := (d.showRadioParts was).set RAD_CFG_CTRL_PENDING 0
    let d := changed.foldl Dev.loadImage d
    let d := ((List.range 32).filter (fun i => d.is (actF (LTH_RADIO_TILE_VALID i)))).foldl Dev.loadMatrices d
    let d := { d with rad := { d.rad with
      loads := changed
      roles := d.rad.roles.filter (fun e => same.contains e.1 || (now.contains e.1 && e.2.2.2)) } }
    let d := d.set GGC_STATUS_LOADING (if changed.isEmpty then 0 else 1)
    let d := (changed.filter (fun n => air.contains n)).foldl (fun d n => d.airCell n d.tick) d
    d.showOnAir.buildRadio.dropMissed

/-! ### Roles (R303, R350, R415-R417) -/

/-- The first frame boundary at least one tick later. -/
def Dev.nextFrame (d : Dev) : Nat := d.frameFrom (d.ticksLater 1)

def Dev.setRole (d : Dev) (n role k : Nat) (takeover : Bool) : Dev :=
  { d with rad := { d.rad with roles := sput d.rad.roles n (role, k, takeover) } }

/-- RAD_ROLE_CMD: refused while a set is pending, for a cell that is not active and valid, and for a reserved role. A PRIMARY cell that software
makes SHADOW relinquishes, naming the boundary. -/
def roleCmdOp (d : Dev) (v : Nat) : Dev :=
  let n := v % 512
  let role := v / 512 % 4
  let d := (d.set RAD_ROLE_CMD_CELL n).set RAD_ROLE_CMD_ROLE role
  if d.is RAD_CFG_CTRL_PENDING || !d.is (actF (RAD_CELL_VALID n)) || role > 1 then d.set RAD_ROLE_CMD_RESULT stREFUSED_STATE
  else
    let d := (d.set RAD_ROLE_CMD_RESULT stOK).setRole n role (d.ticksLater 1) false
    if role = 1 then d.relinquish n d.nextFrame else d

/-- A SHADOW cell takes over (R416): the role changes at B, the partner is told, and the takeover is counted and kept in the journal, UNPROVEN
during a bring-in (R427). -/
def Dev.takeover (d : Dev) (n : Nat) : Dev :=
  let waits := match sfind d.rad.roles n with | some (_, _, tk) => tk | none => false
  if waits then d
  else
    let b := d.nextFrame
    let d := d.setRole n 0 (d.ticksLater 1) true
    let d := (d.sendMsg (d.get (TLS_PAIR_NODE n)) 0x04 n [b]).bump (TLS_SHADOW_STAT_TAKEOVERS n) 1
    let d := d.journalAdd (d.histWords (Config.journalCode 0) (Config.journalCode 1) 0 false noCond 0 0) (d.get (TLS_PAIR_PROBE n) == 1)
    d.event srcTailstock .shadowTakeover [n, b]

/-- The role of a cell changes at frame boundary B = tick. -/
def Dev.roleEffect (d : Dev) (n : Nat) (tk : Bool) : Dev :=
  match sfind d.rad.roles n with
  | none => d
  | some (role, k, t) =>
    if t != tk || d.tick < k || d.tick % d.frameTicks != 0 then d
    else
      let d := { d with rad := { d.rad with roles := sdel d.rad.roles n } }
      let was := d.get (actF (RAD_CELL_ROLE n))
      let d := d.set (actF (RAD_CELL_ROLE n)) role
      let d := if tk && d.is RAD_CFG_CTRL_PENDING then d.set (RAD_CELL_ROLE n) role else d
      if was = role then d
      else if role = 1 then d.subsReturn n d.tick rnROLE
      else
        match sfind d.rad.cells n with
        | some r => d.setCell n { r with since := d.tick }
        | none => d

/-! ### The radio's part of a boundary -/

/-- Misses that the boundary itself shows for a cell on air: a misaligned interval (R84), a tile or a core out of service (R78, R402). -/
def Dev.boundaryMiss (d : Dev) (locked prev : Bool) (n : Nat) : Dev :=
  match sfind d.rad.cells n with
  | none => d
  | some r =>
    let k := d.tick
    let e := d.get (actF (RAD_CELL_TILE_ENTRY n))
    let t := d.get (actF (LTH_RADIO_TILE_TILE e))
    let ul (d : Dev) (q reason : Nat) : Dev := if r.first ≤ q then d.missUl n q reason else d
    let dl (d : Dev) (j reason : Nat) : Dev :=
      if d.get (actF (RAD_CELL_TX_ANT n)) = 0 then d else if r.first + 4 ≤ j then d.dlMiss n j reason else d
    let d := if !(locked && prev) && decide (0 < k) then ul d (k - 1) rsMISALIGNED else d
    let d := if locked then d
      else if d.get (actF (RAD_CELL_TX_ANT n)) = 0 then d else if r.first + 1 ≤ k + 1 then d.dlMiss n (k + 1) rsMISALIGNED else d
    let d := if (d.tileDisabled t || (d.tile t).withheld) && decide (0 < k) then dl (ul d (k - 1) rsITEM_CUT) (k + 2) rsITEM_CUT else d
    if (d.gcore n).off && decide (1 < k) then
      let d := dl (dl (ul (ul d (k - 2) rsITEM_CUT) (k - 1) rsITEM_CUT) (k + 2) rsITEM_CUT) (k + 3) rsITEM_CUT
      -- the core's streams end every burst in progress, as a cut item does (R351)
      let f := d.goneStreams n stSLOT_MISS
      if f.2.isEmpty then d else f.1.addSegs n (k - 2) f.2
    else d

/-- A cell at a boundary: weights written in the last tick come into force (R309), CAL takes effect (R337), submissions are checked again
(R348). -/
def Dev.cellBoundary (d : Dev) (n : Nat) : Dev :=
  let cal := d.get (RAD_RSSI_CAL_CAL0 n) + 65536 * d.get (RAD_RSSI_CAL_CAL1 n)
  let d := { d with rad := { d.rad with cal := sput d.rad.cal n cal } }
  let d := match sfind d.rad.cells n with
    | some r => d.setCell n { r with
        weights := r.wnew.foldl (fun (w : SMap W32) (e : Nat × W32) => sput w e.1 e.2) r.weights, wnew := [] }
    | none => d
  if d.get (actF (RAD_CELL_ROLE n)) = 0 then d.subRecheck n else d

/-- The inputs of the items that a cell's core has in the tick that begins: their release is its boundary (R354, R368). -/
def Dev.gougeInputs (d : Dev) (n : Nat) : Dev :=
  let l := d.gougeList n
  if !d.gougeUp n then d
  else
    let d := if l.1 then d.gougeInput n true else d
    if l.2 then d.gougeInput n false else d

/-- The radio at a tick boundary, after the guard's cuts: what the ended tick leaves, then the new tick's items. -/
def radioBoundary (m : Mem) (d : Dev) (locked prev : Bool) : Dev :=
  let d := d.radioFollow
  let d := { d with gouge := d.gouge.map (fun (e : Nat × GCore) => (e.1, { e.2 with ran := [] }))
                    rad := { d.rad with ceBits := 0, coded := [] } }
  -- a FAULTY core's slot receives no items from this tick on (R402)
  let d := d.onAir.foldl (fun d n => if d.unitFaulty (unitGouge n) then d.setG n { d.gcore n with off := true } else d) d
  let d := (d.rad.recs.map (·.1)).foldl (fun d n => flushRecs m d n [3]) d
  let d := d.onAir.foldl (fun d n => d.boundaryMiss locked prev n) d
  let d := d.onAir.foldl Dev.cellBoundary d
  let d := d.buildRadio.dropMissed
  let d := d.onAir.foldl Dev.gougeInputs d
  let d := freeForRadio m d
  { d with rad := { d.rad with misses := d.rad.misses.filter (fun x => !x.done || decide (d.tick ≤ x.interval + 8)) } }

end Sys2Proof.Machine
end

