-- ==== Sys2Proof/Machine/Prt.lean ====
section
/-!
DEFINITION. Machine/Prt.lean: perturbation and fault injection (R485-R493): the block's writes, its lease, arming and disarming, and the
injection of digests. What a delay does to timing is outside the model; what an injection does stands where its target is.
-/

namespace Sys2Proof.Machine

/-- The fields that a lease clears (R487). -/
def prtDelays : List Fld :=
  [PRT_VCORE_OFS0, PRT_VCORE_OFS1, PRT_FEED_CONFLICT, PRT_MESH_HOP_EXTRA, PRT_MESH_STALL, PRT_STACK_STACKS, PRT_STACK_READ_EXTRA,
    PRT_FABRIC_PORTS, PRT_FABRIC_PKT_EXTRA, PRT_FABRIC_CREDIT_HOLD, PRT_FRONTHAUL_PORTS, PRT_FRONTHAUL_ING_EXTRA]

/-- PRT_STATUS.ACTIVE: EN is 1 and some delay field or offset is nonzero. -/
def Dev.prtActive (d : Dev) : Dev :=
  d.set PRT_STATUS_ACTIVE (if d.is PRT_CTRL_EN && prtDelays.any (fun f => d.get f != 0) then 1 else 0)

def Dev.prtRefused (d : Dev) : Dev := d.set PRT_STATUS_CFG_REFUSED 1

/-- The Tailstock holds the block against this agent (R489). -/
def Dev.prtHeld (d : Dev) (a : Agent) : Bool := d.is PRT_CTRL_HELD && a != .tailstock

/-- The lease counts from the next boundary, where the write takes effect (R487): no boundary has passed since the write. -/
def Dev.leaseFrom (d : Dev) : Dev := { d with fpl := { d.fpl with lease := some 0 } }

/-- LEASE boundaries from the one at which the write took effect have passed. -/
def Dev.leaseOver (d : Dev) : Bool :=
  match d.fpl.lease with
  | some j => d.get PRT_CTRL_LEASE != 0 && decide (d.get PRT_CTRL_LEASE < j)
  | none => false

/-- PRT_CTRL. -/
def prtCtrlOp (d : Dev) (a : Agent) (v : Nat) : Dev :=
  if d.prtHeld a then d.prtRefused
  else ((((d.set PRT_CTRL_EN v).set PRT_CTRL_MASK_INJ (v / 2)).set PRT_CTRL_LEASE (v / 2 ^ 16)).leaseFrom).prtActive

/-- A signed offset as PRT_VCORE holds it: even, clamped to -30 .. 30. -/
def vcoreClamp (b : Nat) : Nat :=
  let s : Int := if b ≥ 128 then (b : Int) - 256 else b
  encInt 8 (max (-30) (min 30 (s / 2 * 2)))

/-- A write of any other PRT register has been made: PRT_VCORE keeps its form. -/
def Dev.prtWritten (d : Dev) : Dev :=
  ((d.set PRT_VCORE_OFS0 (vcoreClamp (d.get PRT_VCORE_OFS0))).set PRT_VCORE_OFS1 (vcoreClamp (d.get PRT_VCORE_OFS1))).prtActive

/-- LEASE_EXPIRY: the last of LEASE boundaries has come. -/
def leaseExpiryOp (d : Dev) : Dev :=
  if !d.leaseOver then d
  else
    let d := prtDelays.foldl (fun d f => d.set f 0) d
    ({ d with fpl := { d.fpl with lease := none } }.set PRT_CTRL_EN 0).set PRT_STATUS_EXPIRED 1 |>.prtActive

/-- Writes the fields of an injection register, or refuses the arming (R491). `fs`: the target fields with their values; `ok`: they lie
in their ranges. -/
def Dev.arm (d : Dev) (a : Agent) (armed : Fld) (arm ok : Bool) (fs : List (Fld × Nat)) : Dev :=
  if d.prtHeld a || (arm && !ok) then d.prtRefused
  else (fs.foldl (fun d fv => d.set fv.1 fv.2) d).set armed (if arm then 1 else 0)

def prtInjEccOp (d : Dev) (a : Agent) (v : Nat) : Dev :=
  let s := v / 2 ^ 41 % 8
  d.arm a PRT_INJ_ECC_ARMED (v.testBit 63) (decide (1 ≤ s) && decide (s ≤ 4))
    [(PRT_INJ_ECC_OFFSET, v % 2 ^ 41 / 128 * 128), (PRT_INJ_ECC_SYMBOLS, s)]

def prtInjChkOp (d : Dev) (a : Agent) (v : Nat) : Dev :=
  d.arm a PRT_INJ_CHK_ARMED (v.testBit 31) (decide (v % 512 ≤ 319))
    [(PRT_INJ_CHK_TILE, v), (PRT_INJ_CHK_CUBE, v / 2 ^ 9), (PRT_INJ_CHK_ROW, v / 2 ^ 12), (PRT_INJ_CHK_LAYER, v / 2 ^ 15),
      (PRT_INJ_CHK_BIT, v / 2 ^ 16), (PRT_INJ_CHK_REPEAT, v / 2 ^ 21)]

def prtInjDigOp (d : Dev) (a : Agent) (v : Nat) : Dev :=
  let was := d.is PRT_INJ_DIG_ARMED
  let d := d.arm a PRT_INJ_DIG_ARMED (v.testBit 31) (v % 8 != 0 && v / 2 ^ 8 % 256 != 0)
    [(PRT_INJ_DIG_KINDS, v), (PRT_INJ_DIG_COUNT, v / 2 ^ 8)]
  if was then d else { d with tls := { d.tls with dig := 0 } }

def prtInjLinkOp (d : Dev) (a : Agent) (v : Nat) : Dev :=
  let was := d.is PRT_INJ_LINK_ARMED
  let d := d.arm a PRT_INJ_LINK_ARMED (v.testBit 31) (decide (v % 16 ≤ 11) && v / 2 ^ 8 % 256 != 0)
    [(PRT_INJ_LINK_PORT, v), (PRT_INJ_LINK_COUNT, v / 2 ^ 8)]
  if was then d else { d with tls := { d.tls with link := 0 } }

/-- R491: an injection whose target is not there is disarmed without FIRED. -/
def Dev.prtDisarm (d : Dev) : Dev :=
  let d := if d.is PRT_INJ_ECC_ARMED && d.get (TMAP_TIER (extOf (d.get PRT_INJ_ECC_OFFSET))) == 0 then d.set PRT_INJ_ECC_ARMED 0 else d
  let d := if d.is PRT_INJ_CHK_ARMED && d.tileDisabled (d.get PRT_INJ_CHK_TILE) then d.set PRT_INJ_CHK_ARMED 0 else d
  if d.is PRT_INJ_LINK_ARMED && d.get (UNL_PORT_STATUS_STATE (d.get PRT_INJ_LINK_PORT)) == 0 then d.set PRT_INJ_LINK_ARMED 0 else d

/-- A digest that this device sends (R492): bit 0 of the next COUNT digests of the kinds selected is inverted. The injection has fired with
the last of them. Kind 0 COMPARE, 1 REPLICA_DIGEST, 2 WIN_DIGEST. -/
def Dev.sentDigest (d : Dev) (kind v : Nat) : Dev × Nat :=
  if d.is PRT_INJ_DIG_ARMED && (d.get PRT_INJ_DIG_KINDS).testBit kind then
    let n := d.tls.dig + 1
    let d := { d with tls := { d.tls with dig := n } }
    let d := if n ≥ d.get PRT_INJ_DIG_COUNT then (d.set PRT_INJ_DIG_ARMED 0).set PRT_STATUS_FIRED_DIG 1 else d
    (d, v ^^^ 1)
  else (d, v)

end Sys2Proof.Machine
end

