-- ==== Sys2Proof/Machine/Tailstock.lean ====
section
/-!
DEFINITION. Machine/Tailstock.lean: errors contained by chip reset, in-field tests and retests (R405, R408, R489), messages between Tailstocks
(R410-R417), replicas (R419, R420), collective windows (R422, R423), stragglers (R424) and bring-ins (R426), with the Tailstock's
part of a tick boundary.
-/

namespace Sys2Proof.Machine

/-! ### Errors contained by chip reset (R24, R27, R145) -/

/-- A confirmed detection that is contained by chip reset. -/
def Dev.fatal (d : Dev) (unit dkind : Nat) (kind : EvKind) (cause : ResetCause) (detail : Nat) : Dev :=
  ((d.report { unit := unit, confirmed := true, dkind := dkind, detail := detail }).event srcTailstock kind [unit, detail]).contain cause
    unit detail

/-- MESH_DOUBLE_BIT_ERROR (R24). A corrected flit is logged to the Tailstock as an event record of the Tailstock's source with the router's die, row
and column; the spec gives neither source nor form (DESIGN CHOICE, log 181). -/
def meshDoubleOp (d : Dev) (die row pcol : Nat) (single : Bool) : Dev :=
  if single then d.event srcTailstock .meshCorrected [die, row, pcol] else d.fatal (unitTile die row pcol) 0x10 .containment .meshDouble 0
def sramDoubleOp (d : Dev) (t bank : Nat) (single : Bool) : Dev :=
  if single then d.sramCorrected t bank else d.fatal (d.tileUnit t) 0x10 .sramDouble .sramDouble bank
def dieLinkOp (d : Dev) (l : Nat) : Dev := d.fatal (unitLink l) 0x14 .containment .dieLink 0

/-- The Tailstock acts (R398). -/
def Dev.tlsRuns (d : Dev) : Bool := d.is TLS_STATUS_RUNNING && !d.is TLS_STATUS_HALTED

/-! ### Tests and retests (R405, R408, R489) -/

/-- The die whose set-point a conditioned retest moves: 0, 1 a C-die, 2 none. -/
def unitDie (u : Nat) : Nat := min 2 (unitSensor u)

/-- A unit of a kind that the Tailstock tests in the field now, and whether the test must wait for its cell (R408). -/
def Dev.testWaits (d : Dev) (u : Nat) : Bool :=
  unitKind u == 3 && (sfind d.rad.cells (u % 512)).isSome && d.get (actF (RAD_CELL_ROLE (u % 512))) == 0

def Dev.testable (d : Dev) (u : Nat) : Bool :=
  match unitKind u with
  | 1 => (d.logicalOf u).isSome
  | 2 => (d.logicalOf u).isSome
  | 3 => true
  | 4 => true
  | 6 => if 4 ≤ u % 16 then d.get (UNL_PORT_STATUS_STATE (u % 16 - 4)) == 0 else !d.is (RAD_PORT_CFG_UP (u % 16))
  | _ => false

/-- The boundary that a test waits for: a tile's withheld tick, or a Gouge core's tick with no items. -/
def Dev.testAsk (d : Dev) (u : Nat) : Option Nat :=
  match unitKind u with
  | 1 => d.logicalOf u
  | 2 => d.logicalOf u
  | 3 => some (320 + u % 512)
  | _ => none

/-- The test of a unit waits for its boundary; a retest goes before the sweep tests that wait (R408). -/
def Dev.askTest (d : Dev) (u : Nat) : Dev :=
  match d.testAsk u with
  | some t =>
    let sweeps := d.tls.asks.filter (fun a => decide (a < 320) && (d.unit (d.tileUnit a)).test == 1 && a != t)
    let rest := d.tls.asks.filter (fun a => !sweeps.contains a && a != t)
    let l := if (d.unit u).test = 2 then rest ++ [t] ++ sweeps else rest ++ sweeps ++ [t]
    if d.tls.asks.contains t && (d.unit u).test != 2 then d else { d with tls := { d.tls with asks := l } }
  | none => d

/-- PRT_VCORE.OFS of a C-die. -/
def prtOfs (die : Nat) : Fld := if die = 0 then PRT_VCORE_OFS0 else PRT_VCORE_OFS1

/-- Sets the perturbation registers for one recorded set (R489 steps 1 and 2), keeping what they held. The answer says whether the offset was
clamped. -/
def Dev.prtHold (d : Dev) (u : Nat) (c : Cond) : Dev × Bool :=
  let die := unitDie u
  let other := (d.tls.holds.head?).map (·.2)
  let h : PrtHold := { unit := u, ofs0 := d.get PRT_VCORE_OFS0, ofs1 := d.get PRT_VCORE_OFS1
                       en := match other with | some o => o.en | none => d.get PRT_CTRL_EN
                       lease := match other with | some o => o.lease | none => d.get PRT_CTRL_LEASE
                       load := match other with | some o => o.load | none => d.get PRT_LOAD_SIG
                       sig := c.load }
  let d := { d with tls := { d.tls with holds := sput d.tls.holds die h } }
  let want : Int := ((c.mv : Int) - (Config.sensor d.free % 65536 : Nat)) / 2 * 2
  let ofs := max (-30) (min 30 want)
  let d := { d with free := d.free + 1 }
  let d := if die < 2 then d.set (prtOfs die) (encInt 8 ofs) else d
  let d := ((d.set PRT_LOAD_SIG c.load).set PRT_CTRL_HELD 1).set PRT_CTRL_EN 1
  (((d.set PRT_CTRL_LEASE Config.tlsLease).leaseFrom).prtActive, decide (die < 2) && ofs != want)

/-- The end of a conditioned retest: the values that stood before it return, and the Tailstock sets a lease of its own. -/
def Dev.prtRelease (d : Dev) (u : Nat) : Dev :=
  let die := unitDie u
  match sfind d.tls.holds die with
  | none => d
  | some h =>
    if h.unit ≠ u then d
    else
      let d := { d with tls := { d.tls with holds := sdel d.tls.holds die } }
      let d := if die < 2 then d.set (prtOfs die) (if die = 0 then h.ofs0 else h.ofs1) else d
      let d := if d.tls.holds.isEmpty then ((d.set PRT_CTRL_HELD 0).set PRT_CTRL_EN h.en).set PRT_LOAD_SIG h.load
        else match d.tls.holds.head? with
          | some o => d.set PRT_LOAD_SIG o.2.sig
          | none => d
      (((d.set PRT_CTRL_LEASE Config.tlsLease).leaseFrom).prtActive)

/-- The die's temperature lies within TEMP_TOL of a recorded set (R405). -/
def Dev.nearTemp (d : Dev) (u : Nat) (c : Cond) : Bool := decide ((d.dieTemp u - c.temp).natAbs ≤ d.get TLS_TEST_CFG_TEMP_TOL)

/-- A retest that waits for its temperature (R405): it runs when the die has reached it, or when the wait is over, then marked COND_PARTIAL. -/
def Dev.retestTry (d : Dev) (u : Nat) (ended : Bool) : Dev :=
  let r := d.unit u
  match r.wait with
  | none => d
  | some _ =>
    let near := d.nearTemp u (r.left.headD noCond)
    let d : Dev := { d with free := d.free + 1 }
    if near || ended then (d.setUnit u { r with wait := none, test := 2, part := r.part || !near }).askTest u else d

/-- RETEST_START: the next recorded set of a unit whose retest is due: the perturbation registers are set, and the retest runs once the
temperature is reached (R405, R489). Another conditioned retest on the die, or an on-air PRIMARY cell, makes it wait (BLOCKED). The
retests that the power-up left come before any other (R407). -/
def retestOp (d : Dev) (u : Nat) : Dev :=
  let r := d.unit u
  if !d.tlsRuns || !r.due || r.test ≠ 0 || r.wait.isSome || !d.testable u then d
  else
    match r.left with
    | [] => d
    | c :: _ =>
      if !r.first && d.tls.units.any (fun e => e.2.first && d.testable e.1) then d
      else if (sfind d.tls.holds (unitDie u)).isSome || d.testWaits u then d.setUnit u { r with blocked := true, first := false }
      else
        let h := d.prtHold u c
        (h.1.setUnit u { r with wait := some (d.get TLS_POS_POS), blocked := false, first := false, part := r.part || h.2 }).retestTry u false

/-- RETEST_WAIT_EXPIRY: RETEST_WAIT hours have passed since the retest began to wait (R405). -/
def retestOverOp (d : Dev) (u : Nat) : Dev :=
  match (d.unit u).wait with
  | some pos => if d.tlsRuns && decide (pos + 3600 * d.get TLS_TEST_CFG_RETEST_WAIT ≤ d.get TLS_POS_POS) then d.retestTry u true else d
  | none => d

/-- The Tailstock watches the temperatures while retests wait, and gives the perturbation registers back when a unit's retest has ended otherwise
(a detection has made it FAULTY). -/
def Dev.retestWatch (d : Dev) : Dev :=
  let d := (d.tls.holds.filter (fun e => (d.unit e.2.unit).test != 2 && (d.unit e.2.unit).wait.isNone)).foldl (fun d e => d.prtRelease e.2.unit) d
  (d.tls.units.filter (fun e => e.2.wait.isSome)).foldl (fun d e => d.retestTry e.1 false) d

/-! ### The load of a retest (R490) -/

/-- Busy cycles of a logical tile's list in this tick. -/
def Dev.listBusy (d : Dev) (t : Nat) : Nat := listCycles (d.tile t).list

/-- Tiles of a die that can take filler items during the test of a unit. -/
def Dev.fillTiles (d : Dev) (die u : Nat) : List Nat :=
  if die ≥ 2 then []
  else ((List.range 160).map (fun i => die * 160 + i)).filter (fun t =>
    !d.tileDisabled t && !(d.tile t).withheld && d.logicalOf u != some t)

/-- Filler items on the tiles of a list until `need` cycles are placed, each in the inference cycles that the tick's list has left free. -/
def Dev.fillers (d : Dev) (need : Nat) : List Nat → SMap Nat
  | [] => []
  | t :: ts =>
    let n := min need (d.inferCycles t - d.listBusy t)
    if n = 0 then d.fillers need ts else (t, n) :: d.fillers (need - n) ts

/-- What the Lathe does in this tick for the conditioned retest of a die (R490): PRT_LOAD.SIG has UNIT_BUSY in [7:0], FMT_A in [11:8], FMT_B in
[15:12], PREEMPT in [16] and DIE_BUSY in [24:17] (R404). -/
def Dev.testLoad (d : Dev) (die : Nat) (h : PrtHold) : TestLoad :=
  let s := d.get PRT_LOAD_SIG
  let ts := d.fillTiles die h.unit
  let fill := d.fillers (s / 2 ^ 17 % 256 * d.tickCycles * ts.length / 100 - (ts.map d.listBusy).sum) ts
  { unit := h.unit, cycles := s % 256 * d.tickCycles / 100, formats := [(s / 2 ^ 8 % 16, s / 2 ^ 12 % 16)]
    preempt := if s.testBit 16 then some 4096 else none
    fill := fill
    share := ((ts.map d.listBusy).sum + (fill.map (·.2)).sum) * 100 / max 1 (d.tickCycles * ts.length) }

/-- The loads of a tick, once its lists have been built: while HELD is 1, one for each conditioned retest. -/
def Dev.testLoads (d : Dev) : Dev :=
  { d with tls := { d.tls with loads := if d.is PRT_CTRL_HELD then d.tls.holds.map (fun e => (e.1, d.testLoad e.1 e.2)) else [] } }

/-- SWEEP_TEST_DUE: the next tile in ascending logical order. A tile whose retest is due is tested by that. The retests that the power-up left
run first (R407). -/
def sweepOp (d : Dev) : Dev :=
  if !d.tlsRuns || !d.is TLS_CTRL_AUTO_TEST || d.tls.units.any (fun e => e.2.first && d.testable e.1) then d
  else
    match ((List.range 320).map (fun i => (d.tls.sweep + i) % 320)).find? (fun t => !d.tileDisabled t) with
    | none => d
    | some t =>
      let d := { d with tls := { d.tls with sweep := (t + 1) % 320 } }
      let u := d.tileUnit t
      let r := d.unit u
      if r.due ∨ r.test ≠ 0 then d else (d.setUnit u { r with test := 1 }).askTest u

/-- The logical tile of a cover whose own physical tile holds a unit (a tile or one of its MAC rows, R192). -/
def Dev.unitOfCover (d : Dev) (u : Nat) : Option Nat :=
  if unitKind u ≠ 1 ∧ unitKind u ≠ 2 then none
  else match sfind d.tls.covers (unitTileRow u) with
    | some (t, true) => if unitPcol u = t % 20 then some t else none
    | _ => none

/-- A unit's test waits for its tick. -/
def Dev.testPending (d : Dev) (u : Nat) : Bool := match d.testAsk u with | some t => d.tls.asks.contains t | none => false

/-- The result of a test that has had its tick. -/
def Dev.testResult (d : Dev) (u : Nat) (pass : Bool) : Dev :=
  let r := d.unit u
  if r.test = 1 then
    let d := d.record u (if pass then 2 else 3) 0 false noCond 0 0 false
    let d := d.setUnit u { r with test := 0 }
    if pass then d else d.unitFails u 0 noCond 0 0
  else
    let c := r.left.headD noCond
    let busy := match sfind d.tls.loads (unitDie u) with | some x => x.share | none => 0
    let part := r.part || (decide (unitDie u < 2) && decide (busy + 5 < c.load / 2 ^ 17 % 256))
    let d := d.prtRelease u
    let d := d.record u (if pass then 2 else 3) 0 part c 0 0 false
    let d := d.event srcTailstock .retestResult [u, if pass then 0 else 1]
    if !pass then (d.setUnit u { r with test := 0 }).unitFails u 0 c 0 0
    else if r.left.length ≤ 1 then d.setUnit u r.healthy
    else d.setUnit u { r with test := 0, part := false, left := r.left.drop 1 }

/-- UNIT_TEST_DONE: a test that has had its tick ends. Its result waits while the Tailstock restarts (R409). -/
def testDoneOp (d : Dev) (u : Nat) (pass : Bool) : Dev :=
  if (d.unit u).test = 0 || d.testPending u then d
  else
    let d := if !pass && (d.unitOfCover u).isSome then
        { d with tls := { d.tls with coverFail := d.tls.coverFail ++ (d.unitOfCover u).toList } } else d
    if d.tlsRuns then d.testResult u pass
    else if d.is TLS_STATUS_HALTED || d.tls.results.any (fun x => x.1 == u) then d
    else { d with tls := { d.tls with results := d.tls.results ++ [(u, pass)] } }

/-- TAILSTOCK_RESTART_DONE: the core runs again; it takes the results that wait, and a test without a result is repeated (R409). -/
def restartDoneOp (d : Dev) : Dev :=
  if d.is TLS_STATUS_HALTED || d.tls.wdogT.isEmpty || d.is TLS_STATUS_RUNNING then d
  else
    let rs := d.tls.results
    let d := { d with tls := { d.tls with results := [] } }.set TLS_STATUS_RUNNING 1
    let d := rs.foldl (fun d x => d.testResult x.1 x.2) d
    (d.tls.units.filter (fun e => e.2.test != 0)).foldl (fun d e => d.askTest e.1) d

/-- Gouge cores whose test waits for this boundary get one tick without items; their cells' next items start with RESTART. The test of a core
whose cell has become an on-air PRIMARY goes on waiting, and BLOCKED shows it (R408). -/
def Dev.gougeTests (d : Dev) : Dev :=
  let as := d.tls.asks.filter (fun a => decide (320 ≤ a))
  let go := as.filter (fun a => !d.testWaits (unitGouge (a - 320)))
  let d := as.foldl (fun d a => d.setUnit (unitGouge (a - 320)) { d.unit (unitGouge (a - 320)) with blocked := !go.contains a }) d
  go.foldl (fun d a =>
    let n := a - 320
    let d := { d with gouge := sput d.gouge n { d.gcore n with ran := [true, false] } }
    match sfind d.rad.cells n with
    | some r => d.setCell n { r with restart := true }
    | none => d) { d with tls := { d.tls with asks := d.tls.asks.filter (fun a => !go.contains a) } }

/-- POS_SAVE (R403). -/
def posSaveOp (d : Dev) : Dev :=
  if d.tlsRuns then { d with fpl := { d.fpl with flash := { d.fpl.flash with pos := d.get TLS_POS_POS }.append } } else d

/-! ### Messages (R413) -/

/-- The pair that a message of a node about its cell slot concerns. -/
def Dev.pairOf (d : Dev) (node slot : Nat) : Option Nat :=
  (List.range 512).find? (fun n => d.is (TLS_PAIR_VALID n) && d.get (TLS_PAIR_NODE n) == node && d.get (TLS_PAIR_SLOT n) == slot)

/-- The cell of a pair is configured. -/
def Dev.paired (d : Dev) (n : Nat) : Bool := d.is (TLS_PAIR_VALID n) && d.is (actF (RAD_CELL_VALID n))

def Dev.sendHello (d : Dev) (n : Nat) : Dev :=
  ({ d with tls := { d.tls with hello := n :: d.tls.hello } } : Dev).sendMsg (d.get (TLS_PAIR_NODE n)) 0x01 n [d.replayClass]

/-- HELLO (R410). -/
def helloIn (d : Dev) (pk : Packet) : Dev :=
  match d.pairOf (pkf pk PKT_SRC) (msgIndex pk) with
  | none => d
  | some n =>
    let d := d.set (TLS_PAIR_CLASS_DIFF n) (if msgField pk 0 = d.replayClass then 0 else 1)
    if d.tls.hello.contains n then d else d.sendHello n

/-! ### Shadow comparison (R411-R414) -/

def Dev.probe (d : Dev) (n : Nat) : Probe := sget d.tls.probes n {}
def Dev.setProbe (d : Dev) (n : Nat) (x : Probe) : Dev := { d with tls := { d.tls with probes := sput d.tls.probes n x } }

/-- An unconfirmed detection that the Tailstock makes itself. -/
def Dev.suspect (d : Dev) (unit dkind : Nat) : Dev := d.detected { unit := unit, confirmed := false, dkind := dkind }

/-- Outcome of one entry: equal digests, or a mismatch with its record and its three unconfirmed detections (R414). -/
def Dev.compared (d : Dev) (n : Nat) (own : CmpEnt) (other : Nat) : Dev :=
  let p := d.probe n
  if own.digest = other then
    let d := d.bump (TLS_SHADOW_STAT_MATCH n) 1
    if d.get (TLS_PAIR_PROBE n) = 1 then d.setProbe n { p with good := p.good + 1 } else d
  else
    let d := d.bump (TLS_SHADOW_STAT_MISMATCH n) 1
    let d := if d.get (TLS_PAIR_PROBE n) = 1 then d.setProbe n { p with bad := p.bad + 1 } else d
    let d := d.event srcTailstock .shadowMismatch [stDIGEST_MISMATCH, n, own.key.1, own.key.2.1, own.key.2.2]
    let t := d.get (actF (LTH_RADIO_TILE_TILE (d.get (actF (RAD_CELL_TILE_ENTRY n)))))
    ((d.suspect (d.tileUnit t) 0x11).suspect (unitGouge n) 0x11).suspect (unitEngine own.engine) 0x11

/-- One entry of this device is matched against the partner's, or waits. -/
def Dev.ownEntry (d : Dev) (n : Nat) (e : CmpEnt) : Dev :=
  let l := sget d.tls.theirs n []
  match l.find? (fun x => x.key == e.key) with
  | some x => ({ d with tls := { d.tls with theirs := sput d.tls.theirs n (l.erase x) } } : Dev).compared n e x.digest
  | none => { d with tls := { d.tls with mine := sput d.tls.mine n (sget d.tls.mine n [] ++ [e]) } }

/-- One entry of the partner. -/
def Dev.theirEntry (d : Dev) (n : Nat) (e : CmpEnt) : Dev :=
  let l := sget d.tls.mine n []
  match l.find? (fun x => x.key == e.key) with
  | some x => ({ d with tls := { d.tls with mine := sput d.tls.mine n (l.erase x) } } : Dev).compared n x e.digest
  | none => { d with tls := { d.tls with theirs := sput d.tls.theirs n (sget d.tls.theirs n [] ++ [e]) } }

/-- Payload of a COMPARE: tick, ROLE, count, LAST, entries of 16 bytes (R413). -/
def comparePayload (slot role tick : Nat) (last : Bool) (es : List (Nat × Nat)) : List Byte :=
  bytesLE 8 (0x02 + role * 2 ^ 8 + es.length * 2 ^ 10 + (if last then 2 ^ 14 else 0) + slot * 2 ^ 16) ++ bytesLE 8 tick ++
  es.flatMap (fun e => bytesLE 8 e.1 ++ bytesLE 8 e.2)

/-- Messages of at most eight entries; no entry gives one empty message. -/
def groupsOf8 : Nat → List (Nat × Nat) → List (List (Nat × Nat))
  | 0, _ => []
  | n + 1, l => if l.length ≤ 8 then [l] else l.take 8 :: groupsOf8 n (l.drop 8)

/-- COMPARE_SEND (R411) for one pair. Unequal classes stop the comparison and leave the heartbeat (R410). -/
def Dev.compareSend (d : Dev) (n : Nat) : Dev :=
  if !d.paired n then d
  else
    let ws := if d.is (TLS_PAIR_CLASS_DIFF n) then [] else (d.rad.digests.filter (fun e => e.1 == n)).map (·.2)
    let r := ws.foldl (fun (r : Dev × List (Nat × Nat)) (w : Words) =>
      let f (i : Nat) : Nat := (w.getD i 0#64).toNat
      let e : CmpEnt := { key := (f 0, f 1, f 2), digest := f 3, tick := r.1.get LTH_TICK_COUNT_COUNT
                          engine := f 4 }
      let d := r.1.ownEntry n e
      let s := d.sentDigest 0 (f 3)
      (s.1, r.2 ++ [(f 0 + f 1 * 2 ^ 9 + f 2 * 2 ^ 32, s.2)])) (d, [])
    let gs := groupsOf8 (r.2.length + 1) r.2
    let role := d.get (actF (RAD_CELL_ROLE n))
    ((List.range gs.length).foldl (fun d i =>
      d.sendMgmt (d.get (TLS_PAIR_NODE n)) opMGMT_MSG
        (comparePayload n role (d.get LTH_TICK_COUNT_COUNT) (i + 1 == gs.length) (gs.getD i []))) r.1)

/-- COMPARE (R412): the heartbeat, and the partner's entries. -/
def compareIn (d : Dev) (pk : Packet) : Dev :=
  match d.pairOf (pkf pk PKT_SRC) (msgIndex pk) with
  | none => d
  | some n =>
    let tick := d.get LTH_TICK_COUNT_COUNT
    let d := { d with tls := { d.tls with heard := sput d.tls.heard n tick, silent := d.tls.silent.filter (· != n) } }.set
      (TLS_PAIR_HEARD n) 1
    if d.is (TLS_PAIR_CLASS_DIFF n) then d
    else
      let count := leNat (pk.payload.take 8) / 2 ^ 10 % 16
      (List.range (min 8 count)).foldl (fun d i =>
        let a := leNat ((pk.payload.drop (16 + 16 * i)).take 8)
        let g := leNat ((pk.payload.drop (24 + 16 * i)).take 8)
        d.theirEntry n { key := (a % 2 ^ 9, a / 2 ^ 9 % 2, a / 2 ^ 32), digest := g, tick := tick, engine := 0 }) d

/-- MATCH_WAIT_EXPIRY (R412): entries that have waited MATCH_WAIT ticks for the other side count ONE_SIDED. -/
def matchWaitOp (d : Dev) (n : Nat) : Dev :=
  if !d.tlsRuns then d
  else
    let wait := d.get TLS_SHADOW_CFG_MATCH_WAIT
    let old (e : CmpEnt) : Bool := decide (e.tick + wait ≤ d.get LTH_TICK_COUNT_COUNT)
    let a := sget d.tls.mine n []
    let b := sget d.tls.theirs n []
    let k := (a.filter old).length + (b.filter old).length
    if k = 0 then d
    else
      let d := { d with tls := { d.tls with mine := sput d.tls.mine n (a.filter (fun e => !old e))
                                            theirs := sput d.tls.theirs n (b.filter (fun e => !old e)) } }
      d.bump (TLS_SHADOW_STAT_ONE_SIDED n) k

/-! ### Takeovers (R415-R417) -/

/-- A trigger for a cell that is SHADOW and on air; `least`: the lowest MODE that takes over. -/
def Dev.trigger (d : Dev) (n least : Nat) (kind : EvKind) : Dev :=
  if !d.paired n || d.get (actF (RAD_CELL_ROLE n)) != 1 then d
  else if d.get TLS_SHADOW_CFG_MODE ≥ least && (sfind d.rad.cells n).isSome then d.takeover n
  else d.event srcTailstock kind [n]

def relinquishIn (d : Dev) (pk : Packet) : Dev :=
  match d.pairOf (pkf pk PKT_SRC) (msgIndex pk) with
  | none => d
  | some n => d.trigger n 1 .relinquish

/-- A new generation of a partner's node (R252): the trigger of R415, and the next boundary makes contact anew (R410). -/
def genTriggers (old d : Dev) (node : Nat) : Dev :=
  if old.genOf node = 0 || old.genOf node == d.genOf node || !d.tlsRuns then d
  else ((List.range 512).filter (fun n => d.is (TLS_PAIR_VALID n) && d.get (TLS_PAIR_NODE n) == node)).foldl
    (fun d n => ({ d with tls := { d.tls with hello := d.tls.hello.filter (· != n) } } : Dev).trigger n 1 .missTicks) d

/-- The partner of a pair has been silent for MISS_TICKS ticks. -/
def Dev.partnerSilent (d : Dev) (n : Nat) : Bool :=
  match sfind d.tls.heard n with
  | some t => decide (t + max 1 (d.get TLS_SHADOW_CFG_MISS_TICKS) ≤ d.get LTH_TICK_COUNT_COUNT)
  | none => false

/-- MISS_TICKS_EXPIRY (R415): reported once for each silence. -/
def missTicksOp (d : Dev) (n : Nat) : Dev :=
  if !d.tlsRuns || !d.is (TLS_PAIR_VALID n) || !d.partnerSilent n || d.tls.silent.contains n then d
  else ({ d with tls := { d.tls with silent := n :: d.tls.silent } }.set (TLS_PAIR_HEARD n) 0).trigger n 2 .missTicks

/-- TAKEOVER (R416): a PRIMARY cell becomes SHADOW at B, or at the next frame boundary. -/
def takeoverIn (d : Dev) (pk : Packet) : Dev :=
  match d.pairOf (pkf pk PKT_SRC) (msgIndex pk) with
  | none => d
  | some n =>
    if d.paired n && d.get (actF (RAD_CELL_ROLE n)) == 0 then d.setRole n 1 (max (msgField pk 0) (d.ticksLater 1)) false else d

/-! ### Replicas (R419, R420) -/

/-- Peers in force of a replica entry, as (index, node). -/
def Dev.replicaPeers (d : Dev) (r : Nat) : List (Nat × Nat) :=
  ((List.range 3).filter (fun i => (d.get (TLS_REPLICA_PEER_VALID r)).testBit i)).map (fun i =>
    (i, d.get (TLS_REPLICA_PEERS r) / 2 ^ (16 * i) % 65536))

/-- The mark of a peer that is expelled, in place of its REF_DIGEST. -/
def refExpelled : Nat := 2 ^ 64

def Dev.setRound (d : Dev) (k : Nat) (v : Nat × Nat × Nat) : Dev := { d with tls := { d.tls with rounds := sput d.tls.rounds k v } }

def Dev.replicaTell (d : Dev) (r dg : Nat) (expelled : Bool) : Dev :=
  (d.replicaPeers r).foldl (fun d p =>
    let s := d.sentDigest 1 dg
    s.1.sendMsg p.2 0x05 r [d.get (TLS_REPLICA_GROUP r), d.get (TLS_REPLICA_ROUND r), s.2,
      d.get (OBJ_REF_DIGEST (d.get (TLS_REPLICA_OBJECT r))), if expelled then 1 else 0]) d

/-- CRC64 of an extent's bytes. -/
def extentCrc (m : Mem) (d : Dev) (x : Nat) : Nat := crc64 (fun i => (uByte m d (x * 1048576 + i)).toNat) 1048576

/-- This member expels itself: it tells its peers and re-fetches every extent of the object from its origin. -/
def expelSelf (m : Mem) (d : Dev) (r : Nat) : Dev :=
  let o := d.get (TLS_REPLICA_OBJECT r)
  let d := (d.set (TLS_REPLICA_STATE r) 1).replicaTell r (d.get (TLS_REPLICA_LAST r)) true
  let d := (d.record (Config.journalCode 4) 7 0x11 false noCond 0 0 false).event srcTailstock .replicaExpelled [r]
  let xs := (d.objExts o).filter (fun x => d.hasOrigin x && (d.get (TMAP_TIER x) == 1 || d.get (TMAP_TIER x) == 2))
  xs.foldl (fun d x =>
    let d := (scanLines m d (x * 1048576) 8192).1
    let d := { d with tls := { d.tls with crcs := sput d.tls.crcs x (extentCrc m d x) } }
    if d.is (TMAP_REFETCH x) then d
    else { d.set (TMAP_REFETCH x) 1 with mem := { d.mem with refetch := d.mem.refetch ++ [(x, 0)] } }) d

/-- A round in which this member's digest stands: probation goes on, and a bring-in counts it. -/
def Dev.replicaMatch (d : Dev) (r : Nat) : Dev :=
  let n := sget d.tls.matched r 0 + 1
  let d := { d with tls := { d.tls with
    matched := sput d.tls.matched r n
    stage := if d.onTrial then (d.tls.stage.1, d.tls.stage.2.1 + 1, d.tls.stage.2.2) else d.tls.stage } }
  if d.get (TLS_REPLICA_STATE r) = 2 ∧ d.get TLS_PROBE_CFG_PROBE_ROUNDS ≤ n then d.set (TLS_REPLICA_STATE r) 0 else d

def Dev.stageBad (d : Dev) : Dev :=
  if !d.onTrial then d
  else { d with tls := { d.tls with stage := (d.tls.stage.1, d.tls.stage.2.1, d.tls.stage.2.2 + 1) } }

/-- R420: compares once the latest round of every member is held. -/
def replicaEval (m : Mem) (d : Dev) (r : Nat) : Dev :=
  let ks := (r * 4 + 3) :: (d.replicaPeers r).map (fun p => r * 4 + p.1)
  let got := ks.map (fun k => (k, sfind d.tls.rounds k))
  if got.any (fun e => e.2.isNone) || d.get (TLS_REPLICA_STATE r) == 1 then d
  else
    let all := got.filterMap (fun e => e.2.map (fun (v : Nat × Nat × Nat) => (e.1, v.2.1, v.2.2)))
    let live := all.filter (fun e => e.2.2 != refExpelled)
    let d := { d with tls := { d.tls with rounds := d.tls.rounds.filter (fun e => e.1 / 4 != r || e.2.2.2 == refExpelled) } }
    match live with
    | [] => d
    | own :: rest =>
      if rest.any (fun e => e.2.2 != own.2.2) then d.set (TLS_REPLICA_STATE r) 3
      else
        let votes (v : Nat) : Nat := (live.filter (fun e => e.2.1 == v)).length
        match live.find? (fun e => decide (live.length < 2 * votes e.2.1)) with
        | some w =>
          if live.length ≥ 3 then
            let d := rest.foldl (fun d e => if e.2.1 = w.2.1 then d else d.setRound e.1 (0, e.2.1, refExpelled)) d
            if own.2.1 = w.2.1 then d.replicaMatch r else expelSelf m d.stageBad r
          else if rest.isEmpty then d
          else if own.2.1 = own.2.2 then d.replicaMatch r else expelSelf m d.stageBad r
        | none => if own.2.1 = own.2.2 then d.stageBad else expelSelf m d.stageBad r

/-- The digest of a round (R419), formed as DIGEST forms it: while a line waits for a re-fetch the round waits with it (R245); a poisoned line gives
no digest. -/
def replicaTake (m : Mem) (d : Dev) (r : Nat) : Dev :=
    let o := d.get (TLS_REPLICA_OBJECT r)
    let s := digestScan m { d with tls := { d.tls with roundWait := d.tls.roundWait.filter (· != r) } } o
    match s.2 with
    | .ok =>
      let dg := objDigest m s.1 o
      let k := (s.1.get (TLS_REPLICA_ROUND r) + 1) % 2 ^ 32
      let d := ((s.1.set (TLS_REPLICA_ROUND r) k).set (TLS_REPLICA_LAST r) dg).replicaTell r dg false
      replicaEval m (d.setRound (r * 4 + 3) (k, dg, d.get (OBJ_REF_DIGEST o))) r
    | .held => { s.1 with tls := { s.1.tls with roundWait := s.1.tls.roundWait ++ [r] } }
    | _ => s.1

/-- REPLICA_ROUND (R419): at every N-th step of the profile. -/
def replicaRoundOp (m : Mem) (d : Dev) (r : Nat) : Dev :=
  if !d.tlsRuns || decide (r ≥ 64) || !d.is (TLS_REPLICA_VALID r) || d.get (TLS_REPLICA_STATE r) == 1 || d.tls.roundWait.contains r ||
     decide (sget d.tls.steps r 0 < d.get (TLS_REPLICA_N r) + 1) then d
  else
    replicaTake m { d with tls := { d.tls with steps := sput d.tls.steps r (sget d.tls.steps r 0 - (d.get (TLS_REPLICA_N r) + 1)) } } r

/-- Rounds that waited for a re-fetch go on. -/
def replicaGoOn (m : Mem) (d : Dev) : Dev :=
  d.tls.roundWait.foldl (fun d r => if d.is (TLS_REPLICA_VALID r) && d.get (TLS_REPLICA_STATE r) != 1 then replicaTake m d r
    else { d with tls := { d.tls with roundWait := d.tls.roundWait.filter (· != r) } }) d

/-- A step of a profile has ended on this device. -/
def Dev.replicaStep (d : Dev) (prof : Nat) : Dev :=
  ((List.range 64).filter (fun r => d.is (TLS_REPLICA_VALID r) && d.get (TLS_REPLICA_PROFILE r) == prof)).foldl (fun d r =>
    { d with tls := { d.tls with steps := sput d.tls.steps r (sget d.tls.steps r 0 + 1) } }) d

/-- REPLICA_DIGEST (R420): from a peer of an entry of the group. -/
def replicaIn (m : Mem) (d : Dev) (pk : Packet) : Dev :=
  let src := pkf pk PKT_SRC
  ((List.range 64).filter (fun r => d.is (TLS_REPLICA_VALID r) && d.get (TLS_REPLICA_GROUP r) == msgField pk 0)).foldl (fun d r =>
    match (d.replicaPeers r).find? (fun p => p.2 == src) with
    | none => d
    | some p =>
      let ref := if msgField pk 4 % 2 = 1 then refExpelled else msgField pk 3
      replicaEval m (d.setRound (r * 4 + p.1) (msgField pk 1, msgField pk 2, ref)) r) d

/-- What follows the re-fetch of one extent of an expelled member: a changed CRC64 is a confirmed detection against the slot that served it
(`unit`); when the last one is done the new digest decides. -/
def replicaRefetched (m : Mem) (d : Dev) (x unit : Nat) : Dev :=
  if d.is (TMAP_REFETCH x) then d
  else
    let d := match sfind d.tls.crcs x with
      | none => d
      | some c =>
        let d := (scanLines m { d with tls := { d.tls with crcs := sdel d.tls.crcs x } } (x * 1048576) 8192).1
        if extentCrc m d x = c then d else d.report { unit := unit, confirmed := true, dkind := 0x11, detail := x * 1048576 }
    let o := d.get (TMAP_OBJECT x)
    let out := (List.range 64).filter (fun r => d.is (TLS_REPLICA_VALID r) && d.get (TLS_REPLICA_STATE r) == 1 && d.get (TLS_REPLICA_OBJECT r) == o)
    if out.isEmpty || (d.objExts o).any (fun y => (sfind d.tls.crcs y).isSome) then d
    else
      let s := digestScan m d o
      if s.2 = .ok ∧ objDigest m s.1 o = s.1.get (OBJ_REF_DIGEST o) then
        out.foldl (fun d r => { d.set (TLS_REPLICA_STATE r) 2 with tls := { d.tls with matched := sput d.tls.matched r 0 } }) s.1
      else s.1

/-! ### Collective windows (R422, R423) -/

/-- The status word of a window. -/
def winStatus (m : Mem) (d : Dev) (w round status digest : Nat) : Dev :=
  d.deviceWrite m (d.get (TLS_CWIN_STATUS_OFF w)) (bytesLE 8 (round + status * 2 ^ 32) ++ bytesLE 8 digest)

/-- Re-arms for the next round, or clears the lines of this one. -/
def Dev.winRearm (d : Dev) (w : Nat) : Dev :=
  let x := d.win w
  ((d.setWin w { x with terms := [], peer := none, fails := 0 }).set (TLS_CWIN_STATE w) 0).set (TLS_CWIN_ROUND w)
    (d.get (TLS_CWIN_ROUND w) + 1)
def Dev.winClear (d : Dev) (w : Nat) : Dev :=
  let x := d.win w
  (d.setWin w { x with terms := [], peer := none, fails := x.fails + 1 }).set (TLS_CWIN_STATE w) 0

/-- A sealed receive window meets the digest of its round. -/
def winCompare (m : Mem) (d : Dev) (w : Nat) : Dev :=
  let x := d.win w
  match x.peer, x.shut with
  | some (node, pw, dg), some (round, own) =>
    if d.get (TLS_CWIN_STATE w) ≠ 1 then d
    else if dg = own then
      ((winStatus m d w round stOK own).sendMsg node 0x07 w [pw, round, stOK]).winRearm w
    else if x.fails = 0 then
      ((winStatus m d w round stDEFERRED own).sendMsg node 0x07 w [pw, round, stDEFERRED]).winClear w
    else
      let d := (winStatus m d w round stDIGEST_MISMATCH own).sendMsg node 0x07 w [pw, round, stDIGEST_MISMATCH]
      (d.sendMsg node 0x08 w [round, pw, d.get (TLS_CWIN_TILE w)]).winRearm w
  | _, _ => d

/-- A window that checks a DRY one has sealed the round that a digest names: it answers and keeps its own course. -/
def Dev.winAnswer (d : Dev) (w node pw round dg : Nat) : Dev :=
  match (d.win w).shut with
  | some (r, own) => if r = round then d.sendMsg node 0x07 w [pw, round, if own = dg then stOK else stDIGEST_MISMATCH] else d
  | none => d

/-- WINDOW_SEAL: LINES distinct lines have been written. -/
def windowSealOp (m : Mem) (d : Dev) (w : Nat) : Dev :=
  let x := d.win w
  if decide (w ≥ 64) || !d.is (TLS_CWIN_VALID w) || d.get (TLS_CWIN_STATE w) != 0 || d.get (TLS_CWIN_LINES w) == 0 ||
     decide (x.terms.length < d.get (TLS_CWIN_LINES w)) then d
  else
    let round := d.get (TLS_CWIN_ROUND w)
    let d := (d.setWin w { x with shut := some (round, x.digest) }).set (TLS_CWIN_STATE w) 1
    if d.get (TLS_CWIN_KIND w) = 1 then winCompare m d w
    else
      let dst := if d.is (TLS_CWIN_DRY w) then d.get (TLS_CWIN_COMPARE_NODE w) else d.get (TLS_CWIN_PEER0 w)
      let s := d.sentDigest 2 x.digest
      let d := if s.2 = x.digest then s.1 else s.1.setWin w { s.1.win w with inj := some round }
      let d := d.sendMsg dst 0x06 w [d.get (TLS_CWIN_PEER_WIN w), round, s.2]
      match x.peer with
      | some (node, pw, dg) => d.winAnswer w node pw round dg
      | none => d

/-- WIN_DIGEST (R422): the first of the round counts. -/
def winDigestIn (m : Mem) (d : Dev) (pk : Packet) : Dev :=
  let w := msgField pk 0
  let src := pkf pk PKT_SRC
  let round := msgField pk 1
  let dg := msgField pk 2
  if decide (w ≥ 64) || !d.is (TLS_CWIN_VALID w) then d
  else
    let x := d.win w
    let here := decide (d.get (TLS_CWIN_ROUND w) = round)
    if d.get (TLS_CWIN_KIND w) = 1 then
      let from_ := d.get (TLS_CWIN_PEER0 w) == src || (d.get (TLS_CWIN_PEER1 w) == src && src != 0xFFFF)
      if !from_ || !here || x.peer.isSome then d
      else winCompare m (d.setWin w { x with peer := some (src, msgIndex pk, dg) }) w
    else if here && d.get (TLS_CWIN_STATE w) == 0 then
      if x.peer.isSome then d else d.setWin w { x with peer := some (src, msgIndex pk, dg) }
    else d.winAnswer w src (msgIndex pk) round dg

/-- WIN_RESULT (R422): the send window's status, and its next round or another try. -/
def winResultIn (m : Mem) (d : Dev) (pk : Packet) : Dev :=
  let w := msgField pk 0
  let round := msgField pk 1
  let st := msgField pk 2
  let dry := d.is (TLS_CWIN_DRY w)
  let peer := if dry then d.get (TLS_CWIN_COMPARE_NODE w) else d.get (TLS_CWIN_PEER0 w)
  if decide (w ≥ 64) || !d.is (TLS_CWIN_VALID w) || d.get (TLS_CWIN_KIND w) != 0 || pkf pk PKT_SRC != peer ||
     d.get (TLS_CWIN_ROUND w) != round || d.get (TLS_CWIN_STATE w) != 1 then d
  else
    let own := match (d.win w).shut with | some s => s.2 | none => 0
    let g := d.tls.stage
    if st = stOK then
      let d := if dry && d.onTrial then { d with tls := { d.tls with stage := (g.1 + 1, g.2.1, g.2.2) } } else d
      (winStatus m d w round stOK own).winRearm w
    else if st = stDEFERRED then (winStatus m d w round stDEFERRED own).winClear w
    else if st = stDIGEST_MISMATCH then (winStatus m (if dry then d.stageBad else d) w round stDIGEST_MISMATCH own).winRearm w
    else d

/-- FLAG (R422): the sender suspects the producing tile of its window and the first usable port of the route. Detections that this device's own
inverted WIN_DIGEST caused are those of an injection (R493). The UNIT of the EVENT 8 record is the tile's, or, where TILE names none, the port's
(DESIGN CHOICE, log 174). -/
def flagIn (d : Dev) (pk : Packet) : Dev :=
  let w := msgField pk 1
  if decide (w ≥ 64) || !d.is (TLS_CWIN_VALID w) || d.get (TLS_CWIN_KIND w) != 0 then d
  else
    let t := d.get (TLS_CWIN_TILE w)
    let inj := (d.win w).inj == some (msgField pk 0)
    let port := d.routePort (pkf pk PKT_SRC)
    let portUnit := match port with | some p => unitPort p | none => 0
    let d := d.record (if t < 320 then d.tileUnit t else portUnit) 8 0x12 false noCond 0 0 false
    let d := if t < 320 then d.detected { unit := d.tileUnit t, confirmed := false, dkind := 0x12, inj := inj } else d
    if port.isSome then d.detected { unit := portUnit, confirmed := false, dkind := 0x12, inj := inj } else d

/-- A write of VALID 1 arms round 0 (TLS_CWIN). -/
def Dev.winArm (d : Dev) (w : Nat) : Dev := ((d.setWin w {}).set (TLS_CWIN_STATE w) 0).set (TLS_CWIN_ROUND w) 0

/-! ### Stragglers (R424) -/

def Dev.stragKey (g i : Nat) : Nat := g * 8 + i

/-- The slots of a progress line. -/
def stragSlots (m : Mem) (d : Dev) (g : Nat) : List Nat :=
  (uWords m d (d.get (TLS_STRAG_PROG_BASE g)) (d.get (TLS_STRAG_MEMBERS g))).map (·.toNat)

/-- The boundary's reading of one line: ticks that each member has lagged, and backups whose step is done. -/
def stragRead (m : Mem) (d : Dev) (g : Nat) : Dev :=
  if !d.is (TLS_STRAG_VALID g) then d
  else
    let r := readLine m d (d.get (TLS_STRAG_PROG_BASE g)) .internal
    match r.2 with
    | .ok =>
      let vs := stragSlots m r.1 g
      let top := vs.foldl max 0
      (List.range vs.length).foldl (fun d i =>
        let k := Dev.stragKey g i
        let v := vs.getD i 0
        let lag := if v < top then sput d.tls.lags k (sget d.tls.lags k 0 + 1) else sdel d.tls.lags k
        let done := match sfind d.tls.backups k with | some s => decide (s < v) | none => false
        { d with tls := { d.tls with lags := lag, backups := if done then sdel d.tls.backups k else d.tls.backups } }) r.1
    | _ => r.1

/-- STRAGGLER_DETECTED: BACKUP to the spare, at most one outstanding per member. -/
def stragglerOp (m : Mem) (d : Dev) (g i : Nat) : Dev :=
  let k := Dev.stragKey g i
  if !d.tlsRuns || decide (g ≥ 16) || !d.is (TLS_STRAG_VALID g) || decide (i ≥ min 8 (d.get (TLS_STRAG_MEMBERS g))) ||
     sget d.tls.lags k 0 == 0 || decide (sget d.tls.lags k 0 < d.get (TLS_STRAG_WAIT_TICKS g)) || (sfind d.tls.backups k).isSome then d
  else
    let step := (stragSlots m d g).getD i 0
    let d := { d with tls := { d.tls with backups := sput d.tls.backups k step } }.bump (TLS_STRAG_BACKUPS g) 1
    (d.sendMsg (d.get (TLS_STRAG_SPARE g)) 0x09 g [d.get (TLS_STRAG_SPARE_GROUP g), i, step]).event srcTailstock .straggler [g, i, step]

/-- BACKUP at the spare: the go word of the group. -/
def backupIn (m : Mem) (d : Dev) (pk : Packet) : Dev :=
  d.deviceWrite m (d.get TLS_GO_BASE_BASE + 8 * (msgField pk 0 % 16)) (bytesLE 8 (msgField pk 1 % 256 + msgField pk 2 * 256))

/-! ### Bring-ins (R426) -/

/-- At a frame boundary every cell on bring-in has one frame more. -/
def Dev.probeFrames (d : Dev) : Dev :=
  if d.get LTH_TICK_COUNT_COUNT % d.frameTicks != 0 then d
  else (d.tls.probes.filter (fun e => d.get (TLS_PAIR_PROBE e.1) == 1)).foldl (fun d e =>
    d.setProbe e.1 { e.2 with frames := e.2.frames + 1 }) d

/-- The verdict of the bring-in over all its cells and its stage. -/
def Dev.probeVerdict (d : Dev) : Dev :=
  let ps := d.tls.probes.filter (fun e => d.get (TLS_PAIR_PROBE e.1) == 1)
  let g := d.tls.stage
  let show_ (d : Dev) (v : Nat) : Dev :=
    let d := ps.foldl (fun d e => d.set (TLS_PAIR_PROBE e.1) v) d
    { d with tls := { d.tls with probes := [], stage := (0, 0, 0) } }
  let dry := (List.range 64).any (fun w => d.is (TLS_CWIN_VALID w) && d.get (TLS_CWIN_KIND w) == 0 && d.is (TLS_CWIN_DRY w))
  if ps.isEmpty then d
  else if ps.any (fun e => e.2.bad != 0) || (dry && g.2.2 != 0) then show_ d 3
  else if ps.any (fun e => decide (e.2.frames < d.get TLS_PROBE_CFG_PROBE_FRAMES)) then d
  else if ps.any (fun e => e.2.good == 0) then show_ d 3
  else if dry && (decide (g.1 < d.get TLS_PROBE_CFG_PROBE_ROUNDS) || g.2.1 == 0) then d
  else show_ d 2

/-! ### Messages that arrive -/

/-- A message of the given type acts on the Tailstock. -/
def tlsMsg (m : Mem) (d : Dev) (pk : Packet) : Dev :=
  match msgType pk with
  | 0x01 => helloIn d pk
  | 0x02 => compareIn d pk
  | 0x03 => relinquishIn d pk
  | 0x04 => takeoverIn d pk
  | 0x05 => replicaIn m d pk
  | 0x06 => winDigestIn m d pk
  | 0x07 => winResultIn m d pk
  | 0x08 => flagIn d pk
  | 0x09 => backupIn m d pk
  | _ => d

/-- A management packet for this node passes the checks of R253 and R258. A reserved CLASS or SIZE is counted at the port of the route to the sender: the
command names no port (DESIGN CHOICE, log 186). -/
def mgmtGate (d : Dev) (pk : Packet) : Dev × Bool :=
  let pk := setPkf pk PKT_OP opMGMT_MSG
  if !d.is UNL_CTRL_EN || pkf pk PKT_DST != d.node then (d, false)
  else if !packetGood pk then
    (match d.routePort (pkf pk PKT_SRC) with | some p => d.bump (UNL_PORT_REPLAY_BAD p) 1 | none => d, false)
  else d.genCheck pk false

/-- The message of a row that names its type, while the Tailstock runs. -/
def tlsMsgOp (m : Mem) (d : Dev) (pk : Packet) (type : Nat) : Dev :=
  let g := mgmtGate d pk
  if g.2 && d.tlsRuns && msgType pk == type then tlsMsg m g.1 pk else g.1

/-- The Tailstock's part of a tick boundary: digests and heartbeats, first contacts, silences, progress lines and bring-ins. -/
def tlsBoundary (m : Mem) (d : Dev) : Dev :=
  if !d.tlsRuns then { d with rad := { d.rad with digests := [] } }
  else
    let d := d.gougeTests.retestWatch
    let ps := (List.range 512).filter (fun n => d.is (TLS_PAIR_VALID n))
    let d := (ps.filter (fun n => !d.tls.hello.contains n)).foldl (fun d n =>
      { d.sendHello n with tls := { (d.sendHello n).tls with heard := sput d.tls.heard n (d.get LTH_TICK_COUNT_COUNT) } }) d
    let d := ps.foldl (fun d n => d.compareSend n) d
    let d := { d with rad := { d.rad with digests := [] } }
    let d := (ps.filter d.partnerSilent).foldl (fun d n => d.set (TLS_PAIR_HEARD n) 0) d
    let d := (List.range 16).foldl (fun d g => stragRead m d g) d
    d.probeFrames.probeVerdict

end Sys2Proof.Machine
end

