-- ==== Sys2Proof/Machine/Update.lean ====
section
/-!
DEFINITION. Machine/Update.lean: firmware containers and slots (R476, R477), confirmation (R479), updates (R480, R481, R483), chain transfers
(R482), activation (R484) and attestation (R474).
-/

namespace Sys2Proof.Machine

/-! ### The flash as its registers show it (R468) -/

/-- FPL_FW_SLOTS and FPL_FW_CTRL.ACTIVE follow the flash. -/
def Dev.showFlash (d : Dev) : Dev :=
  let f := d.fpl.flash
  ((d.set FPL_FW_SLOTS_SLOT_A (slotWord f.slotA)).set FPL_FW_SLOTS_SLOT_B (slotWord f.slotB)).set FPL_FW_CTRL_ACTIVE f.active

def Flash.slot (f : Flash) (i : Nat) : Slot := if i = 0 then f.slotA else f.slotB
def Flash.setSlot (f : Flash) (i : Nat) (s : Slot) : Flash := if i = 0 then { f with slotA := s } else { f with slotB := s }

/-- The slot booted. -/
def Dev.booted (d : Dev) : Nat := d.get FPL_BOOT_STATUS_SLOT
def Dev.bootedSlot (d : Dev) : Slot := d.fpl.flash.slot d.booted

/-! ### Containers and images (R470, R476) -/

def reSIGNATURE : Nat := 0x04
def reFORMAT : Nat := 0x05
def reSVN : Nat := 0x06

/-- Header words of an image. -/
def imgHdr (bs : List Byte) : Words := bytesWords 8 bs

/-- Largest image. -/
def imageMax : Nat := 12582912

/-- The digest of a container: SHA-512 of its bytes before the signature. -/
def containerDigest (bs : List Byte) : List Byte := sha512 (bs.take (wfld (imgHdr bs) FWH_LENGTH - 64))

/-- Digest of a slot's container; that of the container of delivery is free. -/
def Slot.digest (s : Slot) : List Byte :=
  if s.shipped then (List.range 64).map Config.shippedDigest else if s.img.isEmpty then [] else containerDigest s.img

/-- SVN of a slot's container. -/
def Slot.svn (s : Slot) : Nat := if s.shipped then Config.shippedSvn else wfld (imgHdr s.img) FWH_SVN

/-- TYPEs of the section table's entries: 16 bytes each, after the header. -/
def containerSections (bs : List Byte) : List Nat :=
  (List.range (wfld (imgHdr bs) FWH_SECTIONS)).map (fun i => leNat ((bs.drop (64 + 16 * i)).take 1))

/-- The section table has 3 to 16 entries, with Faceplate firmware, Tailstock firmware and base-die microcode once each. -/
def sectionsGood (bs : List Byte) : Bool :=
  let n := wfld (imgHdr bs) FWH_SECTIONS
  decide (3 ≤ n) && decide (n ≤ 16) && [1, 2, 3].all (fun t => (containerSections bs).count t == 1)

/-- Verification of a container: none when it verifies, else the REASON. -/
def containerBad (bs : List Byte) (minSvn : Nat) : Option Nat :=
  let h := imgHdr bs
  let len := wfld h FWH_LENGTH
  if wfld h FWH_MAGIC ≠ 0x57454153 ∨ wfld h FWH_FORMAT ≠ 1 ∨ wfld h FWH_KEY_INDEX > 1 ∨ len > imageMax ∨ len < 128 ∨ bs.length < len ∨
      !sectionsGood bs then
    some reFORMAT
  else if !edVerify (Config.romKey (wfld h FWH_KEY_INDEX)) (containerDigest bs) ((bs.drop (len - 64)).take 64) then some reSIGNATURE
  else if wfld h FWH_SVN < minSvn then some reSVN
  else none

/-- A configuration image matches its own digest. -/
def configGood (bs : List Byte) : Bool :=
  let h := imgHdr bs
  let len := wfld h CIMG_LENGTH
  wfld h CIMG_MAGIC == 0x43464731 && wfld h CIMG_FORMAT == 1 && decide (192 ≤ len) && decide (len ≤ imageMax) && decide (len ≤ bs.length) &&
  sha512 (bs.take (len - 64)) == (bs.drop (len - 64)).take 64

/-! ### Confirmation, lock and activation (R479, R480, R484) -/

/-- A write of CONFIRM marks a slot that was booted VALID CONFIRMED once service, the Tailstock and, where it is asked for, the host's consent are there. -/
def confirmOp (d : Dev) : Dev :=
  let s := d.bootedSlot
  if d.is FPL_BOOT_STATUS_IN_SERVICE && d.is TLS_STATUS_RUNNING && (!d.is FPL_FW_CTRL_HOST_ACK_REQ || d.is FPL_FW_CTRL_HOST_OK) &&
      d.fpl.bootState == 1 && s.state == 1 then
    let f := d.fpl.flash.setSlot d.booted { s with state := 2 }
    ((d.setFlash { f with minSvn := max f.minSvn s.svn }).set FPL_FW_CTRL_CONFIRM 1).showFlash
  else d

def hostOkOp (d : Dev) : Dev := d.set FPL_FW_CTRL_HOST_OK 1

def ownerLockOp (d : Dev) (v : Bool) : Dev :=
  (d.setFlash { d.fpl.flash with lock := v }).set FPL_FW_CTRL_OWNER_LOCK (if v then 1 else 0)

/-- A valid cell is PRIMARY. -/
def Dev.primaryCells (d : Dev) : List Nat := (d.validCells true).filter (fun n => d.get (actF (RAD_CELL_ROLE n)) == 0)

/-- REASON with which ACTIVATE is refused: the first row of R484, then an SVN below MIN_SVN. -/
def Dev.activateBad (d : Dev) : Option Nat :=
  let f := d.fpl.flash
  let s := f.slot (1 - f.active)
  if s.state ≠ 1 ∧ s.state ≠ 2 then some 0x0B
  else if !d.primaryCells.isEmpty then some 0x0A
  else if d.is FPL_FW_CTRL_OWNER_LOCK then some 0x03
  else if d.get FPL_UPD_CTRL_STATE = 3 then some 0x08
  else if s.svn < f.minSvn then some reSVN
  else none

def activateOp (d : Dev) (resetNow : Bool) : Dev :=
  match d.activateBad with
  | some r => (d.set FPL_FW_CTRL_RESULT stREFUSED_STATE).set FPL_FW_CTRL_REASON r
  | none =>
    let f := d.fpl.flash
    let o := 1 - f.active
    let f := { f.setSlot o { f.slot o with tries := 3 } with active := o }
    let d := (((d.setFlash f).set FPL_FW_CTRL_RESULT stOK).set FPL_FW_CTRL_REASON 0).showFlash
    if resetNow then d.contain .activate 0 0 else d

/-- A write of FPL_FW_CTRL: its RW fields, then the actions whose bits are 1. -/
def fwCtrlOp (d : Dev) (v : Nat) : Dev :=
  let d := d.set FPL_FW_CTRL_HOST_ACK_REQ (v / 8)
  let lock := v.testBit 4
  let d := if lock = d.is FPL_FW_CTRL_OWNER_LOCK then d else ownerLockOp d lock
  let d := if v.testBit 2 then hostOkOp d else d
  let d := if v.testBit 1 then confirmOp d else d
  if v.testBit 5 then activateOp d (v.testBit 6) else d

/-- Seconds left for confirmation. They are powered seconds, which no step of device time moves. -/
def Dev.confirmLeft (d : Dev) : Nat :=
  if d.fpl.fwDigest.isEmpty || d.fpl.bootState != 1 || d.bootedSlot.state != 1 then 0 else d.fpl.released + 120 - d.get TLS_POS_POS

/-- CONFIRM_TIMEOUT: 120 s have passed: the slot is FAILED, the other one ACTIVE, and the chip is reset. -/
def confirmTimeoutOp (d : Dev) : Dev :=
  if d.fpl.fwDigest.isEmpty || d.fpl.bootState != 1 || d.bootedSlot.state != 1 || d.confirmLeft != 0 then d
  else
    let b := d.booted
    let f := d.fpl.flash.setSlot b { d.bootedSlot with state := 3, tries := 0 }
    ((d.setFlash { f with active := 1 - b }).showFlash).contain .confirm 0 0

/-! ### Updates (R480, R481) -/

def Dev.recovery (d : Dev) : Bool := d.get FPL_BOOT_STATUS_PHASE == 5

/-- REASON of a refusal apart from BUSY. -/
def Dev.updBad (d : Dev) (target : Nat) : Option Nat :=
  let lone := d.primaryCells.any (fun n => !d.is (TLS_PAIR_VALID n) || !d.is (TLS_PAIR_HEARD n) || d.is (TLS_PAIR_CLASS_DIFF n))
  if target = 0 && lone then some 0x01
  else if !d.is FPL_SUPPLY_MARGIN_OK then some 0x02
  else if d.is FPL_FW_CTRL_OWNER_LOCK then some 0x03
  else none

/-- An update is receiving, verifying or writing. -/
def Dev.updBusy (d : Dev) : Bool := decide (1 ≤ d.get FPL_UPD_CTRL_STATE) && decide (d.get FPL_UPD_CTRL_STATE ≤ 3)

def Dev.setUpd (d : Dev) (u : Upd) : Dev := { d with fpl := { d.fpl with upd := u } }
def Dev.updShow (d : Dev) (state status reason : Nat) : Dev :=
  ((d.set FPL_UPD_CTRL_STATE state).set FPL_UPD_CTRL_STATUS status).set FPL_UPD_CTRL_REASON reason

/-- A message of a chain transfer (R482): TYPE and transfer ID, then a second word, then bytes. -/
def fwPayload (type id word : Nat) (bytes : List Byte) : List Byte := bytesLE 8 (type + id % 2 ^ 32 * 2 ^ 32) ++ bytesLE 8 word ++ bytes
def fwId (pk : Packet) : Nat := leNat ((pk.payload.drop 4).take 4)
def fwWord (pk : Packet) : Nat := leNat ((pk.payload.drop 8).take 8)
def fwBytes (pk : Packet) : List Byte := pk.payload.drop 16

def Dev.sendFw (d : Dev) (dst type id word : Nat) (bytes : List Byte) : Dev := d.sendMgmt dst opMGMT_MSG (fwPayload type id word bytes)

/-- An update whose transfers have not all ended. -/
def Upd.waits (u : Upd) : Bool := u.chain.any (fun e => e.2.stage != 2)

/-- FW_RESULT: status, REASON and the first failing node. -/
def Dev.fwAnswer (d : Dev) (dst id status reason node : Nat) : Dev :=
  d.sendFw dst 0x23 id (status + reason * 2 ^ 8 + node * 2 ^ 16) []

/-- Starts receiving. An earlier update whose transfers still run goes on with them (R482). -/
def Dev.updBegin (d : Dev) (target mode : Nat) (fwd : Bool) (up : Option (Nat × Nat)) (total : Nat) : Dev :=
  let d := if d.fpl.upd.waits then { d with fpl := { d.fpl with past := d.fpl.past ++ [d.fpl.upd] } } else d
  let d := d.setUpd { d.fpl.upd with pieces := [], total := total, up := up, erased := false, own := none, chain := [], tgt := target, mode := mode, fwd := fwd, prog := d.get TLS_POS_POS }
  (d.updShow 1 0 0).set FPL_UPD_LEN_BYTES 0

/-- UPDATE_START: the checks of R480, then receiving. A refusal while an update runs leaves that update's STATE. -/
def updStartOp (d : Dev) : Dev :=
  let target := d.get FPL_UPD_CTRL_TARGET
  let refuse (r : Nat) : Dev := d.updShow (d.get FPL_UPD_CTRL_STATE) stREFUSED_STATE r
  match d.updBad target with
  | some r => refuse r
  | none =>
    if d.updBusy then refuse 0x08
    else d.updBegin target (d.get FPL_UPD_CTRL_SRC_MODE) (d.is FPL_UPD_CTRL_FORWARD && target == 0) none 0

/-- Bytes received so far, in order. -/
def Upd.image (u : Upd) : List Byte := u.pieces.flatMap (·.2)

/-- FPL_UPD_DATA: the next 8 bytes, while an update receives through the data port. -/
def updDataOp (d : Dev) (v : Nat) : Dev :=
  let u := d.fpl.upd
  if d.get FPL_UPD_CTRL_STATE ≠ 1 || u.mode ≠ 1 || u.total + 8 > imageMax then d
  else (d.setUpd { u with pieces := sput u.pieces u.total (bytesLE 8 v), total := u.total + 8 }).set FPL_UPD_LEN_BYTES (u.total + 8)

/-- UPDATE_END: closes an image received through the data port. -/
def updEndOp (d : Dev) : Dev :=
  if d.get FPL_UPD_CTRL_STATE = 1 ∧ d.fpl.upd.mode = 1 then d.set FPL_UPD_CTRL_STATE 2 else d

/-- UPDATE_RECEIVE_DONE: the image at FPL_UPD_SRC, for the LENGTH in its header, is in the buffer. -/
def updReceiveOp (m : Mem) (d : Dev) : Dev :=
  let u := d.fpl.upd
  if d.get FPL_UPD_CTRL_STATE ≠ 1 ∨ u.mode ≠ 0 then d
  else
    let src := d.get FPL_UPD_SRC_OFFSET / 64 * 64
    let h := readRange m d src 64 .consumer
    match h.2.1 with
    | .held => h.1
    | .ok =>
      let len := min imageMax (wfld (imgHdr h.2.2) (if u.tgt = 0 then FWH_LENGTH else CIMG_LENGTH))
      let r := readRange m h.1 src len .consumer
      (match r.2.1 with
      | .held => r.1
      | .ok => ((r.1.setUpd { u with pieces := [(0, r.2.2)], total := len }).set FPL_UPD_LEN_BYTES len).set FPL_UPD_CTRL_STATE 2
      | _ => (r.1.setUpd { u with pieces := [], total := 0 }).set FPL_UPD_CTRL_STATE 2)
    | _ => (h.1.setUpd { u with pieces := [], total := 0 }).set FPL_UPD_CTRL_STATE 2

/-- A status of an update or of a node that is no failure. -/
def updFine (st : Nat) : Bool := st == stOK || st == stALREADY_DONE

/-- What an update answers once its own outcome `o` and every transfer's are known (R482): the first failure. -/
def Upd.outcome (u : Upd) (node : Nat) (o : Nat × Nat) : Nat × Nat × Nat :=
  (((o.1, o.2, node) :: u.chain.map (fun e => e.2.res)).find? (fun r => !updFine r.1)).getD (o.1, o.2, 0)

/-- The FW_RESULT that an update owes upstream. -/
def Dev.updAnswer (d : Dev) (u : Upd) (v : Nat × Nat × Nat) : Dev :=
  match u.up with
  | some w => d.fwAnswer w.1 w.2 v.1 v.2.1 v.2.2
  | none => d

/-- Earlier updates whose transfers have ended answer upstream. -/
def Dev.pastFinish (d : Dev) : Dev :=
  let ended := d.fpl.past.filter (fun u => !u.waits)
  ended.foldl (fun d u => d.updAnswer u (u.outcome d.node (u.own.getD (stABORTED, 0))))
    { d with fpl := { d.fpl with past := d.fpl.past.filter (fun u => u.waits) } }

/-- The update is complete when its own outcome and every transfer's are known (R482): its status is the first failure. -/
def Dev.updFinish (d : Dev) : Dev :=
  let d := d.pastFinish
  let u := d.fpl.upd
  match u.own with
  | none => d
  | some o =>
    if u.waits then d.updShow 4 (d.get FPL_UPD_CTRL_STATUS) (d.get FPL_UPD_CTRL_REASON)
    else
      let v := u.outcome d.node o
      ((d.setUpd { u with own := none, pieces := [], up := none, chain := [] }).updShow 0 v.1 v.2.1).updAnswer u v

/-- The update's own part ends with a status and REASON. -/
def Dev.updOwn (d : Dev) (status reason : Nat) : Dev := (d.setUpd { d.fpl.upd with own := some (status, reason) }).updFinish

/-- Offers the verified image to every valid FPL_CHAIN node, once per digest and start. -/
def Dev.forwardImage (d : Dev) (digest : List Byte) : Dev :=
  let u := d.fpl.upd
  if !u.fwd || u.sent.contains digest then d
  else
    let pos := d.get TLS_POS_POS
    let d := d.setUpd { u with sent := digest :: u.sent, chain := [], began := pos }
    ((List.range 4).filter (fun i => d.is (FPL_CHAIN_VALID i))).foldl (fun d i =>
      let u := d.fpl.upd
      let node := d.get (FPL_CHAIN_NODE i)
      let d := d.setUpd { u with chain := sput u.chain i { id := u.nextId, off := 0, stage := 0, heard := pos, prog := pos }, nextId := u.nextId + 1 }
      let d := (((d.set (FPL_CHAIN_STATUS_STATUS i) 0).set (FPL_CHAIN_STATUS_REASON i) 0).set (FPL_CHAIN_STATUS_DONE i) 0).set
        (FPL_CHAIN_STATUS_NODE i) 0
      d.sendFw node 0x20 u.nextId u.image.length (digest.take 32)) d

/-- The flash slot or copy that an update writes: the slot that is not ACTIVE (slot A in recovery), the copy that was not selected. -/
def Dev.updTarget (d : Dev) : Nat :=
  if d.fpl.upd.tgt = 0 then (if d.recovery then 0 else 1 - d.fpl.flash.active) else 1 - d.get FPL_BOOT_STATUS_CFG_COPY

/-- The target reads EMPTY from the erase on. -/
def Dev.eraseTarget (d : Dev) : Dev :=
  let f := d.fpl.flash
  let i := d.updTarget
  let f := if d.fpl.upd.tgt = 0 then f.setSlot i {} else if i = 0 then { f with cfg0 := [] } else { f with cfg1 := [] }
  let d := if d.fpl.upd.tgt = 0 ∧ i = d.booted then { d with fpl := { d.fpl with bootState := 0 } } else d
  ((d.setFlash f).setUpd { d.fpl.upd with erased := true }).showFlash

/-- UPDATE_VERIFY_DONE: digest and signature are checked; an image already held is only forwarded, save in recovery, where no slot boots; else the checks of R480 again, the erase,
and forwarding while the image is written. -/
def updVerifyOp (d : Dev) : Dev :=
  let u := d.fpl.upd
  let f := d.fpl.flash
  if d.get FPL_UPD_CTRL_STATE ≠ 2 then d
  else
    let img := u.image
    if u.tgt = 1 then
      if !configGood img then d.updOwn stDIGEST_MISMATCH 0
      else
        match d.updBad 1 with
        | some r => d.updOwn stREFUSED_STATE r
        | none => d.eraseTarget.set FPL_UPD_CTRL_STATE 3
    else
      match containerBad img f.minSvn with
      | some r => d.updOwn (if r = reSIGNATURE then stDIGEST_MISMATCH else stREFUSED_STATE) r
      | none =>
        let dg := containerDigest img
        let holds (s : Slot) : Bool := !s.digest.isEmpty && s.digest == dg
        let other := f.slot (1 - f.active)
        if !d.recovery && (holds (f.slot f.active) || (holds other && (other.state == 1 || other.state == 2))) then
          (d.forwardImage dg).updOwn stALREADY_DONE 0
        else
          match d.updBad 0 with
          | some r => d.updOwn stREFUSED_STATE r
          | none => (d.eraseTarget.set FPL_UPD_CTRL_STATE 3).forwardImage dg

/-- UPDATE_WRITE_DONE: programming and read-back end. -/
def updWriteOp (d : Dev) (ok : Bool) : Dev :=
  let u := d.fpl.upd
  if d.get FPL_UPD_CTRL_STATE ≠ 3 then d
  else if !ok then d.updOwn stUNCORRECTABLE 0x07
  else
    let f := d.fpl.flash
    let i := d.updTarget
    let img := u.image.take (wfld (imgHdr u.image) (if u.tgt = 0 then FWH_LENGTH else CIMG_LENGTH))
    let f :=
      if u.tgt = 0 then
        let f := f.setSlot i { ver := wfld (imgHdr img) FWH_FW_VERSION, state := 1, tries := 3, img := img }
        if d.recovery then { f with active := 0 } else f
      else if i = 0 then { f with cfg0 := img } else { f with cfg1 := img }
    ((d.setFlash f).showFlash).updOwn stOK 0

/-- UPDATE_ABORT (R483): ends receiving or verifying; ignored during writing. -/
def updAbortOp (d : Dev) : Dev :=
  if d.get FPL_UPD_CTRL_STATE = 1 ∨ d.get FPL_UPD_CTRL_STATE = 2 then d.updOwn stABORTED 0 else d

/-- A write of FPL_UPD_CTRL. -/
def updCtrlOp (d : Dev) (v : Nat) : Dev :=
  let d := ((d.set FPL_UPD_CTRL_TARGET (v / 2 ^ 3)).set FPL_UPD_CTRL_SRC_MODE (v / 2 ^ 4)).set FPL_UPD_CTRL_FORWARD (v / 2 ^ 24)
  let d := if v.testBit 0 then updStartOp d else d
  let d := if v.testBit 1 then updEndOp d else d
  if v.testBit 2 then updAbortOp d else d

/-- MARGIN_OK_CHANGE: writing stops before the next page when the margin goes. -/
def marginOp (d : Dev) (ok : Bool) : Dev :=
  let d := d.set FPL_SUPPLY_MARGIN_OK (if ok then 1 else 0)
  if !ok && d.get FPL_UPD_CTRL_STATE = 3 then d.updOwn stREFUSED_STATE 0x02 else d

/-! ### Chain transfers (R482) -/

/-- A message of a chain transfer for this node. -/
def fwGate (d : Dev) (pk : Packet) (type : Nat) : Dev × Bool :=
  let g := mgmtGate d pk
  (g.1, g.2 && msgType pk == type)

/-- The first offset not yet received. -/
def Upd.missing (u : Upd) : Option Nat :=
  ((List.range (ceilDiv u.total 128)).map (fun i => i * 128)).find? (fun o => (sfind u.pieces o).isNone)

/-- FW_OFFER. -/
def fwOfferOp (d : Dev) (pk : Packet) : Dev :=
  let src := pkf pk PKT_SRC
  let id := fwId pk
  let len := fwWord pk
  let u := d.fpl.upd
  let refuse (r : Nat) : Dev := d.fwAnswer src id stREFUSED_STATE r d.node
  if u.sent.any (fun s => s.take 32 == (fwBytes pk).take 32) then d.fwAnswer src id stALREADY_DONE 0 0
  else if u.up = some (src, id) ∧ d.get FPL_UPD_CTRL_STATE = 1 then d.sendFw src 0x22 id (u.missing.getD 0) []
  else
    match d.updBad 0 with
    | some r => refuse r
    | none =>
      if d.updBusy then refuse 0x08
      else if len > imageMax then refuse reFORMAT
      else (d.updBegin 0 2 true (some (src, id)) len).sendFw src 0x22 id 0 []

/-- FW_CHUNK: 128 bytes at their offset; the last offset asks for what is missing. -/
def fwChunkOp (d : Dev) (pk : Packet) : Dev :=
  let u := d.fpl.upd
  let off := fwWord pk
  if d.get FPL_UPD_CTRL_STATE ≠ 1 ∨ u.up ≠ some (pkf pk PKT_SRC, fwId pk) ∨ off % 128 ≠ 0 ∨ off ≥ u.total then d
  else
    let u := { u with
      prog := if (sfind u.pieces off).isNone then d.get TLS_POS_POS else u.prog
      pieces := sput u.pieces off ((fwBytes pk).take (min 128 (u.total - off))) }
    let d := (d.setUpd u).set FPL_UPD_LEN_BYTES u.image.length
    match u.missing with
    | none => d.set FPL_UPD_CTRL_STATE 2
    | some o => if off + 128 ≥ u.total then d.sendFw (pkf pk PKT_SRC) 0x22 (fwId pk) o [] else d

/-- The update under a number: 0 the present one, then the earlier ones. -/
def Dev.updAt (d : Dev) (k : Nat) : Upd := if k = 0 then d.fpl.upd else d.fpl.past.getD (k - 1) {}
def Dev.setUpdAt (d : Dev) (k : Nat) (u : Upd) : Dev :=
  if k = 0 then d.setUpd u else { d with fpl := { d.fpl with past := d.fpl.past.set (k - 1) u } }

/-- Every transfer of every update, as (number of the update, FPL_CHAIN index, transfer), that has not ended. -/
def Dev.transfers (d : Dev) : List (Nat × Nat × Chain) :=
  (List.range (d.fpl.past.length + 1)).flatMap (fun k => ((d.updAt k).chain.filter (fun e => e.2.stage != 2)).map (fun e => (k, e.1, e.2)))

/-- The transfer that a downstream node's message names. -/
def Dev.transferOf (d : Dev) (pk : Packet) : Option (Nat × Nat × Chain) :=
  d.transfers.find? (fun e => d.get (FPL_CHAIN_NODE e.2.1) == pkf pk PKT_SRC && e.2.2.id % 2 ^ 32 == fwId pk)

def Dev.setChain (d : Dev) (k i : Nat) (c : Chain) : Dev := d.setUpdAt k { d.updAt k with chain := sput (d.updAt k).chain i c }

/-- Streams an update's image from an offset on. -/
def Dev.streamFrom (d : Dev) (k i : Nat) (c : Chain) (off : Nat) : Dev :=
  let img := (d.updAt k).image
  let n := ceilDiv (img.length - off) 128
  (List.range n).foldl (fun d j =>
    let o := off + 128 * j
    let b := (img.drop o).take 128
    d.sendFw (d.get (FPL_CHAIN_NODE i)) 0x21 c.id o (b ++ List.replicate (128 - b.length) 0#8)) d

/-- FW_NAK: accepts an offer, or names the offset to go on from. -/
def fwNakOp (d : Dev) (pk : Packet) : Dev :=
  match d.transferOf pk with
  | none => d
  | some (k, i, c) =>
    let pos := d.get TLS_POS_POS
    let c' := { c with off := fwWord pk, stage := 1, heard := pos, prog := if c.stage = 0 ∨ c.off < fwWord pk then pos else c.prog }
    (d.setChain k i c').streamFrom k i c (fwWord pk / 128 * 128)

/-- A transfer ends with an outcome. FPL_CHAIN_STATUS shows it unless a transfer of the present update has taken its place there. -/
def Dev.chainEnd (d : Dev) (k i : Nat) (c : Chain) (status reason node : Nat) : Dev :=
  let d := if k = 0 || (sfind d.fpl.upd.chain i).isNone then
      (((d.set (FPL_CHAIN_STATUS_STATUS i) status).set (FPL_CHAIN_STATUS_REASON i) reason).set (FPL_CHAIN_STATUS_NODE i) node).set
        (FPL_CHAIN_STATUS_DONE i) 1
    else d
  d.setChain k i { c with stage := 2, res := (status, reason, node) }

/-- FW_RESULT. -/
def fwResultOp (d : Dev) (pk : Packet) : Dev :=
  match d.transferOf pk with
  | none => d
  | some (k, i, c) =>
    let w := fwWord pk
    (d.chainEnd k i c (w % 256) (w / 256 % 256) (w / 65536 % 65536)).updFinish

/-- `n` powered seconds have passed since `p`. They are the seconds that no step of device time moves. -/
def Dev.secondsPast (d : Dev) (p n : Nat) : Bool := decide (p + n ≤ d.get TLS_POS_POS)

/-- FW_RESEND_TIMEOUT: a transfer whose node has not been heard for 1 s goes on from the last FW_NAK. -/
def fwResendOp (d : Dev) : Dev :=
  (d.transfers.filter (fun e => e.2.2.stage == 1 && d.secondsPast e.2.2.heard 1)).foldl (fun d e =>
    (d.setChain e.1 e.2.1 { e.2.2 with heard := d.get TLS_POS_POS }).streamFrom e.1 e.2.1 e.2.2 (e.2.2.off / 128 * 128)) d

/-- The transfers that a condition picks count as ABORTED with a REASON. -/
def Dev.chainAbort (d : Dev) (reason : Nat) (p : Nat × Nat × Chain → Bool) : Dev :=
  ((d.transfers.filter p).foldl (fun d e => d.chainEnd e.1 e.2.1 e.2.2 stABORTED reason (d.get (FPL_CHAIN_NODE e.2.1))) d).updFinish

/-- FW_TRANSFER_TIMEOUT: a transfer without progress for 10 s, at the sender and at the receiver. -/
def fwTransferTimeoutOp (d : Dev) : Dev :=
  let d := d.chainAbort 0x09 (fun e => d.secondsPast e.2.2.prog 10)
  if d.get FPL_UPD_CTRL_STATE = 1 ∧ d.fpl.upd.mode = 2 ∧ d.secondsPast d.fpl.upd.prog 10 then d.updOwn stABORTED 0x09 else d

/-- FW_CHAIN_RESULT_TIMEOUT: 300 s since an update's forwarding began. -/
def fwChainTimeoutOp (d : Dev) : Dev := d.chainAbort 0 (fun e => d.secondsPast (d.updAt e.1).began 300)

/-! ### Attestation (R474) -/

/-- ATTEST_GO. -/
def attestGoOp (d : Dev) (v : Nat) : Dev :=
  if v % 2 = 0 ∨ d.is FPL_ATTEST_CTRL_BUSY then d
  else if !d.is FPL_BOOT_STATUS_ID_OK then d.set FPL_ATTEST_CTRL_STATUS stREFUSED_STATE
  else d.set FPL_ATTEST_CTRL_BUSY 1

/-- The secret seed of the identity (R473). -/
def idSeed (key : List Byte) : List Byte := (sha512 ((("CX1648-ID".toList).map (fun c => BitVec.ofNat 8 c.toNat)) ++ key)).take 32

/-- Words 0-23 of a report. -/
def Dev.attestWords (d : Dev) : Words :=
  let f := d.fpl.flash
  let head := mkWords 8 [(ATT_FORMAT, 1), (ATT_FW_VERSION, d.get FPL_REPLAY_CLASS_FW_VERSION), (ATT_BOOT, f.boot), (ATT_GEN, d.gen),
    (ATT_NODE, d.node), (ATT_SLOT, d.booted), (ATT_CONFIRMED, if d.bootedSlot.state = 2 then 1 else 0),
    (ATT_OWNER_LOCK, d.get FPL_FW_CTRL_OWNER_LOCK), (ATT_REPLAY_CLASS, d.replayClass), (ATT_TIME, if d.is TSU_STATUS_VALID then d.T else 0)]
  head.take 4 ++ (List.range 4).map (fun w => w64 (d.get (FPL_ATTEST_NONCE_NONCE w))) ++
    (List.range 4).map (fun w => w64 (d.get (FPL_ID_KEY_KEY w))) ++
    bytesWords 4 (d.fpl.fwDigest.take 32) ++ bytesWords 4 (d.fpl.cfgDigest.take 32) ++ List.replicate 4 0#64

/-- ATTEST_DONE. -/
def attestDoneOp (d : Dev) : Dev :=
  if !d.is FPL_ATTEST_CTRL_BUSY then d
  else
    let ws := d.attestWords
    let ws := ws ++ bytesWords 8 (edSign (idSeed d.fpl.key) (wordsBytes ws))
    let d := forN 32 d (fun d i => d.set (FPL_ATTEST_REPORT_WORD i) (ws.getD i 0#64).toNat)
    (d.set FPL_ATTEST_CTRL_BUSY 0).set FPL_ATTEST_CTRL_STATUS stOK

end Sys2Proof.Machine
end

