-- ==== Sys2Proof/Machine/Bus.lean ====
section
/-!
DEFINITION. Machine/Bus.lean: the register port (R10-R16, R445-R450, R460-R462): which register an access reaches, what a read
shows and removes, what a write does, and the configuration-write journal.
-/

namespace Sys2Proof.Machine

/-! ### Agents (R460, R461, R465) -/

/-- An agent's latch, and SRC of its journal entries (R461, R462). -/
def agentKey : Agent → Nat
  | .pf => 0
  | .vf n => n
  | .i3c => 0x80
  | .faceplate => 0x81
  | .tailstock => 0x82

/-- What an agent reaches now (R460). Before IN_SERVICE the PCIe port serves nothing, save the FPL block in recovery (R478), and the I3C
port, which answers once the boot ROM has run (R463), the FPL block and, once the Tailstock has started, reads of the TLS block (R465). -/
def Dev.reach (d : Dev) (a : Agent) (sp : Space) (off : Nat) (write : Bool) : Bool :=
  let up := d.is FPL_BOOT_STATUS_IN_SERVICE
  match a with
  | .faceplate => true
  | .tailstock => sp == .bar0
  | .i3c => sp == .bar0 && d.get FPL_BOOT_STATUS_PHASE != 0 && (up || decide (off < 0x40000) ||
      (!write && d.tailstockUp && decide (0x3C0000 ≤ off) && decide (off < 0x400000)))
  | .pf => up || (d.recovery && sp == .bar0 && decide (off < 0x40000))
  | .vf n => up && d.vfLive n

/-- The reading agent gets ones where the port does not answer, the I3C port zeros (R465). -/
def unreached (a : Agent) (len : Nat) : Nat := if a = .i3c then 0 else 2 ^ (8 * len) - 1

/-! ### Where an access lands -/

/-- What holds the word at an offset: nothing (R11), a register with the key of its copy (`act`: its copy in the active set), or a
word of an MSI-X table or PBA. -/
inductive Hit where
  | none
  | reg (r : RegRow) (addr : Nat) (act : Bool)
  | msix (i k : Nat)
  | pba (i k : Nat)
deriving DecidableEq, Repr

/-- The windows of the two sets: cell table, prototype filters, channel plans (R296). -/
def setWindow (key : Nat) : Bool :=
  (decide (0x281000 ≤ key) && decide (key < 0x285000)) || (decide (0x28A000 ≤ key) && decide (key < 0x291000)) ||
  (decide (0x40000000 ≤ key) && decide (key < 0x40140000))

/-- Key of the word at an offset of an agent's space (R445, R448, R450, R298). -/
def Dev.portKey (d : Dev) (a : Agent) (sp : Space) (off : Nat) : Option Nat :=
  match a, sp with
  | .vf n, .bar0 => if off < 0x10000 then some (0x20000000 + 0x10000 * n + off) else none
  | .vf n, .bar2 =>
    if off / 64 < d.get (VIR_INST_SEQ_SEQ_COUNT n) ∧ off < 0x400000 ∧ d.get (VIR_INST_SEQ_SEQ_BASE n) + off / 64 < 65536 then
      some (0x12000000 + 64 * (d.get (VIR_INST_SEQ_SEQ_BASE n) + off / 64) + off % 64)
    else none
  | _, .bar0 =>
    if off ≥ 0x1000000 then none
    else if 0x410000 ≤ off ∧ off < 0x420000 then some (0x20000000 + (off - 0x410000))
    else if 0x288000 ≤ off ∧ off < 0x288A00 then some (0x40000000 + 8 * 320 * d.get RAD_CH_SEL_CELL + (off - 0x288000))
    else some off
  | _, .bar2 => if off < 0x02800000 then some (0x10000000 + off) else none

/-- MSI-X structures (R450, R459): the PF's in BAR0, VF n's in its page. -/
def msixHit (a : Agent) (sp : Space) (off : Nat) : Option Hit :=
  match a, sp with
  | .vf n, .bar0 =>
    if 0x8000 ≤ off ∧ off < 0x8400 then some (.msix n ((off - 0x8000) / 4))
    else if 0xC000 ≤ off ∧ off < 0xC008 then some (.pba n ((off - 0xC000) / 4))
    else none
  | .vf _, .bar2 => none
  | _, .bar0 =>
    if 0x430000 ≤ off ∧ off < 0x438000 then some (.msix 0 ((off - 0x430000) / 4))
    else if 0x438000 ≤ off ∧ off < 0x438100 then some (.pba 0 ((off - 0x438000) / 4))
    else none
  | _, .bar2 => none

/-- RAD_PROTO[c][w] ends at w = TN/2 - 1 (R306): with the largest T of R298, 4, at 2 * N words, N = 8 * 2^c. That the words of a T
below 4 stay registers is log 171. -/
def pastFilter (key : Nat) : Bool :=
  decide (0x28A000 ≤ key) && decide (key < 0x291000) && decide (16 * 2 ^ ((key - 0x28A000) / 0x1000) ≤ (key - 0x28A000) % 0x1000 / 4)

/-- The word at an offset. Q0-Q1023 are no serving queues (R10, R200). -/
def Dev.hit (d : Dev) (a : Agent) (sp : Space) (off : Nat) : Hit :=
  match msixHit a sp off with
  | some h => h
  | none =>
    match d.portKey a sp off with
    | none => .none
    | some key =>
      if (0x110000 ≤ key ∧ key < 0x114000) ∨ pastFilter key then .none
      else match findRow key with
        | none => .none
        | some (r, addr) => .reg r addr (setWindow key && d.is RAD_CFG_CTRL_VIEW)

/-! ### What a read shows -/

/-- Key of the copy that is shown. -/
def actKey (addr : Nat) (act : Bool) : Nat := if act then addr + 0x60000000 else addr

/-- A word of the Gouge windows (R372): the staged image, of whose data only the writable K ranges show, or live memory. -/
def gougeStaged (x : Nat) : Bool := (decide (0x18000 ≤ x) && decide (x < 0x1E3E0)) || (decide (0x1EE00 ≤ x) && decide (x < 0x20000))
def Dev.gougeShow (d : Dev) (prog : Bool) (rel : Nat) : Nat :=
  let n := d.get GGC_WIN_SEL_CORE
  let live := d.is GGC_WIN_SEL_VIEW
  let key := if prog then n * 65536 + rel / 4 else gDataKey n rel
  if !prog && !live && !gougeStaged rel then 0 else (sget (if live then d.gmem else d.gimg) key 0#32).toNat

/-- The latched T of an agent's view (bit: 0 TSU_SEC, 1 TSU_FRAC, 2 TSU_TIME), else T (R378). -/
def Dev.viewT (d : Dev) (a : Agent) (bit : Nat) : Nat :=
  match sfind d.bus.tlatch (agentKey a) with
  | some (t, views) => if views.testBit bit then t else d.T
  | none => d.T

/-- TLS_UNIT_STATE of a unit. -/
def Dev.unitShow (d : Dev) (u : Nat) : Nat :=
  let r := d.unit u
  r.state + (if r.blocked then 4 else 0) + 8 * min 15 (r.inWindow (d.get TLS_POS_POS))

/-- The oldest entry of a log, as its register shows it: 0 when there is none. -/
def oldest {α : Type} (l : List α) (f : α → Nat) : Nat := match l with | [] => 0 | e :: _ => f e + 2 ^ 63

def Dev.opShow (d : Dev) : Nat :=
  oldest (d.fab.ops.take 1 |>.filter (fun u => u.stage == 2)) (fun u => u.status + 2 ^ 8 * u.f UO_OP + 2 ^ 16 * u.node)
def Dev.errShow (d : Dev) : Nat :=
  oldest d.fab.errLog (fun e => e.1 + 2 ^ 8 * e.2.1 + 2 ^ 24 * e.2.2.1 + 2 ^ 40 * d.fab.errLost)
def Dev.txShow (d : Dev) : Nat :=
  oldest d.tsu.txLog (fun s => s.seqId + 2 ^ 16 * s.mtype + 2 ^ 20 * s.port + (if s.ecpri then 2 ^ 24 else 0) +
    2 ^ 32 * (s.stamp % 65536) + 2 ^ 48 * d.tsu.txLost)
def Dev.tlsShow (d : Dev) : Nat :=
  oldest d.tls.journal (fun e => wfld e.1 HREC_UNIT + 2 ^ 32 * wfld e.1 HREC_EVENT + 2 ^ 36 * wfld e.1 HREC_DKIND +
    (if e.2 then 2 ^ 44 else 0) + 2 ^ 45 * d.tls.jlost)
def Dev.jrnlShow (d : Dev) : Nat :=
  oldest d.bus.journal (fun e => e.ns + 2 ^ 32 * e.src + 2 ^ 40 * e.space + (if e.wide then 2 ^ 42 else 0) +
    (if e.refused then 2 ^ 43 else 0) + (if e.burst then 2 ^ 44 else 0) + 2 ^ 45 * d.bus.jrnlLost)

/-- A register as a read shows it now, whole. -/
def Dev.shown (d : Dev) (a : Agent) (r : RegRow) (addr : Nat) (act : Bool) : Nat :=
  let b := r.base
  let stored := regValue d r (actKey addr act)
  if b = 0x40050 then ((d.lathe.results.headD 0#64)).toNat
  else if b = 0x100034 then d.srv.low.getD (d.get SRV_KV_FREE_FREE)
  else if b = 0x180028 then (d.mem.results.headD 0#64).toNat
  else if b = 0x12400018 then d.wmap ((addr - b) / 64)
  else if b = 0x200060 then d.opShow
  else if b = 0x200070 then d.errShow
  else if b = 0x281010 then
    let n := (addr - b) / 32
    let on (f : ChPlan → Bool) : Nat := ((d.plan act n).filter f).length
    on (fun x => x.ul) + 2 ^ 9 * on (fun x => x.dl)
  else if b = 0x301000 then stored + 2 ^ 6 * ((d.gcore ((addr - b) / 16)).pc % 4096)
  else if b = 0x304000 ∨ b = 0x304004 then regValue d r (actKey addr (d.is GGC_WIN_SEL_VIEW))
  else if b = 0x310000 then d.gougeShow true (addr - b)
  else if b = 0x320000 then d.gougeShow false (addr - b)
  else if b = 0x380008 then d.ns
  else if b = 0x38000C then d.viewT a 1 % 1000000000
  else if b = 0x380010 then d.viewT a 0 / 1000000000 % 2 ^ 48
  else if b = 0x380018 then d.viewT a 2
  else if b = 0x380034 then encInt 32 (d.tsu.slew.tdiv finePerNs)
  else if b = 0x380060 then d.txShow
  else if b = 0x3C0028 then d.tlsShow
  else if b = 0x3C003C then d.unitShow (d.get TLS_UNIT_SEL_UNIT)
  else if b = 0x18 then stored + 2 ^ 16 * (d.confirmLeft % 256)
  else if b = 0x1C then stored + Config.sensor d.free % 2 ^ 16
  else if b = 0x20 then d.replayClass
  else if b = 0x400020 then d.jrnlShow
  else stored

/-- One view of a latched T has been read (R378). -/
def Dev.viewRead (d : Dev) (a : Agent) (bit : Nat) : Dev :=
  match sfind d.bus.tlatch (agentKey a) with
  | none => d
  | some (t, views) => { d with bus := { d.bus with
      tlatch := sput d.bus.tlatch (agentKey a) (t, if views.testBit bit then views - 2 ^ bit else views) } }

/-- Removes the oldest entry of the configuration-write journal, and latches its address and values (R462). -/
def Dev.jrnlPop (d : Dev) : Dev :=
  match d.bus.journal with
  | [] => d
  | e :: rest =>
    let d := { d with bus := { d.bus with journal := rest, jrnlLost := 0 } }
    ((d.set VIR_JRNL_ADDR_OFFSET e.offset).set VIR_JRNL_NEW_VALUE e.new).set VIR_JRNL_OLD_VALUE e.old

/-- Removes the oldest entry of the fault journal (R428). -/
def Dev.tlsPop (d : Dev) : Dev :=
  match d.tls.journal with
  | [] => d
  | e :: rest => { d with tls := { d.tls with journal := rest, jlost := 0 } }.set TLS_JRNL_DATA_TIME (wfld e.1 HREC_TIME)

/-- Removes the oldest entry of the fabric error log (R270). -/
def Dev.errPop (d : Dev) : Dev :=
  match d.fab.errLog with
  | [] => d
  | e :: rest => { d with fab := { d.fab with errLog := rest, errLost := 0 } }.set UNL_ERR_OFFSET_OFFSET e.2.2.2

/-- What a full read, or a read of the low word, does beside showing the register (R13, R15, R378). -/
def Dev.popped (d : Dev) (a : Agent) (r : RegRow) (addr : Nat) : Dev :=
  let b := r.base
  if b = 0x40050 then { d with lathe := { d.lathe with results := d.lathe.results.drop 1 } }
  else if b = 0x100034 then { d with srv := { d.srv with low := none } }
  else if b = 0x180028 then { d with mem := { d.mem with results := d.mem.results.drop 1 } }
  else if b = 0x200060 then d.opPop.1
  else if b = 0x200070 then d.errPop
  else if b = 0x380008 then { d with bus := { d.bus with tlatch := sput d.bus.tlatch (agentKey a) (d.T, 7) } }
  else if b = 0x38000C then d.viewRead a 1
  else if b = 0x380010 then d.viewRead a 0
  else if b = 0x380018 then d.viewRead a 2
  else if b = 0x380060 then d.txPop.1
  else if b = 0x3C0028 then d.tlsPop
  else if b = 0x1C then { d with free := d.free + 1 }
  else if b = 0x400020 then d.jrnlPop
  else clearRC d r addr

/-- A read of the high word alone has no side effect but on a view that was latched (R13, R378). -/
def Dev.highRead (d : Dev) (a : Agent) (b : Nat) : Dev :=
  if b = 0x380010 then d.viewRead a 0 else if b = 0x380018 then d.viewRead a 2 else d

/-! ### Reads (R12, R13) -/

def Dev.answer (d : Dev) (v : Nat) : Dev := { d with bus := { d.bus with rdata := v } }

/-- The key of an agent's latch for a space: BAR2 accesses do not touch the halves of BAR0 (R13, log 11). -/
def latchKey (a : Agent) (sp : Space) : Nat := agentKey a + (if sp = .bar0 then 0 else 256)

/-- Another BAR0 access of an agent, served or not, drops its latched high words and its held low words (R13). -/
def Dev.unlatch (d : Dev) (k : Nat) : Dev := { d with bus := { d.bus with
  latch := sdel (sdel d.bus.latch k) (k + 256)
  held := sdel (sdel d.bus.held k) (k + 256) } }

/-- A word of an MSI-X table or PBA. -/
def Dev.msixShow (d : Dev) (h : Hit) : Nat :=
  match h with
  | .msix i k => d.msixWord i (k / 4) (k % 4)
  | .pba i k => ((List.range 32).map (fun b =>
      if d.vir.msixPend.any (fun p => p.1 == i && p.2.1 == 32 * k + b) then 2 ^ b else 0)).sum
  | _ => 0

/-- A read of `len` bytes at an offset. -/
def busRead (d : Dev) (a : Agent) (sp : Space) (off len : Nat) : Dev :=
  let k := latchKey a sp
  let latched := sfind d.bus.latch k
  let d := if sp = .bar0 then d.unlatch k else d
  if !d.reach a sp off false then d.answer (unreached a len)
  else
    if (len ≠ 4 ∧ len ≠ 8) ∨ off % len ≠ 0 then d.answer (2 ^ (8 * len) - 1)
    else match d.hit a sp off with
      | .none => if len = 8 ∧ d.hit a sp (off + 4) ≠ .none then d.answer (2 ^ 64 - 1) else d.answer 0
      | .msix i w =>
        d.answer (d.msixShow (.msix i w) + (if len = 8 then 2 ^ 32 * d.msixShow (.msix i (w + 1)) else 0))
      | .pba i w => d.answer (d.msixShow (.pba i w) + (if len = 8 then 2 ^ 32 * d.msixShow (.pba i (w + 1)) else 0))
      | .reg r addr act =>
        let v := d.shown a r addr act
        if !r.is64 then
          if len = 8 then d.answer (2 ^ 64 - 1) else (d.popped a r (actKey addr act)).answer v
        else if len = 8 then (d.popped a r (actKey addr act)).answer v
        else if off % 8 = 0 then
          let d := (d.popped a r (actKey addr act)).answer (v % 2 ^ 32)
          { d with bus := { d.bus with latch := sput d.bus.latch k (actKey addr act, v / 2 ^ 32) } }
        else match latched with
          | some (key, hi) =>
            if key = actKey addr act then ({ d with bus := { d.bus with latch := sdel d.bus.latch k } } : Dev).answer hi
            else (d.highRead a r.base).answer (v / 2 ^ 32)
          | none => (d.highRead a r.base).answer (v / 2 ^ 32)

/-! ### The configuration-write journal (R462) -/

/-- Whether a write of a register is recorded. -/
def journalled (r : RegRow) : Bool :=
  let b := r.base
  if b = 0x180020 ∨ b = 0x380020 then true
  else if 0x20000000 ≤ b ∧ b < 0x40000000 then b == 0x20000008 || b == 0x20000018 || b == 0x20000028
  else r.fields.any (fun f => f.acc == .rw || f.acc == .w1s)

/-- The window of a burst: the Gouge program and data windows, RAD_PROTO, RAD_CH_WIN, one entry of the object table. -/
def burstWindow (r : RegRow) (addr : Nat) : Option Nat :=
  let b := r.base
  if b = 0x310000 then some 1
  else if b = 0x320000 then some 2
  else if b = 0x28A000 then some 3
  else if b = 0x40000000 then some 4
  else if 0x12400000 ≤ b ∧ b < 0x12400040 then some (16 + (addr - 0x12400000) / 64)
  else none

/-- Appends an entry; the oldest of 256 is overwritten. The PF's vector 0 is raised (R459). -/
def Dev.jrnlAppend (d : Dev) (e : JrnlEntry) : Dev :=
  let l := d.bus.journal
  let d := if l.length < 256 then { d with bus := { d.bus with journal := l ++ [e] } }
    else { d with bus := { d.bus with journal := l.drop 1 ++ [e], jrnlLost := min 255 (d.bus.jrnlLost + 1) } }
  d.raiseVector 0 0 (d.igen 0)

/-- Records a write of a register, as an entry of its own or as one more write of a burst. The writes of the configuration image form
one entry of their own; those that a register's rules refuse are counted (R471). -/
def Dev.jrnlWrite (d : Dev) (a : Agent) (sp : Space) (off : Nat) (r : RegRow) (addr v old : Nat) (refused : Bool) : Dev :=
  if d.fpl.applying && a == .faceplate then (if refused then d.bump FPL_CFG_REFUSED_WRITES 1 else d)
  else if !journalled r then d
  else
    let space := match a, sp with
      | .vf _, _ => 2
      | _, .bar0 => 0
      | _, .bar2 => 1
    let fresh : JrnlEntry := ⟨d.ns, agentKey a, space, r.is64, refused, false, off, v, old⟩
    match burstWindow r addr with
    | none => ({ d with bus := { d.bus with burst := none } } : Dev).jrnlAppend fresh
    | some w =>
      let d' := { d with bus := { d.bus with burst := some (agentKey a, w, d.T) } }
      match d.bus.burst, d.bus.journal.getLast? with
      | some (a', w', t), some e =>
        if a' = agentKey a ∧ w' = w ∧ d.T ≤ t + 1000000 then
          let e' := { e with burst := true, new := if e.burst then e.new + 1 else 2, refused := e.refused || refused }
          { d' with bus := { d'.bus with journal := d.bus.journal.dropLast ++ [e'] } }
        else d'.jrnlAppend fresh
      | _, _ => d'.jrnlAppend fresh

/-! ### What a write does -/

/-- Runs an operation and says whether it newly set a refusal flag. -/
def flagged (d : Dev) (flag : Fld) (op : Dev → Dev) : Dev × Bool :=
  let was := d.get flag
  let d' := op (d.set flag 0)
  (if was = 1 then d'.set flag 1 else d', d'.is flag)

/-- A write that is discarded and sets a flag. -/
def Dev.refuse (d : Dev) (flag : Fld) : Dev × Bool := (d.set flag 1, true)

/-- A write under the access types alone. -/
def Dev.plain (d : Dev) (r : RegRow) (addr v : Nat) : Dev × Bool := (writeReg d r addr v, false)

/-- A field's value in a written register. -/
def fin (f : Fld) (v : Nat) : Nat := v / 2 ^ f.lo % 2 ^ f.width

def lthWrite (m : Mem) (d : Dev) (r : RegRow) (addr v : Nat) : Dev × Bool :=
  let b := r.base
  if b = 0x40000 then flagged d LTH_STATUS_CFG_REFUSED (fun d => lthCtrlOp d v)
  else if b = 0x40008 then flagged d LTH_STATUS_CFG_REFUSED (fun d => lthTickCfgOp d v)
  else if b = 0x40020 then
    ((d.set LTH_SYNC_CFG_DELAY v).set LTH_SYNC_CFG_LOSS_EDGES (max 1 (fin LTH_SYNC_CFG_LOSS_EDGES v)), false)
  else if b = 0x40030 then (d.set LTH_SWAP_CFG_QUANTUM (max 1 (fin LTH_SWAP_CFG_QUANTUM v)), false)
  else if b = 0x40048 then (ctxIssue m d (w64 v), decide (d.lathe.cmdQ.length ≥ 64))
  else if b = 0x41000 ∨ b = 0x41008 then
    if d.is (LTH_CTX_VALID ((addr - 0x41000) / 16)) then d.refuse LTH_STATUS_CFG_REFUSED else d.plain r addr v
  else d.plain r addr v

/-- A word written, with a field's reserved codes (those above `top`) replaced by what the field holds (R14). -/
def Dev.keepCode (d : Dev) (top : Nat) (f : Fld) (v : Nat) : Nat :=
  if fin f v ≤ top then v else v - fin f v * 2 ^ f.lo + d.get f * 2 ^ f.lo

/-- An adapter's word 0 with the reserved format codes left out (R14, R89). -/
def Dev.adapterWord (d : Dev) (n v : Nat) : Nat :=
  d.keepCode 0xA (SRV_ADAPTER_A_FMT n) (d.keepCode 0xA (SRV_ADAPTER_B_FMT n) v)

/-- A cell's word 0 with the reserved codes of ROLE, UL_FMT and DL_FMT left out (R14, R289, R302). -/
def Dev.cellWord (d : Dev) (n v : Nat) : Nat :=
  d.keepCode 1 (RAD_CELL_ROLE n) (d.keepCode 2 (RAD_CELL_UL_FMT n) (d.keepCode 2 (RAD_CELL_DL_FMT n) v))

def srvWrite (m : Mem) (d : Dev) (r : RegRow) (addr v : Nat) : Dev × Bool :=
  let b := r.base
  let q := (addr - 0x110000) / 16
  let n := (addr - 0x150000) / 32
  if b = 0x100000 then flagged d SRV_STATUS_CFG_REFUSED (fun d => srvCtrlOp m d v)
  else if b = 0x10000C ∨ b = 0x100020 ∨ b = 0x100028 then flagged d SRV_STATUS_CFG_REFUSED (fun d => srvKvOp d addr v)
  else if b = 0x100040 then (seqAbortReg m d v rsABORT_CMD, false)
  else if 0x100100 ≤ b ∧ b < 0x100120 then flagged d SRV_STATUS_CFG_REFUSED (fun d => srvProfOp d addr v)
  else if b = 0x110000 then (srvQueueOp m d q .ctrl v, false)
  else if b = 0x110004 then (srvQueueOp m d q .rate v, false)
  else if b = 0x110008 then (srvQueueOp m d q .burst v, false)
  else if b = 0x150000 then flagged d SRV_STATUS_ADAPTER_BUSY (fun d => srvAdapterOp d n 0 (d.adapterWord n v))
  else if b = 0x150008 ∨ b = 0x150010 ∨ b = 0x150018 then
    flagged d SRV_STATUS_ADAPTER_BUSY (fun d => srvAdapterOp d n ((b - 0x150000) / 8) v)
  else d.plain r addr v

/-- Writes of the object table and of MEM_CTX_BIND (R231, R234), and the memory command (R236). -/
def memWrite (m : Mem) (d : Dev) (r : RegRow) (addr v : Nat) : Dev × Bool :=
  let b := r.base
  if b = 0x180010 then (d.set MEM_CMD_W0_W v, false)
  else if b = 0x180018 then (d.set MEM_CMD_W1_W v, false)
  else if b = 0x180020 then
    let c : MemCmd := ⟨w64 (d.get MEM_CMD_W0_W), w64 (d.get MEM_CMD_W1_W), w64 v, Config.originUp d.free⟩
    flagged { d with free := d.free + 1 } MEM_STATUS_CMD_OVERFLOW (fun d => memIssue m d c)
  else if b = 0x1C0000 then
    let c := (addr - b) / 32
    if d.ctxResident c || (match d.ctxChuck c with | some tc => (d.chuck tc).mapped | none => false) then d.refuse MEM_STATUS_CFG_REFUSED else d.plain r addr v
  else if 0x12400000 ≤ b ∧ b < 0x12400040 then
    if d.is (OBJ_VALID ((addr - 0x12400000) / 64)) then d.refuse MEM_STATUS_CFG_REFUSED else d.plain r addr v
  else d.plain r addr v

/-- Reserved bits of UNL_OP_W1 as they were written. -/
def opW1Rsv : Fld := ⟨0x200048, 48, 16, 0⟩

def unlWrite (d : Dev) (r : RegRow) (addr v : Nat) : Dev × Bool :=
  let b := r.base
  if b = 0x200000 then ((((writeReg d r addr v).portsEnable).fabKick true).opPump 17, false)
  else if b = 0x200008 then if d.is UNL_CTRL_EN then (d, true) else d.plain r addr v
  else if b = 0x200010 then
    if d.is UNL_CTRL_EN then d.refuse UNL_STATUS_CFG_REFUSED
    else
      let i := (addr - b) / 4
      ((writeReg d r addr v).qcForget (d.get (UNL_QUAD_NODE i)), false)
  else if b = 0x200020 then
    if (d.listed (OBJ_VALID 0) 64 65536).isEmpty then ((writeReg d r addr v).countT1, false) else d.refuse UNL_STATUS_CFG_REFUSED
  else if b = 0x200048 then ((d.set UNL_OP_W1_OFFSET v).set opW1Rsv (v / 2 ^ 48), false)
  else if b = 0x200050 then (d.set UNL_OP_W2_DATA v, false)
  else if b = 0x200058 then (d.set UNL_OP_W3_COMPARE v, false)
  else if b = 0x200040 then
    (d.opIssue (w64 v) (d.get UNL_OP_W1_OFFSET) (d.get UNL_OP_W2_DATA) (d.get UNL_OP_W3_COMPARE) (d.get opW1Rsv != 0),
      decide (d.fab.ops.length ≥ 16))
  else if b = 0x200100 then ((((writeReg d r addr v).portsEnable).fabKick true).opPump 17, false)
  else if b = 0x240000 then ((writeReg d r addr v).routeChanged ((addr - b) / 4), false)
  else d.plain r addr v

def radWrite (d : Dev) (r : RegRow) (addr v : Nat) : Dev × Bool :=
  let b := r.base
  let q := (addr - 0x2A0000) / 32
  if b = 0x280018 then
    let d := d.set RAD_CFG_CTRL_VIEW (v / 2)
    if v % 2 = 1 then
      let d := radioCommitOp d
      (d, d.get RAD_CFG_CTRL_RESULT != stOK)
    else (d, false)
  else if b = 0x280024 then
    let d := roleCmdOp d v
    (d, d.get RAD_ROLE_CMD_RESULT != stOK)
  else if b = 0x2A0000 then if d.is (RAD_RING_CFG_VALID q) then (d, true) else d.plain r addr v
  else if b = 0x2A0008 then flagged d RAD_STATUS_CFG_REFUSED (fun d => radioRingCfgOp d q v)
  else if b = 0x2A000C then if q % 2 = 1 then (ringDoorbellOp d q v, false) else (d, false)
  else if b = 0x2A0010 then if q % 2 = 0 then (d.set (RAD_RING_CONS_CONS q) v, false) else (d, false)
  else if b = 0x281000 then d.plain r addr (d.cellWord ((addr - b) / 32) v)
  else if b = 0x40000000 then d.plain r addr (d.keepCode 2 (RAD_CH_COMB ((addr - b) / 8)) v)
  else d.plain r addr v

/-- A word of the Gouge windows (R372): VIEW 0 writes the staged image, outside the ranges that are not writable and while no set is
pending. -/
def gougeWrite (d : Dev) (prog : Bool) (rel v : Nat) : Dev × Bool :=
  let n := d.get GGC_WIN_SEL_CORE
  if d.is GGC_WIN_SEL_VIEW || (!prog && !gougeStaged rel) then d.refuse GGC_STATUS_WIN_REFUSED
  else if d.is RAD_CFG_CTRL_PENDING then (d.set GGC_STATUS_WIN_REFUSED 1).refuse RAD_STATUS_CFG_REFUSED
  else
    let key := if prog then n * 65536 + rel / 4 else gDataKey n rel
    ({ d with gimg := if v % 2 ^ 32 = 0 then sdel d.gimg key else sput d.gimg key (BitVec.ofNat 32 v) }, false)

def ggcWrite (d : Dev) (r : RegRow) (addr v : Nat) : Dev × Bool :=
  let b := r.base
  if b = 0x30000C then (ggcDoorbellOp d (v % 512), false)
  else if b = 0x310000 then gougeWrite d true (addr - b) v
  else if b = 0x320000 then gougeWrite d false (addr - b) v
  else if b = 0x304000 ∨ b = 0x304004 then
    if d.is GGC_WIN_SEL_VIEW then d.refuse GGC_STATUS_WIN_REFUSED else d.plain r addr v
  else d.plain r addr v

def tsuWrite (d : Dev) (r : RegRow) (addr v : Nat) : Dev × Bool :=
  let b := r.base
  if b = 0x380000 then (tsuCtrlOp d v, false)
  else if b = 0x380020 then flagged d TSU_STATUS_STEP_REFUSED (fun d => tsuStepOp d v)
  else if b = 0x380030 then (tsuRateOp d v, false)
  else if b = 0x380034 then (tsuSlewOp d v, false)
  else if b = 0x380210 then (pulseCtrlOp d ((addr - b) / 32) v, false)
  else if b = 0x380058 then (let r := d.plain r addr v; (r.1.ppsCheck, r.2))
  else d.plain r addr v

/-- An entry that may be written while its VALID is 0: with VALID set, a write that clears VALID is taken, and nothing else of it. -/
def Dev.entryWrite (d : Dev) (r : RegRow) (addr v : Nat) (valid : Fld) (armed : Dev → Dev) : Dev × Bool :=
  if d.is valid then
    if addr = valid.addr ∧ fin valid v = 0 then (d.set valid 0, false) else (d, true)
  else
    let d := writeReg d r addr v
    (if d.is valid then armed d else d, false)

/-- A replica entry comes into force: its rounds start afresh. One that is EXPELLED stays so (R420). -/
def Dev.replicaArm (d : Dev) (i : Nat) : Dev :=
  let d := if d.get (TLS_REPLICA_STATE i) = 1 then d else d.set (TLS_REPLICA_STATE i) 0
  let d := (d.set (TLS_REPLICA_ROUND i) 0).set (TLS_REPLICA_LAST i) 0
  { d with tls := { d.tls with
    rounds := d.tls.rounds.filter (fun e => e.1 / 4 != i)
    steps := sdel d.tls.steps i
    matched := sdel d.tls.matched i } }

/-- A pair is configured anew: what its exchange had reached is forgotten. -/
def Dev.pairReset (d : Dev) (n : Nat) : Dev :=
  { d with tls := { d.tls with
    hello := d.tls.hello.filter (· != n)
    silent := d.tls.silent.filter (· != n)
    mine := sdel d.tls.mine n
    theirs := sdel d.tls.theirs n
    heard := sdel d.tls.heard n } }.set (TLS_PAIR_HEARD n) 0

def tlsWrite (m : Mem) (d : Dev) (r : RegRow) (addr v : Nat) : Dev × Bool :=
  let b := r.base
  let i := (addr - 0x3C4000) / 32
  let w := (addr - 0x3C6000) / 32
  if b = 0x3C0004 then ((writeReg d r addr v).faultPin, false)
  else if b = 0x3C0010 then
    let mode := d.get TLS_SHADOW_CFG_MODE
    let d := writeReg d r addr v
    (if fin TLS_SHADOW_CFG_MODE v = 3 then d.set TLS_SHADOW_CFG_MODE mode else d, false)
  else if b = 0x3C0020 then (seqAbortReg m d v rsSTATE_LOST, false)
  else if b = 0x3C1000 then ((writeReg d r addr v).pairReset ((addr - b) / 4), false)
  else if 0x3C4000 ≤ b ∧ b < 0x3C4020 then d.entryWrite r addr v (TLS_REPLICA_VALID i) (fun d => d.replicaArm i)
  else if 0x3C6000 ≤ b ∧ b < 0x3C6020 then d.entryWrite r addr v (TLS_CWIN_VALID w) (fun d => d.winArm w)
  else d.plain r addr v

def fplWrite (d : Dev) (r : RegRow) (addr v : Nat) : Dev × Bool :=
  let b := r.base
  if b = 0x18 then
    let d := fwCtrlOp d v
    (d, v.testBit 5 && d.get FPL_FW_CTRL_RESULT == stREFUSED_STATE)
  else if b = 0x28 then flagged d FPL_DET_CFG_REFUSED (fun d => detCfgOp d v)
  else if b = 0x30 then
    let d := updCtrlOp d v
    (d, v % 2 == 1 && d.get FPL_UPD_CTRL_STATUS == stREFUSED_STATE)
  else if b = 0x40 then
    let d' := updDataOp d v
    (d', d'.fpl.upd.total == d.fpl.upd.total)
  else if b = 0x68 then (attestGoOp d v, v % 2 == 1 && (d.is FPL_ATTEST_CTRL_BUSY || !d.is FPL_BOOT_STATUS_ID_OK))
  else d.plain r addr v

def virWrite (m : Mem) (d : Dev) (r : RegRow) (addr v : Nat) : Dev × Bool :=
  let b := r.base
  let i := (addr - 0x420000) / 64
  if b = 0x400010 then
    if d.is VIR_STATUS_VF_EN then d.refuse VIR_STATUS_CFG_REFUSED else (d.set VIR_VF_WIN_CFG_LOG (min 6 (v % 8)), false)
  else if b = 0x420000 then flagged d VIR_STATUS_CFG_REFUSED (fun d => instCtrlOp m d i v)
  else if b = 0x420008 ∨ b = 0x420010 ∨ b = 0x420018 then
    if d.is (VIR_INST_CTRL_EN i) then d.refuse VIR_STATUS_CFG_REFUSED else d.plain r addr v
  else d.plain r addr v

/-- Registers of an instance page (R450-R455). While the instance is being reset its page takes no write (R457). -/
def pageWrite (m : Mem) (d : Dev) (r : RegRow) (addr v : Nat) : Dev × Bool :=
  let b := r.base
  let i := (addr - 0x20000000) / 0x10000
  let w := (addr - b) % 0x10000 / 8
  if d.resetting i then (d, true)
  else if b = 0x20000008 then flagged d (INST_STATUS_RING_REFUSED i) (fun d => ringCfgOp d i 0 v)
  else if b = 0x20000018 then flagged d (INST_STATUS_RING_REFUSED i) (fun d => ringCfgOp d i 1 v)
  else if b = 0x20000028 then flagged d (INST_STATUS_RING_REFUSED i) (fun d => ringCfgOp d i 2 v)
  else if b = 0x20000010 then (sqDoorbellOp d i v, d.sqRefuses i v)
  else if b = 0x20000040 then
    let d := d.set (MBOX_OUT_W i w) v
    if w = 7 then
      let d := mailboxSendOp m d i ((List.range 8).map (fun k => w64 (d.get (MBOX_OUT_W i k))))
      (d, d.get (MBOX_CTRL_SEND_STATUS i) != stOK)
    else (d, false)
  else if b = 0x200000C0 then (mailboxPopOp d i v, false)
  else d.plain r addr v

/-- The perturbation block (R486-R492): held for a conditioned retest, it takes the Tailstock's writes alone. The
configuration image cannot write it (R488). -/
def prtWrite (d : Dev) (a : Agent) (r : RegRow) (addr v : Nat) : Dev × Bool :=
  let b := r.base
  if d.fpl.applying && a == .faceplate then (d, true)
  else if b = 0x440000 then flagged d PRT_STATUS_CFG_REFUSED (fun d => prtCtrlOp d a v)
  else if b = 0x440030 then flagged d PRT_STATUS_CFG_REFUSED (fun d => prtInjEccOp d a v)
  else if b = 0x440038 then flagged d PRT_STATUS_CFG_REFUSED (fun d => prtInjChkOp d a v)
  else if b = 0x440040 then flagged d PRT_STATUS_CFG_REFUSED (fun d => prtInjDigOp d a v)
  else if b = 0x440044 then flagged d PRT_STATUS_CFG_REFUSED (fun d => prtInjLinkOp d a v)
  else if d.prtHeld a then d.refuse PRT_STATUS_CFG_REFUSED
  else ((writeReg d r addr v).prtWritten, false)

/-- A write of a whole register: what it does, and whether it was refused or discarded. Writes to the staged set are discarded while a set is
pending, and the active set is read-only (R296, R300). -/
def regWrite (m : Mem) (d : Dev) (a : Agent) (r : RegRow) (addr v : Nat) (act : Bool) : Dev × Bool :=
  let b := r.base
  if act then (d, true)
  else if inRadioSet addr && d.is RAD_CFG_CTRL_PENDING then d.refuse RAD_STATUS_CFG_REFUSED
  else if b < 0x40000 then fplWrite d r addr v
  else if b < 0x80000 then lthWrite m d r addr v
  else if b < 0x100000 then d.plain r addr v
  else if b < 0x180000 then srvWrite m d r addr v
  else if b < 0x200000 then memWrite m d r addr v
  else if b < 0x280000 then unlWrite d r addr v
  else if b < 0x300000 then radWrite d r addr v
  else if b < 0x380000 then ggcWrite d r addr v
  else if b < 0x3C0000 then tsuWrite d r addr v
  else if b < 0x400000 then tlsWrite m d r addr v
  else if b < 0x440000 then virWrite m d r addr v
  else if b < 0x480000 then prtWrite d a r addr v
  else if b < 0x20000000 then memWrite m d r addr v
  else if b < 0x40000000 then pageWrite m d r addr v
  else radWrite d r addr v

/-! ### Writes (R12-R14) -/

/-- A write reaches a register whole: it is performed and recorded. -/
def commitWrite (m : Mem) (d : Dev) (a : Agent) (sp : Space) (off : Nat) (r : RegRow) (addr v : Nat) (act : Bool) : Dev :=
  let old := d.shown a r addr act
  let x := regWrite m d a r addr v act
  x.1.jrnlWrite a sp off r addr v old x.2

/-- The low half of a 64-bit register when its high word is written with no low word held: RW fields as they stand, 0 elsewhere. -/
def neutralLow (d : Dev) (r : RegRow) (addr : Nat) : Nat :=
  (r.fields.map (fun f => if f.acc = .rw then d.get (fldOf r addr f) * 2 ^ f.lo else 0)).sum % 2 ^ 32

/-- Writes a word of an MSI-X table: the address is 4-byte aligned, of the vector control word the Mask bit alone is kept (PCI Express). -/
def Dev.msixWrite (d : Dev) (i k v : Nat) : Dev :=
  let x := if k % 4 = 3 then v % 2 else if k % 4 = 0 then v / 4 * 4 else v
  let d := { d with vir := { d.vir with msixTab := sput d.vir.msixTab (i * 65536 + k) (x % 2 ^ 32) } }
  if k % 4 = 3 ∧ x = 0 then d.msixFlush else d

/-- A write of `len` bytes at an offset. -/
def busWrite (m : Mem) (d : Dev) (a : Agent) (sp : Space) (off len value : Nat) : Dev :=
  let k := latchKey a sp
  let v := value % 2 ^ (8 * len)
  let held := sfind d.bus.held k
  let d := if sp = .bar0 then d.unlatch k else d
  if !d.reach a sp off true then d
  else
    if (len ≠ 4 ∧ len ≠ 8) ∨ off % len ≠ 0 then d
    else match d.hit a sp off with
      | .none => d
      | .pba _ _ => d
      | .msix i w =>
        if i ≠ 0 && d.resetting i then d
        else if len = 8 then (d.msixWrite i w (v % 2 ^ 32)).msixWrite i (w + 1) (v / 2 ^ 32) else d.msixWrite i w v
      | .reg r addr act =>
        if sp == .bar2 && (match a with | .vf _ => true | _ => false) then d
        else if !r.is64 then
          if len = 8 then d else commitWrite m d a sp off r addr v act
        else if len = 8 then commitWrite m d a sp off r addr v act
        else if off % 8 = 0 then { d with bus := { d.bus with held := sput d.bus.held k (actKey addr act, v) } }
        else
          let d := { d with bus := { d.bus with held := sdel d.bus.held k } }
          let low := match held with
            | some (key, lo) => if key = actKey addr act then lo else neutralLow d r addr
            | none => neutralLow d r addr
          commitWrite m d a sp (off - 4) r addr (low + v * 2 ^ 32) act

end Sys2Proof.Machine
end

