-- ==== Sys2Proof/Machine/Jtag.lean ====
section
/-!
DEFINITION. Machine/Jtag.lean: the levels at the LVCMOS pins and the JTAG port (R502, R506).
-/

namespace Sys2Proof.Machine

/-- JTAG instructions (R506). -/
def tapBYPASS : Nat := 1
def tapIDCODE : Nat := 2
def tapSAMPLE : Nat := 3
def tapEXTEST : Nat := 4
def tapCLAMP : Nat := 5
def tapHIGHZ : Nat := 6

/-- The IDCODE register's value. -/
def jtagIdcode : Nat := 0x21648A4D

/-- A level of a pin: low, high, or not driven. -/
def lvl (b : Bool) : Nat := if b then 1 else 0
def lvlZ : Nat := 2

/-- LVCMOS pins that the device drives, in the order of R502. NVM_DQ, NVM_DQS and SPINDLE_SYNC are inputs too. -/
def drivenPins : List Nat :=
  [pinPPS_OUT, pinPULSE 0, pinPULSE 1, pinPULSE 2, pinPULSE 3, pinSPINDLE_SYNC, pinNVM_CLK, pinNVM_CS_N] ++ (List.range 9).map pinNVM_DQ ++
  [pinAVS_CLK, pinAVS_MDATA]

/-- The cells of the boundary-scan register, the one nearest TDO first: one for each LVCMOS pin outside the port itself, in the order of R502
(DESIGN CHOICE, log 189). -/
def scanCells : List Nat := [pinPWR_GOOD, pinSYS_RST_N, pinPERST_N, pinPPS_IN] ++ drivenPins ++ [pinAVS_SDATA]

/-- The level that the device's own function gives a pin: R502's level in reset, and what the units drive otherwise. Between two transfers the
flash's and the AVSBus pins stand as in reset. -/
def Dev.pinOwn (d : Dev) (p : Nat) : Nat :=
  if p = pinPPS_OUT then lvl d.tsu.ppsHigh
  else if pinPULSE 0 ≤ p ∧ p ≤ pinPULSE 3 then
    if d.pins.rstLow || d.pins.pwrLow then 0 else d.pulseLevel (p - pinPULSE 0)
  else if p = pinSPINDLE_SYNC then if d.get LTH_TICK_CFG_SYNC_MODE = 1 then 0 else lvlZ
  else if p = pinNVM_CLK then lvl d.pins.nvmClk
  else if p = pinNVM_CS_N then lvl d.pins.nvmCsN
  else if p = pinAVS_CLK then lvl d.pins.avsClk
  else if p = pinAVS_MDATA then lvl d.pins.avsMdata
  else lvlZ

/-- The level that the device drives at an output: its own, or that of EXTEST and CLAMP (the pin's cell) or of HIGHZ (none). -/
def Dev.pinLevel (d : Dev) (p : Nat) : Nat :=
  if d.pins.tap = tapEXTEST ∨ d.pins.tap = tapCLAMP then lvl (d.pins.bsr.getD (scanCells.idxOf p) false)
  else if d.pins.tap = tapHIGHZ then lvlZ
  else d.pinOwn p

/-- What SAMPLE finds at a pin: the level driven there, the level of an input that the model holds, and for another input a draw. -/
def Dev.pinSample (d : Dev) (p : Nat) : Bool :=
  if p = pinPWR_GOOD then !d.pins.pwrLow
  else if p = pinSYS_RST_N then !d.pins.rstLow
  else if p = pinPERST_N then !d.vir.perst
  else if drivenPins.contains p && d.pinLevel p != lvlZ then d.pinLevel p == 1
  else Config.pinIn d.free p

/-- The TAP's instruction register takes a code. -/
def Dev.putTap (d : Dev) (i : Nat) : Dev := { d with pins := { d.pins with tap := i } }

/-- An instruction becomes the current one; outputs whose level this changes show an edge (level 2: no longer driven). -/
def Dev.setTap (d : Dev) (i : Nat) : Dev :=
  let d' := d.putTap i
  if (d.pins.tap < tapEXTEST ∧ i < tapEXTEST) ∨ d.pins.tap = i then d'
  else (drivenPins.filter (fun p => d.pinLevel p != d'.pinLevel p)).foldl (fun d p => d.edge p (d'.pinLevel p)) d'

/-- Loads an instruction of the TAP. EXTEST, CLAMP and HIGHZ act only while SYS_RST_N is low; loaded at any other time they act as
BYPASS. -/
def tapLoad (d : Dev) (i : Nat) : Dev :=
  if decide (i ≥ tapEXTEST) && !d.pins.rstLow then d.setTap tapBYPASS else d.setTap i

/-- IDCODE: the register's value is shifted out. -/
def idcodeOp (d : Dev) : Dev :=
  let d := d.setTap tapIDCODE
  { d with out := { d.out with tdo := d.out.tdo ++ [jtagIdcode] } }

/-- A number of bits, the first the lowest. -/
def bitsNum : List Bool → Nat
  | [] => 0
  | b :: t => (if b then 1 else 0) + 2 * bitsNum t

/-- SAMPLE/PRELOAD: the cells capture the levels at their pins, then as many bits as are shifted in at TDI leave at TDO, the cell nearest TDO
first; what stands in the cells afterwards is what EXTEST and CLAMP drive. -/
def samplePreloadOp (d : Dev) (preload : List Bool) : Dev :=
  let d := d.setTap tapSAMPLE
  let all := scanCells.map d.pinSample ++ preload
  let n := preload.length
  { d with
    free := d.free + 1
    pins := { d.pins with bsr := all.drop n }
    out := { d.out with tdo := if n = 0 then d.out.tdo else d.out.tdo ++ [bitsNum (all.take n)] } }

/-- TRST_N low resets the TAP only (R503): IEEE 1149.1 selects IDCODE. -/
def trstOp (d : Dev) : Dev := d.setTap tapIDCODE

/-- SYS_RST_N is high again: an instruction that takes effect only while it is low acts as BYPASS. -/
def Dev.tapRelease (d : Dev) : Dev := if d.pins.tap ≥ tapEXTEST then d.setTap tapBYPASS else d

end Sys2Proof.Machine
end

