-- ==== Sys2Proof/Machine/Tick.lean ====
section
/-!
DEFINITION. Machine/Tick.lean: the tick boundary, the guard and the alignment of ticks (R41, R42, R52, R72, R80-R84), and the swap of
contexts between boundaries (R69, R70).
-/

namespace Sys2Proof.Machine

/-! ### Alignment (R80-R84) -/

/-- A phase difference folded to the nearest instant of a period: within half a period of 0. -/
def foldPhase (x : Int) (period : Nat) : Int := (x + (period : Int) / 2) % period - (period : Int) / 2

/-- Number of the grid instant nearest to T (R42): floor((t - EPOCH) / period + 1/2). -/
def Dev.gridNumber (d : Dev) : Int :=
  (2 * ((d.T : Int) - d.get LTH_TICK_EPOCH_EPOCH_NS) + d.tickNs) / (2 * (d.tickNs : Int))

/-- Whether the device itself places its boundaries on the time grid: master and grid mode once time is valid, a follower that has lost
SPINDLE_SYNC (R80, R83). -/
def Dev.onGrid (d : Dev) : Bool :=
  let mode := d.get LTH_TICK_CFG_SYNC_MODE
  d.is TSU_STATUS_VALID && (mode == 1 || mode == 3 || (mode == 2 && d.is LTH_STATUS_SYNC_LOST))

/-- Phase error of a boundary that falls now, in ns: none in standalone mode, before time is valid, and for a follower that has seen no
edge. -/
def Dev.phaseErr (d : Dev) : Option Int :=
  if d.onGrid then some ((d.T : Int) - d.get LTH_TICK_EPOCH_EPOCH_NS - d.gridNumber * d.tickNs)
  else if d.get LTH_TICK_CFG_SYNC_MODE = 2 && !d.is LTH_STATUS_SYNC_LOST then
    d.lathe.edgeT.map (fun e => foldPhase ((d.T : Int) - e - d.get LTH_SYNC_CFG_DELAY) d.tickNs)
  else none

/-- PHASE_ERR as a signed number. -/
def Dev.lastPhase (d : Dev) : Int := s16 (d.get LTH_SYNC_STATUS_PHASE_ERR)

/-- PHASE_ERR and LOCKED for a phase error (R82): LOCKED is 1 while it is 20 ns or less. -/
def Dev.showPhase (d : Dev) (e : Option Int) : Dev :=
  let locked := match e with | some x => decide (x.natAbs ≤ 20) | none => false
  let d := d.set LTH_SYNC_STATUS_PHASE_ERR (encInt 16 (max (-32767) (min 32767 (e.getD 0))))
  d.set LTH_STATUS_LOCKED (if locked then 1 else 0)

/-- The phase part of a boundary (R82, R84). The tick that ends was stretched when it began with an error that is corrected: any error while no
cell is on air, one above 20 ns otherwise. -/
def Dev.phaseBoundary (d : Dev) : Dev :=
  let e := d.phaseErr
  let limit := if d.rad.cells.isEmpty then 0 else 20
  let d := if e.isSome && decide (d.lastPhase.natAbs > limit) then d.bump LTH_SYNC_STATUS_STRETCHED 1 else d
  let d := (d.showPhase e).set LTH_STATUS_ON_GRID (if d.onGrid then 1 else 0)
  let missed := if d.get LTH_TICK_CFG_SYNC_MODE = 2 && !d.lathe.seen then d.lathe.missed + 1 else 0
  { d with lathe := { d.lathe with missed := missed, seen := false, boundaryT := d.T, ticks := d.lathe.ticks + 1, aligned := d.is LTH_STATUS_LOCKED } }

/-- The tick number of the boundary (R42). -/
def Dev.countBoundary (d : Dev) : Dev :=
  let n := if d.is TSU_STATUS_VALID && d.get LTH_TICK_CFG_SYNC_MODE != 0 then (d.gridNumber % 2 ^ 64).toNat
    else d.get LTH_TICK_COUNT_COUNT + 1
  ({ d with fpl := { d.fpl with lease := d.fpl.lease.map (· + 1) } } : Dev).set LTH_TICK_COUNT_COUNT n

/-- SPINDLE_SYNC_EDGE (R81-R83): a follower takes the edge, and the error of its last boundary against it shows in PHASE_ERR and LOCKED; when edges
return, SYNC_LOST is cleared. -/
def syncEdgeOp (d : Dev) : Dev :=
  if d.get LTH_TICK_CFG_SYNC_MODE ≠ 2 then d
  else
    let d := { d with lathe := { d.lathe with edgeT := some (d.T : Int), seen := true, missed := 0 } }
    let d := if d.lathe.ticks = 0 then d
      else d.showPhase (some (foldPhase (d.lathe.boundaryT - d.T - d.get LTH_SYNC_CFG_DELAY) d.tickNs))
    if d.is LTH_STATUS_SYNC_LOST then (d.set LTH_STATUS_SYNC_LOST 0).set LTH_SYNC_STATUS_STRETCHED 0 else d

/-- SYNC_LOSS (R83): a follower has missed LOSS_EDGES expected edges. -/
def syncLossOp (d : Dev) : Dev :=
  if d.get LTH_TICK_CFG_SYNC_MODE ≠ 2 || d.is LTH_STATUS_SYNC_LOST || decide (d.lathe.missed < d.get LTH_SYNC_CFG_LOSS_EDGES) then d
  else (d.set LTH_STATUS_SYNC_LOST 1).event srcLathe .syncLost []

/-- The master drives SPINDLE_SYNC high for 100 ns (R81). -/
def Dev.driveSync (d : Dev) : Dev :=
  if d.get LTH_TICK_CFG_SYNC_MODE = 1 then
    { d with out := { d.out with edges := d.out.edges ++ [(pinSPINDLE_SYNC, 1, d.T), (pinSPINDLE_SYNC, 0, d.T + 100)] } }
  else d

/-! ### The guard (R41, R46, R52, R72) -/

/-- Inference items that have not committed are cut; those of the lists that have not started are carried to the next tick, in their
order and without a record. -/
def guardCuts (m : Mem) (d : Dev) : Dev :=
  let d := (d.chucks.map (·.1)).foldl (fun d tc => (cutRun m d tc).tileShow (tc / 4)) d
  d.tiles.foldl (fun d e =>
    let x := d.tile e.1
    if x.list = [] then d
    else ({ d with lathe := { d.lathe with pend := d.lathe.pend ++ x.list } } : Dev).setTile e.1 { x with list := [] }) d

/-- GUARD_START: the cuts, and the release of items whose predecessors have their records (R48). -/
def guardOp (m : Mem) (d : Dev) : Dev :=
  if d.lathe.inGuard || !d.is FPL_BOOT_STATUS_IN_SERVICE then d
  else
    let d := guardCuts m { d with lathe := { d.lathe with inGuard := true } }
    let d := radioGuard m d
    releaseItems m d (d.lathe.ticks + 1)

/-! ### The boundary (R72) -/

/-- The core set-points over AVSBus (R497); at the last boundary of a lease the offsets act no more (R487). -/
def Dev.avsBoundary (d : Dev) : Dev :=
  let mv (f : Fld) : Nat := if d.is PRT_CTRL_EN && !d.leaseOver then (700 + signedOf 1 (d.get f)).toNat else 700
  { d with pins := { d.pins with avs0 := mv PRT_VCORE_OFS0, avs1 := mv PRT_VCORE_OFS1 } }

/-- The serving engine's part (R199, R203, R215); a cleared EN takes effect first where no step is in flight (R218). -/
def servingBoundary (m : Mem) (d : Dev) : Dev := buildSteps m d.disableEffect.refill.admitQueues

/-- SRV_DISABLE_EFFECT (R218): at the instant of a boundary, for an EN that is cleared at that instant. -/
def srvDisableOp (d : Dev) : Dev := if d.lathe.ticks != 0 && (d.T : Int) == d.lathe.boundaryT then d.disableEffect else d

/-- TICK_BOUNDARY. A guard that no command has started is over with the boundary. -/
def tickOp (m : Mem) (d : Dev) : Dev :=
  if !d.is FPL_BOOT_STATUS_IN_SERVICE then d
  else
    let prev := d.lathe.aligned
    let d := guardOp m d
    let d := { d with lathe := { d.lathe with inGuard := false } }
    let d := d.phaseBoundary.countBoundary
    let d := d.set LTH_STATUS_RUNNING (d.get LTH_CTRL_RUN)
    let d := releaseItems m d d.lathe.ticks
    let d := mapBoundary m d
    let d := freeForRadio m (dropBoundary m d)
    let d := swapBoundary m d
    let d := if d.is LTH_CTRL_RUN then buildLists m d else d
    let d := d.testLoads.driveSync
    let d := servingBoundary m d
    let d := d.resetsTick.avsBoundary.classBoundary
    let d := { d with mem := { d.mem with heatTicks := d.mem.heatTicks + 1 } }
    let d := radioBoundary m d (d.is LTH_STATUS_LOCKED) prev
    tlsBoundary m d

/-! ### Swaps (R69, R70) -/

/-- QUANTUM_EXPIRY: the choice for a context that has waited QUANTUM ticks is widened at the next boundary (R69). -/
def quantumOp (d : Dev) (c : Nat) : Dev :=
  if decide (sget d.lathe.waited c 0 < d.get LTH_SWAP_CFG_QUANTUM) || !d.runnable.contains c || d.lathe.widened.contains c then d
  else { d with lathe := { d.lathe with widened := d.lathe.widened ++ [c] } }

/-- SWAP_EVICTION_DONE: the banks are free, and the bring-in that waits for them starts. -/
def evictionDoneOp (m : Mem) (d : Dev) (c : Nat) : Dev :=
  match d.lathe.swaps.find? (fun s => s.ctx == c && s.out) with
  | none => d
  | some _ => claimsReady m (freeForRadio m (evictDone m d c))

end Sys2Proof.Machine
end

