-- ==== Sys2Proof/Machine/Boot.lean ====
section
/-!
DEFINITION. Machine/Boot.lean: from time 0 to service (R463-R465): the choice of the firmware slot (R477), what the flash gives (R400,
R407, R467-R470, R473), training, and the configuration image (R470-R472); temperature and its thresholds (R505).
-/

namespace Sys2Proof.Machine

/-! ### Time 0 (R463, R473, R477) -/

/-- A slot's container verifies (R476). -/
def Slot.verifies (s : Slot) (minSvn : Nat) : Bool :=
  if s.shipped then minSvn == 0 || decide (minSvn ≤ s.svn) else (!s.img.isEmpty && containerBad s.img minSvn == none)

/-- R477: the persistent state after the choice, and the slot booted with FALLBACK. -/
def bootChoice (f : Flash) : Flash × Option (Nat × Bool) :=
  let s := f.slot f.active
  let ok := s.verifies f.minSvn
  if s.state = 2 && ok then (f, some (f.active, false))
  else if s.state = 1 && decide (s.tries > 0) && ok then
    (f.setSlot f.active { s with tries := s.tries - 1 }, some (f.active, false))
  else
    let f := f.setSlot f.active { s with state := 3 }
    let o := 1 - f.active
    let x := f.slot o
    if (x.state == 1 || x.state == 2) && x.verifies f.minSvn then ({ f with active := o }, some (o, true)) else (f, none)

/-- BOOT_ROM_START: time 0, when the pins no longer hold the device in reset. The persistent record in force is read, the PUF gives the key K, the
slot is chosen, and a record is appended to the persistent state. -/
def bootRomOp (d : Dev) : Dev :=
  if d.pins.held || d.get FPL_BOOT_STATUS_PHASE != 0 then d
  else
    let c := bootChoice d.fpl.flash.load
    let key := if Config.pufOk d.free then Config.pufKey else []
    let f := { c.1 with boot := (c.1.boot + 1) % 65536 }.append
    let d := d.tapRelease
    let d := { d with
      pins := { d.pins with rstLow := false, pwrLow := false }
      free := d.free + 1
      fpl := { d.fpl with
        flash := f, key := key, time0 := d.T, image := none
        bootState := (match c.2 with | some s => (f.slot s.1).state | none => 0)
        fwDigest := match c.2 with | some s => (f.slot s.1).digest | none => [] } }
    let d := match c.2 with
      | some s => (d.set FPL_BOOT_STATUS_SLOT s.1).set FPL_BOOT_STATUS_FALLBACK (if s.2 then 1 else 0)
      | none => d
    d.set FPL_BOOT_STATUS_PHASE 1

/-! ### The end of the flash read (R463, R467) -/

/-- A unit's state after a record of the retention buffer (R400, R403): one that it classifies FAULTY, or whose cure it names, is FAULTY; a
detection counts, and makes a HEALTHY unit SUSPECT. -/
def UnitRec.recorded (r : UnitRec) (w : Words) : UnitRec :=
  let c : Cond := ⟨wfld w HREC_POS, signedOf 2 (wfld w HREC_TEMP), wfld w HREC_VCORE, wfld w HREC_LOAD_SIG⟩
  let seen : UnitRec := { r with conds := c :: r.conds, state := max 1 r.state }
  match wfld w HREC_EVENT with
  | 0 => { seen with times := wfld w HREC_POS :: r.times }
  | 1 => seen
  | 4 => { r.healthy with state := 2 }
  | 5 => { r.healthy with state := 2 }
  | _ => r

/-- R400: the records of the retention buffer enter the fault history. -/
def Dev.retainedIn (d : Dev) : Dev :=
  let f := d.tls.retained.foldl (fun (f : Flash) w =>
    let u := wfld w HREC_UNIT
    { f with
      hist := histAppend f.units f.pos f.hist w
      units := if wfld w HREC_EVENT ≤ 5 then f.summary u ((sget f.units u {}).recorded w) else f.units }) d.fpl.flash
  { d with tls := { d.tls with retained := [] }, fpl := { d.fpl with flash := f } }

/-- A unit's state at a start: no test runs, and the retest of a SUSPECT unit is due. A die-to-die link is tested at power-up (R401). -/
def UnitRec.started (r : UnitRec) (u pos : Nat) : UnitRec :=
  let due := r.state == 1
  { r with due := due, first := due, left := if due then r.retestSets pos else [], wait := none, part := false, blocked := false,
           test := if due && unitKind u == 7 then 2 else 0 }

/-- A physical tile's spare row of a cube serves one of its rows from now on. -/
def Dev.bootRow (d : Dev) (u : Nat) : Dev :=
  let c := unitCube u
  let set (w : Nat) : Nat := w - 15 * 2 ^ (4 * c) + unitProw u * 2 ^ (4 * c)
  match d.logicalOf u with
  | some t => d.showSpare t (set (d.spareWord t))
  | none =>
    let p := physUnit (unitTileRow u * 20) (unitPcol u)
    { d with tls := { d.tls with spares := sput d.tls.spares p (set (sget d.tls.spares p 0xFFFFFFFF)) } }

/-- The row of CUB_TILE_SPARE for a unit's cube: the logical row that the spare serves, 15 when it is free. -/
def Dev.bootSpare (d : Dev) (u : Nat) : Nat :=
  let w := match d.logicalOf u with
    | some t => d.spareWord t
    | none => sget d.tls.spares (physUnit (unitTileRow u * 20) (unitPcol u)) 0xFFFFFFFF
  w / 2 ^ (4 * unitCube u) % 16

/-- A physical tile does not serve (R187): its row's spare takes its place, or the logical tile is disabled. -/
def bootTile (m : Mem) (d : Dev) (u : Nat) : Dev :=
  match d.logicalOf u with
  | some t =>
    if unitPcol u < 20 && d.spareFree t && !d.unitFaulty (physUnit t 20) then d.substitute t (unitPcol u) else disableTile m d t
  | none =>
    let i := unitTileRow u
    let d := d.set (CUB_ROW_MAP_RETIRED i) (d.get (CUB_ROW_MAP_RETIRED i) ||| 2 ^ unitPcol u)
    if unitPcol u = 20 then d.set (CUB_ROW_MAP_STATE i) 5 else d

/-- A FAULTY unit's cure at power-up (R186, R187, R401, R407). The states of cores, engines and links themselves keep them out of use. -/
def bootCure (m : Mem) (d : Dev) (u : Nat) : Dev :=
  match unitKind u with
  | 1 => bootTile m d u
  | 2 =>
    let spareBad := d.unitFaulty (unitRow (u % 2) (u / 2 % 8) (unitPcol u) (unitCube u) 8)
    if unitProw u < 8 then (if d.bootSpare u = 15 && !spareBad then d.bootRow u else bootTile m d u)
    else d
  | 3 => d
  | 4 => d
  | 7 => d
  | _ => d.cureAct u

/-- The order in which FAULTY units receive their cures at power-up: that in which the ring first records their cures, so that of two tiles of a row
the one that took the spare takes it again; then the units without such a record, in ascending order (R187; DESIGN CHOICE, log 180). -/
def Flash.bootOrder (f : Flash) (us : List Nat) : List Nat :=
  let cured := (((f.hist.filter (fun w => wfld w HREC_EVENT == 5)).map (fun w => wfld w HREC_UNIT)).eraseDups).filter (fun u => us.contains u)
  cured ++ us.filter (fun u => !cured.contains u)

/-- The Tailstock starts (R463): the units' states come from the history, FAULTY units receive their cures, FAULT_N follows. -/
def tailstockStart (m : Mem) (d : Dev) : Dev :=
  let f := d.fpl.flash
  let units : SMap UnitRec := f.units.map (fun e => (e.1, e.2.started e.1 f.pos))
  let d := ({ d with tls := { d.tls with units := units } } : Dev).set TLS_POS_POS f.pos
  let d := (f.bootOrder ((units.filter (fun e => e.2.state == 2)).map (·.1))).foldl (bootCure m) d
  (d.set FPL_REPLAY_CLASS_DIS_HASH d.disHash).set TLS_STATUS_RUNNING 1 |>.faultPin

/-- GEN of this start (R252): one more than at the last one, skipping 0. -/
def Dev.nextGen (d : Dev) : Dev :=
  let g := (d.fpl.flash.gen + 1) % 65536
  let g := if g = 0 then 1 else g
  (d.setFlash { d.fpl.flash with gen := g }).set UNL_NODE_GEN g

/-- The configuration copy selected (R470): of those whose digests verify, the one with the later SEQ, taken as a signed difference. -/
def Flash.copy (f : Flash) (i : Nat) : List Byte := if i = 0 then f.cfg0 else f.cfg1
def Flash.selected (f : Flash) : Option Nat :=
  let seq (i : Nat) : Nat := wfld (imgHdr (f.copy i)) CIMG_SEQ
  let later := (seq 1 + 2 ^ 32 - seq 0) % 2 ^ 32
  match configGood f.cfg0, configGood f.cfg1 with
  | true, true => some (if 0 < later ∧ later < 2 ^ 31 then 1 else 0)
  | true, false => some 0
  | false, true => some 1
  | false, false => none

/-- The identity (R473). -/
def Dev.identity (d : Dev) : Dev :=
  let d := d.set FPL_BOOT_STATUS_FACTORY_BAD (if Config.factoryGood then 0 else 1)
  if d.fpl.key.isEmpty then d
  else
    let pub := bytesWords 4 (edPublic (idSeed d.fpl.key))
    forN 4 (d.set FPL_BOOT_STATUS_ID_OK 1) (fun d i => d.set (FPL_ID_KEY_KEY i) (pub.getD i 0#64).toNat)

/-- The Device Serial Number (R442): the first 8 bytes of the SHA-512 digest of the identity public key. It is free while no identity is derived. -/
def Dev.serial (d : Dev) : Nat :=
  if d.is FPL_BOOT_STATUS_ID_OK then
    leNat ((sha512 (wordsBytes ((List.range 4).map (fun i => w64 (d.get (FPL_ID_KEY_KEY i)))))).take 8)
  else Config.serial

/-- The regions of the flash (R467): offset, size, used length, and whether the start reads them whole; of the slots and copies it reads one each. -/
def flashRegions : List (Nat × Nat × Nat × Bool) :=
  [(0x0, 0x10000, 4096, true), (0x10000, 0x10000, 8192, true), (0x20000, 0x20000, 0x20000, true), (0x100000, 0x1000000, imageMax, false),
    (0x1100000, 0x1000000, imageMax, false), (0x2100000, 0x1000000, imageMax, false), (0x3100000, 0x1000000, imageMax, false),
    (0x4100000, 0x200000, 0x200000, true), (0x4300000, 0x400000, 2232320, true)]

/-- Bytes of the largest start-up read: the regions read whole, one container, one configuration image and the header of the other copy. -/
def startReadMax : Nat := ((flashRegions.filter (fun r => r.2.2.2)).map (fun r => r.2.2.1)).sum + 2 * imageMax + 64

/-- Stored training results serve this device (R464): they are there, their CRC is good, and they name its serial number. -/
def Dev.trained (d : Dev) : Bool :=
  match d.fpl.flash.training with
  | some t => crc32 t.results == t.crc && t.serial == d.serial
  | none => false

/-- FLASH_READ_DONE: firmware is released, or the device enters recovery (R478). -/
def flashReadOp (m : Mem) (d : Dev) : Dev :=
  if d.get FPL_BOOT_STATUS_PHASE ≠ 1 then d
  else
    let f := d.fpl.flash
    let d := d.identity.showFlash
    let d := d.set FPL_FW_CTRL_OWNER_LOCK (if f.lock then 1 else 0)
    let d := d.set FPL_BOOT_TIME_FLASH_MS ((d.T - d.fpl.time0) / 1000000)
    if d.fpl.fwDigest.isEmpty then d.set FPL_BOOT_STATUS_PHASE 5
    else
      let d := d.set FPL_REPLAY_CLASS_FW_VERSION d.bootedSlot.ver
      let d := d.set FPL_FW_CTRL_CONFIRM (if d.bootedSlot.state = 2 then 1 else 0)
      let d := ({ d with fpl := { d.fpl with image := f.selected.map (fun i => (i, f.copy i)) } } : Dev).set FPL_BOOT_STATUS_CFG_COPY (f.selected.getD 0)
      let d := (tailstockStart m d.retainedIn.nextGen)
      ({ d with fpl := { d.fpl with released := d.get TLS_POS_POS } } : Dev).set FPL_BOOT_STATUS_PHASE 2

/-- MEMORY_TRAINING_DONE (R463, R464). -/
def trainingOp (d : Dev) : Dev :=
  if d.get FPL_BOOT_STATUS_PHASE ≠ 2 then d
  else (d.set FPL_BOOT_STATUS_FULL_TRAIN (if d.trained then 0 else 1)).set FPL_BOOT_STATUS_PHASE 3

/-! ### The configuration image (R470-R472) -/

/-- One write of the image. A write that its register's rules refuse is counted by the register port; one that names an offset of the PRT block
is refused and counted here, whatever stands there and whatever its length (R488). -/
def imageWrite (m : Mem) (d : Dev) (sp : Space) (off len v : Nat) : Dev :=
  if sp == .bar0 && decide (0x440000 ≤ off) && decide (off < 0x480000) then
    (d.unlatch (latchKey .faceplate .bar0)).bump FPL_CFG_REFUSED_WRITES 1
  else busWrite m d .faceplate sp off len v

/-- The Faceplate firmware writes pairs or ascending words. -/
def imagePairs (m : Mem) (d : Dev) (len : Nat) (ps : List (Nat × Nat)) : Dev :=
  ps.foldl (fun d p => imageWrite m d .bar0 p.1 len p.2) d
def imageBlock (m : Mem) (d : Dev) (sp : Space) (off : Nat) (ws : List Nat) : Dev :=
  ws.zipIdx.foldl (fun d w => imageWrite m d sp (off + 4 * w.2) 4 w.1) d

/-- Bytes of a Gouge image: program, the two K ranges, GGC_IN_CFG and GGC_OUT_CFG (R471). -/
def gougeImageBytes : Nat := 0x8000 + (0x1E3E0 - 0x18000) + (0x20000 - 0x1EE00) + 8

/-- Key of word `i` of a Gouge image before the two configuration words. -/
def gougeImageKey (n i : Nat) : Nat :=
  if i < 0x2000 then n * 65536 + i
  else
    let k := i - 0x2000
    let first := (0x1E3E0 - 0x18000) / 4
    gDataKey n (if k < first then 0x18000 + 4 * k else 0x1EE00 + 4 * (k - first))

/-- Writes one core's staged image. -/
def Dev.putGougeImage (d : Dev) (img : List Byte) (n : Nat) : Dev :=
  let words := (gougeImageBytes - 8) / 4
  let word (i : Nat) : Nat := leNat ((img.drop (4 * i)).take 4)
  let g := forN words d.gimg (fun g i =>
    let k := gougeImageKey n i
    if word i = 0 then sdel g k else sput g k (BitVec.ofNat 32 (word i)))
  ({ d with gimg := g }.putReg (0x304000 + 8 * n) (word words)).putReg (0x304004 + 8 * n) (word (words + 1))

/-- A GOUGE record; its failure stops application: an image of another size, or a set that is pending (R300). -/
def imageGouge (d : Dev) (cores : List Nat) (img : List Byte) : Dev × Option Nat :=
  if img.length ≠ gougeImageBytes ∨ d.is RAD_CFG_CTRL_PENDING then (d, some stREFUSED_STATE)
  else (cores.foldl (fun d n => d.putGougeImage img n) d, none)

/-- The extents that a memory command moves are copied, one after another, until its result is there. -/
def imageCopies (m : Mem) (ok : Bool) : Nat → Dev → Dev
  | 0, d => d
  | n + 1, d =>
    match d.mem.moves with
    | [] => d
    | v :: _ => imageCopies m ok n (copyDone m d v.ext ok)

/-- A MEMCMD record: the Faceplate waits for the command's result and removes it. -/
def imageMemcmd (m : Mem) (d : Dev) (w0 w1 w2 : W64) (ok : Bool) : Dev × Option Nat :=
  let d := memIssue m ((d.set MEM_CMD_W0_W w0.toNat).set MEM_CMD_W1_W w1.toNat) ⟨w0, w1, w2, ok⟩
  let d := imageCopies m ok 65536 d
  match d.mem.results.getLast? with
  | none => (d, some stREFUSED_STATE)
  | some r =>
    let d := { d with mem := { d.mem with results := d.mem.results.dropLast } }.memStatus
    let st := r.toNat % 256
    (d, if st = stOK then none else some st)

/-- A RADIO_COMMIT record: RAD_CFG_CTRL.COMMIT is written and its RESULT awaited. A refusal sets RADIO_REFUSED, and is not one of the writes
that FPL_CFG_REFUSED counts (R471). -/
def imageCommit (_ : Mem) (d : Dev) : Dev :=
  let d := radioCommitOp (d.unlatch (latchKey .faceplate .bar0))
  if d.get RAD_CFG_CTRL_RESULT = stOK then d else d.set FPL_CFG_STATUS_RADIO_REFUSED 1

/-- Numbers of 4 or 8 bytes in a row. -/
def leNats (w : Nat) (bs : List Byte) : List Nat := (List.range (bs.length / w)).map (fun i => leNat ((bs.drop (w * i)).take w))
def pairUp : List Nat → List (Nat × Nat)
  | a :: b :: t => (a, b) :: pairUp t
  | _ => []

/-- Cores of a 64-byte mask. -/
def maskCores (bs : List Byte) : List Nat := (List.range 512).filter (fun n => (bs.getD (n / 8) 0#8).toNat.testBit (n % 8))

/-- One record: the device after it, and whether application goes on, ends, or stops with a status. -/
inductive RecordEnd where
  | more | done | stop (status : Nat)
deriving DecidableEq, Repr

def recordEnd (r : Dev × Option Nat) : Dev × RecordEnd :=
  (r.1, match r.2 with | none => .more | some s => .stop s)

def imageRecord (m : Mem) (d : Dev) (kind arg : Nat) (body : List Byte) : Dev × RecordEnd :=
  match kind with
  | 1 => (imagePairs m d 4 (pairUp (leNats 4 body)), .more)
  | 2 => (imagePairs m d 8 (pairUp (leNats 8 body)), .more)
  | 3 => (imageBlock m d (if arg.testBit 31 then .bar2 else .bar0) (arg % 2 ^ 31) (leNats 4 body), .more)
  | 4 => recordEnd (imageGouge d (maskCores (body.take 64)) (body.drop 64))
  | 5 =>
    let w := bytesWords 3 body
    recordEnd (imageMemcmd m { d with free := d.free + 1 } (w.getD 0 0#64) (w.getD 1 0#64) (w.getD 2 0#64) (Config.originUp d.free))
  | 6 => (imageCommit m d, .more)
  | 0x0F => (d, .done)
  | _ => (d, .stop stREFUSED_STATE)

/-- Service begins (R463): IN_SERVICE, PHASE 4, the in-band interrupt of R475, one entry of the configuration-write journal for the image
(R462), and the results of a full training enter the flash (R464). -/
def Dev.enterService (d : Dev) (applied : Bool) : Dev :=
  let f := d.fpl.flash
  let digest := match d.fpl.image with
    | some (_, bs) => (bs.drop (wfld (imgHdr bs) CIMG_LENGTH - 64)).take 64
    | none => []
  let res := Config.trainingResults d.free
  let stored : Option Training := if d.is FPL_BOOT_STATUS_FULL_TRAIN then some ⟨res, crc32 res, d.serial⟩ else f.training
  let d := { d with
    fpl := { d.fpl with applying := false, record := 0, cfgDigest := if applied then digest else [], flash := { f with training := stored } }
    free := d.free + 1
    out := { d.out with ibi := d.out.ibi ++ [2] }
    lathe := { d.lathe with boundaryT := d.T } }
  let d := if applied then d.jrnlAppend ⟨d.ns, 0x81, 3, false, decide (d.get FPL_CFG_REFUSED_WRITES > 0), false, 0, leNat (digest.take 8), 0⟩ else d
  let d := d.set FPL_BOOT_TIME_SERVICE_MS ((d.T - d.fpl.time0) / 1000000)
  (d.set FPL_BOOT_STATUS_IN_SERVICE 1).set FPL_BOOT_STATUS_PHASE 4

/-- Application ends with record `i` and a status; service begins in either case (R472). -/
def Dev.imageEnds (d : Dev) (i status : Nat) : Dev :=
  ((d.set FPL_CFG_STATUS_STATUS status).set FPL_CFG_STATUS_RECORD (if status = stOK then 0 else i)).enterService true

/-- Applies the records in `bs`, `i` the number of the first; those below `from_` have been applied. -/
def imageRun (m : Mem) (from_ : Nat) : Nat → Dev → Nat → List Byte → Dev
  | 0, d, i, _ => d.imageEnds i stOK
  | n + 1, d, i, bs =>
    if bs.length < 8 then d.imageEnds i stOK
    else
      let kind := leNat (bs.take 1)
      let len := leNat ((bs.drop 1).take 3)
      let arg := leNat ((bs.drop 4).take 4)
      let rest := bs.drop (8 + ceilDiv len 8 * 8)
      if i < from_ then imageRun m from_ n d (i + 1) rest
      else
        match imageRecord m d kind arg ((bs.drop 8).take len) with
        | (d, .more) => imageRun m from_ n d (i + 1) rest
        | (d, .done) => d.imageEnds i stOK
        | (d, .stop s) => d.imageEnds i s

/-- CONFIG_IMAGE_APPLY: the records of the selected copy that have not been applied by commands of their own, in order. -/
def imageApplyOp (m : Mem) (d : Dev) : Dev :=
  if d.get FPL_BOOT_STATUS_PHASE ≠ 3 then d
  else
    match d.fpl.image with
    | none => (d.set FPL_CFG_STATUS_STATUS stDIGEST_MISMATCH).enterService false
    | some (_, bs) =>
      let h := imgHdr bs
      let body := (bs.take (wfld h CIMG_LENGTH - 64)).drop 64
      imageRun m d.fpl.record (wfld h CIMG_RECORDS) { d with fpl := { d.fpl with applying := true } } 0 body

/-- One record as a command of its own, while the image is being applied. -/
def imageStep (d : Dev) (f : Dev → Dev × RecordEnd) : Dev :=
  if d.get FPL_BOOT_STATUS_PHASE ≠ 3 then d
  else
    let i := d.fpl.record
    match f { d with fpl := { d.fpl with applying := true, record := i + 1 } } with
    | (d, .more) => d
    | (d, .done) => d.imageEnds i stOK
    | (d, .stop s) => d.imageEnds i s

def imageWrite32Op (m : Mem) (d : Dev) (ps : List (Nat × W32)) : Dev :=
  imageStep d (fun d => (imagePairs m d 4 (ps.map (fun p => (p.1, p.2.toNat))), .more))
def imageWrite64Op (m : Mem) (d : Dev) (ps : List (Nat × W64)) : Dev :=
  imageStep d (fun d => (imagePairs m d 8 (ps.map (fun p => (p.1, p.2.toNat))), .more))
def imageBlockOp (m : Mem) (d : Dev) (sp : Space) (off : Nat) (vs : List W32) : Dev :=
  imageStep d (fun d => (imageBlock m d sp off (vs.map (·.toNat)), .more))
def imageGougeOp (d : Dev) (mask : List Bool) (img : List Byte) : Dev :=
  imageStep d (fun d => recordEnd (imageGouge d ((List.range 512).filter (fun n => mask.getD n false)) img))
def imageMemcmdOp (m : Mem) (d : Dev) (w0 w1 w2 : W64) (ok : Bool) : Dev :=
  imageStep d (fun d => recordEnd (imageMemcmd m d w0 w1 w2 ok))
def imageCommitOp (m : Mem) (d : Dev) : Dev := imageStep d (fun d => (imageCommit m d, .more))
def imageEndOp (d : Dev) : Dev := imageStep d (fun d => (d, .done))

/-! ### Temperature (R505) -/

/-- Thresholds of a sensor (0-2 the dies, 3 + m stack m): alert, release, trip, in °C. -/
def sensorLevels (s : Nat) : Int × Int × Int := if s < 3 then (100, 95, 115) else (95, 90, 105)

/-- Every sensor that has reported lies below its release level. -/
def Pins.cool (p : Pins) : Bool := p.temps.all (fun e => decide (e.2 < (sensorLevels e.1).2.1))

/-- A sensor's temperature crosses a level: THERM_ALERT_N goes low or is released; the release also ends the hold of a thermal trip. -/
def thermalAlertOp (d : Dev) (s : Nat) (temp : Int) : Dev :=
  if s ≥ 19 then d
  else
    let d := { d with pins := { d.pins with temps := sput d.pins.temps s temp } }
    if temp ≥ (sensorLevels s).1 then
      if d.pins.thermLow then d else { d with pins := { d.pins with thermLow := true } }.edge pinTHERM_ALERT_N 0
    else if d.pins.cool then
      let d := if d.pins.thermLow then { d with pins := { d.pins with thermLow := false } }.edge pinTHERM_ALERT_N 1 else d
      { d with pins := { d.pins with held := false } }
    else d

/-- A sensor reaches its trip level: containment, unless the device is in reset already, and the device is held in reset. -/
def thermalTripOp (d : Dev) (s : Nat) (temp : Int) : Dev :=
  let down := d.pins.held || d.pins.rstLow || d.pins.pwrLow
  let d := thermalAlertOp d s temp
  if s ≥ 19 ∨ temp < (sensorLevels s).2.2 then d
  else
    let d := { d with pins := { d.pins with held := true } }
    if down then d else d.contain .thermal 0 temp.toNat

/-! ### The reset pins and addresses (R475, R499, R503) -/

/-- PWR_GOOD low: chip reset at once; nothing is retained. -/
def powerLowOp (d : Dev) : Dev :=
  ({ d with pins := { d.pins with pwrLow := true }, tls := { d.tls with retained := [] } } : Dev).contain .power 0 0

/-- SYS_RST_N low: chip reset; the retention buffer is kept. -/
def resetLowOp (d : Dev) : Dev :=
  ({ d with pins := { d.pins with rstLow := true } } : Dev).contain .pin 0 0

/-- A dynamic address is assigned to the I3C target, which answers once the boot ROM has run, with its provisioned ID (R475). -/
def i3cAddressOp (d : Dev) (addr : Nat) : Dev :=
  if d.get FPL_BOOT_STATUS_PHASE = 0 then d
  else { d with fpl := { d.fpl with i3c := addr }, out := { d.out with i3cId := d.out.i3cId ++ [d.serial % 2 ^ 48] } }

end Sys2Proof.Machine
end

