-- ==== Sys2Proof/Machine/Run.lean ====
section
/-!
DEFINITION. Machine/Run.lean: how a command runs: its own operation, the accesses and packets that it lets go on, and, where it ends in a
chip reset, containment (R400) and the reset itself (R16, R463, R503). A command never answers a fault or a refusal.
-/

namespace Sys2Proof.Machine

/-! ### What follows an operation -/

/-- A management message of this device to itself. -/
def selfMsg (m : Mem) (d : Dev) (pk : Packet) : Dev :=
  match msgType pk with
  | 0x20 => fwOfferOp d pk
  | 0x21 => fwChunkOp d pk
  | 0x22 => fwNakOp d pk
  | 0x23 => fwResultOp d pk
  | _ => if d.tlsRuns then tlsMsg m d pk else d

/-- A packet of this device to itself arrives (R250). -/
def selfPacket (m : Mem) (d : Dev) (pk : Packet) : Dev :=
  if pkf pk PKT_OP = opMGMT_MSG then selfMsg m d pk else packetHome m d 12 pk

/-- An access that waited for an extent, a re-fetch or an invalidation goes on (R240, R247, R279). -/
def goOn (m : Mem) (d : Dev) (a : HeldAccess) : Dev :=
  match a with
  | .dma tc id => dmaRetry m d tc id
  | .dmaDone tc id off => dmaLineDone d tc id off
  | .hostRead fn off len => hostReadOp m d fn off len []
  | .fabric pk => fabricReleased m d pk
  | .bytes off data => (writeLine m d off data).1
  | .chain p num left => submitStep m p num left d
  | .entry q k off => entryLineDone d q k off

/-- Released accesses in their order, then packets to this device itself, then memory commands that waited for them, until none is left. -/
def settleLoop (m : Mem) : Nat → Dev → Dev
  | 0, d => d
  | n + 1, d =>
    match d.mem.released with
    | a :: rest => settleLoop m n (goOn m { d with mem := { d.mem with released := rest } } a)
    | [] =>
      match d.fab.loop with
      | pk :: rest => settleLoop m n (selfPacket m { d with fab := { d.fab with loop := rest } } pk)
      | [] =>
        if d.mem.running.isNone && !d.mem.queue.isEmpty then settleLoop m n (memResume m d) else d

/-- Ports that have replayed sixteen times without progress retrain (R271). -/
def Dev.stuckPorts (d : Dev) : Dev :=
  (List.range 12).foldl (fun d p => if (d.port p).stuck ≥ 16 then d.portRetrain p else d) d

/-- What a command's operation lets happen at once. -/
def settle (m : Mem) (d : Dev) : Dev := (settleLoop m 65536 d.radioFollow).stuckPorts.prtDisarm.creditsBack

/-! ### Containment (R400) -/

/-- DKIND of the record of a containment. -/
def causeKind : ResetCause → Nat
  | .dieLink => 0x14
  | .thermal => Config.causeCode 0
  | .confirm => Config.causeCode 1
  | _ => 0x10

/-- A reset through the steps of R400: all but PWR_GOOD, SYS_RST_N and an activation (R484, R499, R503). -/
def ResetCause.contains : ResetCause → Bool
  | .activate => false
  | .power => false
  | .pin => false
  | _ => true

/-- MEM_LAST_UE as a word, where the error came from a stack. -/
def Dev.lastUEWord (d : Dev) (c : ResetCause) : Nat :=
  if c = .memory ∨ c = .refetch then
    d.get MEM_LAST_UE_OFFSET + d.get MEM_LAST_UE_STACK * 2 ^ 41 + d.get MEM_LAST_UE_ACTION * 2 ^ 45 + d.get MEM_LAST_UE_TIER * 2 ^ 48
  else 0

/-- The unit that a waiting cure concerns. -/
def Dev.cureUnit (d : Dev) (c : Cure) : Nat := if c.kind = 0 then d.rowUnit c.tile c.cube c.row else d.tileUnit c.tile

/-- Step 3 of R400: the record of the cause, unless it is that of a masked injection, which does not enter the history (R493), and the classifications and cures that have not reached the flash, 63 at most: first those that
take a unit out of service, then the detections that made one SUSPECT. -/
def Dev.retention (d : Dev) (r : ResetReq) : List Words :=
  let c := d.conditions r.unit 0
  let masked := r.inj && d.is PRT_CTRL_MASK_INJ
  let cause := d.histWords r.unit 6 (causeKind r.cause) false c r.detail (d.lastUEWord r.cause)
  let late (a b : Nat) : List Words := d.tls.toFlash.filter (fun w => wfld w HREC_EVENT == a || wfld w HREC_EVENT == b)
  let cures := d.tls.cures.map (fun c => d.histWords (d.cureUnit c) 5 0 false noCond 0 0)
  (if masked then [] else [cause]) ++ (late 4 5 ++ cures ++ late 0 1).take 63

/-- Detections that have come with the error are classified while the Tailstock runs. -/
def drainFaults (m : Mem) : Nat → Dev → Dev
  | 0, d => d
  | n + 1, d => if d.tls.inQ.isEmpty then d else drainFaults m n (faultReceiveOp m d)

/-- Steps 1-3 of R400. FAULT_N is an output of the Tailstock, so nothing drives it before that has started (R504). -/
def containSteps (m : Mem) (d : Dev) (r : ResetReq) : Dev :=
  if !r.cause.contains then d
  else
    let d := drainFaults m 256 d
    let d := (List.range 512).foldl (fun d n => d.relinquish n 0) d
    let d := if d.tailstockUp then d.faultN else d
    { d with tls := { d.tls with retained := (d.tls.retained ++ d.retention r).take 64 }, free := d.free + 4 }

/-! ### Chip reset (R16, R463, R502, R503) -/

/-- The levels of R502 in reset: PPS_OUT and the pulse outputs go low, FAULT_N is released (R504), NVM_CLK is low and NVM_CS_N high, AVS_CLK and
AVS_MDATA are low, and TDO is not driven. -/
def Dev.pinsReset (d : Dev) : Dev :=
  let d := if d.tsu.ppsHigh then d.edge pinPPS_OUT 0 else d
  let d := (List.range 4).foldl (fun d o =>
    if d.pulseLevel o = 1 then d.edge (pinPULSE o) 0 else d) d
  let d := d.faultRelease
  { d with pins := { d.pins with nvmClk := false, nvmCsN := true, avsClk := false, avsMdata := false, tdo := none } }

/-- What a chip reset leaves: the flash, the retention buffer, the pins, the PCIe link's pin, what has left the device, and the counter of
free values. Every register and every other part is as after power-up. -/
def chipReset (d : Dev) : Dev :=
  let d := d.pinsReset
  { fpl := { flash := d.fpl.flash }, tls := { retained := d.tls.retained }, pins := d.pins, vir := { perst := d.vir.perst },
    out := d.out, free := d.free }

/-! ### Running a command -/

/-- The device is held in reset by a pin or by a thermal trip: nothing runs but what stands on VDD_AON (R503, R505). -/
def Dev.inReset (d : Dev) : Bool := d.pins.held || d.pins.rstLow || d.pins.pwrLow

/-- The state after a command that has settled. -/
def finish (s : State) (d : Dev) : State :=
  match d.resetReq with
  | some r => { s with mem := [], d := chipReset (containSteps s.mem d r) }
  | none => { s with mem := Mem.apply s.mem d.wq, d := { d with wq := [] } }

/-- A command that acts even while the device is held in reset. -/
def runAlways (f : Mem → Dev → Dev) (s : State) : Host.Outcome State Fault Refusal :=
  .next (finish s (settle s.mem (f s.mem s.d)))

/-- A command. While the device is held in reset it does nothing. -/
def run (f : Mem → Dev → Dev) (s : State) : Host.Outcome State Fault Refusal :=
  if s.d.inReset then .next s else runAlways f s

/-- One cycle of the reference clock, which is what passes when no command waits (R375, R403): T advances, and powered seconds count from the
start of the Tailstock on. -/
def cycleOp (d : Dev) : Dev :=
  if d.inReset then d
  else
    let d := tsuTick d
    if !d.tailstockUp then d
    else if d.tls.up + 1 < 100000000 then { d with tls := { d.tls with up := d.tls.up + 1 } }
    else ({ d with tls := { d.tls with up := 0 } } : Dev).set TLS_POS_POS (d.get TLS_POS_POS + 1)

end Sys2Proof.Machine
end

