-- ==== Sys2Proof/Machine/Access.lean ====
section
/-!
DEFINITION. Machine/Access.lean: the operations of commands that are accesses to one register, in terms of the register port
(Machine/Bus.lean), and those of packets and events that several units follow.
-/

namespace Sys2Proof.Machine

/-! ### Accesses to one register -/

/-- A write of a BAR0 register. -/
def put (m : Mem) (d : Dev) (a : Agent) (off len v : Nat) : Dev := busWrite m d a .bar0 off len v

/-- A read that pops: the whole 64-bit register, or its low word (R13). -/
def pop (d : Dev) (a : Agent) (off : Nat) (wide : Bool) : Dev := busRead d a .bar0 off (if wide then 8 else 4)

/-- Offset of a register of the agent's own instance page: the PF's page lies in BAR0 (R445, R450). -/
def pageOff (a : Agent) (off : Nat) : Nat :=
  match a with
  | .vf _ => off
  | _ => 0x410000 + off

/-- A value with a field replaced. -/
def withField (v lo width x : Nat) : Nat := v - v / 2 ^ lo % 2 ^ width * 2 ^ lo + x % 2 ^ width * 2 ^ lo

/-- LTH_CTX_CMD with its OP: 1 LOAD, 2 UNLOAD_SAVE, 3 UNLOAD_DISCARD (R57). -/
def ctxCmd (op : Nat) (m : Mem) (d : Dev) (a : Agent) (v : W64) : Dev := put m d a 0x40048 8 (withField v.toNat 12 4 op)

/-- The three words of a memory command (R236). What the command's origin answers is an input. -/
def memCmd (op : Nat) (m : Mem) (d : Dev) (a : Agent) (w0 w1 w2 : W64) (ok : Bool) : Dev :=
  if !d.reach a .bar0 0x180020 true then d
  else
    match d.hit a .bar0 0x180020 with
    | .reg r addr _ =>
      let d := put m (put m d a 0x180010 8 (withField w0.toNat 0 8 op)) a 0x180018 8 w1.toNat
      let c : MemCmd := ⟨w64 (d.get MEM_CMD_W0_W), w64 (d.get MEM_CMD_W1_W), w2, ok⟩
      let x := flagged (d.unlatch (agentKey a)) MEM_STATUS_CMD_OVERFLOW (fun d => memIssue m d c)
      x.1.jrnlWrite a .bar0 0x180020 r addr w2.toNat 0 x.2
    | _ => d

/-- An operation of the fabric register port: its operands, then UNL_OP_W0 (R261). -/
def unlOp (op : Nat) (m : Mem) (d : Dev) (a : Agent) (w0 offset data cmp : W64) : Dev :=
  let d := put m d a 0x200048 8 offset.toNat
  let d := put m d a 0x200050 8 data.toNat
  let d := put m d a 0x200058 8 cmp.toNat
  put m d a 0x200040 8 (withField w0.toNat 0 8 op)

/-- The RW fields of FPL_FW_CTRL as they stand (HOST_ACK_REQ, OWNER_LOCK). -/
def Dev.fwFields (d : Dev) : Nat := d.get FPL_FW_CTRL_HOST_ACK_REQ * 2 ^ 3 + d.get FPL_FW_CTRL_OWNER_LOCK * 2 ^ 4

/-- A write of FPL_FW_CTRL that keeps its RW fields and sets the given action bits. -/
def fwCtrlBits (m : Mem) (d : Dev) (a : Agent) (bits : Nat) : Dev := put m d a 0x18 4 (d.fwFields + bits)

/-- The RW fields of FPL_UPD_CTRL as they stand (TARGET, SRC_MODE, FORWARD), and the given action bits. -/
def updCtrlBits (m : Mem) (d : Dev) (a : Agent) (bits : Nat) : Dev :=
  put m d a 0x30 4 (d.get FPL_UPD_CTRL_TARGET * 2 ^ 3 + d.get FPL_UPD_CTRL_SRC_MODE * 2 ^ 4 + d.get FPL_UPD_CTRL_FORWARD * 2 ^ 24 + bits)

/-- The write of OWNER_LOCK that keeps HOST_ACK_REQ. -/
def ownerLockWrite (m : Mem) (d : Dev) (a : Agent) (v : Bool) : Dev :=
  put m d a 0x18 4 (d.get FPL_FW_CTRL_HOST_ACK_REQ * 2 ^ 3 + (if v then 2 ^ 4 else 0))

/-- A configuration register of serving queue 1,024 + q (R200). -/
def queueOff (q : Nat) (r : QReg) : Nat :=
  0x110000 + 16 * (1024 + q) + (match r with | .ctrl => 0 | .rate => 4 | .burst => 8)

/-- A profile register at an offset from SRV_PROF[0] (R217). -/
def profWrite (m : Mem) (d : Dev) (a : Agent) (off len v : Nat) : Dev := if off < 0x200 then put m d a (0x100100 + off) len v else d

/-- A ring's configuration register in the page of instance i, which only its own agent reaches (R450, R451). -/
def ringWrite (m : Mem) (d : Dev) (a : Agent) (i ring : Nat) (v : W64) : Dev :=
  if d.ownsPage a i then put m d a (pageOff a (0x08 + 0x10 * ring)) 8 v.toNat else d

/-- The eight words of MBOX_OUT, the last of which sends (R454). -/
def mailboxWrite (m : Mem) (d : Dev) (a : Agent) (ws : Words) : Dev :=
  ws.zipIdx.foldl (fun d w => put m d a (pageOff a (0x40 + 8 * w.2)) 8 w.1.toNat) d

/-! ### Packets (R252, R258) -/

/-- A packet of a row that names its operation; a new generation of its sender may trigger a takeover (R415). -/
def packetRow (op : Nat) (m : Mem) (d : Dev) (port : Nat) (pk : Packet) (ups : List Upset) : Dev :=
  genTriggers d (packetOf m d port op pk ups) (pkf pk PKT_SRC)

/-- A packet for another node, or one whose OP, CLASS or SIZE is reserved, which the first device to receive it counts whatever its destination (R258). -/
def forwardRow (m : Mem) (d : Dev) (port : Nat) (pk : Packet) : Dev :=
  if pkf pk PKT_DST = d.node && packetGood pk then d else packetIn m d port pk []

/-- A message of the Tailstock, or of the Faceplate's chain transfers, from the node that sent it. -/
def tlsRow (type : Nat) (m : Mem) (d : Dev) (pk : Packet) : Dev := genTriggers d (tlsMsgOp m d pk type) (pkf pk PKT_SRC)
def fwRow (type : Nat) (op : Dev → Packet → Dev) (d : Dev) (pk : Packet) : Dev :=
  let g := fwGate d pk type
  genTriggers d (if g.2 then op g.1 pk else g.1) (pkf pk PKT_SRC)

/-! ### Events that several units follow -/

/-- STEP_END: the step's rows, and the step count of the replica entries of its profile (R198, R419). -/
def stepEndRow (m : Mem) (d : Dev) (p : Nat) : Dev :=
  if d.srv.steps.any (fun s => s.prof == p && s.left == 0) then (stepEndOp m d p).replicaStep p else d

/-- The record with these words that may arrive now: the oldest of its tile (R31). -/
def Dev.nextRecord (d : Dev) (w0 w1 : W64) : Option Words :=
  d.srv.inbox.find? (fun r => r.take 2 == [w0, w1] && d.srv.inbox.find? (fun q => q.drop 3 == r.drop 3) == some r)

/-- TOKEN_NOTIFICATION: a record reaches the update port (R224). One that a tile has sent arrives after the records that the tile sent before it
(R31). -/
def tokenRow (m : Mem) (d : Dev) (w0 w1 : W64) : Dev :=
  match d.nextRecord w0 w1 with
  | some r => tokenArrive m { d with srv := { d.srv with inbox := d.srv.inbox.erase r } } [w0, w1]
  | none => if d.srv.inbox.any (fun r => r.take 2 == [w0, w1]) then d else tokenArrive m d [w0, w1]

/-- REFETCH_DONE: the extent, and the expelled replica that it belongs to (R247, R420). -/
def refetchRow (m : Mem) (d : Dev) (x : Nat) (originOk readBackOk : Bool) : Dev :=
  let u := unitSlot (d.get (TMAP_STACK x)) (d.get (TMAP_TIER x)) (d.get (TMAP_LOC x))
  replicaGoOn m (replicaRefetched m (refetchDoneOp m d x originOk readBackOk) x u)

/-- MIRROR_SWEEP_DONE: every bank of the source has been swept (R189). -/
def mirrorSweepOp (d : Dev) (t : Nat) : Dev :=
  if (d.tile t).mirror = 1 then d.setTile t { d.tile t with mirror := 2 } else d

/-- The events of R444 on a device that runs; the level of PERST_N is seen in any case. -/
def perstOp (m : Mem) (d : Dev) (low : Bool) : Dev :=
  let d := { d with vir := { d.vir with perst := low } }
  let d := if low then d.linkLost else d.linkTrain
  if low && !d.inReset then linkReset m d else d

/-- A PCIe link-down event. -/
def linkDownOp (m : Mem) (d : Dev) : Dev := linkReset m d.linkLost

/-- A Function Level Reset of the PF, a configuration write (R444). -/
def pfResetOp (m : Mem) (d : Dev) : Dev := if d.cfgUp then linkReset m d else d

/-- A Function Level Reset of a VF that is present (R457): its configuration space is reset, and its driver sets MSI-X Enable again (log 12). -/
def vfResetOp (m : Mem) (d : Dev) (i : Nat) : Dev := if i ≠ 0 && d.vfLive i && d.cfgUp then
    (instResetOp m { d with vir := { d.vir with fns := sdel d.vir.fns i } } i false).msixEnable i
  else d


end Sys2Proof.Machine
end

