-- ==== Sys2Proof/Machine/CmdBoot.lean ====
section
/-!
DEFINITION. Machine/CmdBoot.lean: commands of start-up, the configuration image, attestation, the I3C port and updates (R463-R484).
-/

namespace Sys2Proof.Machine

/-- BOOT_ROM_START (R463): At time 0 the boot ROM locks clocks, samples the PUF SRAM, sets up the flash and chooses the firmware slot. -/
def execBootRomStart (s : State) : Host.Outcome State Fault Refusal :=
  runAlways (fun _ d => bootRomOp d) s

/-- FLASH_READ_DONE (R467): The start-up flash read completes: the container and configuration are verified, identity is derived and firmware is
released. -/
def execFlashReadDone (s : State) : Host.Outcome State Fault Refusal :=
  run (fun m d => flashReadOp m d) s

/-- MEMORY_TRAINING_DONE (R463): Stack training and zero-initialisation complete and memory is ready. -/
def execMemoryTrainingDone (s : State) : Host.Outcome State Fault Refusal :=
  run (fun _ d => trainingOp d) s

/-- CONFIG_IMAGE_APPLY (R472): The Faceplate applies the selected configuration image record by record, then sets IN_SERVICE. -/
def execConfigImageApply (s : State) : Host.Outcome State Fault Refusal :=
  run (fun m d => imageApplyOp m d) s

/-- IMAGE_WRITE32 (R471): An image WRITE32 record performs 32-bit BAR0 writes. -/
def execImageWrite32 (pairs : List (Nat × W32)) (s : State) : Host.Outcome State Fault Refusal :=
  run (fun m d => imageWrite32Op m d pairs) s

/-- IMAGE_WRITE64 (R471): An image WRITE64 record performs 64-bit BAR0 writes. -/
def execImageWrite64 (pairs : List (Nat × W64)) (s : State) : Host.Outcome State Fault Refusal :=
  run (fun m d => imageWrite64Op m d pairs) s

/-- IMAGE_BLOCK (R471): An image BLOCK record writes ascending words into BAR0 or BAR2. -/
def execImageBlock (sp : Space) (off : Nat) (values : List W32) (s : State) : Host.Outcome State Fault Refusal :=
  run (fun m d => imageBlockOp m d sp off values) s

/-- IMAGE_GOUGE (R471): An image GOUGE record writes one Gouge image to every core in its mask. -/
def execImageGouge (mask : List Bool) (img : List Byte) (s : State) : Host.Outcome State Fault Refusal :=
  run (fun _ d => imageGougeOp d mask img) s

/-- IMAGE_MEMCMD (R471): An image MEMCMD record issues a memory command and waits for its result. -/
def execImageMemcmd (w0 w1 w2 : W64) (originOk : Bool) (s : State) : Host.Outcome State Fault Refusal :=
  run (fun m d => imageMemcmdOp m d w0 w1 w2 originOk) s

/-- IMAGE_RADIO_COMMIT (R471): An image RADIO_COMMIT record commits the staged radio set and waits for RESULT. -/
def execImageRadioCommit (s : State) : Host.Outcome State Fault Refusal :=
  run (fun m d => imageCommitOp m d) s

/-- IMAGE_END (R471): The image END record ends application. -/
def execImageEnd (s : State) : Host.Outcome State Fault Refusal :=
  run (fun _ d => imageEndOp d) s

/-- ATTEST_GO (R474): A write of FPL_ATTEST_CTRL.GO starts signing a report over the nonce, or is refused. -/
def execAttestGo (a : Agent) (value : W32) (s : State) : Host.Outcome State Fault Refusal :=
  run (fun m d => put m d a 0x68 4 (withField value.toNat 0 1 1)) s

/-- ATTEST_DONE (R474): The signed attestation report is placed in FPL_ATTEST_REPORT. -/
def execAttestDone (s : State) : Host.Outcome State Fault Refusal :=
  run (fun _ d => attestDoneOp d) s

/-- I3C_READ32 (R475): An I3C READ32 reads a 32-bit BAR0 register. -/
def execI3cRead32 (off : Nat) (s : State) : Host.Outcome State Fault Refusal :=
  run (fun _ d => busRead d .i3c .bar0 off 4) s

/-- I3C_READ64 (R475): An I3C READ64 reads a 64-bit BAR0 register. -/
def execI3cRead64 (off : Nat) (s : State) : Host.Outcome State Fault Refusal :=
  run (fun _ d => busRead d .i3c .bar0 off 8) s

/-- I3C_WRITE32 (R475): An I3C WRITE32 writes a 32-bit BAR0 register. -/
def execI3cWrite32 (off : Nat) (value : W32) (s : State) : Host.Outcome State Fault Refusal :=
  run (fun m d => put m d .i3c off 4 value.toNat) s

/-- I3C_WRITE64 (R475): An I3C WRITE64 writes a 64-bit BAR0 register. -/
def execI3cWrite64 (off : Nat) (value : W64) (s : State) : Host.Outcome State Fault Refusal :=
  run (fun m d => put m d .i3c off 8 value.toNat) s

/-- CONFIRM (R479): A write of FPL_FW_CTRL.CONFIRM marks the booted slot CONFIRMED and raises MIN_SVN. -/
def execConfirm (a : Agent) (s : State) : Host.Outcome State Fault Refusal :=
  run (fun m d => fwCtrlBits m d a 2) s

/-- HOST_OK (R479): A write of FPL_FW_CTRL.HOST_OK gives software's consent to confirmation. -/
def execHostOk (a : Agent) (s : State) : Host.Outcome State Fault Refusal :=
  run (fun m d => fwCtrlBits m d a 4) s

/-- OWNER_LOCK_WRITE (R480): A change of FPL_FW_CTRL.OWNER_LOCK is written to flash and governs updates and activation. -/
def execOwnerLockWrite (a : Agent) (value : Bool) (s : State) : Host.Outcome State Fault Refusal :=
  run (fun m d => ownerLockWrite m d a value) s

/-- ACTIVATE (R484): A write of FPL_FW_CTRL.ACTIVATE makes the other slot ACTIVE, resetting at once with RESET_NOW, or is refused. -/
def execActivate (a : Agent) (resetNow : Bool) (s : State) : Host.Outcome State Fault Refusal :=
  run (fun m d => fwCtrlBits m d a (if resetNow then 96 else 32)) s

/-- CONFIRM_TIMEOUT (R479): An unconfirmed slot after 120 s is marked FAILED, the other slot becomes ACTIVE and the chip is reset. -/
def execConfirmTimeout (s : State) : Host.Outcome State Fault Refusal :=
  run (fun _ d => confirmTimeoutOp d) s

/-- UPDATE_START (R480): A write of FPL_UPD_CTRL.START checks the update's refusal states and begins receiving the image. -/
def execUpdateStart (a : Agent) (value : W32) (s : State) : Host.Outcome State Fault Refusal :=
  run (fun m d => put m d a 0x30 4 (withField value.toNat 0 1 1)) s

/-- UPDATE_END (R481): A write of FPL_UPD_CTRL.END closes an image received through the data port. -/
def execUpdateEnd (a : Agent) (s : State) : Host.Outcome State Fault Refusal :=
  run (fun m d => updCtrlBits m d a 2) s

/-- UPDATE_ABORT (R483): A write of FPL_UPD_CTRL.ABORT ends an update that is receiving or verifying, and is ignored during writing. -/
def execUpdateAbort (a : Agent) (s : State) : Host.Outcome State Fault Refusal :=
  run (fun m d => updCtrlBits m d a 4) s

/-- FPL_UPD_DATA_WRITE (R481): The write of FPL_UPD_DATA's high word appends 8 image bytes. -/
def execFplUpdDataWrite (a : Agent) (value : W64) (s : State) : Host.Outcome State Fault Refusal :=
  run (fun m d => put m d a 0x40 8 value.toNat) s

/-- UPDATE_VERIFY_DONE (R481): The received image's digest and signature are checked, and writing and forwarding begin or the update fails. -/
def execUpdateVerifyDone (s : State) : Host.Outcome State Fault Refusal :=
  run (fun _ d => updVerifyOp d) s

/-- UPDATE_WRITE_DONE (R481): Programming and read-back of the target end, and the slot becomes VALID or the update completes UNCORRECTABLE. -/
def execUpdateWriteDone (ok : Bool) (s : State) : Host.Outcome State Fault Refusal :=
  run (fun _ d => updWriteOp d ok) s

/-- FW_OFFER (R482): A received FW_OFFER is checked under R480 and answered with FW_NAK or FW_RESULT. -/
def execFwOffer (pk : Packet) (s : State) : Host.Outcome State Fault Refusal :=
  run (fun _ d => fwRow 0x20 fwOfferOp d pk) s

/-- FW_CHUNK (R482): A received FW_CHUNK stores 128 image bytes at its offset. -/
def execFwChunk (pk : Packet) (s : State) : Host.Outcome State Fault Refusal :=
  run (fun _ d => fwRow 0x21 fwChunkOp d pk) s

/-- FW_NAK (R482): A received FW_NAK accepts an offer or makes the sender resend from the named offset. -/
def execFwNak (pk : Packet) (s : State) : Host.Outcome State Fault Refusal :=
  run (fun _ d => fwRow 0x22 fwNakOp d pk) s

/-- FW_RESULT (R482): A received FW_RESULT records the downstream node's outcome in FPL_CHAIN_STATUS. -/
def execFwResult (pk : Packet) (s : State) : Host.Outcome State Fault Refusal :=
  run (fun _ d => fwRow 0x23 fwResultOp d pk) s

/-- FW_RESEND_TIMEOUT (R482): A chain sender hearing nothing for 1 s resends from the last FW_NAK. -/
def execFwResendTimeout (s : State) : Host.Outcome State Fault Refusal :=
  run (fun _ d => fwResendOp d) s

/-- FW_TRANSFER_TIMEOUT (R482): A chain transfer with no progress for 10 s ends ABORTED with REASON TRANSFER. -/
def execFwTransferTimeout (s : State) : Host.Outcome State Fault Refusal :=
  run (fun _ d => fwTransferTimeoutOp d) s

/-- FW_CHAIN_RESULT_TIMEOUT (R482): 300 s after forwarding began, unreported downstream nodes count as ABORTED and FW_RESULT is sent. -/
def execFwChainResultTimeout (s : State) : Host.Outcome State Fault Refusal :=
  run (fun _ d => fwChainTimeoutOp d) s

/-- MARGIN_OK_CHANGE (R480): FPL_SUPPLY.MARGIN_OK falls when the input rail drops below VMIN, or rises after it has stayed at or above VMIN for 1 s,
stopping a flash write in progress with REASON SUPPLY. -/
def execMarginOkChange (ok : Bool) (s : State) : Host.Outcome State Fault Refusal :=
  run (fun _ d => marginOp d ok) s

/-- DYNAMIC_ADDRESS_ASSIGNMENT (R475): The I3C controller assigns the device a dynamic address, answered with its provisioned ID. -/
def execDynamicAddressAssignment (addr : Fin 128) (s : State) : Host.Outcome State Fault Refusal :=
  run (fun _ d => i3cAddressOp d addr) s

/-- UPDATE_RECEIVE_DONE (R481): The image read from the unified range at FPL_UPD_SRC is complete in the buffer, and verification begins. -/
def execUpdateReceiveDone (s : State) : Host.Outcome State Fault Refusal :=
  run (fun m d => updReceiveOp m d) s

end Sys2Proof.Machine
end

