-- ==== Sys2Proof/Machine/CmdFabric.lean ====
section
/-!
DEFINITION. Machine/CmdFabric.lean: commands of packets, ports and the fabric register port (R251-R281).
-/

namespace Sys2Proof.Machine

/-- FABRIC_LOAD (R258): A received LOAD request is checked for generation and order, applied at the home and answered with DATA. -/
def execFabricLoad (port : Fin 12) (pk : Packet) (ups : List Upset) (s : State) : Host.Outcome State Fault Refusal :=
  run (fun m d => packetRow opLOAD m d port pk ups) s

/-- FABRIC_STORE (R258): A received STORE is applied at the home after any invalidations and acknowledged. -/
def execFabricStore (port : Fin 12) (pk : Packet) (ups : List Upset) (s : State) : Host.Outcome State Fault Refusal :=
  run (fun m d => packetRow opSTORE m d port pk ups) s

/-- FABRIC_GETS (R279): A received GETS fills a line to a quad member and updates the directory. -/
def execFabricGets (port : Fin 12) (pk : Packet) (ups : List Upset) (s : State) : Host.Outcome State Fault Refusal :=
  run (fun m d => packetRow opGETS m d port pk ups) s

/-- FABRIC_ADD (R261): A received ADD atomic, combined or not, is applied once at the home line and acknowledged. -/
def execFabricAdd (port : Fin 12) (pk : Packet) (ups : List Upset) (s : State) : Host.Outcome State Fault Refusal :=
  run (fun m d => packetRow opADD m d port pk ups) s

/-- FABRIC_MIN (R261): A received MIN atomic is applied at the home line. -/
def execFabricMin (port : Fin 12) (pk : Packet) (ups : List Upset) (s : State) : Host.Outcome State Fault Refusal :=
  run (fun m d => packetRow opMIN m d port pk ups) s

/-- FABRIC_MAX (R261): A received MAX atomic is applied at the home line. -/
def execFabricMax (port : Fin 12) (pk : Packet) (ups : List Upset) (s : State) : Host.Outcome State Fault Refusal :=
  run (fun m d => packetRow opMAX m d port pk ups) s

/-- FABRIC_CAS (R261): A received CAS compares and conditionally writes and returns OLD. -/
def execFabricCas (port : Fin 12) (pk : Packet) (ups : List Upset) (s : State) : Host.Outcome State Fault Refusal :=
  run (fun m d => packetRow opCAS m d port pk ups) s

/-- FABRIC_ACK (R266): A received ACK completes the matching outstanding operation, or is discarded. -/
def execFabricAck (port : Fin 12) (pk : Packet) (s : State) : Host.Outcome State Fault Refusal :=
  run (fun m d => packetRow opACK m d port pk []) s

/-- FABRIC_DATA (R266): A received DATA completes a load or line fill. -/
def execFabricData (port : Fin 12) (pk : Packet) (s : State) : Host.Outcome State Fault Refusal :=
  run (fun m d => packetRow opDATA m d port pk []) s

/-- FABRIC_OLD (R260): A received OLD completes a CAS and writes the found value over the compare element. -/
def execFabricOld (port : Fin 12) (pk : Packet) (s : State) : Host.Outcome State Fault Refusal :=
  run (fun m d => packetRow opOLD m d port pk []) s

/-- INVAL (R279): A received INVAL drops the quad-cache line and is acknowledged. -/
def execInval (port : Fin 12) (pk : Packet) (s : State) : Host.Outcome State Fault Refusal :=
  run (fun m d => packetRow opINVAL m d port pk []) s

/-- INVAL_ACK (R279): A received INVAL_ACK completes a W state once all acks have arrived, applying the waiting write. -/
def execInvalAck (port : Fin 12) (pk : Packet) (s : State) : Host.Outcome State Fault Refusal :=
  run (fun m d => packetRow opINVAL_ACK m d port pk []) s

/-- ANNOUNCE (R252): A received ANNOUNCE records a new generation, forwards it once and handles a reset quad member. -/
def execAnnounce (port : Fin 12) (pk : Packet) (s : State) : Host.Outcome State Fault Refusal :=
  run (fun m d => packetRow opANNOUNCE m d port pk []) s

/-- GEN_QUERY (R254): A received GEN_QUERY is answered with an ANNOUNCE to the querier. -/
def execGenQuery (port : Fin 12) (pk : Packet) (s : State) : Host.Outcome State Fault Refusal :=
  run (fun m d => packetRow opGEN_QUERY m d port pk []) s

/-- PACKET_FORWARD (R273): A packet for another node is forwarded on the first up port of its route, or returned NODE_LOST when HOPS is exhausted. -/
def execPacketForward (port : Fin 12) (pk : Packet) (s : State) : Host.Outcome State Fault Refusal :=
  run (fun m d => forwardRow m d port pk) s

/-- GEN_QUERY_TIMEOUT (R254): No reply to a GEN_QUERY within 10 ms completes the held operations with NODE_LOST. -/
def execGenQueryTimeout (dst : Nat) (s : State) : Host.Outcome State Fault Refusal :=
  run (fun _ d => d.genQueryTimeout dst) s

/-- ROUTE_LOSS_TIMEOUT (R269): No usable route to a destination for 10 ms completes outstanding operations with NODE_LOST and advances the stream
epoch. -/
def execRouteLossTimeout (dst : Nat) (s : State) : Host.Outcome State Fault Refusal :=
  run (fun _ d => d.routeLoss dst) s

/-- FORWARD_HOLD_TIMEOUT (R269): A forwarder's held packets with no route after 10 ms are returned with NODE_LOST. -/
def execForwardHoldTimeout (dst : Nat) (s : State) : Host.Outcome State Fault Refusal :=
  run (fun _ d => d.forwardTimeout dst) s

/-- REQUEST_TIMEOUT (R269): A request outstanding 20 ms completes with NODE_LOST. -/
def execRequestTimeout (tag : Nat) (s : State) : Host.Outcome State Fault Refusal :=
  run (fun _ d => d.requestTimeout tag) s

/-- COMBINING_WINDOW_CLOSE (R276): A combining entry closes at the end of its window or at 256 constituents and sends one combined request. -/
def execCombiningWindowClose (k : Nat) (s : State) : Host.Outcome State Fault Refusal :=
  run (fun _ d => d.windowClose k) s

/-- FLIT_REPLAY (R271): A NAK or 2 µs without acknowledgement makes the sender replay from the first unacknowledged flit. -/
def execFlitReplay (x : PortReplay) (s : State) : Host.Outcome State Fault Refusal :=
  run (fun _ d => d.flitReplay x.port x.acked) s

/-- PORT_RETRAIN (R271): After 16 replays without progress the port retrains. -/
def execPortRetrain (port : Fin 12) (s : State) : Host.Outcome State Fault Refusal :=
  run (fun _ d => d.portRetrain port) s

/-- PORT_TRAINING_DONE (R271): Training ends with the port up at some width, sending ANNOUNCE, or down, switching routes and re-sending replay-buffer
packets. -/
def execPortTrainingDone (port : Fin 12) (lanes : Nat) (s : State) : Host.Outcome State Fault Refusal :=
  run (fun _ d => d.trainingDone port lanes) s

/-- UNL_OP_LOAD (R267): Register-port operation LOAD issues a fabric load. -/
def execUnlOpLoad (a : Agent) (w0 offset data cmp : W64) (s : State) : Host.Outcome State Fault Refusal :=
  run (fun m d => unlOp 1 m d a w0 offset data cmp) s

/-- UNL_OP_STORE (R267): Register-port operation STORE issues a fabric store. -/
def execUnlOpStore (a : Agent) (w0 offset data cmp : W64) (s : State) : Host.Outcome State Fault Refusal :=
  run (fun m d => unlOp 2 m d a w0 offset data cmp) s

/-- UNL_OP_ADD (R267): Register-port operation ADD issues a fabric atomic add. -/
def execUnlOpAdd (a : Agent) (w0 offset data cmp : W64) (s : State) : Host.Outcome State Fault Refusal :=
  run (fun m d => unlOp 3 m d a w0 offset data cmp) s

/-- UNL_OP_MIN (R267): Register-port operation MIN issues a fabric atomic minimum. -/
def execUnlOpMin (a : Agent) (w0 offset data cmp : W64) (s : State) : Host.Outcome State Fault Refusal :=
  run (fun m d => unlOp 4 m d a w0 offset data cmp) s

/-- UNL_OP_MAX (R267): Register-port operation MAX issues a fabric atomic maximum. -/
def execUnlOpMax (a : Agent) (w0 offset data cmp : W64) (s : State) : Host.Outcome State Fault Refusal :=
  run (fun m d => unlOp 5 m d a w0 offset data cmp) s

/-- UNL_OP_CAS (R267): Register-port operation CAS issues a fabric compare-and-swap. -/
def execUnlOpCas (a : Agent) (w0 offset data cmp : W64) (s : State) : Host.Outcome State Fault Refusal :=
  run (fun m d => unlOp 6 m d a w0 offset data cmp) s

/-- UNL_OP_FENCE (R268): Register-port operation FENCE holds later operations until earlier ones complete, then reports their status. -/
def execUnlOpFence (a : Agent) (w0 offset data cmp : W64) (s : State) : Host.Outcome State Fault Refusal :=
  run (fun m d => unlOp 0x0F m d a w0 offset data cmp) s

/-- UNL_OP_RESULT_POP (R13): A read of UNL_OP_RESULT's low word removes the oldest result, releases its queue entry and latches UNL_OP_DATA. -/
def execUnlOpResultPop (a : Agent) (wide : Bool) (s : State) : Host.Outcome State Fault Refusal :=
  run (fun _ d => pop d a 0x200060 wide) s

/-- UNL_ERR_POP (R270): A read of UNL_ERR_POP's low word removes the oldest fabric error-log entry and latches its offset. -/
def execUnlErrPop (a : Agent) (wide : Bool) (s : State) : Host.Outcome State Fault Refusal :=
  run (fun _ d => pop d a 0x200070 wide) s

/-- CREDIT_RETURN (R274): A credit return arrives on a Uneis port for a class and virtual channel, letting packets held for lack of credits leave. -/
def execCreditReturn (port : Fin 12) (cls vc : Nat) (x : Credit) (s : State) : Host.Outcome State Fault Refusal :=
  run (fun _ d => d.creditReturn port cls vc x.units x.acked) s

end Sys2Proof.Machine
end

