-- ==== Sys2Proof/Machine/CmdGouge.lean ====
section
/-!
DEFINITION. Machine/CmdGouge.lean: commands of the instructions and events of the Gouge cores (R352-R374).
-/

namespace Sys2Proof.Machine

/-- GOUGE_NOP (R360): Gouge NOP performs its moves only. -/
def execGougeNop (n : Fin 512) (w : W64) (s : State) : Host.Outcome State Fault Refusal :=
  run (fun m d => gougeRow .nop (fun m d n w => gFormatA m d n w gOk (fun _ _ => {})) m d n w) s

/-- GOUGE_MOV (R360): Gouge MOV copies SA to DST. -/
def execGougeMov (n : Fin 512) (w : W64) (s : State) : Host.Outcome State Fault Refusal :=
  run (fun m d => gougeRow .mov (fun m d n w => gFormatA m d n w gOk (gLogic (fun x _ => x))) m d n w) s

/-- ADD2 (R360): ADD2 adds the two lanes with saturation. -/
def execAdd2 (n : Fin 512) (w : W64) (s : State) : Host.Outcome State Fault Refusal :=
  run (fun m d => gougeRow .add2 (fun m d n w => gFormatA m d n w gOk (fun _ x => gLanes (· + ·) x)) m d n w) s

/-- SUB2 (R360): SUB2 subtracts the two lanes with saturation. -/
def execSub2 (n : Fin 512) (w : W64) (s : State) : Host.Outcome State Fault Refusal :=
  run (fun m d => gougeRow .sub2 (fun m d n w => gFormatA m d n w gOk (fun _ x => gLanes (· - ·) x)) m d n w) s

/-- GOUGE_AND (R360): Gouge AND performs a 32-bit AND. -/
def execGougeAnd (n : Fin 512) (w : W64) (s : State) : Host.Outcome State Fault Refusal :=
  run (fun m d => gougeRow .and (fun m d n w => gFormatA m d n w gOk (gLogic (fun x y => x &&& y))) m d n w) s

/-- GOUGE_OR (R360): Gouge OR performs a 32-bit OR. -/
def execGougeOr (n : Fin 512) (w : W64) (s : State) : Host.Outcome State Fault Refusal :=
  run (fun m d => gougeRow .or (fun m d n w => gFormatA m d n w gOk (gLogic (fun x y => x ||| y))) m d n w) s

/-- GOUGE_XOR (R360): Gouge XOR performs a 32-bit XOR. -/
def execGougeXor (n : Fin 512) (w : W64) (s : State) : Host.Outcome State Fault Refusal :=
  run (fun m d => gougeRow .xor (fun m d n w => gFormatA m d n w gOk (gLogic (fun x y => x ^^^ y))) m d n w) s

/-- ASR2 (R360): ASR2 shifts each lane right, truncating or rounding. -/
def execAsr2 (n : Fin 512) (w : W64) (s : State) : Host.Outcome State Fault Refusal :=
  run (fun m d => gougeRow .asr2 (fun m d n w => gFormatA m d n w (fun x => decide (x.sb > 15)) (fun _ x => gAsr2 x)) m d n w) s

/-- PACK (R360): PACK combines the lo lanes of SA and SB. -/
def execPack (n : Fin 512) (w : W64) (s : State) : Host.Outcome State Fault Refusal :=
  run (fun m d => gougeRow .pack (fun m d n w => gFormatA m d n w gOk gPack) m d n w) s

/-- CMP (R360): CMP sets EQ and LT from the lo lanes. -/
def execCmp (n : Fin 512) (w : W64) (s : State) : Host.Outcome State Fault Refusal :=
  run (fun m d => gougeRow .cmp (fun m d n w => gFormatA m d n w gOk gCmp) m d n w) s

/-- SLICE (R360): SLICE returns the nearest 2- or 4-level decision. -/
def execSlice (n : Fin 512) (w : W64) (s : State) : Host.Outcome State Fault Refusal :=
  run (fun m d => gougeRow .slice (fun m d n w => gFormatA m d n w gOk gSliceOp) m d n w) s

/-- ATAN (R360): ATAN returns the argument of a complex word. -/
def execAtan (n : Fin 512) (w : W64) (s : State) : Host.Outcome State Fault Refusal :=
  run (fun m d => gougeRow .atan (fun m d n w => gFormatA m d n w gOk gAtanOp) m d n w) s

/-- CMAC (R360): CMAC accumulates a complex product into two accumulators. -/
def execCmac (n : Fin 512) (w : W64) (s : State) : Host.Outcome State Fault Refusal :=
  run (fun m d => gougeRow .cmac (fun m d n w => gFormatA m d n w (fun x => x.acc % 2 == 1) gCmac) m d n w) s

/-- RDOT2 (R360): RDOT2 accumulates a two-term dot product. -/
def execRdot2 (n : Fin 512) (w : W64) (s : State) : Host.Outcome State Fault Refusal :=
  run (fun m d => gougeRow .rdot2 (fun m d n w => gFormatA m d n w gOk gRdot2) m d n w) s

/-- RDOT4 (R360): RDOT4 accumulates a four-term dot product. -/
def execRdot4 (n : Fin 512) (w : W64) (s : State) : Host.Outcome State Fault Refusal :=
  run (fun m d => gougeRow .rdot4 (fun m d n w => gFormatA m d n w (fun x => x.sb == 31 || wfld [w] GA_SA == 31) gRdot4) m d n w) s

/-- RMUL4 (R360): RMUL4 accumulates four lane products into four accumulators. -/
def execRmul4 (n : Fin 512) (w : W64) (s : State) : Host.Outcome State Fault Refusal :=
  run (fun m d => gougeRow .rmul4 (fun m d n w => gFormatA m d n w (fun x => x.acc != 0 && x.acc != 4) gRmul4) m d n w) s

/-- DUPD (R360): DUPD updates each lane by a rounded, shifted product with saturation. -/
def execDupd (n : Fin 512) (w : W64) (s : State) : Host.Outcome State Fault Refusal :=
  run (fun m d => gougeRow .dupd (fun m d n w => gFormatA m d n w gOk gDupd) m d n w) s

/-- EXT (R360): EXT extracts a rounded, saturated accumulator into one lane. -/
def execExt (n : Fin 512) (w : W64) (s : State) : Host.Outcome State Fault Refusal :=
  run (fun m d => gougeRow .ext (fun m d n w => gFormatA m d n w gOk gExt) m d n w) s

/-- EXTC (R360): EXTC extracts two accumulators into a complex word. -/
def execExtc (n : Fin 512) (w : W64) (s : State) : Host.Outcome State Fault Refusal :=
  run (fun m d => gougeRow .extc (fun m d n w => gFormatA m d n w (fun x => x.acc == 7) gExtc) m d n w) s

/-- LDI (R360): LDI loads an immediate into a D register. -/
def execLdi (n : Fin 512) (w : W64) (s : State) : Host.Outcome State Fault Refusal :=
  run (fun m d => gougeRow .ldi (fun m d n w => gFormatB m d n w false (fun g _ r v => some (.reg (g.phys r) 3, v))) m d n w) s

/-- LDC (R360): LDC loads an immediate into a control register. -/
def execLdc (n : Fin 512) (w : W64) (s : State) : Host.Outcome State Fault Refusal :=
  run (fun m d => gougeRow .ldc (fun m d n w => gFormatB m d n w true (fun _ k _ v => gCwrite k true v)) m d n w) s

/-- MVTC (R360): MVTC moves a D register to a control register. -/
def execMvtc (n : Fin 512) (w : W64) (s : State) : Host.Outcome State Fault Refusal :=
  run (fun m d => gougeRow .mvtc (fun m d n w => gFormatB m d n w true (fun g k r _ => gCwrite k false (g.rd r).toNat)) m d n w) s

/-- MVFC (R360): MVFC moves a control register to a D register. -/
def execMvfc (n : Fin 512) (w : W64) (s : State) : Host.Outcome State Fault Refusal :=
  run (fun m d => gougeRow .mvfc (fun m d n w => gFormatB m d n w true (fun g k r _ => some (.reg (g.phys r) 3, g.cget k))) m d n w) s

/-- ADDC (R360): ADDC adds an immediate to a control register. -/
def execAddc (n : Fin 512) (w : W64) (s : State) : Host.Outcome State Fault Refusal :=
  run (fun m d => gougeRow .addc (fun m d n w => gFormatB m d n w true (fun g k _ v => gCwrite k false ((g.cget k : Int) + s32 v))) m d n w) s

/-- GOUGE_BR (R365): Gouge BR branches on a condition after two delay slots. -/
def execGougeBr (n : Fin 512) (w : W64) (s : State) : Host.Outcome State Fault Refusal :=
  run (fun m d => gougeRow .br gBr m d n w) s

/-- CALL (R360): CALL pushes the return index and branches after two delay slots. -/
def execCall (n : Fin 512) (w : W64) (s : State) : Host.Outcome State Fault Refusal :=
  run (fun m d => gougeRow .call gCall m d n w) s

/-- RET (R360): RET pops the return index and branches after two delay slots. -/
def execRet (n : Fin 512) (w : W64) (s : State) : Host.Outcome State Fault Refusal :=
  run (fun m d => gougeRow .ret gRet m d n w) s

/-- REP (R363): REP executes the next instruction COUNT times. -/
def execRep (n : Fin 512) (w : W64) (s : State) : Host.Outcome State Fault Refusal :=
  run (fun m d => gougeRow .rep gRep m d n w) s

/-- GOUGE_LOOP (R364): Gouge LOOP runs the following body COUNT times, using the repeat cache and rotating RRB if ROT is set. -/
def execGougeLoop (n : Fin 512) (w : W64) (s : State) : Host.Outcome State Fault Refusal :=
  run (fun m d => gougeRow .loop gLoop m d n w) s

/-- RTI (R366): RTI restores the shadow set and unmasks interrupts after two delay slots. -/
def execRti (n : Fin 512) (w : W64) (s : State) : Host.Outcome State Fault Refusal :=
  run (fun m d => gougeRow .rti gRti m d n w) s

/-- SWI (R366): SWI raises interrupt source 1. -/
def execSwi (n : Fin 512) (w : W64) (s : State) : Host.Outcome State Fault Refusal :=
  run (fun m d => gougeRow .swi gSwi m d n w) s

/-- HALT (R370): HALT ends the Gouge item and the mover collects OUT_LEN bytes. -/
def execHalt (n : Fin 512) (w : W64) (s : State) : Host.Outcome State Fault Refusal :=
  run (fun m d => gougeRow .halt gHalt m d n w) s

/-- GOUGE_TIMER (R366): CYC reaches TMR and sets the TIMER interrupt pending. -/
def execGougeTimer (n : Fin 512) (s : State) : Host.Outcome State Fault Refusal :=
  run (fun _ d => gTimerOp d n) s

/-- GGC_DOORBELL (R366): A write to GGC_DOORBELL sets the DOORBELL interrupt pending on a core. -/
def execGgcDoorbell (a : Agent) (value : W32) (s : State) : Host.Outcome State Fault Refusal :=
  run (fun m d => put m d a 0x30000C 4 value.toNat) s

/-- INTERRUPT_TAKE (R366): An enabled pending interrupt is taken at an allowed instruction boundary, saving the shadow set and branching to its
vector. -/
def execInterruptTake (n : Fin 512) (s : State) : Host.Outcome State Fault Refusal :=
  run (fun _ d => interruptTakeOp d n) s

end Sys2Proof.Machine
end

