-- ==== Sys2Proof/Machine/CmdHost.lean ====
section
/-!
DEFINITION. Machine/CmdHost.lean: commands of the host attachment and the instances (R435-R462).
-/

namespace Sys2Proof.Machine

/-- PERST_N_ASSERT (R444): PERST_N resets the PCIe controller, clears VF Enable and resets every instance. -/
def execPerstNAssert (s : State) : Host.Outcome State Fault Refusal :=
  runAlways (fun m d => perstOp m d true) s

/-- PCIE_LINK_DOWN (R444): A PCIe link-down event acts as PERST_N. -/
def execPcieLinkDown (s : State) : Host.Outcome State Fault Refusal :=
  run (fun m d => linkDownOp m d) s

/-- PCIE_HOT_RESET (R444): A PCIe hot reset acts as PERST_N. -/
def execPcieHotReset (s : State) : Host.Outcome State Fault Refusal :=
  run (fun m d => linkReset m d) s

/-- PF_FUNCTION_LEVEL_RESET (R444): A PF Function Level Reset acts as PERST_N. -/
def execPfFunctionLevelReset (s : State) : Host.Outcome State Fault Refusal :=
  run (fun m d => pfResetOp m d) s

/-- BUS_MASTER_ENABLE_SET (R443): The host sets Bus Master Enable, allowing host reads and releasing pending MSI-X messages. -/
def execBusMasterEnableSet (s : State) : Host.Outcome State Fault Refusal :=
  run (fun _ d => busMasterOp d) s

/-- VF_FUNCTION_LEVEL_RESET (R457): A VF Function Level Reset starts an instance reset. -/
def execVfFunctionLevelReset (i : Fin 128) (s : State) : Host.Outcome State Fault Refusal :=
  run (fun m d => vfResetOp m d i) s

/-- VF_REMOVAL (R457): Clearing VF Enable or lowering NumVFs resets the removed instances. -/
def execVfRemoval (num : Fin 128) (s : State) : Host.Outcome State Fault Refusal :=
  run (fun m d => vfRemovalOp m d num) s

/-- VIR_INST_RESET (R457): A write of VIR_INST_CTRL.RESET starts an instance reset: GEN increments and entries get instance-reset events. -/
def execVirInstReset (a : Agent) (i : Fin 128) (value : W32) (s : State) : Host.Outcome State Fault Refusal :=
  run (fun m d => put m d a (0x420000 + 64 * i) 4 (withField value.toNat 1 1 1)) s

/-- INSTANCE_RESET_COMPLETE (R457): At the second boundary after a reset, the instance's contexts are unloaded, its rings and MSI-X table cleared and
its STATE set. -/
def execInstanceResetComplete (i : Fin 128) (s : State) : Host.Outcome State Fault Refusal :=
  run (fun m d => instResetDone m d i) s

/-- VIR_INST_ENABLE (R449): A write of VIR_INST_CTRL.EN enables an instance, or is refused on overlapping ranges. -/
def execVirInstEnable (a : Agent) (i : Fin 128) (value : W32) (s : State) : Host.Outcome State Fault Refusal :=
  run (fun m d => put m d a (0x420000 + 64 * i) 4 (withField (withField value.toNat 0 1 1) 1 1 0)) s

/-- RING_CFG_WRITE (R451): A write to an instance page's SQ_CFG, CQ_CFG or IQ_CFG enables a ring only inside a valid writable object. -/
def execRingCfgWrite (a : Agent) (i : Fin 128) (ring : Fin 3) (value : W64) (s : State) : Host.Outcome State Fault Refusal :=
  run (fun m d => ringWrite m d a i ring value) s

/-- MAILBOX_SEND (R455): The write of MBOX_OUT's high word sends an ABORT or MSG and reports SEND_STATUS. -/
def execMailboxSend (a : Agent) (w0 w1 w2 w3 w4 w5 w6 w7 : W64) (s : State) : Host.Outcome State Fault Refusal :=
  run (fun m d => mailboxWrite m d a [w0, w1, w2, w3, w4, w5, w6, w7]) s

/-- MAILBOX_POP (R454): A write of MBOX_CTRL.POP removes the message shown in MBOX_IN. -/
def execMailboxPop (a : Agent) (value : W32) (s : State) : Host.Outcome State Fault Refusal :=
  run (fun m d => put m d a (pageOff a 0xC0) 4 value.toNat) s

/-- MSIX_COALESCE_EXPIRY (R459): Events merged on a vector within 2 µs of a message are sent as one message at the end of that interval. -/
def execMsixCoalesceExpiry (i : Fin 128) (v : Nat) (s : State) : Host.Outcome State Fault Refusal :=
  run (fun _ d => d.coalesceEnd i v) s

/-- VIR_JRNL_POP (R462): A read of VIR_JRNL_POP's low word removes the oldest configuration-write journal entry. -/
def execVirJrnlPop (a : Agent) (wide : Bool) (s : State) : Host.Outcome State Fault Refusal :=
  run (fun _ d => pop d a 0x400020 wide) s

/-- PERST_N_DEASSERT (R463): PERST_N goes high and PCIe link training starts. -/
def execPerstNDeassert (s : State) : Host.Outcome State Fault Refusal :=
  runAlways (fun m d => perstOp m d false) s

/-- VF_ENABLE_SET (R444): The host sets VF Enable and NumVFs in the SR-IOV capability, bringing the virtual functions and their windows into being. -/
def execVfEnableSet (num : Fin 128) (s : State) : Host.Outcome State Fault Refusal :=
  run (fun m d => vfEnableOp m d num) s

end Sys2Proof.Machine
end

