-- ==== Sys2Proof/Machine/CmdLathe.lean ====
section
/-!
DEFINITION. Machine/CmdLathe.lean: commands of the tick, contexts, items and swaps (R40-R59, R68-R84).
-/

namespace Sys2Proof.Machine

/-- TICK_BOUNDARY (R72): The tick boundary runs its actions in order: map and withholding changes take effect, swaps begin, the new work lists become
active, SPINDLE_SYNC is driven, and the tick count advances. -/
def execTickBoundary (s : State) : Host.Outcome State Fault Refusal :=
  run (fun m d => tickOp m d) s

/-- GUARD_START (R41): The guard begins 1,200 cycles before the boundary: inference items not yet committed are cut and write DEFERRED, and items not
yet started are carried to the next tick. -/
def execGuardStart (s : State) : Host.Outcome State Fault Refusal :=
  run (fun m d => guardOp m d) s

/-- RADIO_DEADLINE_CUT (R43): A radio, Gouge or coding item that reaches its DEADLINE is cut and becomes a slot miss. -/
def execRadioDeadlineCut (u : RadioUnit) (s : State) : Host.Outcome State Fault Refusal :=
  run (fun m d => deadlineCutOp m d u) s

/-- SPINDLE_SYNC_EDGE (R81): A follower places its tick boundary at the SPINDLE_SYNC rising edge plus DELAY. -/
def execSpindleSyncEdge (s : State) : Host.Outcome State Fault Refusal :=
  run (fun _ d => syncEdgeOp d) s

/-- SYNC_LOSS (R83): A follower that misses LOSS_EDGES expected edges sets SYNC_LOST, sends an event record and runs on the grid or free-runs. -/
def execSyncLoss (s : State) : Host.Outcome State Fault Refusal :=
  run (fun _ d => syncLossOp d) s

/-- LTH_CTRL_WRITE (R40): A write to LTH_CTRL sets RUN, or clears it at the next boundary, and is refused while a cell is on air. -/
def execLthCtrlWrite (a : Agent) (value : W32) (s : State) : Host.Outcome State Fault Refusal :=
  run (fun m d => put m d a 0x40000 4 value.toNat) s

/-- LTH_TICK_CFG_WRITE (R40): A write to LTH_TICK_CFG takes effect only while RUN is 0, and otherwise sets CFG_REFUSED. -/
def execLthTickCfgWrite (a : Agent) (value : W32) (s : State) : Host.Outcome State Fault Refusal :=
  run (fun m d => put m d a 0x40008 4 value.toNat) s

/-- ITEM_SUBMIT (R50): An item descriptor is submitted to the Lathe, which checks it and refuses it with REFUSED_STATE or queues it. -/
def execItemSubmit (src : Submitter) (w0 w1 w2 w3 : W64) (s : State) : Host.Outcome State Fault Refusal :=
  run (fun m d => itemSubmitOp m d src [w0, w1, w2, w3]) s

/-- ITEM_START (R52): A tile starts the next ready inference item of its list once the previous one has ended, switching chuck where needed and
setting the state of R151. -/
def execItemStart (t : Fin 320) (s : State) : Host.Outcome State Fault Refusal :=
  run (fun m d => itemStartOp m d t) s

/-- RADIO_ITEM_READY (R64): A radio item becomes ready at the later of its release and its input's arrival, preempting the running inference item
within 96 cycles. -/
def execRadioItemReady (t : Fin 320) (i : Nat) (s : State) : Host.Outcome State Fault Refusal :=
  run (fun _ d => radioReadyOp d t i) s

/-- CTX_LOAD (R58): Context command LOAD checks the context entry, sets VALID and returns a result in LTH_CTX_RESULT. -/
def execCtxLoad (a : Agent) (value : W64) (s : State) : Host.Outcome State Fault Refusal :=
  run (fun m d => ctxCmd 1 m d a value) s

/-- CTX_UNLOAD_SAVE (R59): Context command UNLOAD_SAVE stops placing the context's items and schedules its removal with its partition saved. -/
def execCtxUnloadSave (a : Agent) (value : W64) (s : State) : Host.Outcome State Fault Refusal :=
  run (fun m d => ctxCmd 2 m d a value) s

/-- CTX_UNLOAD_DISCARD (R59): Context command UNLOAD_DISCARD stops placing the context's items and schedules its removal with its partition dropped.
-/
def execCtxUnloadDiscard (a : Agent) (value : W64) (s : State) : Host.Outcome State Fault Refusal :=
  run (fun m d => ctxCmd 3 m d a value) s

/-- CTX_REMOVAL (R59): At the first boundary with no item of the context in progress, the partition is saved or dropped, bindings are released, VALID
is cleared and the result is written. -/
def execCtxRemoval (c : Fin 4096) (s : State) : Host.Outcome State Fault Refusal :=
  run (fun m d => ctxRemovalOp m d c) s

/-- LTH_CTX_RESULT_POP (R13): A read of the low word of LTH_CTX_RESULT removes the oldest context-command result and latches its high word. -/
def execLthCtxResultPop (a : Agent) (wide : Bool) (s : State) : Host.Outcome State Fault Refusal :=
  run (fun _ d => pop d a 0x40050 wide) s

/-- QUANTUM_EXPIRY (R69): A runnable context that has waited QUANTUM ticks widens eviction to chucks that are not blocked. -/
def execQuantumExpiry (c : Fin 4096) (s : State) : Host.Outcome State Fault Refusal :=
  run (fun _ d => quantumOp d c) s

/-- SWAP_EVICTION_DONE (R70): The DMA transfer of an evicted partition to its save home completes and the banks become free. -/
def execSwapEvictionDone (c : Fin 4096) (s : State) : Host.Outcome State Fault Refusal :=
  run (fun m d => evictionDoneOp m d c) s

/-- SWAP_BRING_IN_DONE (R70): The incoming partition has arrived from its save home, and the context becomes ready at the next boundary. -/
def execSwapBringInDone (c : Fin 4096) (ups : List Upset) (s : State) : Host.Outcome State Fault Refusal :=
  run (fun m d => bringInDone m (d.upsets ups) c) s

end Sys2Proof.Machine
end

