-- ==== Sys2Proof/Machine/CmdMemory.lean ====
section
/-!
DEFINITION. Machine/CmdMemory.lean: commands of memory commands, accesses and events of the tiers (R227-R250).
-/

namespace Sys2Proof.Machine

/-- CREATE (R237): Memory command CREATE validates an object, allocates or maps its extents, fetches origins and records REF_DIGEST. -/
def execCreate (a : Agent) (w0 w1 w2 : W64) (originOk : Bool) (s : State) : Host.Outcome State Fault Refusal :=
  run (fun m d => memCmd 1 m d a w0 w1 w2 originOk) s

/-- DESTROY (R237): Memory command DESTROY unmaps an object's extents, frees its slots and clears VALID. -/
def execDestroy (a : Agent) (w0 w1 w2 : W64) (originOk : Bool) (s : State) : Host.Outcome State Fault Refusal :=
  run (fun m d => memCmd 2 m d a w0 w1 w2 originOk) s

/-- SEAL (R237): Memory command SEAL makes an object read-only and records its REF_DIGEST. -/
def execSeal (a : Agent) (w0 w1 w2 : W64) (originOk : Bool) (s : State) : Host.Outcome State Fault Refusal :=
  run (fun m d => memCmd 3 m d a w0 w1 w2 originOk) s

/-- SET_ORIGIN (R237): Memory command SET_ORIGIN registers a read-only object's origin. -/
def execSetOrigin (a : Agent) (w0 w1 w2 : W64) (originOk : Bool) (s : State) : Host.Outcome State Fault Refusal :=
  run (fun m d => memCmd 4 m d a w0 w1 w2 originOk) s

/-- MIGRATE (R239): Memory command MIGRATE checks each extent, allocates target slots and starts the moves. -/
def execMigrate (a : Agent) (w0 w1 w2 : W64) (originOk : Bool) (s : State) : Host.Outcome State Fault Refusal :=
  run (fun m d => memCmd 5 m d a w0 w1 w2 originOk) s

/-- DIGEST (R242): Memory command DIGEST computes the object digest into LAST_DIGEST and compares it with REF_DIGEST. -/
def execDigest (a : Agent) (w0 w1 w2 : W64) (originOk : Bool) (s : State) : Host.Outcome State Fault Refusal :=
  run (fun m d => memCmd 6 m d a w0 w1 w2 originOk) s

/-- MEM_CMD_RESULT_POP (R236): A read of the low word of MEM_CMD_RESULT removes the oldest memory-command result. -/
def execMemCmdResultPop (a : Agent) (wide : Bool) (s : State) : Host.Outcome State Fault Refusal :=
  run (fun _ d => pop d a 0x180028 wide) s

/-- EXTENT_COPY_DONE (R239): A migration engine finishes copying an extent, and the controller switches its tier-map entry, invalidates the caches and
applies held writes. -/
def execExtentCopyDone (ext : Nat) (originOk : Bool) (s : State) : Host.Outcome State Fault Refusal :=
  run (fun m d => copyDone m d ext originOk) s

/-- OLD_SLOT_FREE (R239): The old slot of a migrated extent is freed once the caches have acknowledged and no access to it is outstanding. -/
def execOldSlotFree (tier stack slot : Nat) (s : State) : Host.Outcome State Fault Refusal :=
  run (fun m d => oldSlotFree m d tier stack slot) s

/-- REFETCH_DONE (R247): A re-fetch from the origin completes: the slot is rewritten and read back, retired if needed, and the held accesses proceed.
-/
def execRefetchDone (ext : Nat) (originOk readBackOk : Bool) (s : State) : Host.Outcome State Fault Refusal :=
  run (fun m d => refetchRow m d ext originOk readBackOk) s

/-- ORIGIN_READ_FAIL (R246): A read served from tier 3 or 4 fails: ORIGIN_FAIL is set and a tile item is treated as cut. -/
def execOriginReadFail (off : Nat) (hit : OriginUser) (s : State) : Host.Outcome State Fault Refusal :=
  run (fun m d => originReadFailOp m d off hit) s

/-- SCRUB_READ (R249): The base die's patrol scrubber reads the next line, correcting or poisoning it. -/
def execScrubRead (stack : Fin 16) (errs : List (Nat × Nat)) (s : State) : Host.Outcome State Fault Refusal :=
  run (fun m d => scrubReadOp m d stack errs) s

/-- HEAT_HALVING (R230): Every PERIOD ticks the HEAT field of every tier-map entry is halved. -/
def execHeatHalving (s : State) : Host.Outcome State Fault Refusal :=
  run (fun _ d => heatHalvingOp d) s

/-- HOST_BAR4_READ (R447): A host read through PF or VF BAR4 is translated and served or returns all ones. -/
def execHostBar4Read (fn : Fin 128) (off len : Nat) (ups : List Upset) (s : State) : Host.Outcome State Fault Refusal :=
  run (fun m d => hostReadOp m d fn off len ups) s

/-- HOST_BAR4_WRITE (R447): A host write through PF or VF BAR4 is translated and applied or discarded. -/
def execHostBar4Write (fn : Fin 128) (off : Nat) (bytes : List Byte) (s : State) : Host.Outcome State Fault Refusal :=
  run (fun m d => hostWriteOp m d fn off bytes) s

end Sys2Proof.Machine
end

