-- ==== Sys2Proof/Machine/CmdPins.lean ====
section
/-!
DEFINITION. Machine/CmdPins.lean: commands of perturbation and injections (R485-R493), the reset pins, temperature and JTAG (R499-R506).
-/

namespace Sys2Proof.Machine

/-- PRT_CTRL_WRITE (R487): A write to PRT_CTRL sets perturbations and their lease from the next boundary, or is refused while HELD. -/
def execPrtCtrlWrite (a : Agent) (value : W32) (s : State) : Host.Outcome State Fault Refusal :=
  run (fun m d => put m d a 0x440000 4 value.toNat) s

/-- LEASE_EXPIRY (R487): At the last leased boundary all delays and PRT_VCORE are cleared, EN is cleared and EXPIRED set. -/
def execLeaseExpiry (s : State) : Host.Outcome State Fault Refusal :=
  run (fun _ d => leaseExpiryOp d) s

/-- PRT_INJ_ECC (R491): A write to PRT_INJ_ECC arms an ECC injection on a line, or is refused. -/
def execPrtInjEcc (a : Agent) (value : W64) (s : State) : Host.Outcome State Fault Refusal :=
  run (fun m d => put m d a 0x440030 8 value.toNat) s

/-- PRT_INJ_CHK (R491): A write to PRT_INJ_CHK arms a checksum injection on a tile, or is refused. -/
def execPrtInjChk (a : Agent) (value : W32) (s : State) : Host.Outcome State Fault Refusal :=
  run (fun m d => put m d a 0x440038 4 value.toNat) s

/-- PRT_INJ_DIG (R491): A write to PRT_INJ_DIG arms a digest injection, or is refused. -/
def execPrtInjDig (a : Agent) (value : W32) (s : State) : Host.Outcome State Fault Refusal :=
  run (fun m d => put m d a 0x440040 4 value.toNat) s

/-- PRT_INJ_LINK (R491): A write to PRT_INJ_LINK arms a link CRC injection on a Uneis port, or is refused. -/
def execPrtInjLink (a : Agent) (value : W32) (s : State) : Host.Outcome State Fault Refusal :=
  run (fun m d => put m d a 0x440044 4 value.toNat) s

/-- PWR_GOOD_LOW (R499): PWR_GOOD low for 600 ns or more causes chip reset at once with nothing retained. -/
def execPwrGoodLow (s : State) : Host.Outcome State Fault Refusal :=
  runAlways (fun _ d => powerLowOp d) s

/-- SYS_RST_N_LOW (R503): SYS_RST_N low for 10 µs causes chip reset, keeping the retention buffer. -/
def execSysRstNLow (s : State) : Host.Outcome State Fault Refusal :=
  runAlways (fun _ d => resetLowOp d) s

/-- THERMAL_ALERT (R505): A sensor crossing the alert or release threshold drives or releases THERM_ALERT_N. -/
def execThermalAlert (sensor : Nat) (temp : Int) (s : State) : Host.Outcome State Fault Refusal :=
  runAlways (fun _ d => thermalAlertOp d sensor temp) s

/-- THERMAL_TRIP (R505): A sensor at the trip level causes containment and holds the device in reset until it cools. -/
def execThermalTrip (sensor : Nat) (temp : Int) (s : State) : Host.Outcome State Fault Refusal :=
  runAlways (fun _ d => thermalTripOp d sensor temp) s

/-- TRST_N_LOW (R503): TRST_N low resets the JTAG TAP only. -/
def execTrstNLow (s : State) : Host.Outcome State Fault Refusal :=
  runAlways (fun _ d => trstOp d) s

/-- BYPASS (R506): JTAG instruction BYPASS selects the bypass register. -/
def execBypass (s : State) : Host.Outcome State Fault Refusal :=
  runAlways (fun _ d => tapLoad d tapBYPASS) s

/-- IDCODE (R506): JTAG instruction IDCODE shifts out 0x2164_8A4D. -/
def execIdcode (s : State) : Host.Outcome State Fault Refusal :=
  runAlways (fun _ d => idcodeOp d) s

/-- SAMPLE_PRELOAD (R506): JTAG instruction SAMPLE/PRELOAD samples or preloads the boundary-scan register. -/
def execSamplePreload (preload : List Bool) (s : State) : Host.Outcome State Fault Refusal :=
  runAlways (fun _ d => samplePreloadOp d preload) s

/-- EXTEST (R506): JTAG instruction EXTEST drives the pins from boundary scan while SYS_RST_N is low, and otherwise acts as BYPASS. -/
def execExtest (s : State) : Host.Outcome State Fault Refusal :=
  runAlways (fun _ d => tapLoad d tapEXTEST) s

/-- CLAMP (R506): JTAG instruction CLAMP holds the pins while SYS_RST_N is low, and otherwise acts as BYPASS. -/
def execClamp (s : State) : Host.Outcome State Fault Refusal :=
  runAlways (fun _ d => tapLoad d tapCLAMP) s

/-- HIGHZ (R506): JTAG instruction HIGHZ floats the outputs while SYS_RST_N is low, and otherwise acts as BYPASS. -/
def execHighz (s : State) : Host.Outcome State Fault Refusal :=
  runAlways (fun _ d => tapLoad d tapHIGHZ) s

end Sys2Proof.Machine
end

