-- ==== Sys2Proof/Machine/CmdPort.lean ====
section
/-!
DEFINITION. Machine/CmdPort.lean: commands of accesses through the register port (R12-R15, R475) that have no row of their own.
-/

namespace Sys2Proof.Machine

/-- REGISTER_WRITE (R15): A write to a BAR0 or BAR2 register that has no row of its own, applied under its access type, R12, R13 and R14, and
journalled where R462 requires. -/
def execRegisterWrite (a : Agent) (sp : Space) (off len value : Nat) (s : State) : Host.Outcome State Fault Refusal :=
  run (fun m d => busWrite m d a sp off len value) s

/-- REGISTER_READ_CLEAR (R15): A read of a register holding RC fields, which returns the value and then clears those fields, latching the high word
under R13. -/
def execRegisterReadClear (a : Agent) (sp : Space) (off len : Nat) (s : State) : Host.Outcome State Fault Refusal :=
  run (fun _ d => busRead d a sp off len) s

end Sys2Proof.Machine
end

