-- ==== Sys2Proof/Machine/CmdRadio.lean ====
section
/-!
DEFINITION. Machine/CmdRadio.lean: commands of the fronthaul, the cells and their rings (R282-R351).
-/

namespace Sys2Proof.Machine

/-- FRONTHAUL_FRAME_RX (R282): An ingress Ethernet frame is filtered and sent to eCPRI, to PTP, or discarded and counted. -/
def execFronthaulFrameRx (p : Fin 4) (f : Frame) (s : State) : Host.Outcome State Fault Refusal :=
  run (fun _ d => frameRxOp d p f) s

/-- FRONTHAUL_LINK_CHANGE (R281): A fronthaul port's link goes up or down and RAD_PORT_CFG.UP follows. -/
def execFronthaulLinkChange (p : Fin 4) (up : Bool) (s : State) : Host.Outcome State Fault Refusal :=
  run (fun _ d => linkChangeOp d p up) s

/-- IQ_DATA_MESSAGE (R286): A received eCPRI IQ data message is checked and its samples are staged for the cell, antenna and interval, or it is
discarded. -/
def execIqDataMessage (p : Fin 4) (f : Frame) (s : State) : Host.Outcome State Fault Refusal :=
  run (fun _ d => iqMessageOp d p f) s

/-- ONE_WAY_DELAY_REQUEST (R288): A type-5 request (action 0x00) is answered with a response. -/
def execOneWayDelayRequest (p : Fin 4) (f : Frame) (s : State) : Host.Outcome State Fault Refusal :=
  run (fun _ d => owdOp [0] d p f) s

/-- REQUEST_WITH_FOLLOW_UP (R288): A type-5 request with follow-up (0x01) is held for its follow-up. -/
def execRequestWithFollowUp (p : Fin 4) (f : Frame) (s : State) : Host.Outcome State Fault Refusal :=
  run (fun _ d => owdOp [1] d p f) s

/-- FOLLOW_UP (R288): A type-5 follow-up (0x05) triggers the response to its request. -/
def execFollowUp (p : Fin 4) (f : Frame) (s : State) : Host.Outcome State Fault Refusal :=
  run (fun _ d => owdOp [5] d p f) s

/-- REMOTE_REQUEST (R288): A type-5 remote request (0x03 or 0x04) makes the device send a one-step request. -/
def execRemoteRequest (p : Fin 4) (f : Frame) (s : State) : Host.Outcome State Fault Refusal :=
  run (fun _ d => owdOp [3, 4] d p f) s

/-- ONE_WAY_DELAY_RESPONSE (R288): A type-5 response to the device's own request writes RAD_PORT_DELAY, or is discarded. -/
def execOneWayDelayResponse (p : Fin 4) (f : Frame) (s : State) : Host.Outcome State Fault Refusal :=
  run (fun _ d => owdOp [2] d p f) s

/-- INGRESS_WINDOW_CLOSE (R294): At the U1 release the ingress window closes, missing samples are zero-filled and an incomplete interval becomes a
slot miss. -/
def execIngressWindowClose (n : Fin 512) (s : State) : Host.Outcome State Fault Refusal :=
  run (fun _ d => windowCloseOp d n) s

/-- RADIO_INPUT_ARRIVAL (R312): The stream mover finishes writing a radio item's input into chuck 0. -/
def execRadioInputArrival (t : Fin 320) (i : Nat) (s : State) : Host.Outcome State Fault Refusal :=
  run (fun _ d => d.radioArrive t i) s

/-- DL_IQ_EGRESS (R287): The device sends a cell's downlink IQ data messages for the coming interval in OFFSET order. -/
def execDlIqEgress (n : Fin 512) (s : State) : Host.Outcome State Fault Refusal :=
  run (fun _ d => dlEgressOp d n) s

/-- RAD_CFG_COMMIT (R300): A write of 1 to RAD_CFG_CTRL.COMMIT validates the staged set, computes its load and presents it for admission. -/
def execRadCfgCommit (a : Agent) (value : W32) (s : State) : Host.Outcome State Fault Refusal :=
  run (fun m d => put m d a 0x280018 4 (withField value.toNat 0 1 1)) s

/-- CONFIG_ACTIVATE (R300): A pending admitted set becomes active at the first frame boundary allowed once its evictions are done, restarting changed
cells and loading Gouge images. -/
def execConfigActivate (s : State) : Host.Outcome State Fault Refusal :=
  run (fun m d => configActivateOp m d) s

/-- GOUGE_IMAGE_LOAD_DONE (R372): A cluster's Gouge image loads complete. -/
def execGougeImageLoadDone (n : Fin 512) (s : State) : Host.Outcome State Fault Refusal :=
  run (fun _ d => imageLoadDoneOp d n) s

/-- RAD_ROLE_CMD (R303): A write to RAD_ROLE_CMD requests a role change of an active cell, or is refused. -/
def execRadRoleCmd (a : Agent) (value : W32) (s : State) : Host.Outcome State Fault Refusal :=
  run (fun m d => put m d a 0x280024 4 value.toNat) s

/-- ROLE_CHANGE_EFFECT (R303): The cell's new role takes effect at the first frame boundary at least one tick later, acting on submissions under R350.
-/
def execRoleChangeEffect (n : Fin 512) (s : State) : Host.Outcome State Fault Refusal :=
  run (fun _ d => d.roleEffect n false) s

/-- CELLS_ON_AIR (R84): Cells go on air at the first frame boundary after time is valid and LOCKED is 1. -/
def execCellsOnAir (s : State) : Host.Outcome State Fault Refusal :=
  run (fun _ d => cellsOnAirOp d) s

/-- RING_DOORBELL (R348): A write to the PROD of a downlink ring starts the fetching of new submissions. -/
def execRingDoorbell (a : Agent) (q : Fin 1024) (value : W32) (s : State) : Host.Outcome State Fault Refusal :=
  run (fun m d => put m d a (0x2A000C + 32 * q) 4 value.toNat) s

/-- RADIO_RING_CFG_WRITE (R341): A write of VALID 1 to RAD_RING_CFG is accepted only for a ring inside a valid writable PF object. -/
def execRadioRingCfgWrite (a : Agent) (q : Fin 1024) (value : W32) (s : State) : Host.Outcome State Fault Refusal :=
  run (fun m d => put m d a (0x2A0008 + 32 * q) 4 value.toNat) s

/-- SUBMISSION_FETCH (R348): The front end fetches one submission into the cell's buffer, checks it and advances CONS, or returns it with TX_RETURN.
-/
def execSubmissionFetch (n : Fin 512) (s : State) : Host.Outcome State Fault Refusal :=
  run (fun m d => submissionFetchOp m d n) s

/-- CODING_ITEM (R339): A coding engine runs a cell's coding item: the Viterbi passes and decoding with record writing in the uplink, or encoding in
the downlink. -/
def execCodingItem (n : Fin 512) (dl : Bool) (s : State) : Host.Outcome State Fault Refusal :=
  run (fun m d => codingItemOp m d n dl) s

/-- GOUGE_ITEM_START (R369): A Gouge core starts a MOD or DEMOD item, clearing its state and setting P7 and the PC. -/
def execGougeItemStart (n : Fin 512) (mod : Bool) (s : State) : Host.Outcome State Fault Refusal :=
  run (fun _ d => gougeItemStartOp d n mod) s

/-- SYNC_SEARCH_TIMEOUT (R331): No sync match within the bit limit abandons the detection and counts FALSE_PRE. -/
def execSyncSearchTimeout (n : Fin 512) (ch : Fin 320) (o : Fin 2) (s : State) : Host.Outcome State Fault Refusal :=
  run (fun _ d => syncTimeoutOp d n ch o) s

/-- NOISE_MEASUREMENT (R338): After NF_INTERVALS idle intervals the receiver writes a NOISE record and restarts its count. -/
def execNoiseMeasurement (n : Fin 512) (ch : Fin 320) (o : Fin 2) (s : State) : Host.Outcome State Fault Refusal :=
  run (fun _ d => noiseOp d n ch o) s

end Sys2Proof.Machine
end

