-- ==== Sys2Proof/Machine/Seq.lean ====
section
/-!
DEFINITION. Machine/Seq.lean: the commands of a tile's stream that the sequencer and the vector unit execute (R138-R143, R154-R160,
R170). Bits [7:0] of word 0 and the function code pick the command (Machine/TileOps.lean); the rest is read from the two words.
-/

namespace Sys2Proof.Machine

/-! ### Sequencer -/

/-- NOP. -/
def nopOp (m : Mem) (d : Dev) (t c : Nat) (w0 w1 : W64) : Dev :=
  issue m d t c true true [0, 0] w0 w1 (fun _ d => d.advance (t * 4 + c))

/-- END (R156). -/
def endCmd (m : Mem) (d : Dev) (t c : Nat) (w0 w1 : W64) : Dev :=
  issue m d t c true true [0, 0] w0 w1 (fun r d => endOp m r d t c)

/-- COMMIT (R154). -/
def commitCmd (m : Mem) (d : Dev) (t c : Nat) (w0 w1 : W64) : Dev :=
  issue m d t c true false [0, 0] w0 w1 (fun _ d => commitOp m d t c false)

/-- WAIT, KIND 0: the semaphore's count is at least VALUE. -/
def waitSemCmd (m : Mem) (d : Dev) (t c : Nat) (w0 w1 : W64) : Dev :=
  issue m d t c true false [0xFFFFFFFFFF00, 0] w0 w1
    (fun _ d => waitOp d t c (.sem (wfld [w0, w1] WAITC_SEM) (wfld [w0, w1] WAITC_VALUE)))

/-- WAIT, KIND 1: every matrix operation of the chuck has drained. -/
def waitMatrixCmd (m : Mem) (d : Dev) (t c : Nat) (w0 w1 : W64) : Dev :=
  issue m d t c true false [0xFFFFFFFFFF00, 0] w0 w1 (fun _ d => waitOp d t c .matrix)

/-- WAIT, KIND 2: every descriptor of the chuck is complete. -/
def waitDmaCmd (m : Mem) (d : Dev) (t c : Nat) (w0 w1 : W64) : Dev :=
  issue m d t c true false [0xFFFFFFFFFF00, 0] w0 w1 (fun _ d => waitOp d t c .dma)

/-- SEMREL (R159, R170): inbound semaphores only; before the commit point the decrement is held. -/
def semrelCmd (m : Mem) (d : Dev) (t c : Nat) (w0 w1 : W64) : Dev :=
  issue m d t c true true WAITC_USED w0 w1 (fun r d =>
    let tc := t * 4 + c
    let s := wfld [w0, w1] WAITC_SEM
    let v := wfld [w0, w1] WAITC_VALUE
    if wfld [w0, w1] WAITC_KIND ≠ 0 ∨ s < 8 then illegal m d t c r.pc caENCODING
    else if r.committed then (d.semTake t c s v).advance tc
    else (d.setChuck tc { d.chuck tc with run := some { r with heldDec := r.heldDec ++ [(s, v)] } }).advance tc)

/-- CFG (R114, R159). DESIGN CHOICE (log 129): a reserved format code is stored, and the MATMUL that uses it is illegal with cause CUBE_CFG (R90). -/
def cfgCmd (m : Mem) (d : Dev) (t c : Nat) (w0 w1 : W64) : Dev :=
  issue m d t c true false CFG_USED w0 w1 (fun _ d =>
    let f := wfld [w0, w1]
    ((((((((d.set (CUB_CFG_FMT_A t c) (f CFG_FMT_A)).set (CUB_CFG_FMT_B t c) (f CFG_FMT_B)).set (CUB_CFG_DATAFLOW t c)
      (f CFG_DATAFLOW)).set (CUB_CFG_HOLD t c) (f CFG_HOLD)).set (CUB_CFG_SHIFT t c) (f CFG_SHIFT)).set (CUB_MASK_MN_MASK_M t c)
      (f CFG_MASK_M)).set (CUB_MASK_MN_MASK_N t c) (f CFG_MASK_N))).advance (t * 4 + c))

/-- CFGK (R159). -/
def cfgkCmd (m : Mem) (d : Dev) (t c : Nat) (w0 w1 : W64) : Dev :=
  issue m d t c true false [0, 0xFFFFFFFFFFFFFFFF] w0 w1 (fun _ d =>
    (d.set (CUB_MASK_K_MASK_K t c) w1.toNat).advance (t * 4 + c))

/-- OPA, OPB, OPC load the operand registers (R152). -/
def opaCmd (m : Mem) (d : Dev) (t c : Nat) (w0 w1 : W64) : Dev :=
  issue m d t c true false OPAB_USED w0 w1 (fun _ d =>
    (d.setChuck (t * 4 + c) { d.chuck (t * 4 + c) with opA := (w0, w1) }).advance (t * 4 + c))
def opbCmd (m : Mem) (d : Dev) (t c : Nat) (w0 w1 : W64) : Dev :=
  issue m d t c true false OPAB_USED w0 w1 (fun _ d =>
    (d.setChuck (t * 4 + c) { d.chuck (t * 4 + c) with opB := (w0, w1) }).advance (t * 4 + c))
def opcCmd (m : Mem) (d : Dev) (t c : Nat) (w0 w1 : W64) : Dev :=
  issue m d t c true false OPC_USED w0 w1 (fun r d =>
    if wfld [w0, w1] OPC_OUT_SHIFT > 16 then illegal m d t c r.pc caENCODING
    else (d.setChuck (t * 4 + c) { d.chuck (t * 4 + c) with opC := (w0, w1) }).advance (t * 4 + c))

/-- MATMUL (R163). -/
def matmulCmd (m : Mem) (d : Dev) (t c : Nat) (w0 w1 : W64) : Dev :=
  issue m d t c true false MM_USED w0 w1 (fun r d => matmulOp m r d t c w0 w1)

/-- LOOP (R159). -/
def loopCmd (m : Mem) (d : Dev) (t c : Nat) (w0 w1 : W64) : Dev :=
  issue m d t c true false LOOPC_USED w0 w1 (fun r d =>
    let tc := t * 4 + c
    let ch := d.chuck tc
    let lc := wfld [w0, w1] LOOPC_LC
    let body := wfld [w0, w1] LOOPC_BODY
    let count := wfld [w0, w1] LOOPC_COUNT
    let stop := r.pc + 16 + 16 * body
    let outside := match ch.loops with | l :: _ => decide (stop > l.stop) | [] => false
    if body = 0 then illegal m d t c r.pc caENCODING
    else if ch.loops.any (fun l => l.lc == lc) || outside then illegal m d t c r.pc caLOOP
    else if count = 0 then d.goTo tc stop
    else (d.setChuck tc { ch with loops := ⟨lc, r.pc + 16, stop, count⟩ :: ch.loops, run := some { r with pc := r.pc + 16 } }))

/-- BR (R159): the offset counts commands from this one. A target below the partition is fetched as an address beyond it. -/
def brCmd (m : Mem) (d : Dev) (t c : Nat) (w0 w1 : W64) : Dev :=
  issue m d t c true false BRC_USED w0 w1 (fun r d =>
    let tc := t * 4 + c
    let ch := d.chuck tc
    let f := wfld [w0, w1]
    if !ch.loops.isEmpty then illegal m d t c r.pc caLOOP
    else
      let taken := f BRC_ALWAYS == 1 || (ch.flags.testBit (f BRC_FLAG) == (f BRC_SENSE == 1))
      if taken then d.goTo tc (((r.pc : Int) + 16 * sext 32 (f BRC_OFFSET)) % 2 ^ 40).toNat
      else d.advance tc)

/-! ### Scalar arithmetic (R159) -/

/-- SOP: `f` of the two sources goes to SD; writes to S0 are discarded. -/
def sopCmd (f : W32 → W32 → W32) (m : Mem) (d : Dev) (t c : Nat) (w0 w1 : W64) : Dev :=
  issue m d t c true true [0x7FFFFF00, 0xFFFFFFFF] w0 w1 (fun _ d =>
    let tc := t * 4 + c
    let ch := d.chuck tc
    let imm := BitVec.ofNat 32 w1.toNat
    let b := if wfld [w0, w1] SOP_IMM_B = 1 then imm else ch.sreg (wfld [w0, w1] SOP_SB)
    let sd := wfld [w0, w1] SOP_SD
    let r := f (ch.sreg (wfld [w0, w1] SOP_SA)) b
    (if sd = 0 then d else d.setChuck tc { ch with sregs := sput ch.sregs sd r }).advance tc)

/-- MOVI: SD takes IMM. -/
def sopMoviCmd (m : Mem) (d : Dev) (t c : Nat) (w0 w1 : W64) : Dev :=
  sopCmd (fun _ _ => BitVec.ofNat 32 w1.toNat) m d t c w0 w1

/-- A compare: flag SD[1:0] takes the answer. -/
def sopCmpCmd (f : W32 → W32 → Bool) (m : Mem) (d : Dev) (t c : Nat) (w0 w1 : W64) : Dev :=
  issue m d t c true true [0x7FFFFF00, 0xFFFFFFFF] w0 w1 (fun _ d =>
    let tc := t * 4 + c
    let ch := d.chuck tc
    let imm := BitVec.ofNat 32 w1.toNat
    let b := if wfld [w0, w1] SOP_IMM_B = 1 then imm else ch.sreg (wfld [w0, w1] SOP_SB)
    let k := wfld [w0, w1] SOP_SD % 4
    let cleared := if ch.flags.testBit k then ch.flags - 2 ^ k else ch.flags
    let fl := if f (ch.sreg (wfld [w0, w1] SOP_SA)) b then cleared + 2 ^ k else cleared
    (d.setChuck tc { ch with flags := fl }).advance tc)

/-- Shifts by bits [4:0] of the second source. -/
def sopShl (a b : W32) : W32 := a <<< (b.toNat % 32)
def sopShr (a b : W32) : W32 := a >>> (b.toNat % 32)

/-! ### Vector arithmetic (R138-R142, R160) -/

def Chuck.lane (ch : Chuck) (v i : Nat) : W32 := sget ch.vregs (v * 128 + i) 0#32
def Chuck.lanes (ch : Chuck) (v : Nat) : List W32 := (List.range 128).map (ch.lane v)

/-- Mask VM; VM0 reads all ones. -/
def Chuck.vm (ch : Chuck) (k : Nat) : BitVec 128 := if k = 0 then BitVec.allOnes 128 else sget ch.vmask k 0#128

/-- Writes lanes of a vector register where the mask is set. -/
def Chuck.putLanes (ch : Chuck) (v : Nat) (mask : BitVec 128) (vals : List W32) : Chuck :=
  { ch with vregs := (List.range 128).foldl (fun r i =>
      if mask.getLsbD i then sput r (v * 128 + i) (vals.getD i 0#32) else r) ch.vregs }

/-- Sets a mask register; VM0 is not written. -/
def Chuck.putMask (ch : Chuck) (k : Nat) (v : BitVec 128) : Chuck :=
  if k = 0 then ch else { ch with vmask := sput ch.vmask k v }

/-- Lanes of the second source: VB, or IMM in every lane. -/
def Chuck.lanesB (ch : Chuck) (w0 w1 : W64) : List W32 :=
  if wfld [w0, w1] VOP_IMM_B = 1 then List.replicate 128 (BitVec.ofNat 32 (wfld [w0, w1] VOP_IMM))
  else ch.lanes (wfld [w0, w1] VOP_VB)

/-- A lane-wise function of lane number and the three sources; lanes with mask 0 keep VD. -/
def vopCmd (f : Nat → W32 → W32 → W32 → W32 × Bool) (m : Mem) (d : Dev) (t c : Nat) (w0 w1 : W64) : Dev :=
  issue m d t c true false VOP_USED w0 w1 (fun _ d =>
    let tc := t * 4 + c
    let ch := d.chuck tc
    let a := ch.lanes (wfld [w0, w1] VOP_VA)
    let b := ch.lanesB w0 w1
    let x := ch.lanes (wfld [w0, w1] VOP_VC)
    let mask := ch.vm (wfld [w0, w1] VOP_VM)
    let out := (List.range 128).map (fun i => f i (a.getD i 0#32) (b.getD i 0#32) (x.getD i 0#32))
    let inv := (List.range 128).any (fun i => mask.getLsbD i && (out.getD i (0#32, false)).2)
    let d := d.setChuck tc (ch.putLanes (wfld [w0, w1] VOP_VD) mask (out.map (·.1)))
    (d.numFlags t { vecInvalid := inv }).advance tc)

/-- Lane functions that raise no condition. -/
def vopPlain (f : W32 → W32 → W32) : Nat → W32 → W32 → W32 → W32 × Bool := fun _ a b _ => (f a b, false)
def vopFp1 (f : W32 → W32) : Nat → W32 → W32 → W32 → W32 × Bool := fun _ a _ _ => lane1 f a
def vopFp2 (f : W32 → W32 → W32) : Nat → W32 → W32 → W32 → W32 × Bool := fun _ a b _ => lane2 f a b

/-- SEL: VM selects VA or VB in every lane. -/
def vopSelCmd (m : Mem) (d : Dev) (t c : Nat) (w0 w1 : W64) : Dev :=
  issue m d t c true false VOP_USED w0 w1 (fun _ d =>
    let tc := t * 4 + c
    let ch := d.chuck tc
    let a := ch.lanes (wfld [w0, w1] VOP_VA)
    let b := ch.lanesB w0 w1
    let mask := ch.vm (wfld [w0, w1] VOP_VM)
    let out := (List.range 128).map (fun i => if mask.getLsbD i then a.getD i 0#32 else b.getD i 0#32)
    (d.setChuck tc (ch.putLanes (wfld [w0, w1] VOP_VD) (BitVec.allOnes 128) out)).advance tc)

/-- A compare: mask register VD[2:0] takes the answers where VM is set. -/
def vopCmpCmd (f : W32 → W32 → Bool) (m : Mem) (d : Dev) (t c : Nat) (w0 w1 : W64) : Dev :=
  issue m d t c true false VOP_USED w0 w1 (fun _ d =>
    let tc := t * 4 + c
    let ch := d.chuck tc
    let a := ch.lanes (wfld [w0, w1] VOP_VA)
    let b := ch.lanesB w0 w1
    let mask := ch.vm (wfld [w0, w1] VOP_VM)
    let k := wfld [w0, w1] VOP_VD % 8
    let old := ch.vm k
    let bits := (List.range 128).foldl (fun (acc : Nat) i =>
      let v := if mask.getLsbD i then f (a.getD i 0#32) (b.getD i 0#32) else old.getLsbD i
      if v then acc + 2 ^ i else acc) 0
    (d.setChuck tc (ch.putMask k (BitVec.ofNat 128 bits))).advance tc)

/-- A reduction over the unmasked lanes, its value in every lane of VD (R142). DESIGN CHOICE (log 130): VEC_INVALID is judged for the reduction
as a whole: it is clear where an unmasked lane of VA holds a NaN. -/
def vopReduceCmd (f : W32 → W32 → W32) (neutral : W32) (m : Mem) (d : Dev) (t c : Nat) (w0 w1 : W64) : Dev :=
  issue m d t c true false VOP_USED w0 w1 (fun _ d =>
    let tc := t * 4 + c
    let ch := d.chuck tc
    let mask := ch.vm (wfld [w0, w1] VOP_VM)
    let a := ch.lanes (wfld [w0, w1] VOP_VA)
    let r := reduceLanes f neutral mask a
    let inv := vecInv ((List.range 128).filterMap (fun i => if mask.getLsbD i then some (a.getD i 0#32) else none)) r
    let d := d.setChuck tc (ch.putLanes (wfld [w0, w1] VOP_VD) (BitVec.allOnes 128) (List.replicate 128 r))
    (d.numFlags t { vecInvalid := inv }).advance tc)

/-- Word operations of R140. -/
def wShl (a b : W32) : W32 := a <<< shAmt b
def wShr (a b : W32) : W32 := a >>> shAmt b
def wSar (a b : W32) : W32 := a.sshiftRight (shAmt b)
def wRol (a b : W32) : W32 := a.rotateLeft (shAmt b)

/-! ### VLD, VST, QMX (R143, R160) -/

/-- Address, element bytes and range of VLD and VST. The sum does not wrap (log 175). -/
def Chuck.vmemAddr (ch : Chuck) (w0 w1 : W64) : Nat := wfld [w0, w1] VMEM_ADDR + (ch.sreg (wfld [w0, w1] VMEM_XREG)).toNat

/-- Checks of VLD and VST, then the transfer. -/
def vmemCmd (store : Bool) (m : Mem) (d : Dev) (t c : Nat) (w0 w1 : W64) : Dev :=
  issue m d t c true false VMEM_USED w0 w1 (fun r d =>
    let tc := t * 4 + c
    let ch := d.chuck tc
    let e := wfld [w0, w1] VMEM_EFMT
    let a := ch.vmemAddr w0 w1
    let n := efmtBytes e
    let v := wfld [w0, w1] VMEM_VREG
    let mask := ch.vm (wfld [w0, w1] VMEM_VM)
    let range := some (a, a + 128 * n - 1)
    if e = 3 then illegal m d t c r.pc caENCODING
    else if a % n ≠ 0 then illegal m d t c r.pc caALIGN
    else if a + 128 * n > d.usable tc then illegal m d t c r.pc caADDRESS
    else if (if store then ch.conflicts none range else ch.conflicts range none) then d
    else if store then
      let out := (List.range 128).map (fun i => efmtStore e (ch.lane v i))
      let on := (List.range 128).filter (fun i => mask.getLsbD i)
      let bytes := on.flatMap (fun i => (List.range n).zipWith (fun k b => (a + i * n + k, b)) (toLE (out.getD i (0, false)).1 n))
      let sat := on.any (fun i => (out.getD i (0, false)).2)
      ((d.localWrites tc bytes).numFlags t { drainSat := sat }).advance tc
    else
      let vals := (List.range 128).map (fun i => efmtLoad e (leBytes (d.localGet tc) (a + i * n) n))
      (d.setChuck tc (ch.putLanes v mask vals)).advance tc)

/-- QMX: four groups of 32 lanes, each with its packed elements and its scale byte. The sums of its addresses do not wrap (log 175). -/
def qmxCmd (m : Mem) (d : Dev) (t c : Nat) (w0 w1 : W64) : Dev :=
  issue m d t c true false QMX_USED w0 w1 (fun r d =>
    let tc := t * 4 + c
    let ch := d.chuck tc
    let f := wfld [w0, w1]
    let x := (ch.sreg (f QMX_XREG)).toNat
    let tf := f QMX_TFMT
    let eb := f QMX_EBASE + x
    let sb := f QMX_SBASE + x
    let nb := fmtBits tf * 4
    let range := hull ((List.range 4).flatMap (fun g =>
      [(eb + g * f QMX_ESTRIDE, eb + g * f QMX_ESTRIDE + nb - 1), (sb + g * f QMX_SSTEP, sb + g * f QMX_SSTEP)]))
    if !fmtIsMX tf then illegal m d t c r.pc caENCODING
    else if hullTop range > d.usable tc then illegal m d t c r.pc caADDRESS
    else if ch.conflicts none range then d
    else
      let lanes := ch.lanes (f QMX_VA)
      let out := (List.range 4).map (fun g => qmxGroup tf ((lanes.drop (32 * g)).take 32))
      let bytes := (List.range 4).flatMap (fun g =>
        let o := out.getD g (0, [], false)
        let es := packCodes (fmtBits tf) o.2.1
        (List.range es.length).zipWith (fun k b => (eb + g * f QMX_ESTRIDE + k, b)) es ++ [(sb + g * f QMX_SSTEP, o.1)])
      ((d.localWrites tc bytes).numFlags t { drainSat := out.any (fun o => o.2.2) }).advance tc)

/-! ### NOTIFY (R159, R224, R459) -/

/-- The checks of NOTIFY, then what its kind does with the payload. -/
def notifyCmd (f : Run → Dev → List Byte → Dev) (m : Mem) (d : Dev) (t c : Nat) (w0 w1 : W64) : Dev :=
  issue m d t c false true DMAC_USED w0 w1 (fun r d =>
    let tc := t * 4 + c
    let a := wfld [w0, w1] DMAC_ADDR
    let n := wfld [w0, w1] DMAC_COUNT
    if n = 0 ∨ n > 4 then illegal m d t c r.pc caENCODING
    else if a % 16 ≠ 0 then illegal m d t c r.pc caALIGN
    else if a + 16 * n > d.usable tc then illegal m d t c r.pc caADDRESS
    else (f r d ((List.range (16 * n)).map (fun i => BitVec.ofNat 8 (d.localGet tc (a + i))))).advance tc)

/-- KIND 0: each 16-byte unit is a record on its way to the serving engine, with ARG unchanged as its third word; the fourth is the tile that sent it,
whose records arrive in the order sent (R31). -/
def notifyServingCmd (m : Mem) (d : Dev) (t c : Nat) (w0 w1 : W64) : Dev :=
  notifyCmd (fun _ d bytes =>
    let recs := (List.range (bytes.length / 16)).map (fun k => bytesWords 2 (bytes.drop (16 * k)) ++ [w1, w64 t])
    { d with srv := { d.srv with inbox := d.srv.inbox ++ recs } }) m d t c w0 w1

/-- KIND 1: an interrupt request for the context's instance, with the vector in ARG. -/
def notifyInterruptCmd (m : Mem) (d : Dev) (t c : Nat) (w0 w1 : W64) : Dev :=
  notifyCmd (fun r d _ =>
    let i := d.runInst r
    let v := if i = 0 then w1.toNat % 2048 else w1.toNat % 64
    if v < 4 ∨ v > 1023 then d.bump (VIR_INST_DISC_BAD_VECTOR i) 1 else d.raiseVector i v r.item.igen) m d t c w0 w1

end Sys2Proof.Machine
end

