-- ==== Sys2Proof/Machine/TileOps.lean ====
section
/-!
DEFINITION. Machine/TileOps.lean: which command of a tile's stream two words spell (R159, R160): bits [7:0] of word 0, and FUNC or KIND where the
opcode has one. A word with a reserved opcode, FUNC or KIND is illegal with cause ENCODING (R157).
-/

namespace Sys2Proof.Machine

/-- The commands of a stream (R159, R160). -/
inductive TileOp where
  | nop | end_ | commit | waitSemaphore | waitMatrixDrain | waitDma | semrel | cfg | cfgk | opa | opb | opc | matmul | vopFadd
  | vopFsub | vopFmul | vopFma | vopFmin | vopFmax | vopFdiv | vopFsqrt | vopFexp | vopFlog | vopFrsqrt | vopFtanh | vopFrcp
  | vopFcmplt | vopFcmple | vopFcmpeq | vopRsum | vopRmax | vopRmin | vopIadd | vopIsub | vopAnd | vopOr | vopXor | vopShl
  | vopShr | vopSar | vopRol | vopMullo | vopMulhi | vopMulhiu | vopCvtf2i | vopCvti2f | vopMov | vopSel | vopLaneid | vld
  | vst | qmx | sopAdd | sopSub | sopMul | sopAnd | sopOr | sopXor | sopShl | sopShr | sopMovi | sopCmpeq | sopCmplt | sopCmpltu
  | loop | br | dma | notifyServingRecord | notifyInterrupt
deriving DecidableEq, Repr

/-- How a command is spelled: the opcode, and the lowest bit, the width and the value of FUNC or KIND. -/
structure Spelling where
  op   : TileOp
  code : Nat
  lo   : Nat
  wid  : Nat
  fn   : Nat

/-- R159: commands other than VOP and SOP. SEMREL and DMA hold KIND 0. -/
def spelledPlain : List Spelling :=
  [⟨.nop, 0x00, 0, 0, 0x0⟩, ⟨.end_, 0x01, 0, 0, 0x0⟩, ⟨.commit, 0x02, 0, 0, 0x0⟩, ⟨.waitSemaphore, 0x08, 8, 4, 0x0⟩,
   ⟨.waitMatrixDrain, 0x08, 8, 4, 0x1⟩, ⟨.waitDma, 0x08, 8, 4, 0x2⟩, ⟨.semrel, 0x09, 0, 0, 0x0⟩, ⟨.cfg, 0x10, 0, 0, 0x0⟩,
   ⟨.cfgk, 0x11, 0, 0, 0x0⟩, ⟨.opa, 0x18, 0, 0, 0x0⟩, ⟨.opb, 0x19, 0, 0, 0x0⟩, ⟨.opc, 0x1A, 0, 0, 0x0⟩,
   ⟨.matmul, 0x1B, 0, 0, 0x0⟩, ⟨.vld, 0x21, 0, 0, 0x0⟩, ⟨.vst, 0x22, 0, 0, 0x0⟩, ⟨.qmx, 0x23, 0, 0, 0x0⟩,
   ⟨.loop, 0x29, 0, 0, 0x0⟩, ⟨.br, 0x2A, 0, 0, 0x0⟩, ⟨.dma, 0x30, 0, 0, 0x0⟩, ⟨.notifyServingRecord, 0x38, 8, 4, 0x0⟩,
   ⟨.notifyInterrupt, 0x38, 8, 4, 0x1⟩]

/-- R160. -/
def spelledVop : List Spelling :=
  [⟨.vopFadd, 0x20, 8, 8, 0x0⟩, ⟨.vopFsub, 0x20, 8, 8, 0x1⟩, ⟨.vopFmul, 0x20, 8, 8, 0x2⟩, ⟨.vopFma, 0x20, 8, 8, 0x3⟩,
   ⟨.vopFmin, 0x20, 8, 8, 0x4⟩, ⟨.vopFmax, 0x20, 8, 8, 0x5⟩, ⟨.vopFdiv, 0x20, 8, 8, 0x6⟩, ⟨.vopFsqrt, 0x20, 8, 8, 0x7⟩,
   ⟨.vopFexp, 0x20, 8, 8, 0x8⟩, ⟨.vopFlog, 0x20, 8, 8, 0x9⟩, ⟨.vopFrsqrt, 0x20, 8, 8, 0xA⟩, ⟨.vopFtanh, 0x20, 8, 8, 0xB⟩,
   ⟨.vopFrcp, 0x20, 8, 8, 0xC⟩, ⟨.vopFcmplt, 0x20, 8, 8, 0x10⟩, ⟨.vopFcmple, 0x20, 8, 8, 0x11⟩, ⟨.vopFcmpeq, 0x20, 8, 8, 0x12⟩,
   ⟨.vopRsum, 0x20, 8, 8, 0x18⟩, ⟨.vopRmax, 0x20, 8, 8, 0x19⟩, ⟨.vopRmin, 0x20, 8, 8, 0x1A⟩, ⟨.vopIadd, 0x20, 8, 8, 0x20⟩,
   ⟨.vopIsub, 0x20, 8, 8, 0x21⟩, ⟨.vopAnd, 0x20, 8, 8, 0x22⟩, ⟨.vopOr, 0x20, 8, 8, 0x23⟩, ⟨.vopXor, 0x20, 8, 8, 0x24⟩,
   ⟨.vopShl, 0x20, 8, 8, 0x25⟩, ⟨.vopShr, 0x20, 8, 8, 0x26⟩, ⟨.vopSar, 0x20, 8, 8, 0x27⟩, ⟨.vopRol, 0x20, 8, 8, 0x28⟩,
   ⟨.vopMullo, 0x20, 8, 8, 0x29⟩, ⟨.vopMulhi, 0x20, 8, 8, 0x2A⟩, ⟨.vopMulhiu, 0x20, 8, 8, 0x2B⟩,
   ⟨.vopCvtf2i, 0x20, 8, 8, 0x30⟩, ⟨.vopCvti2f, 0x20, 8, 8, 0x31⟩, ⟨.vopMov, 0x20, 8, 8, 0x38⟩, ⟨.vopSel, 0x20, 8, 8, 0x39⟩,
   ⟨.vopLaneid, 0x20, 8, 8, 0x3A⟩]

/-- R159, SOP. -/
def spelledSop : List Spelling :=
  [⟨.sopAdd, 0x28, 8, 4, 0x0⟩, ⟨.sopSub, 0x28, 8, 4, 0x1⟩, ⟨.sopMul, 0x28, 8, 4, 0x2⟩, ⟨.sopAnd, 0x28, 8, 4, 0x3⟩,
   ⟨.sopOr, 0x28, 8, 4, 0x4⟩, ⟨.sopXor, 0x28, 8, 4, 0x5⟩, ⟨.sopShl, 0x28, 8, 4, 0x6⟩, ⟨.sopShr, 0x28, 8, 4, 0x7⟩,
   ⟨.sopMovi, 0x28, 8, 4, 0x8⟩, ⟨.sopCmpeq, 0x28, 8, 4, 0x9⟩, ⟨.sopCmplt, 0x28, 8, 4, 0xA⟩, ⟨.sopCmpltu, 0x28, 8, 4, 0xB⟩]

def spellings : List Spelling := spelledPlain ++ spelledVop ++ spelledSop

/-- The command that word 0 spells, if any. -/
def tileOp (w0 : W64) : Option TileOp :=
  (spellings.find? (fun s => w0.toNat % 256 == s.code && w0.toNat / 2 ^ s.lo % 2 ^ s.wid == s.fn)).map (·.op)

/-- A word that spells no command. It is legal in no phase; before that it is no command at all. -/
def noCmd (m : Mem) (d : Dev) (t c : Nat) (w0 w1 : W64) : Dev :=
  issue m d t c true true [0xFFFFFFFFFFFFFFFF, 0xFFFFFFFFFFFFFFFF] w0 w1 (fun r d => illegal m d t c r.pc caENCODING)

/-- What a command does. -/
def tileBody (op : TileOp) : Mem → Dev → Nat → Nat → W64 → W64 → Dev :=
  match op with
  | .nop => nopOp
  | .end_ => endCmd
  | .commit => commitCmd
  | .waitSemaphore => waitSemCmd
  | .waitMatrixDrain => waitMatrixCmd
  | .waitDma => waitDmaCmd
  | .semrel => semrelCmd
  | .cfg => cfgCmd
  | .cfgk => cfgkCmd
  | .opa => opaCmd
  | .opb => opbCmd
  | .opc => opcCmd
  | .matmul => matmulCmd
  | .vopFadd => vopCmd (vopFp2 fAdd)
  | .vopFsub => vopCmd (vopFp2 fSub)
  | .vopFmul => vopCmd (vopFp2 fMul)
  | .vopFma => vopCmd (fun _ x y z => lane3 fFma x y z)
  | .vopFmin => vopCmd (vopFp2 fMin)
  | .vopFmax => vopCmd (vopFp2 fMax)
  | .vopFdiv => vopCmd (vopFp2 fDiv)
  | .vopFsqrt => vopCmd (vopFp1 fSqrt)
  | .vopFexp => vopCmd (vopFp1 fExp)
  | .vopFlog => vopCmd (vopFp1 fLog)
  | .vopFrsqrt => vopCmd (vopFp1 fRsqrt)
  | .vopFtanh => vopCmd (vopFp1 fTanh)
  | .vopFrcp => vopCmd (vopFp1 fRcp)
  | .vopFcmplt => vopCmpCmd fLt
  | .vopFcmple => vopCmpCmd fLe
  | .vopFcmpeq => vopCmpCmd fEq
  | .vopRsum => vopReduceCmd fAdd 0#32
  | .vopRmax => vopReduceCmd fMax 0xFF800000#32
  | .vopRmin => vopReduceCmd fMin 0x7F800000#32
  | .vopIadd => vopCmd (vopPlain (fun x y => x + y))
  | .vopIsub => vopCmd (vopPlain (fun x y => x - y))
  | .vopAnd => vopCmd (vopPlain (fun x y => x &&& y))
  | .vopOr => vopCmd (vopPlain (fun x y => x ||| y))
  | .vopXor => vopCmd (vopPlain (fun x y => x ^^^ y))
  | .vopShl => vopCmd (vopPlain wShl)
  | .vopShr => vopCmd (vopPlain wShr)
  | .vopSar => vopCmd (vopPlain wSar)
  | .vopRol => vopCmd (vopPlain wRol)
  | .vopMullo => vopCmd (vopPlain mulLo)
  | .vopMulhi => vopCmd (vopPlain mulHi)
  | .vopMulhiu => vopCmd (vopPlain mulHiU)
  | .vopCvtf2i => vopCmd (fun _ x _ _ => cvtF2I x)
  | .vopCvti2f => vopCmd (fun _ x _ _ => (cvtI2F x, false))
  | .vopMov => vopCmd (fun _ x _ _ => (x, false))
  | .vopSel => vopSelCmd
  | .vopLaneid => vopCmd (fun i _ _ _ => (BitVec.ofNat 32 i, false))
  | .vld => vmemCmd false
  | .vst => vmemCmd true
  | .qmx => qmxCmd
  | .sopAdd => sopCmd (fun x y => x + y)
  | .sopSub => sopCmd (fun x y => x - y)
  | .sopMul => sopCmd (fun x y => x * y)
  | .sopAnd => sopCmd (fun x y => x &&& y)
  | .sopOr => sopCmd (fun x y => x ||| y)
  | .sopXor => sopCmd (fun x y => x ^^^ y)
  | .sopShl => sopCmd sopShl
  | .sopShr => sopCmd sopShr
  | .sopMovi => sopMoviCmd
  | .sopCmpeq => sopCmpCmd (fun x y => x == y)
  | .sopCmplt => sopCmpCmd (fun x y => x.slt y)
  | .sopCmpltu => sopCmpCmd (fun x y => x.ult y)
  | .loop => loopCmd
  | .br => brCmd
  | .dma => dmaCmd
  | .notifyServingRecord => notifyServingCmd
  | .notifyInterrupt => notifyInterruptCmd

/-- The sequencer issues the command that the words spell. -/
def tileCommand (m : Mem) (d : Dev) (t c : Nat) (w0 w1 : W64) : Dev :=
  match tileOp w0 with
  | some op => tileBody op m d t c w0 w1
  | none => noCmd m d t c w0 w1

/-- A row of the command table: the command of that name where the words spell it, else what they spell. -/
def tileRow (op : TileOp) (body : Mem → Dev → Nat → Nat → W64 → W64 → Dev) (m : Mem) (d : Dev) (t c : Nat) (w0 w1 : W64) : Dev :=
  if tileOp w0 = some op then body m d t c w0 w1 else tileCommand m d t c w0 w1

end Sys2Proof.Machine
end

