-- ==== Sys2Proof/Machine/CmdScalar.lean ====
section
/-!
DEFINITION. Machine/CmdScalar.lean: commands of scalar arithmetic of a chuck (R159).
-/

namespace Sys2Proof.Machine

/-- SOP_ADD (R159): SOP ADD adds scalar registers. -/
def execSopAdd (t : Fin 320) (c : Fin 4) (w0 w1 : W64) (s : State) : Host.Outcome State Fault Refusal :=
  run (fun m d => tileRow .sopAdd (sopCmd (fun x y => x + y)) m d t c w0 w1) s

/-- SOP_SUB (R159): SOP SUB subtracts scalar registers. -/
def execSopSub (t : Fin 320) (c : Fin 4) (w0 w1 : W64) (s : State) : Host.Outcome State Fault Refusal :=
  run (fun m d => tileRow .sopSub (sopCmd (fun x y => x - y)) m d t c w0 w1) s

/-- SOP_MUL (R159): SOP MUL multiplies scalar registers, keeping the low 32 bits. -/
def execSopMul (t : Fin 320) (c : Fin 4) (w0 w1 : W64) (s : State) : Host.Outcome State Fault Refusal :=
  run (fun m d => tileRow .sopMul (sopCmd (fun x y => x * y)) m d t c w0 w1) s

/-- SOP_AND (R159): SOP AND performs a scalar AND. -/
def execSopAnd (t : Fin 320) (c : Fin 4) (w0 w1 : W64) (s : State) : Host.Outcome State Fault Refusal :=
  run (fun m d => tileRow .sopAnd (sopCmd (fun x y => x &&& y)) m d t c w0 w1) s

/-- SOP_OR (R159): SOP OR performs a scalar OR. -/
def execSopOr (t : Fin 320) (c : Fin 4) (w0 w1 : W64) (s : State) : Host.Outcome State Fault Refusal :=
  run (fun m d => tileRow .sopOr (sopCmd (fun x y => x ||| y)) m d t c w0 w1) s

/-- SOP_XOR (R159): SOP XOR performs a scalar XOR. -/
def execSopXor (t : Fin 320) (c : Fin 4) (w0 w1 : W64) (s : State) : Host.Outcome State Fault Refusal :=
  run (fun m d => tileRow .sopXor (sopCmd (fun x y => x ^^^ y)) m d t c w0 w1) s

/-- SOP_SHL (R159): SOP SHL shifts a scalar left. -/
def execSopShl (t : Fin 320) (c : Fin 4) (w0 w1 : W64) (s : State) : Host.Outcome State Fault Refusal :=
  run (fun m d => tileRow .sopShl (sopCmd sopShl) m d t c w0 w1) s

/-- SOP_SHR (R159): SOP SHR shifts a scalar right, logically. -/
def execSopShr (t : Fin 320) (c : Fin 4) (w0 w1 : W64) (s : State) : Host.Outcome State Fault Refusal :=
  run (fun m d => tileRow .sopShr (sopCmd sopShr) m d t c w0 w1) s

/-- SOP_MOVI (R159): SOP MOVI loads an immediate into a scalar register. -/
def execSopMovi (t : Fin 320) (c : Fin 4) (w0 w1 : W64) (s : State) : Host.Outcome State Fault Refusal :=
  run (fun m d => tileRow .sopMovi sopMoviCmd m d t c w0 w1) s

/-- SOP_CMPEQ (R159): SOP CMPEQ sets a flag on equality. -/
def execSopCmpeq (t : Fin 320) (c : Fin 4) (w0 w1 : W64) (s : State) : Host.Outcome State Fault Refusal :=
  run (fun m d => tileRow .sopCmpeq (sopCmpCmd (fun x y => x == y)) m d t c w0 w1) s

/-- SOP_CMPLT (R159): SOP CMPLT sets a flag on signed less-than. -/
def execSopCmplt (t : Fin 320) (c : Fin 4) (w0 w1 : W64) (s : State) : Host.Outcome State Fault Refusal :=
  run (fun m d => tileRow .sopCmplt (sopCmpCmd (fun x y => x.slt y)) m d t c w0 w1) s

/-- SOP_CMPLTU (R159): SOP CMPLTU sets a flag on unsigned less-than. -/
def execSopCmpltu (t : Fin 320) (c : Fin 4) (w0 w1 : W64) (s : State) : Host.Outcome State Fault Refusal :=
  run (fun m d => tileRow .sopCmpltu (sopCmpCmd (fun x y => x.ult y)) m d t c w0 w1) s

end Sys2Proof.Machine
end

