-- ==== Sys2Proof/Machine/CmdServing.lean ====
section
/-!
DEFINITION. Machine/CmdServing.lean: commands of the serving engine and the submission queues (R195-R226, R452).
-/

namespace Sys2Proof.Machine

/-- SQ_DOORBELL (R452): A write to SQ_PROD advances the submission ring producer, or is discarded with SQ_BAD. -/
def execSqDoorbell (a : Agent) (value : W32) (s : State) : Host.Outcome State Fault Refusal :=
  run (fun m d => put m d a (pageOff a 0x10) 4 value.toNat) s

/-- SQ_REQUEST (R206): A fetched REQUEST entry is checked and either moves its sequence entry from FREE to QUEUED with ACCEPT or is refused. -/
def execSqRequest (i : Fin 128) (s : State) : Host.Outcome State Fault Refusal :=
  run (fun m d => sqRequestOp m d i) s

/-- SQ_ITEM (R452): A fetched ITEM entry passes its item descriptor to the Lathe. -/
def execSqItem (i : Fin 128) (s : State) : Host.Outcome State Fault Refusal :=
  run (fun m d => sqItemOp m d i) s

/-- SQ_BAD_KIND (R452): A fetched entry of any other kind writes a REFUSED record to the CQ. -/
def execSqBadKind (i : Fin 128) (s : State) : Host.Outcome State Fault Refusal :=
  run (fun m d => sqBadKindOp m d i) s

/-- STEP_END (R212): When every item of a step's chain has written its final record, the step ends and, on failure, its rows without tokens are
restored. -/
def execStepEnd (p : Fin 16) (s : State) : Host.Outcome State Fault Refusal :=
  run (fun m d => stepEndRow m d p) s

/-- TOKEN_NOTIFICATION (R214): A token notification matching an ACTIVE entry writes TOKEN and possibly FINAL, or is discarded. -/
def execTokenNotification (w0 w1 : W64) (s : State) : Host.Outcome State Fault Refusal :=
  run (fun m d => tokenRow m d w0 w1) s

/-- SRV_ABORT (R213): A write to SRV_ABORT aborts a sequence at the update port and writes an ABORT_RESULT. -/
def execSrvAbort (a : Agent) (value : W64) (s : State) : Host.Outcome State Fault Refusal :=
  run (fun m d => put m d a 0x100040 8 value.toNat) s

/-- SRV_Q_CONFIG_WRITE (R201): A write to SRV_Q_CTRL, SRV_Q_RATE or SRV_Q_BURST resets the queue's credit and ends QUEUED entries whose cost exceeds
BURST. -/
def execSrvQConfigWrite (a : Agent) (q : Fin 15360) (reg : QReg) (value : W32) (s : State) : Host.Outcome State Fault Refusal :=
  run (fun m d => put m d a (queueOff q reg) 4 value.toNat) s

/-- SRV_CTRL_WRITE (R217): A write to SRV_CTRL enables the engine after checking its memory and initialises the free stack, or requests the engine be
disabled. -/
def execSrvCtrlWrite (a : Agent) (value : W32) (s : State) : Host.Outcome State Fault Refusal :=
  run (fun m d => put m d a 0x100000 4 value.toNat) s

/-- SRV_DISABLE_EFFECT (R218): A cleared EN takes effect at the first boundary with no step in flight, stopping submissions, admission and step
builds. -/
def execSrvDisableEffect (s : State) : Host.Outcome State Fault Refusal :=
  run (fun _ d => srvDisableOp d) s

/-- SRV_PROF_WRITE (R217): A write to a profile register, including VALID 1 with its step-buffer check, is applied or refused with CFG_REFUSED. -/
def execSrvProfWrite (a : Agent) (off len value : Nat) (s : State) : Host.Outcome State Fault Refusal :=
  run (fun m d => profWrite m d a off len value) s

/-- SRV_ADAPTER_WRITE (R220): A write to an adapter entry is discarded with ADAPTER_BUSY while REFS is nonzero. -/
def execSrvAdapterWrite (a : Agent) (n : Fin 4096) (word : Fin 4) (value : W64) (s : State) : Host.Outcome State Fault Refusal :=
  run (fun m d => put m d a (0x150000 + 32 * n + 8 * word) 8 value.toNat) s

end Sys2Proof.Machine
end

