-- ==== Sys2Proof/Machine/CmdTailstock.lean ====
section
/-!
DEFINITION. Machine/CmdTailstock.lean: commands of the Tailstock: detections, tests, pairs, replicas, windows and stragglers (R397-R428).
-/

namespace Sys2Proof.Machine

/-- FAULT_RECORD_RECEIVE (R403): The Tailstock receives a detection or fault event record, classifies the unit and schedules retests. -/
def execFaultRecordReceive (s : State) : Host.Outcome State Fault Refusal :=
  run (fun m d => faultReceiveOp m d) s

/-- WATCHDOG_EXPIRY (R398): The Tailstock watchdog expires, restarting the Tailstock core or halting it at the third expiry in 60 s. -/
def execWatchdogExpiry (s : State) : Host.Outcome State Fault Refusal :=
  run (fun _ d => watchdogOp d) s

/-- TLS_WDOG_WRITE (R398): The Tailstock firmware restarts the watchdog by writing TLS_WDOG. -/
def execTlsWdogWrite (value : W32) (s : State) : Host.Outcome State Fault Refusal :=
  run (fun m d => put m d .tailstock 0x3C0008 4 value.toNat) s

/-- MESH_DOUBLE_BIT_ERROR (R24): A double-bit mesh flit error is logged and contained by chip reset. -/
def execMeshDoubleBitError (die : Fin 2) (row : Fin 8) (x : MeshHit) (s : State) : Host.Outcome State Fault Refusal :=
  run (fun _ d => meshDoubleOp d die row x.pcol x.single) s

/-- SRAM_DOUBLE_BIT_ERROR (R145): A double-bit tile SRAM error is logged and contained by chip reset. -/
def execSramDoubleBitError (t : Fin 320) (x : BankHit) (s : State) : Host.Outcome State Fault Refusal :=
  run (fun _ d => sramDoubleOp d t x.bank x.single) s

/-- DIE_LINK_FLIT_FAILURE (R27): A die-to-die flit still in error after 8 replays is logged and contained by chip reset. -/
def execDieLinkFlitFailure (link : Fin 3) (s : State) : Host.Outcome State Fault Refusal :=
  run (fun _ d => dieLinkOp d link) s

/-- RETEST_START (R405): A conditioned retest starts once the die reaches the recorded temperature, under PRT_VCORE and PRT_LOAD. -/
def execRetestStart (unit : Nat) (s : State) : Host.Outcome State Fault Refusal :=
  run (fun _ d => retestOp d unit) s

/-- RETEST_WAIT_EXPIRY (R405): After RETEST_WAIT hours without the recorded temperature, the retest runs at the current one and is marked
COND_PARTIAL. -/
def execRetestWaitExpiry (unit : Nat) (s : State) : Host.Outcome State Fault Refusal :=
  run (fun _ d => retestOverOp d unit) s

/-- SWEEP_TEST_DUE (R408): A periodic sweep test falls due on the next tile in logical order. -/
def execSweepTestDue (s : State) : Host.Outcome State Fault Refusal :=
  run (fun _ d => sweepOp d) s

/-- UNIT_TEST_DONE (R408): An in-field test or retest ends, and the unit passes to HEALTHY or FAULTY. -/
def execUnitTestDone (unit : Nat) (pass : Bool) (s : State) : Host.Outcome State Fault Refusal :=
  run (fun _ d => testDoneOp d unit pass) s

/-- HISTORY_RECORD_WRITE (R407): A fault-history record is written to flash within 50 ms of its event. -/
def execHistoryRecordWrite (s : State) : Host.Outcome State Fault Refusal :=
  run (fun _ d => historyWriteOp d) s

/-- POS_SAVE (R403): Every 60 s the Tailstock writes TLS_POS to flash. -/
def execPosSave (s : State) : Host.Outcome State Fault Refusal :=
  run (fun _ d => posSaveOp d) s

/-- HELLO (R410): A received HELLO compares replay classes and sets CLASS_DIFF. -/
def execHello (pk : Packet) (s : State) : Host.Outcome State Fault Refusal :=
  run (fun m d => tlsRow 0x01 m d pk) s

/-- COMPARE (R412): A received COMPARE is matched against own digests, counting MATCH or MISMATCH and refreshing HEARD. -/
def execCompare (pk : Packet) (s : State) : Host.Outcome State Fault Refusal :=
  run (fun m d => tlsRow 0x02 m d pk) s

/-- MATCH_WAIT_EXPIRY (R412): An entry unreported by the partner after MATCH_WAIT ticks counts ONE_SIDED. -/
def execMatchWaitExpiry (n : Fin 512) (s : State) : Host.Outcome State Fault Refusal :=
  run (fun _ d => matchWaitOp d n) s

/-- RELINQUISH (R415): A received RELINQUISH triggers a takeover or an event, according to MODE. -/
def execRelinquish (pk : Packet) (s : State) : Host.Outcome State Fault Refusal :=
  run (fun m d => tlsRow 0x03 m d pk) s

/-- MISS_TICKS_EXPIRY (R415): No COMPARE from the partner for MISS_TICKS ticks triggers a takeover in MODE 2, or an event. -/
def execMissTicksExpiry (n : Fin 512) (s : State) : Host.Outcome State Fault Refusal :=
  run (fun _ d => missTicksOp d n) s

/-- TAKEOVER (R416): A received TAKEOVER makes a PRIMARY cell SHADOW at the named boundary. -/
def execTakeover (pk : Packet) (s : State) : Host.Outcome State Fault Refusal :=
  run (fun m d => tlsRow 0x04 m d pk) s

/-- TAKEOVER_EFFECT (R416): A shadow cell becomes PRIMARY at its frame boundary and sends TAKEOVER. -/
def execTakeoverEffect (n : Fin 512) (s : State) : Host.Outcome State Fault Refusal :=
  run (fun _ d => d.roleEffect n true) s

/-- REPLICA_ROUND (R419): At every N-th step the Tailstock computes the object digest and sends REPLICA_DIGEST to its peers. -/
def execReplicaRound (r : Nat) (s : State) : Host.Outcome State Fault Refusal :=
  run (fun m d => replicaRoundOp m d r) s

/-- REPLICA_DIGEST (R420): A received REPLICA_DIGEST is compared by majority and may expel a member, which re-fetches its object. -/
def execReplicaDigest (pk : Packet) (s : State) : Host.Outcome State Fault Refusal :=
  run (fun m d => tlsRow 0x05 m d pk) s

/-- WINDOW_SEAL (R422): A collective window seals once LINES distinct lines are written, and a send window sends WIN_DIGEST. -/
def execWindowSeal (w : Nat) (s : State) : Host.Outcome State Fault Refusal :=
  run (fun m d => windowSealOp m d w) s

/-- WIN_DIGEST (R422): A sealed receive window compares a received WIN_DIGEST and writes OK, DEFERRED or DIGEST_MISMATCH. -/
def execWinDigest (pk : Packet) (s : State) : Host.Outcome State Fault Refusal :=
  run (fun m d => tlsRow 0x06 m d pk) s

/-- WIN_RESULT (R422): A received WIN_RESULT sets the send window's status and re-arms or clears it. -/
def execWinResult (pk : Packet) (s : State) : Host.Outcome State Fault Refusal :=
  run (fun m d => tlsRow 0x07 m d pk) s

/-- FLAG (R422): A received FLAG records unconfirmed detections against the producing tile and the route's port. -/
def execFlag (pk : Packet) (s : State) : Host.Outcome State Fault Refusal :=
  run (fun m d => tlsRow 0x08 m d pk) s

/-- STRAGGLER_DETECTED (R424): A member lagging for WAIT_TICKS ticks makes the Tailstock send BACKUP to the spare. -/
def execStragglerDetected (g mem : Nat) (s : State) : Host.Outcome State Fault Refusal :=
  run (fun m d => stragglerOp m d g mem) s

/-- BACKUP (R424): A received BACKUP writes the member and step into the group's go word. -/
def execBackup (pk : Packet) (s : State) : Host.Outcome State Fault Refusal :=
  run (fun m d => tlsRow 0x09 m d pk) s

/-- TLS_SEQ_LOST (R427): A write to TLS_SEQ_LOST aborts a sequence with reason STATE_LOST. -/
def execTlsSeqLost (a : Agent) (value : W64) (s : State) : Host.Outcome State Fault Refusal :=
  run (fun m d => put m d a 0x3C0020 8 value.toNat) s

/-- TLS_JRNL_POP (R428): A read of TLS_JRNL_POP's low word removes the oldest fault-journal entry. -/
def execTlsJrnlPop (a : Agent) (wide : Bool) (s : State) : Host.Outcome State Fault Refusal :=
  run (fun _ d => pop d a 0x3C0028 wide) s

/-- FPL_DET_CFG_WRITE (R434): A write changing DET_STRICT is accepted only while RUN and UNL_CTRL.EN are 0, and otherwise sets REFUSED. -/
def execFplDetCfgWrite (a : Agent) (value : W32) (s : State) : Host.Outcome State Fault Refusal :=
  run (fun m d => put m d a 0x28 4 value.toNat) s

/-- TAILSTOCK_RESTART_DONE (R398): The Tailstock core finishes its restart after a watchdog expiry and resumes cures, tests, comparisons and the
queued records. -/
def execTailstockRestartDone (s : State) : Host.Outcome State Fault Refusal :=
  run (fun _ d => restartDoneOp d) s

end Sys2Proof.Machine
end

