-- ==== Sys2Proof/Machine/CmdTile.lean ====
section
/-!
DEFINITION. Machine/CmdTile.lean: commands of the tile command sequencer and the cubes (R95-R119, R150-R171, R174-R194).
-/

namespace Sys2Proof.Machine

/-- NOP (R159): Tile command NOP does nothing. -/
def execNop (t : Fin 320) (c : Fin 4) (w0 w1 : W64) (s : State) : Host.Outcome State Fault Refusal :=
  run (fun m d => tileRow .nop nopOp m d t c w0 w1) s

/-- END (R156): Tile command END ends the item, committing it first if it has not committed. -/
def execEnd (t : Fin 320) (c : Fin 4) (w0 w1 : W64) (s : State) : Host.Outcome State Fault Refusal :=
  run (fun m d => tileRow .end_ endCmd m d t c w0 w1) s

/-- COMMIT (R154): Tile command COMMIT waits for drains and DMA, commits the item, applies held semaphore changes and starts the tail. -/
def execCommit (t : Fin 320) (c : Fin 4) (w0 w1 : W64) (s : State) : Host.Outcome State Fault Refusal :=
  run (fun m d => tileRow .commit commitCmd m d t c w0 w1) s

/-- WAIT_SEMAPHORE (R171): WAIT with KIND 0 holds the chuck until semaphore SEM reaches VALUE, letting other chucks run meanwhile. -/
def execWaitSemaphore (t : Fin 320) (c : Fin 4) (w0 w1 : W64) (s : State) : Host.Outcome State Fault Refusal :=
  run (fun m d => tileRow .waitSemaphore waitSemCmd m d t c w0 w1) s

/-- WAIT_MATRIX_DRAIN (R159): WAIT with KIND 1 holds the chuck until every matrix operation of the chuck has drained. -/
def execWaitMatrixDrain (t : Fin 320) (c : Fin 4) (w0 w1 : W64) (s : State) : Host.Outcome State Fault Refusal :=
  run (fun m d => tileRow .waitMatrixDrain waitMatrixCmd m d t c w0 w1) s

/-- WAIT_DMA (R267): WAIT with KIND 2 holds the chuck until every DMA descriptor of the chuck is complete, acting as the chuck's fabric fence. -/
def execWaitDma (t : Fin 320) (c : Fin 4) (w0 w1 : W64) (s : State) : Host.Outcome State Fault Refusal :=
  run (fun m d => tileRow .waitDma waitDmaCmd m d t c w0 w1) s

/-- SEMREL (R170): SEMREL decrements an inbound semaphore at the commit point, or at once in the tail. -/
def execSemrel (t : Fin 320) (c : Fin 4) (w0 w1 : W64) (s : State) : Host.Outcome State Fault Refusal :=
  run (fun m d => tileRow .semrel semrelCmd m d t c w0 w1) s

/-- CFG (R114): CFG sets the chuck's format, dataflow, HOLD, SHIFT, MASK_M and MASK_N for later steps. -/
def execCfg (t : Fin 320) (c : Fin 4) (w0 w1 : W64) (s : State) : Host.Outcome State Fault Refusal :=
  run (fun m d => tileRow .cfg cfgCmd m d t c w0 w1) s

/-- CFGK (R114): CFGK sets the chuck's MASK_K. -/
def execCfgk (t : Fin 320) (c : Fin 4) (w0 w1 : W64) (s : State) : Host.Outcome State Fault Refusal :=
  run (fun m d => tileRow .cfgk cfgkCmd m d t c w0 w1) s

/-- OPA (R152): OPA loads the A operand registers. -/
def execOpa (t : Fin 320) (c : Fin 4) (w0 w1 : W64) (s : State) : Host.Outcome State Fault Refusal :=
  run (fun m d => tileRow .opa opaCmd m d t c w0 w1) s

/-- OPB (R152): OPB loads the B operand registers. -/
def execOpb (t : Fin 320) (c : Fin 4) (w0 w1 : W64) (s : State) : Host.Outcome State Fault Refusal :=
  run (fun m d => tileRow .opb opbCmd m d t c w0 w1) s

/-- OPC (R152): OPC loads the C and output registers. -/
def execOpc (t : Fin 320) (c : Fin 4) (w0 w1 : W64) (s : State) : Host.Outcome State Fault Refusal :=
  run (fun m d => tileRow .opc opcCmd m d t c w0 w1) s

/-- MATMUL (R163): MATMUL checks legality and queues a matrix operation with copies of the operand registers and configuration. -/
def execMatmul (t : Fin 320) (c : Fin 4) (w0 w1 : W64) (s : State) : Host.Outcome State Fault Refusal :=
  run (fun m d => tileRow .matmul matmulCmd m d t c w0 w1) s

/-- TILE_STEP_ISSUE (R100): A valid tile step issues once its operands, any C load and its set are ready, runs through S0–S3 and updates its
accumulator set. -/
def execTileStepIssue (t : Fin 320) (f : StepIn) (s : State) : Host.Outcome State Fault Refusal :=
  run (fun m d => stepIssueOp m d t f.late f.fault) s

/-- C_LOAD (R97): An accumulator set is initialised from a C operand through the reverse drain path. -/
def execCLoad (t : Fin 320) (s : State) : Host.Outcome State Fault Refusal :=
  run (fun _ d => cLoadOp d t) s

/-- DRAIN_SET (R96): Once every step targeting a set has passed S3, the drain converts the set and writes it to tile SRAM. -/
def execDrainSet (x : DrainIn) (s : State) : Host.Outcome State Fault Refusal :=
  run (fun m d => drainOp m d x.tile (x.parity.map (·.val))) s

/-- ITEM_RERUN (R179): After a detection and the completion of in-progress descriptors, the item re-runs from its first command on the same tile. -/
def execItemRerun (t : Fin 320) (s : State) : Host.Outcome State Fault Refusal :=
  run (fun _ d => itemRerunOp d t) s

/-- MIRROR_SWEEP_DONE (R189): The bank sweep of a mirror tick ends 3,072 cycles after it began. -/
def execMirrorSweepDone (t : Fin 320) (s : State) : Host.Outcome State Fault Refusal :=
  run (fun _ d => mirrorSweepOp d t) s

/-- LOOP (R159): LOOP runs the following body COUNT times on a loop counter. -/
def execLoop (t : Fin 320) (c : Fin 4) (w0 w1 : W64) (s : State) : Host.Outcome State Fault Refusal :=
  run (fun m d => tileRow .loop loopCmd m d t c w0 w1) s

/-- BR (R159): BR branches by a signed offset on a flag or unconditionally. -/
def execBr (t : Fin 320) (c : Fin 4) (w0 w1 : W64) (s : State) : Host.Outcome State Fault Refusal :=
  run (fun m d => tileRow .br brCmd m d t c w0 w1) s

/-- DMA (R168): The DMA command reads and checks its descriptors and queues them all, or none if any is illegal. -/
def execDma (t : Fin 320) (c : Fin 4) (w0 w1 : W64) (s : State) : Host.Outcome State Fault Refusal :=
  run (fun m d => tileRow .dma dmaCmd m d t c w0 w1) s

/-- DMA_DESCRIPTOR_START (R166): A queued descriptor starts in queue order, chuck 0 first, and issues its transfers or fabric requests. -/
def execDmaDescriptorStart (t : Fin 320) (ups : List Upset) (s : State) : Host.Outcome State Fault Refusal :=
  run (fun m d => dmaStartOp m d t ups) s

/-- DMA_DESCRIPTOR_COMPLETE (R166): A descriptor completes when its writes are visible or its acknowledgements have returned, and its semaphore is
incremented. -/
def execDmaDescriptorComplete (t : Fin 320) (c : Fin 4) (s : State) : Host.Outcome State Fault Refusal :=
  run (fun m d => dmaCompleteOp m d t c) s

/-- NOTIFY_SERVING_RECORD (R224): NOTIFY with KIND 0 sends a token payload to the serving engine. -/
def execNotifyServingRecord (t : Fin 320) (c : Fin 4) (w0 w1 : W64) (s : State) : Host.Outcome State Fault Refusal :=
  run (fun m d => tileRow .notifyServingRecord notifyServingCmd m d t c w0 w1) s

/-- NOTIFY_INTERRUPT (R459): NOTIFY with KIND 1 requests an MSI-X message of the context's instance. -/
def execNotifyInterrupt (t : Fin 320) (c : Fin 4) (w0 w1 : W64) (s : State) : Host.Outcome State Fault Refusal :=
  run (fun m d => tileRow .notifyInterrupt notifyInterruptCmd m d t c w0 w1) s

/-- CYCLE_BOUND_EXCEEDED (R158): An item whose cycle count exceeds CYCLE_BOUND is stopped with cause BOUND and completes ABORTED. -/
def execCycleBoundExceeded (t : Fin 320) (c : Fin 4) (s : State) : Host.Outcome State Fault Refusal :=
  run (fun m d => boundOp m d t c) s

/-- TAIL_LIMIT_REACHED (R155): A tail beyond 1,024 commands or 1,024 cycles ends as END with cause TAIL_TRUNC. -/
def execTailLimitReached (t : Fin 320) (c : Fin 4) (s : State) : Host.Outcome State Fault Refusal :=
  run (fun m d => tailLimitOp m d t c) s

end Sys2Proof.Machine
end

