-- ==== Sys2Proof/Machine/CmdTsu.lean ====
section
/-!
DEFINITION. Machine/CmdTsu.lean: commands of the time-stamping unit (R375-R392).
-/

namespace Sys2Proof.Machine

/-- TSU_STEP (R379): A write of TSU_STEP's high word with REF 1 steps time once, sets VALID and cancels slews and pulses, or is refused. -/
def execTsuStep (a : Agent) (value : W64) (s : State) : Host.Outcome State Fault Refusal :=
  run (fun m d => put m d a 0x380020 8 value.toNat) s

/-- PPS_IN_EDGE (R384): A PPS_IN rising edge steps time under REF 2, or is captured, judged and used to correct rate and slew. -/
def execPpsInEdge (s : State) : Host.Outcome State Fault Refusal :=
  run (fun _ d => ppsInOp d) s

/-- TSU_RATE_WRITE (R380): A write to TSU_RATE changes the rate of T and ends REF-1 holdover. -/
def execTsuRateWrite (a : Agent) (value : W32) (s : State) : Host.Outcome State Fault Refusal :=
  run (fun m d => put m d a 0x380030 4 value.toNat) s

/-- TSU_SLEW_WRITE (R380): A write to TSU_SLEW replaces the remaining slew amount and ends REF-1 holdover. -/
def execTsuSlewWrite (a : Agent) (value : W32) (s : State) : Host.Outcome State Fault Refusal :=
  run (fun m d => put m d a 0x380034 4 value.toNat) s

/-- SLEW_DONE (R380): The slew amount has been fully applied and the rate returns to RATE. -/
def execSlewDone (s : State) : Host.Outcome State Fault Refusal :=
  run (fun _ d => slewDoneOp d) s

/-- TSU_HOLD (R382): A write of 1 to TSU_CTRL.HOLD enters holdover with REF 1 after the step, and is ignored otherwise. -/
def execTsuHold (a : Agent) (value : W32) (s : State) : Host.Outcome State Fault Refusal :=
  run (fun m d => put m d a 0x380000 4 (withField value.toNat 3 1 1)) s

/-- SERVO_TIMEOUT (R382): No TSU_RATE or TSU_SLEW write for TIMEOUT × 0.25 s enters holdover. -/
def execServoTimeout (s : State) : Host.Outcome State Fault Refusal :=
  run (fun _ d => servoTimeoutOp d) s

/-- PPS_TIMEOUT (R382): With REF 2, no accepted edge for 2.5 s enters holdover. -/
def execPpsTimeout (s : State) : Host.Outcome State Fault Refusal :=
  run (fun _ d => ppsTimeoutOp d) s

/-- TSU_NS_READ (R378): A read of TSU_NS latches T for the reading agent's next TSU_SEC, TSU_FRAC and TSU_TIME reads. -/
def execTsuNsRead (a : Agent) (wide : Bool) (s : State) : Host.Outcome State Fault Refusal :=
  run (fun _ d => busRead d a .bar0 0x380008 (if wide then 8 else 4)) s

/-- TSU_TXTS_POP (R388): A read of TSU_TXTS_POP's low word removes the oldest egress timestamp and latches TSU_TXTS_TIME. -/
def execTsuTxtsPop (a : Agent) (wide : Bool) (s : State) : Host.Outcome State Fault Refusal :=
  run (fun _ d => pop d a 0x380060 wide) s

/-- TSU_PULSE_CTRL_WRITE (R390): A write to TSU_PULSE_CTRL arms, disarms or refuses a pulse output. -/
def execTsuPulseCtrlWrite (a : Agent) (o : Fin 4) (value : W32) (s : State) : Host.Outcome State Fault Refusal :=
  run (fun m d => put m d a (0x380210 + 32 * o) 4 value.toNat) s

/-- PULSE_EDGE (R390): A pulse output reaches its programmed active or inactive edge time. -/
def execPulseEdge (o : Fin 4) (s : State) : Host.Outcome State Fault Refusal :=
  run (fun _ d => pulseEdgeOp d o) s

/-- PPS_OUT_EDGE (R392): PPS_OUT rises at a whole second of T and falls after PPS_WIDTH. -/
def execPpsOutEdge (s : State) : Host.Outcome State Fault Refusal :=
  run (fun _ d => ppsOutOp d) s

/-- UNEIS_PTP_MESSAGE (R386): A PTP event message arrives on a Uneis port in the MGMT class, is time-stamped and passed to the Faceplate firmware. -/
def execUneisPtpMessage (port : Fin 12) (bytes : List Byte) (s : State) : Host.Outcome State Fault Refusal :=
  run (fun _ d => uneisPtpOp d port bytes) s

end Sys2Proof.Machine
end

