-- ==== Sys2Proof/Machine/CmdVector.lean ====
section
/-!
DEFINITION. Machine/CmdVector.lean: commands of the vector unit (R137-R143, R160).
-/

namespace Sys2Proof.Machine

/-- VOP_FADD (R138): VOP FADD adds FP32 lanes. -/
def execVopFadd (t : Fin 320) (c : Fin 4) (w0 w1 : W64) (s : State) : Host.Outcome State Fault Refusal :=
  run (fun m d => tileRow .vopFadd (vopCmd (vopFp2 fAdd)) m d t c w0 w1) s

/-- VOP_FSUB (R138): VOP FSUB subtracts FP32 lanes. -/
def execVopFsub (t : Fin 320) (c : Fin 4) (w0 w1 : W64) (s : State) : Host.Outcome State Fault Refusal :=
  run (fun m d => tileRow .vopFsub (vopCmd (vopFp2 fSub)) m d t c w0 w1) s

/-- VOP_FMUL (R138): VOP FMUL multiplies FP32 lanes. -/
def execVopFmul (t : Fin 320) (c : Fin 4) (w0 w1 : W64) (s : State) : Host.Outcome State Fault Refusal :=
  run (fun m d => tileRow .vopFmul (vopCmd (vopFp2 fMul)) m d t c w0 w1) s

/-- VOP_FMA (R138): VOP FMA computes VA × VB + VC with one rounding. -/
def execVopFma (t : Fin 320) (c : Fin 4) (w0 w1 : W64) (s : State) : Host.Outcome State Fault Refusal :=
  run (fun m d => tileRow .vopFma (vopCmd (fun _ x y z => lane3 fFma x y z)) m d t c w0 w1) s

/-- VOP_FMIN (R138): VOP FMIN takes the lane minimum. -/
def execVopFmin (t : Fin 320) (c : Fin 4) (w0 w1 : W64) (s : State) : Host.Outcome State Fault Refusal :=
  run (fun m d => tileRow .vopFmin (vopCmd (vopFp2 fMin)) m d t c w0 w1) s

/-- VOP_FMAX (R138): VOP FMAX takes the lane maximum. -/
def execVopFmax (t : Fin 320) (c : Fin 4) (w0 w1 : W64) (s : State) : Host.Outcome State Fault Refusal :=
  run (fun m d => tileRow .vopFmax (vopCmd (vopFp2 fMax)) m d t c w0 w1) s

/-- VOP_FDIV (R138): VOP FDIV divides FP32 lanes, correctly rounded. -/
def execVopFdiv (t : Fin 320) (c : Fin 4) (w0 w1 : W64) (s : State) : Host.Outcome State Fault Refusal :=
  run (fun m d => tileRow .vopFdiv (vopCmd (vopFp2 fDiv)) m d t c w0 w1) s

/-- VOP_FSQRT (R138): VOP FSQRT takes the lane square root, correctly rounded. -/
def execVopFsqrt (t : Fin 320) (c : Fin 4) (w0 w1 : W64) (s : State) : Host.Outcome State Fault Refusal :=
  run (fun m d => tileRow .vopFsqrt (vopCmd (vopFp1 fSqrt)) m d t c w0 w1) s

/-- VOP_FEXP (R139): VOP FEXP computes the correctly rounded exponential. -/
def execVopFexp (t : Fin 320) (c : Fin 4) (w0 w1 : W64) (s : State) : Host.Outcome State Fault Refusal :=
  run (fun m d => tileRow .vopFexp (vopCmd (vopFp1 fExp)) m d t c w0 w1) s

/-- VOP_FLOG (R139): VOP FLOG computes the correctly rounded natural logarithm. -/
def execVopFlog (t : Fin 320) (c : Fin 4) (w0 w1 : W64) (s : State) : Host.Outcome State Fault Refusal :=
  run (fun m d => tileRow .vopFlog (vopCmd (vopFp1 fLog)) m d t c w0 w1) s

/-- VOP_FRSQRT (R139): VOP FRSQRT computes the correctly rounded reciprocal square root. -/
def execVopFrsqrt (t : Fin 320) (c : Fin 4) (w0 w1 : W64) (s : State) : Host.Outcome State Fault Refusal :=
  run (fun m d => tileRow .vopFrsqrt (vopCmd (vopFp1 fRsqrt)) m d t c w0 w1) s

/-- VOP_FTANH (R139): VOP FTANH computes the correctly rounded hyperbolic tangent. -/
def execVopFtanh (t : Fin 320) (c : Fin 4) (w0 w1 : W64) (s : State) : Host.Outcome State Fault Refusal :=
  run (fun m d => tileRow .vopFtanh (vopCmd (vopFp1 fTanh)) m d t c w0 w1) s

/-- VOP_FRCP (R139): VOP FRCP computes the correctly rounded reciprocal. -/
def execVopFrcp (t : Fin 320) (c : Fin 4) (w0 w1 : W64) (s : State) : Host.Outcome State Fault Refusal :=
  run (fun m d => tileRow .vopFrcp (vopCmd (vopFp1 fRcp)) m d t c w0 w1) s

/-- VOP_FCMPLT (R160): VOP FCMPLT writes a mask of VA < VB. -/
def execVopFcmplt (t : Fin 320) (c : Fin 4) (w0 w1 : W64) (s : State) : Host.Outcome State Fault Refusal :=
  run (fun m d => tileRow .vopFcmplt (vopCmpCmd fLt) m d t c w0 w1) s

/-- VOP_FCMPLE (R160): VOP FCMPLE writes a mask of VA ≤ VB. -/
def execVopFcmple (t : Fin 320) (c : Fin 4) (w0 w1 : W64) (s : State) : Host.Outcome State Fault Refusal :=
  run (fun m d => tileRow .vopFcmple (vopCmpCmd fLe) m d t c w0 w1) s

/-- VOP_FCMPEQ (R160): VOP FCMPEQ writes a mask of VA = VB. -/
def execVopFcmpeq (t : Fin 320) (c : Fin 4) (w0 w1 : W64) (s : State) : Host.Outcome State Fault Refusal :=
  run (fun m d => tileRow .vopFcmpeq (vopCmpCmd fEq) m d t c w0 w1) s

/-- VOP_RSUM (R142): VOP RSUM sums the lanes in a fixed pairwise tree and writes the result to every lane. -/
def execVopRsum (t : Fin 320) (c : Fin 4) (w0 w1 : W64) (s : State) : Host.Outcome State Fault Refusal :=
  run (fun m d => tileRow .vopRsum (vopReduceCmd fAdd 0#32) m d t c w0 w1) s

/-- VOP_RMAX (R142): VOP RMAX takes the cross-lane maximum. -/
def execVopRmax (t : Fin 320) (c : Fin 4) (w0 w1 : W64) (s : State) : Host.Outcome State Fault Refusal :=
  run (fun m d => tileRow .vopRmax (vopReduceCmd fMax 0xFF800000#32) m d t c w0 w1) s

/-- VOP_RMIN (R142): VOP RMIN takes the cross-lane minimum. -/
def execVopRmin (t : Fin 320) (c : Fin 4) (w0 w1 : W64) (s : State) : Host.Outcome State Fault Refusal :=
  run (fun m d => tileRow .vopRmin (vopReduceCmd fMin 0x7F800000#32) m d t c w0 w1) s

/-- VOP_IADD (R140): VOP IADD adds 32-bit integer lanes with wrap-around. -/
def execVopIadd (t : Fin 320) (c : Fin 4) (w0 w1 : W64) (s : State) : Host.Outcome State Fault Refusal :=
  run (fun m d => tileRow .vopIadd (vopCmd (vopPlain (fun x y => x + y))) m d t c w0 w1) s

/-- VOP_ISUB (R140): VOP ISUB subtracts 32-bit integer lanes. -/
def execVopIsub (t : Fin 320) (c : Fin 4) (w0 w1 : W64) (s : State) : Host.Outcome State Fault Refusal :=
  run (fun m d => tileRow .vopIsub (vopCmd (vopPlain (fun x y => x - y))) m d t c w0 w1) s

/-- VOP_AND (R140): VOP AND performs a lane bitwise AND. -/
def execVopAnd (t : Fin 320) (c : Fin 4) (w0 w1 : W64) (s : State) : Host.Outcome State Fault Refusal :=
  run (fun m d => tileRow .vopAnd (vopCmd (vopPlain (fun x y => x &&& y))) m d t c w0 w1) s

/-- VOP_OR (R140): VOP OR performs a lane bitwise OR. -/
def execVopOr (t : Fin 320) (c : Fin 4) (w0 w1 : W64) (s : State) : Host.Outcome State Fault Refusal :=
  run (fun m d => tileRow .vopOr (vopCmd (vopPlain (fun x y => x ||| y))) m d t c w0 w1) s

/-- VOP_XOR (R140): VOP XOR performs a lane bitwise XOR. -/
def execVopXor (t : Fin 320) (c : Fin 4) (w0 w1 : W64) (s : State) : Host.Outcome State Fault Refusal :=
  run (fun m d => tileRow .vopXor (vopCmd (vopPlain (fun x y => x ^^^ y))) m d t c w0 w1) s

/-- VOP_SHL (R140): VOP SHL shifts lanes left. -/
def execVopShl (t : Fin 320) (c : Fin 4) (w0 w1 : W64) (s : State) : Host.Outcome State Fault Refusal :=
  run (fun m d => tileRow .vopShl (vopCmd (vopPlain wShl)) m d t c w0 w1) s

/-- VOP_SHR (R140): VOP SHR shifts lanes right, logically. -/
def execVopShr (t : Fin 320) (c : Fin 4) (w0 w1 : W64) (s : State) : Host.Outcome State Fault Refusal :=
  run (fun m d => tileRow .vopShr (vopCmd (vopPlain wShr)) m d t c w0 w1) s

/-- VOP_SAR (R140): VOP SAR shifts lanes right, arithmetically. -/
def execVopSar (t : Fin 320) (c : Fin 4) (w0 w1 : W64) (s : State) : Host.Outcome State Fault Refusal :=
  run (fun m d => tileRow .vopSar (vopCmd (vopPlain wSar)) m d t c w0 w1) s

/-- VOP_ROL (R140): VOP ROL rotates lanes left. -/
def execVopRol (t : Fin 320) (c : Fin 4) (w0 w1 : W64) (s : State) : Host.Outcome State Fault Refusal :=
  run (fun m d => tileRow .vopRol (vopCmd (vopPlain wRol)) m d t c w0 w1) s

/-- VOP_MULLO (R140): VOP MULLO returns the low 32 bits of the product. -/
def execVopMullo (t : Fin 320) (c : Fin 4) (w0 w1 : W64) (s : State) : Host.Outcome State Fault Refusal :=
  run (fun m d => tileRow .vopMullo (vopCmd (vopPlain mulLo)) m d t c w0 w1) s

/-- VOP_MULHI (R140): VOP MULHI returns the high 32 bits of the signed product. -/
def execVopMulhi (t : Fin 320) (c : Fin 4) (w0 w1 : W64) (s : State) : Host.Outcome State Fault Refusal :=
  run (fun m d => tileRow .vopMulhi (vopCmd (vopPlain mulHi)) m d t c w0 w1) s

/-- VOP_MULHIU (R140): VOP MULHIU returns the high 32 bits of the unsigned product. -/
def execVopMulhiu (t : Fin 320) (c : Fin 4) (w0 w1 : W64) (s : State) : Host.Outcome State Fault Refusal :=
  run (fun m d => tileRow .vopMulhiu (vopCmd (vopPlain mulHiU)) m d t c w0 w1) s

/-- VOP_CVTF2I (R140): VOP CVTF2I converts FP32 to INT32 with clamping. -/
def execVopCvtf2i (t : Fin 320) (c : Fin 4) (w0 w1 : W64) (s : State) : Host.Outcome State Fault Refusal :=
  run (fun m d => tileRow .vopCvtf2i (vopCmd (fun _ x _ _ => cvtF2I x)) m d t c w0 w1) s

/-- VOP_CVTI2F (R140): VOP CVTI2F converts INT32 to FP32. -/
def execVopCvti2f (t : Fin 320) (c : Fin 4) (w0 w1 : W64) (s : State) : Host.Outcome State Fault Refusal :=
  run (fun m d => tileRow .vopCvti2f (vopCmd (fun _ x _ _ => (cvtI2F x, false))) m d t c w0 w1) s

/-- VOP_MOV (R160): VOP MOV copies VA to VD. -/
def execVopMov (t : Fin 320) (c : Fin 4) (w0 w1 : W64) (s : State) : Host.Outcome State Fault Refusal :=
  run (fun m d => tileRow .vopMov (vopCmd (fun _ x _ _ => (x, false))) m d t c w0 w1) s

/-- VOP_SEL (R160): VOP SEL selects VA or VB by mask. -/
def execVopSel (t : Fin 320) (c : Fin 4) (w0 w1 : W64) (s : State) : Host.Outcome State Fault Refusal :=
  run (fun m d => tileRow .vopSel vopSelCmd m d t c w0 w1) s

/-- VOP_LANEID (R160): VOP LANEID writes each lane's number. -/
def execVopLaneid (t : Fin 320) (c : Fin 4) (w0 w1 : W64) (s : State) : Host.Outcome State Fault Refusal :=
  run (fun m d => tileRow .vopLaneid (vopCmd (fun i _ _ _ => (BitVec.ofNat 32 i, false))) m d t c w0 w1) s

/-- VLD (R160): VLD loads a vector register from SRAM, converting BF16 or FP16 exactly. -/
def execVld (t : Fin 320) (c : Fin 4) (w0 w1 : W64) (s : State) : Host.Outcome State Fault Refusal :=
  run (fun m d => tileRow .vld (vmemCmd false) m d t c w0 w1) s

/-- VST (R160): VST stores a vector register to SRAM, rounding under R137. -/
def execVst (t : Fin 320) (c : Fin 4) (w0 w1 : W64) (s : State) : Host.Outcome State Fault Refusal :=
  run (fun m d => tileRow .vst (vmemCmd true) m d t c w0 w1) s

/-- QMX (R143): QMX quantises 32-lane groups to an MX format and writes the elements and scales. -/
def execQmx (t : Fin 320) (c : Fin 4) (w0 w1 : W64) (s : State) : Host.Outcome State Fault Refusal :=
  run (fun m d => tileRow .qmx qmxCmd m d t c w0 w1) s

end Sys2Proof.Machine
end

