-- ==== Sys2Proof/Machine/Dispatch.lean ====
section
/-!
DEFINITION. Machine/Dispatch.lean: one arm per command.
-/

namespace Sys2Proof.Machine

/-- The effect of a command on everything but the queue of waiting commands. -/
def exec (i : Instr) (s : State) : Host.Outcome State Fault Refusal :=
  match i with
  | .registerWrite a sp off len value => Sys2Proof.Machine.execRegisterWrite a sp off len value s
  | .registerReadClear a sp off len => Sys2Proof.Machine.execRegisterReadClear a sp off len s
  | .tickBoundary => Sys2Proof.Machine.execTickBoundary s
  | .guardStart => Sys2Proof.Machine.execGuardStart s
  | .radioDeadlineCut u => Sys2Proof.Machine.execRadioDeadlineCut u s
  | .spindleSyncEdge => Sys2Proof.Machine.execSpindleSyncEdge s
  | .syncLoss => Sys2Proof.Machine.execSyncLoss s
  | .lthCtrlWrite a value => Sys2Proof.Machine.execLthCtrlWrite a value s
  | .lthTickCfgWrite a value => Sys2Proof.Machine.execLthTickCfgWrite a value s
  | .itemSubmit src w0 w1 w2 w3 => Sys2Proof.Machine.execItemSubmit src w0 w1 w2 w3 s
  | .itemStart t => Sys2Proof.Machine.execItemStart t s
  | .radioItemReady t j => Sys2Proof.Machine.execRadioItemReady t j s
  | .ctxLoad a value => Sys2Proof.Machine.execCtxLoad a value s
  | .ctxUnloadSave a value => Sys2Proof.Machine.execCtxUnloadSave a value s
  | .ctxUnloadDiscard a value => Sys2Proof.Machine.execCtxUnloadDiscard a value s
  | .ctxRemoval c => Sys2Proof.Machine.execCtxRemoval c s
  | .lthCtxResultPop a wide => Sys2Proof.Machine.execLthCtxResultPop a wide s
  | .quantumExpiry c => Sys2Proof.Machine.execQuantumExpiry c s
  | .swapEvictionDone c => Sys2Proof.Machine.execSwapEvictionDone c s
  | .swapBringInDone c ups => Sys2Proof.Machine.execSwapBringInDone c ups s
  | .nop t c w0 w1 => Sys2Proof.Machine.execNop t c w0 w1 s
  | .end_ t c w0 w1 => Sys2Proof.Machine.execEnd t c w0 w1 s
  | .commit t c w0 w1 => Sys2Proof.Machine.execCommit t c w0 w1 s
  | .waitSemaphore t c w0 w1 => Sys2Proof.Machine.execWaitSemaphore t c w0 w1 s
  | .waitMatrixDrain t c w0 w1 => Sys2Proof.Machine.execWaitMatrixDrain t c w0 w1 s
  | .waitDma t c w0 w1 => Sys2Proof.Machine.execWaitDma t c w0 w1 s
  | .semrel t c w0 w1 => Sys2Proof.Machine.execSemrel t c w0 w1 s
  | .cfg t c w0 w1 => Sys2Proof.Machine.execCfg t c w0 w1 s
  | .cfgk t c w0 w1 => Sys2Proof.Machine.execCfgk t c w0 w1 s
  | .opa t c w0 w1 => Sys2Proof.Machine.execOpa t c w0 w1 s
  | .opb t c w0 w1 => Sys2Proof.Machine.execOpb t c w0 w1 s
  | .opc t c w0 w1 => Sys2Proof.Machine.execOpc t c w0 w1 s
  | .matmul t c w0 w1 => Sys2Proof.Machine.execMatmul t c w0 w1 s
  | .tileStepIssue t f => Sys2Proof.Machine.execTileStepIssue t f s
  | .cLoad t => Sys2Proof.Machine.execCLoad t s
  | .drainSet t => Sys2Proof.Machine.execDrainSet t s
  | .itemRerun t => Sys2Proof.Machine.execItemRerun t s
  | .mirrorSweepDone t => Sys2Proof.Machine.execMirrorSweepDone t s
  | .vopFadd t c w0 w1 => Sys2Proof.Machine.execVopFadd t c w0 w1 s
  | .vopFsub t c w0 w1 => Sys2Proof.Machine.execVopFsub t c w0 w1 s
  | .vopFmul t c w0 w1 => Sys2Proof.Machine.execVopFmul t c w0 w1 s
  | .vopFma t c w0 w1 => Sys2Proof.Machine.execVopFma t c w0 w1 s
  | .vopFmin t c w0 w1 => Sys2Proof.Machine.execVopFmin t c w0 w1 s
  | .vopFmax t c w0 w1 => Sys2Proof.Machine.execVopFmax t c w0 w1 s
  | .vopFdiv t c w0 w1 => Sys2Proof.Machine.execVopFdiv t c w0 w1 s
  | .vopFsqrt t c w0 w1 => Sys2Proof.Machine.execVopFsqrt t c w0 w1 s
  | .vopFexp t c w0 w1 => Sys2Proof.Machine.execVopFexp t c w0 w1 s
  | .vopFlog t c w0 w1 => Sys2Proof.Machine.execVopFlog t c w0 w1 s
  | .vopFrsqrt t c w0 w1 => Sys2Proof.Machine.execVopFrsqrt t c w0 w1 s
  | .vopFtanh t c w0 w1 => Sys2Proof.Machine.execVopFtanh t c w0 w1 s
  | .vopFrcp t c w0 w1 => Sys2Proof.Machine.execVopFrcp t c w0 w1 s
  | .vopFcmplt t c w0 w1 => Sys2Proof.Machine.execVopFcmplt t c w0 w1 s
  | .vopFcmple t c w0 w1 => Sys2Proof.Machine.execVopFcmple t c w0 w1 s
  | .vopFcmpeq t c w0 w1 => Sys2Proof.Machine.execVopFcmpeq t c w0 w1 s
  | .vopRsum t c w0 w1 => Sys2Proof.Machine.execVopRsum t c w0 w1 s
  | .vopRmax t c w0 w1 => Sys2Proof.Machine.execVopRmax t c w0 w1 s
  | .vopRmin t c w0 w1 => Sys2Proof.Machine.execVopRmin t c w0 w1 s
  | .vopIadd t c w0 w1 => Sys2Proof.Machine.execVopIadd t c w0 w1 s
  | .vopIsub t c w0 w1 => Sys2Proof.Machine.execVopIsub t c w0 w1 s
  | .vopAnd t c w0 w1 => Sys2Proof.Machine.execVopAnd t c w0 w1 s
  | .vopOr t c w0 w1 => Sys2Proof.Machine.execVopOr t c w0 w1 s
  | .vopXor t c w0 w1 => Sys2Proof.Machine.execVopXor t c w0 w1 s
  | .vopShl t c w0 w1 => Sys2Proof.Machine.execVopShl t c w0 w1 s
  | .vopShr t c w0 w1 => Sys2Proof.Machine.execVopShr t c w0 w1 s
  | .vopSar t c w0 w1 => Sys2Proof.Machine.execVopSar t c w0 w1 s
  | .vopRol t c w0 w1 => Sys2Proof.Machine.execVopRol t c w0 w1 s
  | .vopMullo t c w0 w1 => Sys2Proof.Machine.execVopMullo t c w0 w1 s
  | .vopMulhi t c w0 w1 => Sys2Proof.Machine.execVopMulhi t c w0 w1 s
  | .vopMulhiu t c w0 w1 => Sys2Proof.Machine.execVopMulhiu t c w0 w1 s
  | .vopCvtf2i t c w0 w1 => Sys2Proof.Machine.execVopCvtf2i t c w0 w1 s
  | .vopCvti2f t c w0 w1 => Sys2Proof.Machine.execVopCvti2f t c w0 w1 s
  | .vopMov t c w0 w1 => Sys2Proof.Machine.execVopMov t c w0 w1 s
  | .vopSel t c w0 w1 => Sys2Proof.Machine.execVopSel t c w0 w1 s
  | .vopLaneid t c w0 w1 => Sys2Proof.Machine.execVopLaneid t c w0 w1 s
  | .vld t c w0 w1 => Sys2Proof.Machine.execVld t c w0 w1 s
  | .vst t c w0 w1 => Sys2Proof.Machine.execVst t c w0 w1 s
  | .qmx t c w0 w1 => Sys2Proof.Machine.execQmx t c w0 w1 s
  | .sopAdd t c w0 w1 => Sys2Proof.Machine.execSopAdd t c w0 w1 s
  | .sopSub t c w0 w1 => Sys2Proof.Machine.execSopSub t c w0 w1 s
  | .sopMul t c w0 w1 => Sys2Proof.Machine.execSopMul t c w0 w1 s
  | .sopAnd t c w0 w1 => Sys2Proof.Machine.execSopAnd t c w0 w1 s
  | .sopOr t c w0 w1 => Sys2Proof.Machine.execSopOr t c w0 w1 s
  | .sopXor t c w0 w1 => Sys2Proof.Machine.execSopXor t c w0 w1 s
  | .sopShl t c w0 w1 => Sys2Proof.Machine.execSopShl t c w0 w1 s
  | .sopShr t c w0 w1 => Sys2Proof.Machine.execSopShr t c w0 w1 s
  | .sopMovi t c w0 w1 => Sys2Proof.Machine.execSopMovi t c w0 w1 s
  | .sopCmpeq t c w0 w1 => Sys2Proof.Machine.execSopCmpeq t c w0 w1 s
  | .sopCmplt t c w0 w1 => Sys2Proof.Machine.execSopCmplt t c w0 w1 s
  | .sopCmpltu t c w0 w1 => Sys2Proof.Machine.execSopCmpltu t c w0 w1 s
  | .loop t c w0 w1 => Sys2Proof.Machine.execLoop t c w0 w1 s
  | .br t c w0 w1 => Sys2Proof.Machine.execBr t c w0 w1 s
  | .dma t c w0 w1 => Sys2Proof.Machine.execDma t c w0 w1 s
  | .dmaDescriptorStart t ups => Sys2Proof.Machine.execDmaDescriptorStart t ups s
  | .dmaDescriptorComplete t c => Sys2Proof.Machine.execDmaDescriptorComplete t c s
  | .notifyServingRecord t c w0 w1 => Sys2Proof.Machine.execNotifyServingRecord t c w0 w1 s
  | .notifyInterrupt t c w0 w1 => Sys2Proof.Machine.execNotifyInterrupt t c w0 w1 s
  | .cycleBoundExceeded t c => Sys2Proof.Machine.execCycleBoundExceeded t c s
  | .tailLimitReached t c => Sys2Proof.Machine.execTailLimitReached t c s
  | .sqDoorbell a value => Sys2Proof.Machine.execSqDoorbell a value s
  | .sqRequest j => Sys2Proof.Machine.execSqRequest j s
  | .sqItem j => Sys2Proof.Machine.execSqItem j s
  | .sqBadKind j => Sys2Proof.Machine.execSqBadKind j s
  | .stepEnd p => Sys2Proof.Machine.execStepEnd p s
  | .tokenNotification w0 w1 => Sys2Proof.Machine.execTokenNotification w0 w1 s
  | .srvAbort a value => Sys2Proof.Machine.execSrvAbort a value s
  | .srvQConfigWrite a q reg value => Sys2Proof.Machine.execSrvQConfigWrite a q reg value s
  | .srvCtrlWrite a value => Sys2Proof.Machine.execSrvCtrlWrite a value s
  | .srvDisableEffect => Sys2Proof.Machine.execSrvDisableEffect s
  | .srvProfWrite a off len value => Sys2Proof.Machine.execSrvProfWrite a off len value s
  | .srvAdapterWrite a n word value => Sys2Proof.Machine.execSrvAdapterWrite a n word value s
  | .create a w0 w1 w2 originOk => Sys2Proof.Machine.execCreate a w0 w1 w2 originOk s
  | .destroy a w0 w1 w2 originOk => Sys2Proof.Machine.execDestroy a w0 w1 w2 originOk s
  | .seal a w0 w1 w2 originOk => Sys2Proof.Machine.execSeal a w0 w1 w2 originOk s
  | .setOrigin a w0 w1 w2 originOk => Sys2Proof.Machine.execSetOrigin a w0 w1 w2 originOk s
  | .migrate a w0 w1 w2 originOk => Sys2Proof.Machine.execMigrate a w0 w1 w2 originOk s
  | .digest a w0 w1 w2 originOk => Sys2Proof.Machine.execDigest a w0 w1 w2 originOk s
  | .memCmdResultPop a wide => Sys2Proof.Machine.execMemCmdResultPop a wide s
  | .extentCopyDone ext originOk => Sys2Proof.Machine.execExtentCopyDone ext originOk s
  | .oldSlotFree tier stack slot => Sys2Proof.Machine.execOldSlotFree tier stack slot s
  | .refetchDone ext originOk readBackOk => Sys2Proof.Machine.execRefetchDone ext originOk readBackOk s
  | .originReadFail off hit => Sys2Proof.Machine.execOriginReadFail off hit s
  | .scrubRead stack errs => Sys2Proof.Machine.execScrubRead stack errs s
  | .heatHalving => Sys2Proof.Machine.execHeatHalving s
  | .hostBar4Read fn off len ups => Sys2Proof.Machine.execHostBar4Read fn off len ups s
  | .hostBar4Write fn off bytes => Sys2Proof.Machine.execHostBar4Write fn off bytes s
  | .fabricLoad port pk ups => Sys2Proof.Machine.execFabricLoad port pk ups s
  | .fabricStore port pk ups => Sys2Proof.Machine.execFabricStore port pk ups s
  | .fabricGets port pk ups => Sys2Proof.Machine.execFabricGets port pk ups s
  | .fabricAdd port pk ups => Sys2Proof.Machine.execFabricAdd port pk ups s
  | .fabricMin port pk ups => Sys2Proof.Machine.execFabricMin port pk ups s
  | .fabricMax port pk ups => Sys2Proof.Machine.execFabricMax port pk ups s
  | .fabricCas port pk ups => Sys2Proof.Machine.execFabricCas port pk ups s
  | .fabricAck port pk => Sys2Proof.Machine.execFabricAck port pk s
  | .fabricData port pk => Sys2Proof.Machine.execFabricData port pk s
  | .fabricOld port pk => Sys2Proof.Machine.execFabricOld port pk s
  | .inval port pk => Sys2Proof.Machine.execInval port pk s
  | .invalAck port pk => Sys2Proof.Machine.execInvalAck port pk s
  | .announce port pk => Sys2Proof.Machine.execAnnounce port pk s
  | .genQuery port pk => Sys2Proof.Machine.execGenQuery port pk s
  | .packetForward port pk => Sys2Proof.Machine.execPacketForward port pk s
  | .genQueryTimeout dst => Sys2Proof.Machine.execGenQueryTimeout dst s
  | .routeLossTimeout dst => Sys2Proof.Machine.execRouteLossTimeout dst s
  | .forwardHoldTimeout dst => Sys2Proof.Machine.execForwardHoldTimeout dst s
  | .requestTimeout tag => Sys2Proof.Machine.execRequestTimeout tag s
  | .combiningWindowClose k => Sys2Proof.Machine.execCombiningWindowClose k s
  | .flitReplay port => Sys2Proof.Machine.execFlitReplay port s
  | .portRetrain port => Sys2Proof.Machine.execPortRetrain port s
  | .portTrainingDone port lanes => Sys2Proof.Machine.execPortTrainingDone port lanes s
  | .unlOpLoad a w0 offset data cmp => Sys2Proof.Machine.execUnlOpLoad a w0 offset data cmp s
  | .unlOpStore a w0 offset data cmp => Sys2Proof.Machine.execUnlOpStore a w0 offset data cmp s
  | .unlOpAdd a w0 offset data cmp => Sys2Proof.Machine.execUnlOpAdd a w0 offset data cmp s
  | .unlOpMin a w0 offset data cmp => Sys2Proof.Machine.execUnlOpMin a w0 offset data cmp s
  | .unlOpMax a w0 offset data cmp => Sys2Proof.Machine.execUnlOpMax a w0 offset data cmp s
  | .unlOpCas a w0 offset data cmp => Sys2Proof.Machine.execUnlOpCas a w0 offset data cmp s
  | .unlOpFence a w0 offset data cmp => Sys2Proof.Machine.execUnlOpFence a w0 offset data cmp s
  | .unlOpResultPop a wide => Sys2Proof.Machine.execUnlOpResultPop a wide s
  | .unlErrPop a wide => Sys2Proof.Machine.execUnlErrPop a wide s
  | .fronthaulFrameRx p f => Sys2Proof.Machine.execFronthaulFrameRx p f s
  | .fronthaulLinkChange p up => Sys2Proof.Machine.execFronthaulLinkChange p up s
  | .iqDataMessage p f => Sys2Proof.Machine.execIqDataMessage p f s
  | .oneWayDelayRequest p f => Sys2Proof.Machine.execOneWayDelayRequest p f s
  | .requestWithFollowUp p f => Sys2Proof.Machine.execRequestWithFollowUp p f s
  | .followUp p f => Sys2Proof.Machine.execFollowUp p f s
  | .remoteRequest p f => Sys2Proof.Machine.execRemoteRequest p f s
  | .oneWayDelayResponse p f => Sys2Proof.Machine.execOneWayDelayResponse p f s
  | .ingressWindowClose n => Sys2Proof.Machine.execIngressWindowClose n s
  | .radioInputArrival t j => Sys2Proof.Machine.execRadioInputArrival t j s
  | .dlIqEgress n => Sys2Proof.Machine.execDlIqEgress n s
  | .radCfgCommit a value => Sys2Proof.Machine.execRadCfgCommit a value s
  | .configActivate => Sys2Proof.Machine.execConfigActivate s
  | .gougeImageLoadDone n => Sys2Proof.Machine.execGougeImageLoadDone n s
  | .radRoleCmd a value => Sys2Proof.Machine.execRadRoleCmd a value s
  | .roleChangeEffect n => Sys2Proof.Machine.execRoleChangeEffect n s
  | .cellsOnAir => Sys2Proof.Machine.execCellsOnAir s
  | .ringDoorbell a q value => Sys2Proof.Machine.execRingDoorbell a q value s
  | .radioRingCfgWrite a q value => Sys2Proof.Machine.execRadioRingCfgWrite a q value s
  | .submissionFetch n => Sys2Proof.Machine.execSubmissionFetch n s
  | .codingItem n dl => Sys2Proof.Machine.execCodingItem n dl s
  | .gougeItemStart n mod => Sys2Proof.Machine.execGougeItemStart n mod s
  | .syncSearchTimeout n ch o => Sys2Proof.Machine.execSyncSearchTimeout n ch o s
  | .noiseMeasurement n ch o => Sys2Proof.Machine.execNoiseMeasurement n ch o s
  | .gougeNop n w => Sys2Proof.Machine.execGougeNop n w s
  | .gougeMov n w => Sys2Proof.Machine.execGougeMov n w s
  | .add2 n w => Sys2Proof.Machine.execAdd2 n w s
  | .sub2 n w => Sys2Proof.Machine.execSub2 n w s
  | .gougeAnd n w => Sys2Proof.Machine.execGougeAnd n w s
  | .gougeOr n w => Sys2Proof.Machine.execGougeOr n w s
  | .gougeXor n w => Sys2Proof.Machine.execGougeXor n w s
  | .asr2 n w => Sys2Proof.Machine.execAsr2 n w s
  | .pack n w => Sys2Proof.Machine.execPack n w s
  | .cmp n w => Sys2Proof.Machine.execCmp n w s
  | .slice n w => Sys2Proof.Machine.execSlice n w s
  | .atan n w => Sys2Proof.Machine.execAtan n w s
  | .cmac n w => Sys2Proof.Machine.execCmac n w s
  | .rdot2 n w => Sys2Proof.Machine.execRdot2 n w s
  | .rdot4 n w => Sys2Proof.Machine.execRdot4 n w s
  | .rmul4 n w => Sys2Proof.Machine.execRmul4 n w s
  | .dupd n w => Sys2Proof.Machine.execDupd n w s
  | .ext n w => Sys2Proof.Machine.execExt n w s
  | .extc n w => Sys2Proof.Machine.execExtc n w s
  | .ldi n w => Sys2Proof.Machine.execLdi n w s
  | .ldc n w => Sys2Proof.Machine.execLdc n w s
  | .mvtc n w => Sys2Proof.Machine.execMvtc n w s
  | .mvfc n w => Sys2Proof.Machine.execMvfc n w s
  | .addc n w => Sys2Proof.Machine.execAddc n w s
  | .gougeBr n w => Sys2Proof.Machine.execGougeBr n w s
  | .call n w => Sys2Proof.Machine.execCall n w s
  | .ret n w => Sys2Proof.Machine.execRet n w s
  | .rep n w => Sys2Proof.Machine.execRep n w s
  | .gougeLoop n w => Sys2Proof.Machine.execGougeLoop n w s
  | .rti n w => Sys2Proof.Machine.execRti n w s
  | .swi n w => Sys2Proof.Machine.execSwi n w s
  | .halt n w => Sys2Proof.Machine.execHalt n w s
  | .gougeTimer n => Sys2Proof.Machine.execGougeTimer n s
  | .ggcDoorbell a value => Sys2Proof.Machine.execGgcDoorbell a value s
  | .interruptTake n => Sys2Proof.Machine.execInterruptTake n s
  | .tsuStep a value => Sys2Proof.Machine.execTsuStep a value s
  | .ppsInEdge => Sys2Proof.Machine.execPpsInEdge s
  | .tsuRateWrite a value => Sys2Proof.Machine.execTsuRateWrite a value s
  | .tsuSlewWrite a value => Sys2Proof.Machine.execTsuSlewWrite a value s
  | .slewDone => Sys2Proof.Machine.execSlewDone s
  | .tsuHold a value => Sys2Proof.Machine.execTsuHold a value s
  | .servoTimeout => Sys2Proof.Machine.execServoTimeout s
  | .ppsTimeout => Sys2Proof.Machine.execPpsTimeout s
  | .tsuNsRead a wide => Sys2Proof.Machine.execTsuNsRead a wide s
  | .tsuTxtsPop a wide => Sys2Proof.Machine.execTsuTxtsPop a wide s
  | .tsuPulseCtrlWrite a o value => Sys2Proof.Machine.execTsuPulseCtrlWrite a o value s
  | .pulseEdge o => Sys2Proof.Machine.execPulseEdge o s
  | .ppsOutEdge => Sys2Proof.Machine.execPpsOutEdge s
  | .faultRecordReceive => Sys2Proof.Machine.execFaultRecordReceive s
  | .watchdogExpiry => Sys2Proof.Machine.execWatchdogExpiry s
  | .tlsWdogWrite value => Sys2Proof.Machine.execTlsWdogWrite value s
  | .meshDoubleBitError die row pcol => Sys2Proof.Machine.execMeshDoubleBitError die row pcol s
  | .sramDoubleBitError t bank => Sys2Proof.Machine.execSramDoubleBitError t bank s
  | .dieLinkFlitFailure link => Sys2Proof.Machine.execDieLinkFlitFailure link s
  | .retestStart unit => Sys2Proof.Machine.execRetestStart unit s
  | .retestWaitExpiry unit => Sys2Proof.Machine.execRetestWaitExpiry unit s
  | .sweepTestDue => Sys2Proof.Machine.execSweepTestDue s
  | .unitTestDone unit pass => Sys2Proof.Machine.execUnitTestDone unit pass s
  | .historyRecordWrite => Sys2Proof.Machine.execHistoryRecordWrite s
  | .posSave => Sys2Proof.Machine.execPosSave s
  | .hello pk => Sys2Proof.Machine.execHello pk s
  | .compare pk => Sys2Proof.Machine.execCompare pk s
  | .matchWaitExpiry n => Sys2Proof.Machine.execMatchWaitExpiry n s
  | .relinquish pk => Sys2Proof.Machine.execRelinquish pk s
  | .missTicksExpiry n => Sys2Proof.Machine.execMissTicksExpiry n s
  | .takeover pk => Sys2Proof.Machine.execTakeover pk s
  | .takeoverEffect n => Sys2Proof.Machine.execTakeoverEffect n s
  | .replicaRound r => Sys2Proof.Machine.execReplicaRound r s
  | .replicaDigest pk => Sys2Proof.Machine.execReplicaDigest pk s
  | .windowSeal w => Sys2Proof.Machine.execWindowSeal w s
  | .winDigest pk => Sys2Proof.Machine.execWinDigest pk s
  | .winResult pk => Sys2Proof.Machine.execWinResult pk s
  | .flag pk => Sys2Proof.Machine.execFlag pk s
  | .stragglerDetected g mem => Sys2Proof.Machine.execStragglerDetected g mem s
  | .backup pk => Sys2Proof.Machine.execBackup pk s
  | .tlsSeqLost a value => Sys2Proof.Machine.execTlsSeqLost a value s
  | .tlsJrnlPop a wide => Sys2Proof.Machine.execTlsJrnlPop a wide s
  | .fplDetCfgWrite a value => Sys2Proof.Machine.execFplDetCfgWrite a value s
  | .perstNAssert => Sys2Proof.Machine.execPerstNAssert s
  | .pcieLinkDown => Sys2Proof.Machine.execPcieLinkDown s
  | .pcieHotReset => Sys2Proof.Machine.execPcieHotReset s
  | .pfFunctionLevelReset => Sys2Proof.Machine.execPfFunctionLevelReset s
  | .busMasterEnableSet => Sys2Proof.Machine.execBusMasterEnableSet s
  | .vfFunctionLevelReset j => Sys2Proof.Machine.execVfFunctionLevelReset j s
  | .vfRemoval num => Sys2Proof.Machine.execVfRemoval num s
  | .virInstReset a j value => Sys2Proof.Machine.execVirInstReset a j value s
  | .instanceResetComplete j => Sys2Proof.Machine.execInstanceResetComplete j s
  | .virInstEnable a j value => Sys2Proof.Machine.execVirInstEnable a j value s
  | .ringCfgWrite a j ring value => Sys2Proof.Machine.execRingCfgWrite a j ring value s
  | .mailboxSend a w0 w1 w2 w3 w4 w5 w6 w7 => Sys2Proof.Machine.execMailboxSend a w0 w1 w2 w3 w4 w5 w6 w7 s
  | .mailboxPop a value => Sys2Proof.Machine.execMailboxPop a value s
  | .msixCoalesceExpiry j v => Sys2Proof.Machine.execMsixCoalesceExpiry j v s
  | .virJrnlPop a wide => Sys2Proof.Machine.execVirJrnlPop a wide s
  | .bootRomStart => Sys2Proof.Machine.execBootRomStart s
  | .flashReadDone => Sys2Proof.Machine.execFlashReadDone s
  | .memoryTrainingDone => Sys2Proof.Machine.execMemoryTrainingDone s
  | .configImageApply => Sys2Proof.Machine.execConfigImageApply s
  | .imageWrite32 pairs => Sys2Proof.Machine.execImageWrite32 pairs s
  | .imageWrite64 pairs => Sys2Proof.Machine.execImageWrite64 pairs s
  | .imageBlock sp off values => Sys2Proof.Machine.execImageBlock sp off values s
  | .imageGouge mask img => Sys2Proof.Machine.execImageGouge mask img s
  | .imageMemcmd w0 w1 w2 originOk => Sys2Proof.Machine.execImageMemcmd w0 w1 w2 originOk s
  | .imageRadioCommit => Sys2Proof.Machine.execImageRadioCommit s
  | .imageEnd => Sys2Proof.Machine.execImageEnd s
  | .attestGo a value => Sys2Proof.Machine.execAttestGo a value s
  | .attestDone => Sys2Proof.Machine.execAttestDone s
  | .i3cRead32 off => Sys2Proof.Machine.execI3cRead32 off s
  | .i3cRead64 off => Sys2Proof.Machine.execI3cRead64 off s
  | .i3cWrite32 off value => Sys2Proof.Machine.execI3cWrite32 off value s
  | .i3cWrite64 off value => Sys2Proof.Machine.execI3cWrite64 off value s
  | .confirm a => Sys2Proof.Machine.execConfirm a s
  | .hostOk a => Sys2Proof.Machine.execHostOk a s
  | .ownerLockWrite a value => Sys2Proof.Machine.execOwnerLockWrite a value s
  | .activate a resetNow => Sys2Proof.Machine.execActivate a resetNow s
  | .confirmTimeout => Sys2Proof.Machine.execConfirmTimeout s
  | .updateStart a value => Sys2Proof.Machine.execUpdateStart a value s
  | .updateEnd a => Sys2Proof.Machine.execUpdateEnd a s
  | .updateAbort a => Sys2Proof.Machine.execUpdateAbort a s
  | .fplUpdDataWrite a value => Sys2Proof.Machine.execFplUpdDataWrite a value s
  | .updateVerifyDone => Sys2Proof.Machine.execUpdateVerifyDone s
  | .updateWriteDone ok => Sys2Proof.Machine.execUpdateWriteDone ok s
  | .fwOffer pk => Sys2Proof.Machine.execFwOffer pk s
  | .fwChunk pk => Sys2Proof.Machine.execFwChunk pk s
  | .fwNak pk => Sys2Proof.Machine.execFwNak pk s
  | .fwResult pk => Sys2Proof.Machine.execFwResult pk s
  | .fwResendTimeout => Sys2Proof.Machine.execFwResendTimeout s
  | .fwTransferTimeout => Sys2Proof.Machine.execFwTransferTimeout s
  | .fwChainResultTimeout => Sys2Proof.Machine.execFwChainResultTimeout s
  | .prtCtrlWrite a value => Sys2Proof.Machine.execPrtCtrlWrite a value s
  | .leaseExpiry => Sys2Proof.Machine.execLeaseExpiry s
  | .prtInjEcc a value => Sys2Proof.Machine.execPrtInjEcc a value s
  | .prtInjChk a value => Sys2Proof.Machine.execPrtInjChk a value s
  | .prtInjDig a value => Sys2Proof.Machine.execPrtInjDig a value s
  | .prtInjLink a value => Sys2Proof.Machine.execPrtInjLink a value s
  | .pwrGoodLow => Sys2Proof.Machine.execPwrGoodLow s
  | .sysRstNLow => Sys2Proof.Machine.execSysRstNLow s
  | .thermalAlert sensor temp => Sys2Proof.Machine.execThermalAlert sensor temp s
  | .thermalTrip sensor temp => Sys2Proof.Machine.execThermalTrip sensor temp s
  | .trstNLow => Sys2Proof.Machine.execTrstNLow s
  | .bypass => Sys2Proof.Machine.execBypass s
  | .idcode => Sys2Proof.Machine.execIdcode s
  | .samplePreload preload => Sys2Proof.Machine.execSamplePreload preload s
  | .extest => Sys2Proof.Machine.execExtest s
  | .clamp => Sys2Proof.Machine.execClamp s
  | .highz => Sys2Proof.Machine.execHighz s
  | .creditReturn port cls vc units => Sys2Proof.Machine.execCreditReturn port cls vc units s
  | .marginOkChange ok => Sys2Proof.Machine.execMarginOkChange ok s
  | .tailstockRestartDone => Sys2Proof.Machine.execTailstockRestartDone s
  | .uneisPtpMessage port bytes => Sys2Proof.Machine.execUneisPtpMessage port bytes s
  | .perstNDeassert => Sys2Proof.Machine.execPerstNDeassert s
  | .vfEnableSet num => Sys2Proof.Machine.execVfEnableSet num s
  | .dynamicAddressAssignment addr => Sys2Proof.Machine.execDynamicAddressAssignment addr s
  | .updateReceiveDone => Sys2Proof.Machine.execUpdateReceiveDone s

end Sys2Proof.Machine
end

