-- ==== Sys2Proof/Safety.lean ====
section
/-!
DEFINITION. Safety.lean: what holds of a state between commands, and when a command of a tile or of a Gouge core issues.
-/

namespace Sys2Proof

/-- The commands that act while the device is held in reset: the reset pins and the release of reset, PERST_N, the thermal sensors on VDD_AON,
and the JTAG port (R503, R505, R506; log 7). -/
def Instr.actsInReset : Instr → Bool
  | .bootRomStart | .perstNAssert | .perstNDeassert | .pwrGoodLow | .sysRstNLow | .thermalAlert _ _ | .thermalTrip _ _ => true
  | .trstNLow | .bypass | .idcode | .samplePreload _ | .extest | .clamp | .highz => true
  | _ => false

end Sys2Proof

namespace Sys2Proof.Machine

/-- Between commands the bytes of the stacks are in their canonical form, no byte write of a command is left over, and no chip reset waits. -/
def State.settled (s : State) : Prop := s.mem.wf = true ∧ s.d.wq = [] ∧ s.d.resetReq = none

/-- Nothing of an earlier command is left for the next one to complete: no access has been released and not performed, no memory command waits while none runs, no packet to the
device itself waits, no packet is left whose credits are to be returned, no radio item waits for its outputs or its miss, no port is stuck, and
no injection is armed. -/
def Dev.quiet (d : Dev) : Bool :=
  d.mem.released.isEmpty && (d.mem.running.isSome || d.mem.queue.isEmpty) && d.fab.loop.isEmpty && d.fab.owed.isEmpty && d.tiles.all (fun e => e.2.radio.all (fun r => r.stage != 3 && r.stage != 4)) &&
  (List.range 12).all (fun p => decide ((d.port p).stuck < 16)) &&
  !d.is PRT_INJ_ECC_ARMED && !d.is PRT_INJ_CHK_ARMED && !d.is PRT_INJ_LINK_ARMED && d.resetReq.isNone && d.wq.isEmpty

/-- The device runs: it is in service, no pin holds it in reset, nothing of an earlier command is left, no configuration image is being
applied (which ends before service begins, R463, R471), and the bytes of the stacks are in their canonical form. -/
def State.serving (s : State) : Prop :=
  s.d.is FPL_BOOT_STATUS_IN_SERVICE = true ∧ s.d.inReset = false ∧ s.d.quiet = true ∧ s.d.fpl.applying = false ∧ s.mem.wf = true

/-- The agent reaches the BAR0 offset for reads and writes, and is no VF: a VF's BAR0 is its own page (R445, R460). -/
def Dev.asks (d : Dev) (a : Agent) (sp : Space) (off : Nat) : Prop :=
  d.reach a sp off true = true ∧ d.reach a sp off false = true ∧ ∀ n, a ≠ .vf n

/-- Chuck c of tile t issues the command (w0, w1) of run r (R150, R155, R157): r is its run and is not stopped, c is the chuck that executes and does not
wait, the tail has not reached its limit, the command lies in the partition, no reserved bit is set, and the phase is one in which the command
is legal. Which command the words spell (`tileOp`) is the statements' own premise. -/
def Dev.issues (d : Dev) (t c : Nat) (pre tail : Bool) (used : List Nat) (w0 w1 : W64) (r : Run) : Prop :=
  (d.tile t).cur = some c ∧ (d.chuck (t * 4 + c)).wait = none ∧ (d.chuck (t * 4 + c)).run = some r ∧ r.stopped = false ∧
  ¬ (r.committed = true ∧ 1024 ≤ r.tailCmds) ∧ r.pc + 16 ≤ d.usable (t * 4 + c) ∧ reservedSet [w0, w1] (cmdUsed used) = false ∧
  (if r.committed then tail else pre) = true

/-- The agent reaches the page of instance i: a VF its own, every other agent the PF's (R445, R460). -/
def Dev.pages (d : Dev) (a : Agent) (i : Nat) : Prop := agentInst a = i ∧ i < 128 ∧ ∀ off w, d.reach a .bar0 off w = true

/-- A record of 32 bytes at a unified offset lands in a plain line: a writable extent in a stack that is not moving, whose line holds no error
and is shared with no quad member. -/
def Dev.linePlain (d : Dev) (off : Nat) : Prop :=
  extOf off < 2 ^ 21 ∧ (d.get (TMAP_TIER (extOf off)) = 1 ∨ d.get (TMAP_TIER (extOf off)) = 2) ∧ d.get (TMAP_WRITABLE (extOf off)) = 1 ∧
  d.get (TMAP_MIGRATING (extOf off)) ≠ 1 ∧ d.get (TMAP_REFETCH (extOf off)) ≠ 1 ∧ d.dirBusy off = false ∧ d.lineErr (d.lineAt off) = {}

/-- The completion ring of instance i has room for n records, in plain lines (R451, R453). -/
def Dev.cqReady (d : Dev) (i n : Nat) : Prop :=
  i < 128 ∧ d.get (CQ_CFG_EN i) = 1 ∧ ringUsed (d.get (CQ_PROD_V i)) (d.get (CQ_CONS_V i)) + n ≤ 2 ^ d.get (CQ_CFG_ORDER i) ∧
  d.get (CQ_PROD_V i) < 2 ^ 32 ∧ d.get (CQ_CONS_V i) < 2 ^ 32 ∧ d.get (CQ_CFG_ORDER i) ≤ 16 ∧
  ∀ k < n, d.linePlain (d.get (CQ_CFG_BASE i) * 4096 + (d.get (CQ_PROD_V i) + k) % 2 ^ 32 % 2 ^ d.get (CQ_CFG_ORDER i) * 32)

/-- A read of the line of a unified offset is delivered as it is stored: an extent in a stack that is not being re-fetched, no write held for
its line, and no error in it. -/
def Dev.readPlain (d : Dev) (off : Nat) : Prop :=
  extOf off < 2 ^ 21 ∧ (d.get (TMAP_TIER (extOf off)) = 1 ∨ d.get (TMAP_TIER (extOf off)) = 2) ∧ d.get (TMAP_REFETCH (extOf off)) ≠ 1 ∧
  d.writeHeld off = false ∧ d.lineErr (d.lineAt off) = {}

/-- A record with these words may arrive now: no record of its tile that was sent earlier waits, or no tile has sent it (R31). -/
def Dev.recordArrives (d : Dev) (w0 w1 : W64) : Prop := (d.nextRecord w0 w1).isSome = true ∨ ∀ r ∈ d.srv.inbox, r.take 2 ≠ [w0, w1]

/-- The rows of the command table for a tile's stream, with the command that each names (R159, R160). -/
def tileRows (t : Fin 320) (c : Fin 4) (w0 w1 : W64) : List (TileOp × Instr) :=
  [(.nop, .nop t c w0 w1), (.end_, .end_ t c w0 w1), (.commit, .commit t c w0 w1), (.waitSemaphore, .waitSemaphore t c w0 w1),
   (.waitMatrixDrain, .waitMatrixDrain t c w0 w1), (.waitDma, .waitDma t c w0 w1), (.semrel, .semrel t c w0 w1), (.cfg, .cfg t c w0 w1),
   (.cfgk, .cfgk t c w0 w1), (.opa, .opa t c w0 w1), (.opb, .opb t c w0 w1), (.opc, .opc t c w0 w1), (.matmul, .matmul t c w0 w1),
   (.vopFadd, .vopFadd t c w0 w1), (.vopFsub, .vopFsub t c w0 w1), (.vopFmul, .vopFmul t c w0 w1), (.vopFma, .vopFma t c w0 w1),
   (.vopFmin, .vopFmin t c w0 w1), (.vopFmax, .vopFmax t c w0 w1), (.vopFdiv, .vopFdiv t c w0 w1), (.vopFsqrt, .vopFsqrt t c w0 w1),
   (.vopFexp, .vopFexp t c w0 w1), (.vopFlog, .vopFlog t c w0 w1), (.vopFrsqrt, .vopFrsqrt t c w0 w1), (.vopFtanh, .vopFtanh t c w0 w1),
   (.vopFrcp, .vopFrcp t c w0 w1), (.vopFcmplt, .vopFcmplt t c w0 w1), (.vopFcmple, .vopFcmple t c w0 w1),
   (.vopFcmpeq, .vopFcmpeq t c w0 w1), (.vopRsum, .vopRsum t c w0 w1), (.vopRmax, .vopRmax t c w0 w1), (.vopRmin, .vopRmin t c w0 w1),
   (.vopIadd, .vopIadd t c w0 w1), (.vopIsub, .vopIsub t c w0 w1), (.vopAnd, .vopAnd t c w0 w1), (.vopOr, .vopOr t c w0 w1),
   (.vopXor, .vopXor t c w0 w1), (.vopShl, .vopShl t c w0 w1), (.vopShr, .vopShr t c w0 w1), (.vopSar, .vopSar t c w0 w1),
   (.vopRol, .vopRol t c w0 w1), (.vopMullo, .vopMullo t c w0 w1), (.vopMulhi, .vopMulhi t c w0 w1), (.vopMulhiu, .vopMulhiu t c w0 w1),
   (.vopCvtf2i, .vopCvtf2i t c w0 w1), (.vopCvti2f, .vopCvti2f t c w0 w1), (.vopMov, .vopMov t c w0 w1), (.vopSel, .vopSel t c w0 w1),
   (.vopLaneid, .vopLaneid t c w0 w1), (.vld, .vld t c w0 w1), (.vst, .vst t c w0 w1), (.qmx, .qmx t c w0 w1),
   (.sopAdd, .sopAdd t c w0 w1), (.sopSub, .sopSub t c w0 w1), (.sopMul, .sopMul t c w0 w1), (.sopAnd, .sopAnd t c w0 w1),
   (.sopOr, .sopOr t c w0 w1), (.sopXor, .sopXor t c w0 w1), (.sopShl, .sopShl t c w0 w1), (.sopShr, .sopShr t c w0 w1),
   (.sopMovi, .sopMovi t c w0 w1), (.sopCmpeq, .sopCmpeq t c w0 w1), (.sopCmplt, .sopCmplt t c w0 w1), (.sopCmpltu, .sopCmpltu t c w0 w1),
   (.loop, .loop t c w0 w1), (.br, .br t c w0 w1), (.dma, .dma t c w0 w1), (.notifyServingRecord, .notifyServingRecord t c w0 w1),
   (.notifyInterrupt, .notifyInterrupt t c w0 w1)]

/-- The rows of the command table for a Gouge core's instructions, with the instruction that each names (R360). -/
def gougeRows (n : Fin 512) (w : W64) : List (GougeOp × Instr) :=
  [(.nop, .gougeNop n w), (.mov, .gougeMov n w), (.add2, .add2 n w), (.sub2, .sub2 n w), (.and, .gougeAnd n w), (.or, .gougeOr n w),
   (.xor, .gougeXor n w), (.asr2, .asr2 n w), (.pack, .pack n w), (.cmp, .cmp n w), (.slice, .slice n w), (.atan, .atan n w),
   (.cmac, .cmac n w), (.rdot2, .rdot2 n w), (.rdot4, .rdot4 n w), (.rmul4, .rmul4 n w), (.dupd, .dupd n w), (.ext, .ext n w),
   (.extc, .extc n w), (.ldi, .ldi n w), (.ldc, .ldc n w), (.mvtc, .mvtc n w), (.mvfc, .mvfc n w), (.addc, .addc n w),
   (.br, .gougeBr n w), (.call, .call n w), (.ret, .ret n w), (.rep, .rep n w), (.loop, .gougeLoop n w), (.rti, .rti n w),
   (.swi, .swi n w), (.halt, .halt n w)]

end Sys2Proof.Machine
end

