-- ==== Sys2Proof/Certificates/Slice0/Obligations.lean ====
section
/-!
DEFINITION. Certificates/Slice0/Obligations.lean: the statements about this model.
-/

open Sys2Proof Sys2Proof.Machine

/-- The queue is first in, first out: a step runs its front with the rest left waiting (the model's queue, log 1). -/
def Obligations.StepTakesFront : Prop :=
  ∀ (c : Instr) (rest : List Instr) (s : State), step { s with pending := c :: rest } = exec c { s with pending := rest }

/-- R375: T advances at the nominal rate of the 100 MHz reference clock. That an idle step is one cycle is log 1. -/
def Obligations.IdleStepIsOneClockCycle : Prop :=
  ∀ s : State, s.pending = [] →
    (s.d.inReset = true → step s = .next s) ∧
    (s.d.inReset = false → s.d.get TSU_RATE_RATE = 0 → s.d.tsu.slew = 0 → ∃ s', step s = .next s' ∧
      s'.d.tsu.fine = s.d.tsu.fine + 10 * finePerNs ∧ s'.mem = s.mem ∧ s'.pending = [] ∧
      ∀ f : Fld, Fld.key f ≠ Fld.key TLS_POS_POS → s'.d.get f = s.d.get f)

/-- Each command is whole: after it the stacks' bytes are canonical, its writes have been applied and a reset it asked for has happened. -/
def Obligations.StepKeepsSettled : Prop :=
  ∀ s s' : State, s.settled → step s = .next s' → s'.settled

/-- The invariant of `StepKeepsSettled` holds at reset. -/
def Obligations.ResetIsSettled : Prop := State.reset.settled ∧ State.reset.pending = []

/-- No command stops the machine: every access and every error has an outcome in the spec. -/
def Obligations.EveryCommandAnswers : Prop :=
  ∀ (c : Instr) (s : State), ∃ s', exec c s = .next s' ∧ s'.pending = s.pending

/-- R503, R505: what runs while the device is held in reset. The rows that act are a reading of "the VDD_AON logic" (log 7). -/
def Obligations.NothingRunsInReset : Prop :=
  ∀ (c : Instr) (s : State), s.d.inReset = true → c.actsInReset = false → exec c s = .next s

/-- Reset values that the rules name (R39, R187, R202, R207, R230, R231, R375, R376). -/
def Obligations.ResetLeaves : Prop :=
  State.reset.d.T = 0 ∧ State.reset.d.get TSU_STATUS_VALID = 0 ∧ State.reset.d.get SRV_VTIME_V = 0 ∧
  (∀ q, State.reset.d.get (SEQ_STATE q) = sqFREE ∧ State.reset.d.get (SEQ_SGEN q) = 0) ∧
  (∀ x, State.reset.d.get (TMAP_TIER x) = 0 ∧ State.reset.d.get (OBJ_VALID x) = 0) ∧
  (∀ r, State.reset.d.get (CUB_ROW_MAP_STATE r) = 0) ∧ State.reset.d.get LTH_TICK_CFG_PERIOD = 2

/-- R11. Besides what R11 says, an access drops the agent's 64-bit latch (R13). -/
def Obligations.ReservedOffsetsReadZero : Prop :=
  ∀ (s : State) (a : Agent) (off : Nat) (v : Nat), s.serving → s.d.asks a .bar0 off → off % 4 = 0 →
    (0x480000 ≤ off ∧ off < 0x1000000 ∨ s.d.hit a .bar0 off = .none) →
    (∃ s', exec (.registerReadClear a .bar0 off 4) s = .next s' ∧ s'.d.bus.rdata = 0 ∧ s'.mem = s.mem ∧
      ∀ f : Fld, s'.d.get f = s.d.get f) ∧
    exec (.registerWrite a .bar0 off 4 v) s = .next { s with d := s.d.unlatch (agentKey a) }

/-- R159, SOP: the arithmetic functions and MOVI. -/
def Obligations.ScalarArithmetic : Prop :=
  ∀ e ∈ ([(.sopAdd, Instr.sopAdd, fun x y _ => x + y), (.sopSub, Instr.sopSub, fun x y _ => x - y), (.sopMul, Instr.sopMul, fun x y _ => x * y),
      (.sopAnd, Instr.sopAnd, fun x y _ => x &&& y), (.sopOr, Instr.sopOr, fun x y _ => x ||| y), (.sopXor, Instr.sopXor, fun x y _ => x ^^^ y),
      (.sopShl, Instr.sopShl, fun x y _ => x <<< (y.toNat % 32)), (.sopShr, Instr.sopShr, fun x y _ => x >>> (y.toNat % 32)),
      (.sopMovi, Instr.sopMovi, fun _ _ i => i)] :
      List (TileOp × (Fin 320 → Fin 4 → W64 → W64 → Instr) × (W32 → W32 → W32 → W32))),
    ∀ (t : Fin 320) (c : Fin 4) (w0 w1 : W64) (s : State) (r : Run), s.serving →
      s.d.issues t c true true [0x7FFFFF00, 0xFFFFFFFF] w0 w1 r → tileOp w0 = some e.1 →
      ∃ s' r', exec (e.2.1 t c w0 w1) s = .next s' ∧
        (let old := s.d.chuck (t.1 * 4 + c.1)
         let new := s'.d.chuck (t.1 * 4 + c.1)
         let imm := BitVec.ofNat 32 w1.toNat
         let b := if wfld [w0, w1] SOP_IMM_B = 1 then imm else old.sreg (wfld [w0, w1] SOP_SB)
         (∀ k, new.sreg k = if k = wfld [w0, w1] SOP_SD ∧ k ≠ 0 then e.2.2 (old.sreg (wfld [w0, w1] SOP_SA)) b imm else old.sreg k) ∧
         new.flags = old.flags ∧ new.vregs = old.vregs ∧ new.vmask = old.vmask ∧ new.acc = old.acc ∧ new.run = some r' ∧
         r'.pc = (nextPc (r.pc + 16) old.loops).1) ∧
        (∀ k, k ≠ t.1 * 4 + c.1 → s'.d.chuck k = s.d.chuck k) ∧ s'.mem = s.mem ∧ s'.d.sram = s.d.sram ∧ s'.d.out = s.d.out ∧
        ∀ f : Fld, Fld.key f ≠ Fld.key (CUB_TILE_STATUS_BUSY t) → Fld.key f ≠ Fld.key (CUB_TILE_STATUS_CHUCK t) → s'.d.get f = s.d.get f

/-- R159, SOP: the compares. -/
def Obligations.ScalarCompares : Prop :=
  ∀ e ∈ ([(.sopCmpeq, Instr.sopCmpeq, fun x y => x == y), (.sopCmplt, Instr.sopCmplt, fun x y => x.slt y), (.sopCmpltu, Instr.sopCmpltu, fun x y => x.ult y)] :
      List (TileOp × (Fin 320 → Fin 4 → W64 → W64 → Instr) × (W32 → W32 → Bool))),
    ∀ (t : Fin 320) (c : Fin 4) (w0 w1 : W64) (s : State) (r : Run), s.serving →
      s.d.issues t c true true [0x7FFFFF00, 0xFFFFFFFF] w0 w1 r → tileOp w0 = some e.1 →
      ∃ s', exec (e.2.1 t c w0 w1) s = .next s' ∧
        (let old := s.d.chuck (t.1 * 4 + c.1)
         let new := s'.d.chuck (t.1 * 4 + c.1)
         let b := if wfld [w0, w1] SOP_IMM_B = 1 then BitVec.ofNat 32 w1.toNat else old.sreg (wfld [w0, w1] SOP_SB)
         (∀ k < 4, new.flags.testBit k =
           if k = wfld [w0, w1] SOP_SD % 4 then e.2.2 (old.sreg (wfld [w0, w1] SOP_SA)) b else old.flags.testBit k) ∧
         new.sregs = old.sregs ∧ new.vregs = old.vregs ∧ new.vmask = old.vmask ∧ new.acc = old.acc) ∧
        (∀ k, k ≠ t.1 * 4 + c.1 → s'.d.chuck k = s.d.chuck k) ∧ s'.mem = s.mem ∧ s'.d.sram = s.d.sram

/-- R138-R141, R160: lane-wise functions. Lane arithmetic is Machine/Float.lean and Machine/Vector.lean. -/
def Obligations.VectorLanes : Prop :=
  ∀ e ∈ ([(.vopFadd, Instr.vopFadd, vopFp2 fAdd), (.vopFsub, Instr.vopFsub, vopFp2 fSub), (.vopFmul, Instr.vopFmul, vopFp2 fMul),
      (.vopFma, Instr.vopFma, fun _ x y z => lane3 fFma x y z), (.vopFmin, Instr.vopFmin, vopFp2 fMin), (.vopFmax, Instr.vopFmax, vopFp2 fMax),
      (.vopFdiv, Instr.vopFdiv, vopFp2 fDiv), (.vopFsqrt, Instr.vopFsqrt, vopFp1 fSqrt), (.vopFexp, Instr.vopFexp, vopFp1 fExp), (.vopFlog, Instr.vopFlog, vopFp1 fLog),
      (.vopFrsqrt, Instr.vopFrsqrt, vopFp1 fRsqrt), (.vopFtanh, Instr.vopFtanh, vopFp1 fTanh), (.vopFrcp, Instr.vopFrcp, vopFp1 fRcp),
      (.vopIadd, Instr.vopIadd, vopPlain (fun x y => x + y)), (.vopIsub, Instr.vopIsub, vopPlain (fun x y => x - y)),
      (.vopAnd, Instr.vopAnd, vopPlain (fun x y => x &&& y)), (.vopOr, Instr.vopOr, vopPlain (fun x y => x ||| y)),
      (.vopXor, Instr.vopXor, vopPlain (fun x y => x ^^^ y)), (.vopShl, Instr.vopShl, vopPlain (fun x y => x <<< (y.toNat % 32))),
      (.vopShr, Instr.vopShr, vopPlain (fun x y => x >>> (y.toNat % 32))), (.vopSar, Instr.vopSar, vopPlain (fun x y => x.sshiftRight (y.toNat % 32))),
      (.vopRol, Instr.vopRol, vopPlain (fun x y => x.rotateLeft (y.toNat % 32))),
      (.vopMullo, Instr.vopMullo, vopPlain (fun x y => x * y)), (.vopMulhi, Instr.vopMulhi, vopPlain mulHi), (.vopMulhiu, Instr.vopMulhiu, vopPlain mulHiU),
      (.vopCvtf2i, Instr.vopCvtf2i, fun _ x _ _ => cvtF2I x), (.vopCvti2f, Instr.vopCvti2f, fun _ x _ _ => (cvtI2F x, false)),
      (.vopMov, Instr.vopMov, fun _ x _ _ => (x, false)), (.vopLaneid, Instr.vopLaneid, fun i _ _ _ => (BitVec.ofNat 32 i, false))] :
      List (TileOp × (Fin 320 → Fin 4 → W64 → W64 → Instr) × (Nat → W32 → W32 → W32 → W32 × Bool))),
    ∀ (t : Fin 320) (c : Fin 4) (w0 w1 : W64) (s : State) (r : Run), s.serving → s.d.issues t c true false VOP_USED w0 w1 r → tileOp w0 = some e.1 →
      ∃ s', exec (e.2.1 t c w0 w1) s = .next s' ∧
        (let old := s.d.chuck (t.1 * 4 + c.1)
         let new := s'.d.chuck (t.1 * 4 + c.1)
         let f := wfld [w0, w1]
         let b (i : Nat) := if f VOP_IMM_B = 1 then BitVec.ofNat 32 (f VOP_IMM) else old.lane (f VOP_VB) i
         let out (i : Nat) := e.2.2 i (old.lane (f VOP_VA) i) (b i) (old.lane (f VOP_VC) i)
         (∀ v i, i < 128 → new.lane v i = if v = f VOP_VD ∧ (old.vm (f VOP_VM)).getLsbD i then (out i).1 else old.lane v i) ∧
         (s'.d.get (CUB_TILE_NUM_VEC_INVALID t) = 1 ↔ s.d.get (CUB_TILE_NUM_VEC_INVALID t) = 1 ∨
           ∃ i < 128, (old.vm (f VOP_VM)).getLsbD i ∧ (out i).2) ∧
         new.sregs = old.sregs ∧ new.vmask = old.vmask ∧ new.flags = old.flags) ∧
        (∀ k, k ≠ t.1 * 4 + c.1 → s'.d.chuck k = s.d.chuck k) ∧ s'.mem = s.mem ∧ s'.d.sram = s.d.sram

/-- R140, R142, R160: SEL, compares and reductions. -/
def Obligations.VectorSelectsComparesAndReductions : Prop :=
  ∀ (t : Fin 320) (c : Fin 4) (w0 w1 : W64) (s : State) (r : Run), s.serving → s.d.issues t c true false VOP_USED w0 w1 r →
    let old := s.d.chuck (t.1 * 4 + c.1)
    let f := wfld [w0, w1]
    let b (i : Nat) := if f VOP_IMM_B = 1 then BitVec.ofNat 32 (f VOP_IMM) else old.lane (f VOP_VB) i
    let on (i : Nat) : Bool := (old.vm (f VOP_VM)).getLsbD i
    let kept (s' : State) : Prop := (s'.d.chuck (t.1 * 4 + c.1)).sregs = old.sregs ∧
      (∀ k, k ≠ t.1 * 4 + c.1 → s'.d.chuck k = s.d.chuck k) ∧ s'.mem = s.mem ∧ s'.d.sram = s.d.sram
    (tileOp w0 = some .vopSel → ∃ s', exec (.vopSel t c w0 w1) s = .next s' ∧ kept s' ∧
      ∀ v i, i < 128 → (s'.d.chuck (t.1 * 4 + c.1)).lane v i =
        if v = f VOP_VD then (if on i then old.lane (f VOP_VA) i else b i) else old.lane v i) ∧
    (∀ e ∈ ([(.vopFcmplt, Instr.vopFcmplt, fLt), (.vopFcmple, Instr.vopFcmple, fLe), (.vopFcmpeq, Instr.vopFcmpeq, fEq)] :
        List (TileOp × (Fin 320 → Fin 4 → W64 → W64 → Instr) × (W32 → W32 → Bool))),
      tileOp w0 = some e.1 → ∃ s', exec (e.2.1 t c w0 w1) s = .next s' ∧ kept s' ∧
        (s'.d.chuck (t.1 * 4 + c.1)).vregs = old.vregs ∧ (s'.d.chuck (t.1 * 4 + c.1)).vm 0 = BitVec.allOnes 128 ∧
        ∀ k i, k < 8 → k ≠ 0 → i < 128 → ((s'.d.chuck (t.1 * 4 + c.1)).vm k).getLsbD i =
          if k = f VOP_VD % 8 ∧ on i = true then e.2.2 (old.lane (f VOP_VA) i) (b i) else (old.vm k).getLsbD i) ∧
    (∀ e ∈ ([(.vopRsum, Instr.vopRsum, fAdd, 0#32), (.vopRmax, Instr.vopRmax, fMax, 0xFF800000#32), (.vopRmin, Instr.vopRmin, fMin, 0x7F800000#32)] :
        List (TileOp × (Fin 320 → Fin 4 → W64 → W64 → Instr) × (W32 → W32 → W32) × W32)),
      tileOp w0 = some e.1 → ∃ s', exec (e.2.1 t c w0 w1) s = .next s' ∧ kept s' ∧
        ∀ v i, i < 128 → (s'.d.chuck (t.1 * 4 + c.1)).lane v i =
          if v = f VOP_VD then reduceLanes e.2.2.1 e.2.2.2 (old.vm (f VOP_VM)) ((List.range 128).map (old.lane (f VOP_VA)))
          else old.lane v i)

/-- R143, R160: VLD, VST and QMX, where no check of R157 stops them and no hazard of R153 holds them. -/
def Obligations.VectorLoadsAndStores : Prop :=
  ∀ (t : Fin 320) (c : Fin 4) (w0 w1 : W64) (s : State) (r : Run), s.serving →
    let tc := t.1 * 4 + c.1
    let old := s.d.chuck tc
    let f := wfld [w0, w1]
    let n := efmtBytes (f VMEM_EFMT)
    let a := old.vmemAddr w0 w1
    let v := f VMEM_VREG
    let on (i : Nat) : Bool := (old.vm (f VMEM_VM)).getLsbD i
    (s.d.issues t c true false VMEM_USED w0 w1 r → f VMEM_EFMT ≠ 3 → a % n = 0 → a + 128 * n ≤ s.d.usable tc →
      (tileOp w0 = some .vld → old.conflicts (some (a, a + 128 * n - 1)) none = false →
        ∃ s', exec (.vld t c w0 w1) s = .next s' ∧ s'.mem = s.mem ∧ s'.d.sram = s.d.sram ∧ (s'.d.chuck tc).sregs = old.sregs ∧
          ∀ v' i, i < 128 → (s'.d.chuck tc).lane v' i =
            if v' = v ∧ on i = true then efmtLoad (f VMEM_EFMT) (leBytes (s.d.localGet tc) (a + i * n) n) else old.lane v' i) ∧
      (tileOp w0 = some .vst → old.conflicts none (some (a, a + 128 * n - 1)) = false →
        ∃ d', exec (.vst t c w0 w1) s = .next (finish s (settle s.mem d')) ∧ (d'.chuck tc).vregs = old.vregs ∧
          (d'.chuck tc).sregs = old.sregs ∧
          d'.sram = (s.d.localWrites tc (((List.range 128).filter on).flatMap (fun i =>
            (List.range n).zipWith (fun k x => (a + i * n + k, x)) (toLE (efmtStore (f VMEM_EFMT) (old.lane v i)).1 n)))).sram)) ∧
    (s.d.issues t c true false QMX_USED w0 w1 r → tileOp w0 = some .qmx → fmtIsMX (f QMX_TFMT) = true →
      let x := (old.sreg (f QMX_XREG)).toNat
      let eb := f QMX_EBASE + x
      let sb := f QMX_SBASE + x
      let nb := fmtBits (f QMX_TFMT) * 4
      let range := hull ((List.range 4).flatMap (fun g =>
        [(eb + g * f QMX_ESTRIDE, eb + g * f QMX_ESTRIDE + nb - 1), (sb + g * f QMX_SSTEP, sb + g * f QMX_SSTEP)]))
      hullTop range ≤ s.d.usable tc → old.conflicts none range = false →
        ∃ d', exec (.qmx t c w0 w1) s = .next (finish s (settle s.mem d')) ∧ (d'.chuck tc).vregs = old.vregs ∧
          (d'.chuck tc).sregs = old.sregs ∧
          d'.sram = (s.d.localWrites tc ((List.range 4).flatMap (fun g =>
            let o := qmxGroup (f QMX_TFMT) ((((List.range 128).map (old.lane (f QMX_VA))).drop (32 * g)).take 32)
            let es := packCodes (fmtBits (f QMX_TFMT)) o.2.1
            (List.range es.length).zipWith (fun k y => (eb + g * f QMX_ESTRIDE + k, y)) es ++ [(sb + g * f QMX_SSTEP, o.1)]))).sram)

/-- R114, R152, R154, R159, R170: the sequencer's own commands. That the words of a row decide which command runs, and that words which spell none are
the fault ENCODING from every row, is log 49; that CFG stores a reserved format code, which the MATMUL then refuses, is log 129. `pcAt s' p`: the run goes on at address p, loops that end there followed. -/
def Obligations.SequencerCommands : Prop :=
  ∀ (t : Fin 320) (c : Fin 4) (w0 w1 : W64) (s : State) (r : Run), s.serving →
    let tc := t.1 * 4 + c.1
    let old := s.d.chuck tc
    let f := wfld [w0, w1]
    let kept (s' : State) : Prop := s'.mem = s.mem ∧ s'.d.sram = s.d.sram ∧ (∀ k, k ≠ tc → s'.d.chuck k = s.d.chuck k) ∧
      (s'.d.chuck tc).sregs = old.sregs ∧ (s'.d.chuck tc).vregs = old.vregs ∧ (s'.d.chuck tc).acc = old.acc
    let pcAt (s' : State) (p : Nat) : Prop := ∃ r', (s'.d.chuck tc).run = some r' ∧ r'.pc = (nextPc p old.loops).1 ∧
      (s'.d.chuck tc).loops = (nextPc p old.loops).2 ∧ (s'.d.chuck tc).wait = none
    (∀ e ∈ tileRows t c w0 w1, ∀ e' ∈ tileRows t c w0 w1, tileOp w0 = some e'.1 → exec e.2 s = exec e'.2 s) ∧
    (tileOp w0 = none → s.d.issues t c true true [2 ^ 64 - 1, 2 ^ 64 - 1] w0 w1 r → ∀ e ∈ tileRows t c w0 w1,
      exec e.2 s = .next (finish s (settle s.mem ((illegal s.mem s.d t c r.pc caENCODING).tileShow t)))) ∧
    (s.d.issues t c true true [0, 0] w0 w1 r → tileOp w0 = some .nop → ∃ s', exec (.nop t c w0 w1) s = .next s' ∧ kept s' ∧ pcAt s' (r.pc + 16)) ∧
    (s.d.issues t c true false CFG_USED w0 w1 r → tileOp w0 = some .cfg → ∃ s', exec (.cfg t c w0 w1) s = .next s' ∧ kept s' ∧ pcAt s' (r.pc + 16) ∧
      s'.d.get (CUB_CFG_FMT_A t c) = f CFG_FMT_A ∧ s'.d.get (CUB_CFG_FMT_B t c) = f CFG_FMT_B ∧
      s'.d.get (CUB_CFG_DATAFLOW t c) = f CFG_DATAFLOW ∧ s'.d.get (CUB_CFG_HOLD t c) = f CFG_HOLD ∧
      s'.d.get (CUB_CFG_SHIFT t c) = f CFG_SHIFT ∧ s'.d.get (CUB_MASK_MN_MASK_M t c) = f CFG_MASK_M ∧
      s'.d.get (CUB_MASK_MN_MASK_N t c) = f CFG_MASK_N ∧ s'.d.get (CUB_MASK_K_MASK_K t c) = s.d.get (CUB_MASK_K_MASK_K t c)) ∧
    (s.d.issues t c true false [0, 0xFFFFFFFFFFFFFFFF] w0 w1 r → tileOp w0 = some .cfgk → ∃ s', exec (.cfgk t c w0 w1) s = .next s' ∧ kept s' ∧
      pcAt s' (r.pc + 16) ∧ s'.d.get (CUB_MASK_K_MASK_K t c) = w1.toNat) ∧
    (s.d.issues t c true false OPAB_USED w0 w1 r →
      (tileOp w0 = some .opa → ∃ s', exec (.opa t c w0 w1) s = .next s' ∧ kept s' ∧ pcAt s' (r.pc + 16) ∧ (s'.d.chuck tc).opA = (w0, w1) ∧
        (s'.d.chuck tc).opB = old.opB ∧ (s'.d.chuck tc).opC = old.opC) ∧
      (tileOp w0 = some .opb → ∃ s', exec (.opb t c w0 w1) s = .next s' ∧ kept s' ∧ pcAt s' (r.pc + 16) ∧ (s'.d.chuck tc).opB = (w0, w1) ∧
        (s'.d.chuck tc).opA = old.opA ∧ (s'.d.chuck tc).opC = old.opC)) ∧
    (s.d.issues t c true false OPC_USED w0 w1 r → tileOp w0 = some .opc → f OPC_OUT_SHIFT ≤ 16 → ∃ s', exec (.opc t c w0 w1) s = .next s' ∧ kept s' ∧
      pcAt s' (r.pc + 16) ∧ (s'.d.chuck tc).opC = (w0, w1) ∧ (s'.d.chuck tc).opA = old.opA ∧ (s'.d.chuck tc).opB = old.opB) ∧
    (∀ e ∈ ([(.waitSemaphore, Instr.waitSemaphore t c w0 w1, Wait.sem (f WAITC_SEM) (f WAITC_VALUE)),
        (.waitMatrixDrain, Instr.waitMatrixDrain t c w0 w1, Wait.matrix), (.waitDma, Instr.waitDma t c w0 w1, Wait.dma)] :
        List (TileOp × Instr × Wait)),
      s.d.issues t c true false [0xFFFFFFFFFF00, 0] w0 w1 r → tileOp w0 = some e.1 →
        (s.d.waitMet t c e.2.2 = true → ∃ s', exec e.2.1 s = .next s' ∧ kept s' ∧ pcAt s' (r.pc + 16)) ∧
        (s.d.waitMet t c e.2.2 = false → ∃ s', exec e.2.1 s = .next s' ∧ kept s' ∧ (s'.d.chuck tc).wait = some e.2.2 ∧
          (s'.d.chuck tc).run = some r)) ∧
    (s.d.issues t c true true WAITC_USED w0 w1 r → tileOp w0 = some .semrel → f WAITC_KIND = 0 → 8 ≤ f WAITC_SEM →
      ∃ s' r', exec (.semrel t c w0 w1) s = .next s' ∧ kept s' ∧ pcAt s' (r.pc + 16) ∧ (s'.d.chuck tc).run = some r' ∧
        (r.committed = false → r'.heldDec = r.heldDec ++ [(f WAITC_SEM, f WAITC_VALUE)] ∧
          s'.d.semCount t c (f WAITC_SEM) = s.d.semCount t c (f WAITC_SEM)) ∧
        (r.committed = true → s'.d.semCount t c (f WAITC_SEM) =
          (s.d.semCount t c (f WAITC_SEM) - f WAITC_VALUE) % 2 ^ (CUB_SEQ_SEM_COUNT t c (f WAITC_SEM - 8)).width)) ∧
    (s.d.issues t c true false LOOPC_USED w0 w1 r → tileOp w0 = some .loop → f LOOPC_BODY ≠ 0 → (∀ l ∈ old.loops, l.lc ≠ f LOOPC_LC) →
      (∀ l rest, old.loops = l :: rest → r.pc + 16 + 16 * f LOOPC_BODY ≤ l.stop) →
      ∃ s', exec (.loop t c w0 w1) s = .next s' ∧ kept s' ∧
        (f LOOPC_COUNT = 0 → pcAt s' (r.pc + 16 + 16 * f LOOPC_BODY)) ∧
        (f LOOPC_COUNT ≠ 0 → (s'.d.chuck tc).run = some { r with pc := r.pc + 16 } ∧ (s'.d.chuck tc).loops =
          ⟨f LOOPC_LC, r.pc + 16, r.pc + 16 + 16 * f LOOPC_BODY, f LOOPC_COUNT⟩ :: old.loops)) ∧
    (s.d.issues t c true false BRC_USED w0 w1 r → tileOp w0 = some .br → old.loops = [] → ∃ s', exec (.br t c w0 w1) s = .next s' ∧ kept s' ∧
      pcAt s' (if f BRC_ALWAYS = 1 ∨ old.flags.testBit (f BRC_FLAG) = (f BRC_SENSE == 1)
        then (((r.pc : Int) + 16 * sext 32 (f BRC_OFFSET)) % 2 ^ 40).toNat else r.pc + 16))

/-- R113, R154, R156. -/
def Obligations.CommitAndEnd : Prop :=
  ∀ (t : Fin 320) (c : Fin 4) (w0 w1 : W64) (s : State) (r : Run), s.serving →
    let tc := t.1 * 4 + c.1
    (s.d.issues t c true false [0, 0] w0 w1 r → tileOp w0 = some .commit →
      (s.d.waitMet t c (.commit false) = false → ∃ s', exec (.commit t c w0 w1) s = .next s' ∧
        (s'.d.chuck tc).wait = some (.commit false) ∧ (s'.d.chuck tc).run = some r ∧ s'.mem = s.mem) ∧
      (s.d.waitMet t c (.commit false) = true → r.item.origin ≠ 2 → r.heldInc = [] →
        ∃ d' r', exec (.commit t c w0 w1) s = .next (finish s (settle s.mem d')) ∧ (d'.chuck tc).run = some r' ∧
          r'.committed = true ∧ r'.heldDec = [] ∧ (d'.chuck tc).wait = none ∧
          r'.status = (if r.rerun ∨ r.item.mism then stCHECKSUM_RETRIED else if r.kzero then stK_ZERO else stOK))) ∧
    (s.d.issues t c true true [0, 0] w0 w1 r → tileOp w0 = some .end_ → (∀ l ∈ (s.d.chuck tc).loops, l.stop = r.pc + 16) →
      (r.committed = true → exec (.end_ t c w0 w1) s = .next (finish s (settle s.mem ((endRun s.mem s.d t c).tileShow t)))) ∧
      (r.committed = false → s.d.waitMet t c (.commit true) = true → r.item.origin ≠ 2 →
        exec (.end_ t c w0 w1) s = .next (finish s (settle s.mem
          ((endRun s.mem (commitItem s.mem (s.d.advance tc) t c) t c).tileShow t)))) ∧
      (r.committed = false → s.d.waitMet t c (.commit true) = false → ∃ s', exec (.end_ t c w0 w1) s = .next s' ∧
        (s'.d.chuck tc).wait = some (.commit true) ∧ s'.mem = s.mem))

/-- R97, R99, R107, R108, R112, R130, R163; a parity or tag check that fails stops the run for its re-run (R175, R179). The words of masked rows and
columns, and of other sets, stay as they are (R107, R221). That a parity error at the drain writes nothing is log 127; that the operand gives the errors
of a step is log 163; what counts as a bubble is log 126. -/
def Obligations.MatrixOperations : Prop :=
  ∀ (t : Fin 320) (c : Fin 4) (w0 w1 : W64) (s : State) (r : Run), s.serving →
    let tc := t.1 * 4 + c.1
    let old := s.d.chuck tc
    let p := s.d.matParams t c w0 w1
    (s.d.issues t c true false MM_USED w0 w1 r → tileOp w0 = some .matmul → p.illegal = none → p.aligned = true →
      (p.empty = true → ∃ s', exec (.matmul t c w0 w1) s = .next s' ∧ (s'.d.chuck tc).mq = old.mq ∧ (s'.d.chuck tc).acc = old.acc ∧
        s'.d.sram = s.d.sram ∧ s'.mem = s.mem) ∧
      (p.empty = false → hullTop (hull p.reads) ≤ s.d.usable tc → hullTop (hull p.writes) ≤ s.d.usable tc → old.mq.length < 4 →
        old.conflicts (hull p.reads) (hull p.writes) = false →
        ∃ s', exec (.matmul t c w0 w1) s = .next s' ∧ (s'.d.chuck tc).acc = old.acc ∧ s'.d.sram = s.d.sram ∧ s'.mem = s.mem ∧
          (s'.d.chuck tc).mq = old.mq ++
            [{ p := p, next := List.replicate p.nblocks 0, inited := List.replicate p.nblocks false, drained := 0 }])) ∧
    (∀ i q h o, s.d.cubeChuck t = some c.1 → old.run = some r → r.stopped = false → activeOp old.mq = some i →
      pickStep old.mq i = some (q, h) → old.mq[i]? = some o →
      let ch := (old.zeroInit i h).fillSlot (s.d.operand tc) i q
      let slot := match ch.mq[i]? with | some x => x.slot | none => []
      (∀ f, ∃ s', exec (.tileStepIssue t ⟨true, f⟩) s = .next s' ∧ (s'.d.chuck tc).acc = old.acc ∧ (s'.d.chuck tc).mq = old.mq ∧
        s'.d.get (CUB_TILE_BUBBLES_COUNT t) = min (2 ^ (CUB_TILE_BUBBLES_COUNT t).width - 1) (s.d.get (CUB_TILE_BUBBLES_COUNT t) + 1) ∧
        s'.d.sram = s.d.sram ∧ s'.mem = s.mem) ∧
      (o.p.lanesOn q = [] → ∀ f, ∃ s', exec (.tileStepIssue t ⟨false, f⟩) s = .next s' ∧ (s'.d.chuck tc).acc = ch.acc ∧
        s'.d.get (CUB_TILE_BUBBLES_COUNT t) = min (2 ^ (CUB_TILE_BUBBLES_COUNT t).width - 1) (s.d.get (CUB_TILE_BUBBLES_COUNT t) + 1) ∧
        s'.d.sram = s.d.sram ∧ s'.mem = s.mem) ∧
      (o.p.lanesOn q ≠ [] → r.inject = none → r.rerun = false → ∀ cube, ∀ e ∈ [StepErr.tag, StepErr.accParity],
        ∃ s' r', exec (.tileStepIssue t ⟨false, some ⟨cube, e⟩⟩) s = .next s' ∧ (s'.d.chuck tc).run = some r' ∧ r'.stopped = true ∧
          r'.item.mism = true ∧ (s'.d.chuck tc).mq = [] ∧ (s'.d.chuck tc).acc = ch.acc ∧ s'.d.sram = s.d.sram ∧ s'.mem = s.mem) ∧
      (o.p.lanesOn q ≠ [] → r.inject = none → ∃ s', exec (.tileStepIssue t ⟨false, none⟩) s = .next s' ∧
        (s'.d.chuck tc).acc = (ch.accPuts (o.p.step (o.p.readA slot (s.d.operand tc)) (o.p.readB slot (s.d.operand tc)) ch.accGet q h).1).acc ∧
        (∀ set i j, i < 16 → j < 16 → set ∉ o.setsOf h ∨ o.p.rowOn h i = false ∨ o.p.colOn h j = false →
          (s'.d.chuck tc).accGet (accKey set i j) = ch.accGet (accKey set i j)) ∧
        s'.d.get (CUB_TILE_STEPS_COUNT t) = min (2 ^ (CUB_TILE_STEPS_COUNT t).width - 1) (s.d.get (CUB_TILE_STEPS_COUNT t) + 1) ∧
        s'.d.sram = s.d.sram ∧ s'.mem = s.mem)) ∧
    (∀ i o h, s.d.cubeChuck t = some c.1 → loadOp old.mq = some i → old.mq[i]? = some o → o.inited.findIdx? (fun b => !b) = some h →
      (∀ x ∈ o.setsOf h, x ∉ setsAwaiting (old.mq.take i)) →
      ∃ s', exec (.cLoad t) s = .next s' ∧ (s'.d.chuck tc).acc = (old.accPuts (o.p.initWords (s.d.operand tc) h)).acc ∧
        s'.d.sram = s.d.sram ∧ s'.mem = s.mem) ∧
    (∀ o rest, s.d.cubeChuck t = some c.1 → old.mq = o :: rest → o.p.nslices ≠ 0 → o.p.nslices ≤ o.next.getD o.drained 0 →
      o.inited.getD o.drained false = true → o.drained + 1 < o.p.nblocks →
      (∀ cube, old.run = some r → r.stopped = false → r.rerun = false → ∃ s' r', exec (.drainSet ⟨t, some cube⟩) s = .next s' ∧
        (s'.d.chuck tc).run = some r' ∧ r'.stopped = true ∧ r'.item.mism = true ∧ (s'.d.chuck tc).mq = [] ∧ s'.d.sram = s.d.sram ∧ s'.mem = s.mem) ∧
      ∃ s', exec (.drainSet ⟨t, none⟩) s = .next s' ∧ s'.d.sram = (s.d.localWrites tc (o.p.drain old.accGet o.drained).1).sram ∧
        (s'.d.chuck tc).mq = { o with drained := o.drained + 1 } :: rest ∧ (s'.d.chuck tc).acc = old.acc ∧ s'.mem = s.mem)

/-- R52, R64, R151, R155, R158, R179, R189. -/
def Obligations.ItemsOnTiles : Prop :=
  ∀ (t : Fin 320) (c : Fin 4) (s : State), s.serving →
    let tc := t.1 * 4 + c.1
    (∀ it pre post, s.d.radioRuns t = false → s.d.lathe.inGuard = false → (s.d.tile t).withheld = false → s.d.tileDisabled t = false →
      s.d.is LTH_STATUS_RUNNING = true → (s.d.tile t).cur = none → (∀ k < 4, (s.d.chuck (t.1 * 4 + k)).wait = none ∧ ∀ x, (s.d.chuck (t.1 * 4 + k)).run = some x → x.stopped = false) →
      (s.d.tile t).list = pre ++ it :: post → (∀ x ∈ pre, s.d.ctxResident x.ctx = false) → it.stalled = false →
      s.d.ctxResident it.ctx = true → s.d.ctxChuck it.ctx = some tc → (s.d.chuck tc).run = none →
      (∀ x ∈ post, x.seqNo ≠ it.seqNo) → (∀ x ∈ pre, x.seqNo ≠ it.seqNo) →
      ∃ s' r, exec (.itemStart t) s = .next s' ∧ (s'.d.tile t).cur = some c.1 ∧ (s'.d.tile t).list = pre ++ post ∧
        (s'.d.chuck tc).run = some r ∧ r.pc = wfld it.desc ITEM_STREAM_OFF ∧ r.item.desc = it.desc ∧ r.item.attempt = it.attempt + 1 ∧
        r.committed = false ∧ (s'.d.chuck tc).flags = 0 ∧ (s'.d.chuck tc).sreg 1 = BitVec.ofNat 32 (wfld it.desc ITEM_INDEX) ∧
        (s'.d.chuck tc).sreg 2 = BitVec.ofNat 32 (wfld it.desc ITEM_CHAIN) ∧ s'.mem = s.mem) ∧
    (∀ r, (s.d.tile t).cur = some c.1 → (s.d.chuck tc).run = some r → r.stopped = true → (∀ o ∈ (s.d.chuck tc).dq, o.cut = false) →
      ∃ s' r', exec (.itemRerun t) s = .next s' ∧ (s'.d.chuck tc).run = some r' ∧ r'.item = r.item ∧ r'.rerun = true ∧
        r'.pc = wfld r.item.desc ITEM_STREAM_OFF ∧ r'.stopped = false ∧ r'.committed = false ∧ s'.mem = s.mem) ∧
    (∀ i x, (s.d.tile t).radio[i]? = some x → x.stage = 0 → x.arrived = true → s.d.tileDisabled t = false →
      (s.d.tile t).withheld = false → s.d.lathe.inGuard = false → s.d.radioRuns t = false →
      ∃ s' r, exec (.radioItemReady t i) s = .next s' ∧ (s'.d.tile t).cur = some 0 ∧ (s'.d.tile t).preempted = (s.d.tile t).cur ∧
        (s'.d.chuck (t.1 * 4)).run = some r ∧ r.item.origin = 2 ∧ r.item.seqNo = i ∧ s'.mem = s.mem) ∧
    ((s.d.tile t).mirror = 1 → exec (.mirrorSweepDone t) s = .next { s with d := s.d.setTile t { s.d.tile t with mirror := 2 } }) ∧
    (∀ r, (s.d.chuck tc).run = some r →
      (r.committed = false → exec (.cycleBoundExceeded t c) s = .next (finish s (settle s.mem (illegal s.mem s.d t c r.pc caBOUND)))) ∧
      (r.committed = true → exec (.tailLimitReached t c) s = .next (finish s (settle s.mem (tailTrunc s.mem s.d t c r.pc)))))

/-- R157. -/
def Obligations.SequencerFaults : Prop :=
  (∀ (d : Dev) (t : Fin 320) (c : Fin 4) (off cause : Nat) (tail : Bool),
    (d.is (CUB_SEQ_FAULT_VALID t c) = false →
      (d.seqFault t c off cause tail).get (CUB_SEQ_FAULT_OFFSET t c) = off % 2 ^ (CUB_SEQ_FAULT_OFFSET t c).width ∧
      (d.seqFault t c off cause tail).get (CUB_SEQ_FAULT_CAUSE t c) = cause % 2 ^ (CUB_SEQ_FAULT_CAUSE t c).width ∧
      (d.seqFault t c off cause tail).get (CUB_SEQ_FAULT_TAIL t c) = (if tail then 1 else 0) ∧
      (d.seqFault t c off cause tail).is (CUB_SEQ_FAULT_VALID t c) = true) ∧
    (d.is (CUB_SEQ_FAULT_VALID t c) = true →
      (d.seqFault t c off cause tail).get (CUB_SEQ_FAULT_OFFSET t c) = d.get (CUB_SEQ_FAULT_OFFSET t c) ∧
      (d.seqFault t c off cause tail).get (CUB_SEQ_FAULT_CAUSE t c) = d.get (CUB_SEQ_FAULT_CAUSE t c)) ∧
    (d.seqFault t c off cause tail).out.events.length = d.out.events.length + 1) ∧
  (∀ (m : Mem) (d : Dev) (t : Fin 320) (c : Fin 4) (r : Run) (off cause : Nat), (d.chuck (t.1 * 4 + c.1)).run = some r →
    illegal m d t c off cause =
      if r.committed then endRun m (d.seqFault t c off cause true) t c
      else stopItem m (d.seqFault t c off cause false) t c (if cause = caTILE_REFUSED then stREFUSED_STATE else stABORTED))

/-- R153, R159, R164, R166, R170, R224, R459. -/
def Obligations.DmaAndNotify : Prop :=
  ∀ (t : Fin 320) (c : Fin 4) (w0 w1 : W64) (s : State) (r : Run) (ups : List Upset), s.serving →
    let tc := t.1 * 4 + c.1
    let old := s.d.chuck tc
    let a := wfld [w0, w1] DMAC_ADDR
    let n := wfld [w0, w1] DMAC_COUNT
    let ds := (List.range n).map (fun i => s.d.descAt tc (a + 32 * i))
    (s.d.issues t c true true [0x7FFFFFFCF00, 0] w0 w1 r → tileOp w0 = some .dma → wfld [w0, w1] DMAC_KIND = 0 → n ≠ 0 → n ≤ 64 → a % 32 = 0 →
      a + 32 * n ≤ s.d.usable tc → (∀ x ∈ ds, s.d.descIllegal tc r.committed x = none) → old.dq.length + n ≤ 64 →
      descsConflict old ds = false →
      ∃ s' ops, exec (.dma t c w0 w1) s = .next s' ∧ (s'.d.chuck tc).dq = old.dq ++ ops ∧ ops.map (fun o => o.words) = ds ∧
        (∀ o ∈ ops, o.started = false ∧ o.tail = r.committed ∧ o.fail = none) ∧ s'.mem = s.mem ∧ s'.d.sram = s.d.sram) ∧
    (∀ o pre post, ups = [] → (∀ k < c.1, (s.d.chuck (t.1 * 4 + k)).nextDma = none) → old.dq = pre ++ o :: post →
      (∀ x ∈ pre, x.started = true ∧ x.id ≠ o.id) → o.started = false →
      ({ old with mq := [], dq := pre } : Chuck).conflicts (descRanges o.words).1 (descRanges o.words).2 = false →
      exec (.dmaDescriptorStart t ups) s = .next (finish s (settle s.mem (dmaStartOne s.mem s.d t c o)))) ∧
    (∀ o rest, old.dq = o :: rest → o.started = true → o.held = false → o.waits = [] → o.fail = none → o.cut = false →
      wfld o.words DD_SEM_EN = 1 → wfld o.words DD_SEM < 8 → (s.d.tile t).cur = some c.1 → old.wait = none → old.ctx.isSome = true →
      ∃ s', exec (.dmaDescriptorComplete t c) s = .next s' ∧ (s'.d.chuck tc).dq = rest ∧
        sget (s'.d.chuck tc).lsem (wfld o.words DD_SEM) 0 = min (2 ^ 32 - 1) (sget old.lsem (wfld o.words DD_SEM) 0 + 1) ∧
        s'.mem = s.mem ∧ s'.d.sram = s.d.sram) ∧
    (s.d.issues t c false true DMAC_USED w0 w1 r → n ≠ 0 → n ≤ 4 → a % 16 = 0 → a + 16 * n ≤ s.d.usable tc →
      let bytes := (List.range (16 * n)).map (fun i => BitVec.ofNat 8 (s.d.localGet tc (a + i)))
      (tileOp w0 = some .notifyServingRecord → ∃ s', exec (.notifyServingRecord t c w0 w1) s = .next s' ∧ s'.mem = s.mem ∧ s'.d.sram = s.d.sram ∧
        s'.d.srv.inbox = s.d.srv.inbox ++ (List.range (bytes.length / 16)).map (fun k => bytesWords 2 (bytes.drop (16 * k)) ++ [w1, w64 t])) ∧
      (let i := if r.item.origin = 2 then 0 else s.d.ctxInst r.item.ctx
       let v := if i = 0 then w1.toNat % 2048 else w1.toNat % 64
       (tileOp w0 = some .notifyInterrupt → 4 ≤ v → v ≤ 1023 → exec (.notifyInterrupt t c w0 w1) s =
          .next (finish s (settle s.mem (((s.d.raiseVector i v r.item.igen).advance tc).tileShow t)))) ∧
       (tileOp w0 = some .notifyInterrupt → v < 4 → ∃ s', exec (.notifyInterrupt t c w0 w1) s = .next s' ∧ s'.d.vir = s.d.vir ∧ s'.d.out = s.d.out ∧ s'.mem = s.mem)))

/-- R40, R84; a reserved PERIOD leaves the field (R14). -/
def Obligations.LatheRunAndTickConfig : Prop :=
  ∀ (s : State) (a : Agent) (v : W32), s.serving →
    (s.d.asks a .bar0 0x40000 → ∃ s', exec (.lthCtrlWrite a v) s = .next s' ∧ s'.mem = s.mem ∧
      (v.toNat % 2 = 1 → s'.d.get LTH_CTRL_RUN = 1) ∧
      (v.toNat % 2 = 0 → (s.d.get LTH_CTRL_RUN ≠ 1 ∨ s.d.rad.cells = []) → s'.d.get LTH_CTRL_RUN = 0) ∧
      (v.toNat % 2 = 0 → s.d.get LTH_CTRL_RUN = 1 → s.d.rad.cells ≠ [] →
        s'.d.get LTH_CTRL_RUN = 1 ∧ s'.d.get LTH_STATUS_CFG_REFUSED = 1)) ∧
    (s.d.asks a .bar0 0x40008 → ∃ s', exec (.lthTickCfgWrite a v) s = .next s' ∧ s'.mem = s.mem ∧
      (s.d.get LTH_CTRL_RUN ≠ 1 → s'.d.get LTH_TICK_CFG_SYNC_MODE = v.toNat / 16 % 4 ∧
        s'.d.get LTH_TICK_CFG_PERIOD =
          (if 1 ≤ v.toNat % 16 ∧ v.toNat % 16 ≤ 8 then v.toNat % 16 else s.d.get LTH_TICK_CFG_PERIOD) ∧
        (v.toNat / 16 % 4 = 0 → s'.d.get LTH_STATUS_LOCKED = 0 ∧ s'.d.get LTH_STATUS_ON_GRID = 0)) ∧
      (s.d.get LTH_CTRL_RUN = 1 → s'.d.get LTH_TICK_CFG_SYNC_MODE = s.d.get LTH_TICK_CFG_SYNC_MODE ∧
        s'.d.get LTH_TICK_CFG_PERIOD = s.d.get LTH_TICK_CFG_PERIOD ∧ s'.d.get LTH_STATUS_CFG_REFUSED = 1))

/-- R41, R42, R72: the parts of the guard and of the boundary, in the order of R72 (parts that R72 does not order: log 4; a boundary whose guard no
command has started: log 40); then the parts: R46, R47, R48, R50, R52, R62, R68, R69, R71, R189-R193, R199, R203, R410, R411, R433, R487, R497.
That the record of an aborted item that never ran names the Lathe is log 173. -/
def Obligations.TickBoundaryRunsInOrder : Prop :=
  (∀ s : State, s.serving →
    let d := radioGuard s.mem (guardCuts s.mem { s.d with lathe := { s.d.lathe with inGuard := true } })
    let g := if s.d.lathe.inGuard then s.d else releaseItems s.mem d (d.lathe.ticks + 1)
    exec .guardStart s = .next (finish s (settle s.mem g)) ∧
    (let d := ({ g with lathe := { g.lathe with inGuard := false } } : Dev).phaseBoundary.countBoundary
     let d := d.set LTH_STATUS_RUNNING (d.get LTH_CTRL_RUN)
     let d := freeForRadio s.mem (dropBoundary s.mem (mapBoundary s.mem (releaseItems s.mem d d.lathe.ticks)))
     let d := swapBoundary s.mem d
     let d := (if d.is LTH_CTRL_RUN then buildLists s.mem d else d).testLoads.driveSync
     let d := (servingBoundary s.mem d).resetsTick.avsBoundary.classBoundary
     let d := ({ d with mem := { d.mem with heatTicks := d.mem.heatTicks + 1 } } : Dev)
     exec .tickBoundary s = .next (finish s (settle s.mem
       (tlsBoundary s.mem (radioBoundary s.mem d (d.is LTH_STATUS_LOCKED) s.d.lathe.aligned)))))) ∧
  (∀ d : Dev, d.countBoundary.get LTH_TICK_COUNT_COUNT =
    (if d.is TSU_STATUS_VALID ∧ d.get LTH_TICK_CFG_SYNC_MODE ≠ 0 then (d.gridNumber % 2 ^ 64).toNat
    else (d.get LTH_TICK_COUNT_COUNT + 1) % 2 ^ 64) ∧ d.phaseBoundary.lathe.ticks = d.lathe.ticks + 1) ∧
  -- R46, R47: a run that is cut
  (∀ (m : Mem) (d : Dev) (tc : Nat) (r : Run), (d.chuck tc).run = some r →
    cutRun m d tc = (if r.committed = true ∨ r.item.origin = 2 then d else itemCut m (d.closeRun tc) r.item (tc / 4)) ∧
    ((d.closeRun tc).chuck tc).run = none) ∧
  (∀ (m : Mem) (d : Dev) (it : Item) (t : Nat),
    let e := (itemPost m d it t stDEFERRED it.attempt).bump LTH_CUT_CNT_COUNT 1
    let n := (if it.cutAt.map (· + 1) = some e.lathe.ticks then it.cuts else 0) + 1
    let it' := { it with cuts := n, cutAt := some e.lathe.ticks }
    (n < 3 → itemCut m d it t = { e with lathe := { e.lathe with pend := e.lathe.pend ++ [it'] } }) ∧
    (3 ≤ n → itemCut m d it t = (itemFinal m e it' t stABORTED it.attempt).event srcLathe .chainAborted [wfld it.desc ITEM_CHAIN, wfld it.desc ITEM_TAG])) ∧
  (∀ (m : Mem) (d : Dev), (d.tiles.map (·.1)).Nodup → (∀ tc r, (d.chuck tc).run = some r → r.committed = true ∨ r.item.origin = 2) →
    (guardCuts m d).lathe.pend = d.lathe.pend ++ d.tiles.flatMap (fun e => e.2.list) ∧ ∀ t, ((guardCuts m d).tile t).list = []) ∧
  -- R48: release
  (∀ (m : Mem) (d : Dev) (k : Nat), ((∀ it ∈ d.lathe.pend, it.released.isSome = true) → releaseItems m d k = d) ∧
    ∀ it, d.lathe.pend = [it] → it.released = none →
      let go : Dev := { d with lathe := { d.lathe with pend := [{ it with released := some k }] } }
      (d.predecessor it = none → releaseItems m d k = go) ∧
      (∀ r, d.predecessor it = some r → r.status = none → releaseItems m d k = d) ∧
      (∀ r st, d.predecessor it = some r → r.status = some st → (st = stOK ∨ st = stCHECKSUM_RETRIED ∨ st = stK_ZERO) → releaseItems m d k = go) ∧
      (∀ r st, d.predecessor it = some r → r.status = some st → ¬ (st = stOK ∨ st = stCHECKSUM_RETRIED ∨ st = stK_ZERO) →
        releaseItems m d k = itemFinal m { d with lathe := { d.lathe with pend := [] } } it srcLathe stABORTED 0)) ∧
  -- R50, R52, R62, R71: lists
  (∀ a b : Item, ∀ x y, a.released = some x → b.released = some y →
    (itemBefore a b = true ∨ itemBefore b a = true) ∧
    (x < y ∨ x = y ∧ (a.ctx < b.ctx ∨ a.ctx = b.ctx ∧ (wfld a.desc ITEM_CHAIN < wfld b.desc ITEM_CHAIN ∨
      wfld a.desc ITEM_CHAIN = wfld b.desc ITEM_CHAIN ∧ wfld a.desc ITEM_INDEX < wfld b.desc ITEM_INDEX)) →
      itemBefore a b = true ∧ itemBefore b a = false)) ∧
  (∀ (m : Mem) (d : Dev) (it : Item), d.lathe.pend = [it] → it.released.isSome = true →
    let t := d.get (LTH_CTX_TILE it.ctx)
    let bound := wfld it.desc ITEM_CYCLE_BOUND
    let live := d.ctxResident it.ctx = true ∧ (d.tile t).withheld = false ∧ d.tileDisabled t = false ∧
      (∀ c ∈ d.tls.cures, c.tile = t → c.kind ≠ 1 ∧ c.kind ≠ 2) ∧ ∀ e ∈ d.lathe.dropped, e.1 ≠ it.ctx
    let none' : Dev := { d with lathe := { d.lathe with pend := [] } }
    (¬ live → buildLists m d = d) ∧
    (live → d.inferCycles t < bound → buildLists m d = itemFinal m none' it srcLathe stREFUSED_STATE it.attempt) ∧
    (live → bound ≤ d.inferCycles t → 64 ≤ (d.tile t).list.length ∨ d.inferCycles t < listCycles (d.tile t).list + bound → buildLists m d = d) ∧
    (live → (d.tile t).list.length < 64 → listCycles (d.tile t).list + bound ≤ d.inferCycles t →
      buildLists m d = none'.setTile t { d.tile t with list := (d.tile t).list ++ [it] })) ∧
  -- R68, R69: swaps
  (∀ d : Dev, d.waiting.Pairwise (fun a b => sget d.lathe.waited b 0 < sget d.lathe.waited a 0 ∨
      sget d.lathe.waited a 0 = sget d.lathe.waited b 0 ∧ a ≤ b) ∧
    ∀ t wide, (∀ k ∈ d.victims t wide, k < 4 ∧ (d.chuck (t * 4 + k)).resident = true ∧ (d.chuck (t * 4 + k)).busy = false ∧
        ∃ c, (d.chuck (t * 4 + k)).ctx = some c ∧ d.ctxPinned c = false ∧ d.homeBusy c = false ∧ (wide = false → d.hasReady c = false)) ∧
      (d.victims t wide).Pairwise (fun a b => if wide then (d.chuck (t * 4 + a)).since ≤ (d.chuck (t * 4 + b)).since
        else (d.chuck (t * 4 + a)).lastRun ≤ (d.chuck (t * 4 + b)).lastRun)) ∧
  (∀ (m : Mem) (d : Dev) (c k mask : Nat), d.freeChuckOf (d.get (LTH_CTX_TILE c)) = some k →
    lowestBanks (d.banksUsed (d.get (LTH_CTX_TILE c))) (d.get (LTH_CTX_BANKS c)) = some mask →
    tryBring m d c = if (d.bindNote c).bringOk c then startBringIn m (d.bindNote c) c (d.get (LTH_CTX_TILE c)) k mask else d.bindNote c) ∧
  -- R189-R193: covers and mirrors
  (∀ (d : Dev) (t : Nat), t < 320 →
    let row := t / 20
    let own := t % 20
    let p := d.get (CUB_TILE_PHYS_PCOL t)
    (∀ test, d.get (CUB_ROW_MAP_STATE row) = 3 →
      (coverStep d row t test).get (CUB_TILE_PHYS_PCOL t) = own ∧ (coverStep d row t test).get (CUB_ROW_MAP_SUBST row) = 31 ∧
      (coverStep d row t test).get (CUB_ROW_MAP_STATE row) = 0 ∧ sfind (coverStep d row t test).tls.covers row = none) ∧
    (d.get (CUB_ROW_MAP_STATE row) = 1 → d.tls.cures = [] → (coverStep d row t true).get (CUB_TILE_PHYS_PCOL t) = 20 ∧
      (coverStep d row t true).get (CUB_ROW_MAP_SUBST row) = own ∧ (coverStep d row t true).get (CUB_ROW_MAP_STATE row) = 2) ∧
    (d.get (CUB_ROW_MAP_STATE row) = 1 → p < 21 → (coverStep d row t false).get (CUB_TILE_PHYS_PCOL t) = 20 ∧
      (coverStep d row t false).get (CUB_ROW_MAP_SUBST row) = own ∧ (coverStep d row t false).get (CUB_ROW_MAP_STATE row) = 4 ∧
      ((coverStep d row t false).get (CUB_ROW_MAP_RETIRED row)).testBit p = true ∧ sfind (coverStep d row t false).tls.covers row = none) ∧
    (∀ test, d.get (CUB_ROW_MAP_STATE row) = 2 →
      (d.unitFaulty (physUnit t own) = true ∨ t ∈ d.tls.coverFail → (coverStep d row t test).get (CUB_ROW_MAP_STATE row) = 4 ∧
        ((coverStep d row t test).get (CUB_ROW_MAP_RETIRED row)).testBit own = true) ∧
      (d.unitFaulty (physUnit t own) = false → t ∉ d.tls.coverFail → d.swapping t = false →
        ((coverStep d row t test).tile t).mirror = 1 ∧ (coverStep d row t test).get (CUB_ROW_MAP_STATE row) = 3))) ∧
  -- R197, R199, R203: admission, and steps that are not built
  (∀ (d : Dev) (q : Nat), q < 16384 → d.get (SRV_Q_BURST_BURST q) < 2 ^ 24 → d.refill.get (SRV_Q_CREDIT_CREDIT q) =
    min (d.get (SRV_Q_BURST_BURST q) * 256) (d.get (SRV_Q_CREDIT_CREDIT q) + d.get (SRV_Q_RATE_RATE q))) ∧
  (∀ (d : Dev) (q e : Nat), (d.pickHead = some (q, e) → (d.queueOf q).head? = some e ∧ d.cost e * 256 ≤ d.get (SRV_Q_CREDIT_CREDIT q)) ∧
    (d.admitOne q e).get (SEQ_STATE e) = sqPENDING ∧
    (d.get (SRV_Q_CREDIT_CREDIT q) < 2 ^ 32 → (d.admitOne q e).get (SRV_Q_CREDIT_CREDIT q) = d.get (SRV_Q_CREDIT_CREDIT q) - d.cost e * 256)) ∧
  (∀ (m : Mem) (d : Dev), (d.is SRV_STATUS_RUNNING = false ∨ d.is SRV_CTRL_ADMIT_EN = false → d.admitQueues = d) ∧
    (d.is SRV_STATUS_RUNNING = false → buildSteps m d = d) ∧
    ∀ p, d.is (SRV_PROF_CFG_VALID p) = false ∨ d.srv.steps.any (fun x => x.prof == p) = true → buildStep m d p = d) ∧
  -- R410, R411: the COMPARE of a pair
  (∀ (d : Dev) (n : Nat), (d.paired n = false → d.compareSend n = d) ∧
    (d.paired n = true → d.is (TLS_PAIR_CLASS_DIFF n) = true → d.compareSend n = d.sendMgmt (d.get (TLS_PAIR_NODE n)) opMGMT_MSG
      (comparePayload n (d.get (actF (RAD_CELL_ROLE n))) (d.get LTH_TICK_COUNT_COUNT) true []))) ∧
  -- R433, R487, R497
  (∀ d : Dev, let e := d.classBoundary
    e.get FPL_REPLAY_CLASS_DET_STRICT = d.get FPL_DET_CFG_DET_STRICT % 2 ∧
    (e.replayClass = d.replayClass → e.out = d.out ∧ e.get FPL_DET_CFG_CLASS_CHANGES = d.get FPL_DET_CFG_CLASS_CHANGES) ∧
    (e.replayClass ≠ d.replayClass → e.out.events = d.out.events ++ [⟨d.ns, srcFaceplate, .replayClass, [e.replayClass]⟩])) ∧
  (∀ d : Dev,
    (d.is PRT_CTRL_EN = true → d.leaseOver = false → (d.avsBoundary.pins.avs0 : Int) = max 0 (700 + signedOf 1 (d.get PRT_VCORE_OFS0)) ∧
      (d.avsBoundary.pins.avs1 : Int) = max 0 (700 + signedOf 1 (d.get PRT_VCORE_OFS1))) ∧
    (d.is PRT_CTRL_EN = false ∨ d.leaseOver = true → d.avsBoundary.pins.avs0 = 700 ∧ d.avsBoundary.pins.avs1 = 700) ∧
    ∀ f : Fld, d.avsBoundary.get f = d.get f)

/-- R81-R83. That the error of the last boundary against the edge shows when the edge comes is log 41; a row whose condition does not hold leaves
the state as it was (log 3); LOSS_EDGES 0 is stored as 1. -/
def Obligations.FollowersTrackTheEdge : Prop :=
  (∀ (s : State) (a : Agent) (v : Nat), s.serving → s.d.asks a .bar0 0x40020 → ∃ s', exec (.registerWrite a .bar0 0x40020 4 v) s = .next s' ∧
    s'.mem = s.mem ∧ s'.d.get LTH_SYNC_CFG_LOSS_EDGES = max 1 (v / 2 ^ 16 % 2 ^ 4)) ∧
  ∀ s : State, s.serving →
    (s.d.get LTH_TICK_CFG_SYNC_MODE ≠ 2 → exec .spindleSyncEdge s = .next s) ∧
    (s.d.get LTH_TICK_CFG_SYNC_MODE = 2 → ∃ s', exec .spindleSyncEdge s = .next s' ∧ s'.mem = s.mem ∧
      s'.d.lathe.edgeT = some (s.d.T : Int) ∧ s'.d.lathe.missed = 0 ∧ s'.d.lathe.seen = true ∧ s'.d.get LTH_STATUS_SYNC_LOST ≠ 1 ∧
      (s.d.get LTH_STATUS_SYNC_LOST = 1 → s'.d.get LTH_SYNC_STATUS_STRETCHED = 0) ∧
      (let e := foldPhase (s.d.lathe.boundaryT - s.d.T - s.d.get LTH_SYNC_CFG_DELAY) s.d.tickNs
       (s.d.lathe.ticks ≠ 0 → s'.d.get LTH_STATUS_LOCKED = (if e.natAbs ≤ 20 then 1 else 0) ∧
         s'.d.get LTH_SYNC_STATUS_PHASE_ERR = encInt 16 (max (-32767) (min 32767 e))) ∧
       (s.d.lathe.ticks = 0 → s'.d.get LTH_STATUS_LOCKED = s.d.get LTH_STATUS_LOCKED ∧
         s'.d.get LTH_SYNC_STATUS_PHASE_ERR = s.d.get LTH_SYNC_STATUS_PHASE_ERR)) ∧
      ∀ f : Fld, (∀ g ∈ [LTH_STATUS_SYNC_LOST, LTH_SYNC_STATUS_STRETCHED, LTH_STATUS_LOCKED, LTH_SYNC_STATUS_PHASE_ERR], Fld.key f ≠ Fld.key g) →
        s'.d.get f = s.d.get f) ∧
    (s.d.get LTH_TICK_CFG_SYNC_MODE = 2 → s.d.get LTH_STATUS_SYNC_LOST ≠ 1 → s.d.get LTH_SYNC_CFG_LOSS_EDGES ≤ s.d.lathe.missed →
      ∃ s', exec .syncLoss s = .next s' ∧ s'.mem = s.mem ∧ s'.d.get LTH_STATUS_SYNC_LOST = 1 ∧
        s'.d.out.events = s.d.out.events ++ [⟨s.d.ns, srcLathe, .syncLost, []⟩] ∧
        ∀ f : Fld, Fld.key f ≠ Fld.key LTH_STATUS_SYNC_LOST → s'.d.get f = s.d.get f) ∧
    (s.d.get LTH_TICK_CFG_SYNC_MODE ≠ 2 ∨ s.d.get LTH_STATUS_SYNC_LOST = 1 ∨ s.d.lathe.missed < s.d.get LTH_SYNC_CFG_LOSS_EDGES →
      exec .syncLoss s = .next s)

/-- R49-R51, R62. That the record of a radio item goes to instance 0 is log 120. -/
def Obligations.ItemSubmission : Prop :=
  ∀ (s : State) (src : Submitter) (w0 w1 w2 w3 : W64), s.serving →
    let ws := [w0, w1, w2, w3]
    let c := wfld ws ITEM_CONTEXT
    let inst := match src with | .host i => i | _ => s.d.ctxInst c
    ((∀ e, src ≠ .radio e) →
      (s.d.itemBad src ws = false → wfld ws ITEM_CYCLE_BOUND ≤ s.d.inferCycles (s.d.get (LTH_CTX_TILE c)) →
        ∃ s' it, exec (.itemSubmit src w0 w1 w2 w3) s = .next s' ∧ s'.d.lathe.pend = s.d.lathe.pend ++ [it] ∧ it.desc = ws ∧
          it.origin = submitterOrigin src ∧ it.inst = inst ∧ it.attempt = 0 ∧ it.cuts = 0 ∧ it.released = none ∧
          s'.d.regs = s.d.regs ∧ s'.d.tiles = s.d.tiles ∧ s'.d.chucks = s.d.chucks ∧ s'.mem = s.mem) ∧
      ((s.d.itemBad src ws = true ∨ s.d.inferCycles (s.d.get (LTH_CTX_TILE c)) < wfld ws ITEM_CYCLE_BOUND) →
        ∃ d' it, exec (.itemSubmit src w0 w1 w2 w3) s = .next (finish s (settle s.mem (itemFinal s.mem d' it srcLathe stREFUSED_STATE 0))) ∧
          it.desc = ws ∧ d'.lathe.pend = s.d.lathe.pend)) ∧
    (∀ e, src = .radio e → reservedSet ws ITEM_USED = false → wfld ws ITEM_RADIO = 1 → s.d.is (actF (LTH_RADIO_TILE_VALID e)) = true →
      wfld ws ITEM_CYCLE_BOUND + wfld ws ITEM_RELEASE + 96 ≤ wfld ws ITEM_DEADLINE →
      let t := s.d.get (actF (LTH_RADIO_TILE_TILE e))
      ∃ s', exec (.itemSubmit src w0 w1 w2 w3) s = .next s' ∧ s'.mem = s.mem ∧ s'.d.regs = s.d.regs ∧
        (s'.d.tile t).radio = (s.d.tile t).radio ++ [({ kind := 5, desc := ws, release := wfld ws ITEM_RELEASE, deadline := wfld ws ITEM_DEADLINE, bound := wfld ws ITEM_CYCLE_BOUND, tag := some (wfld ws ITEM_TAG) } : RItem)]) ∧
    (∀ e, src = .radio e → (reservedSet ws ITEM_USED = true ∨ wfld ws ITEM_RADIO ≠ 1 ∨ s.d.is (actF (LTH_RADIO_TILE_VALID e)) = false ∨
        wfld ws ITEM_DEADLINE < wfld ws ITEM_CYCLE_BOUND + wfld ws ITEM_RELEASE + 96) →
      exec (.itemSubmit src w0 w1 w2 w3) s = .next (finish s (settle s.mem (radioPost s.mem s.d srcLathe stREFUSED_STATE 0 (some (wfld ws ITEM_TAG))))))

/-- R13, R57-R59. -/
def Obligations.ContextCommands : Prop :=
  ∀ (s : State) (a : Agent) (v : W64), s.serving →
    let c := v.toNat % 4096
    let tag := v.toNat / 65536 % 65536
    (s.d.asks a .bar0 0x40048 → s.d.lathe.cmdQ = [] → v.toNat < 2 ^ 32 →
      (s.d.loadRefused c = false → ∃ s', exec (.ctxLoad a v) s = .next s' ∧ s'.d.is (LTH_CTX_VALID c) = true ∧ s'.mem = s.mem ∧
        s'.d.lathe.results = s.d.lathe.results ++ [w64 (stOK + 2 ^ 8 + c * 2 ^ 12 + tag * 2 ^ 24 + 2 ^ 63)]) ∧
      (s.d.loadRefused c = true → ∃ s', exec (.ctxLoad a v) s = .next s' ∧
        s'.d.get (LTH_CTX_VALID c) = s.d.get (LTH_CTX_VALID c) ∧ s'.mem = s.mem ∧
        s'.d.lathe.results = s.d.lathe.results ++ [w64 (stREFUSED_STATE + 2 ^ 8 + c * 2 ^ 12 + tag * 2 ^ 24 + 2 ^ 63)]) ∧
      (s.d.is (LTH_CTX_VALID c) = true → (∀ e ∈ s.d.lathe.dropped, e.1 ≠ c) →
        (∃ s', exec (.ctxUnloadSave a v) s = .next s' ∧ s'.d.lathe.dropped = s.d.lathe.dropped ++ [(c, 0, false)] ∧
          s'.d.lathe.results = s.d.lathe.results ∧ s'.mem = s.mem) ∧
        (∃ s', exec (.ctxUnloadDiscard a v) s = .next s' ∧ s'.d.lathe.dropped = s.d.lathe.dropped ++ [(c, 1, false)] ∧
          s'.d.lathe.results = s.d.lathe.results ∧ s'.mem = s.mem))) ∧
    (∀ (c : Fin 4096) mode, s.d.lathe.cmdQ = [] →
      s.d.lathe.dropped.find? (fun e => e.1 == c.1 && e.2.2) = some (c.1, mode, true) → s.d.ctxBusy c = false →
      (∀ x ∈ s.d.lathe.swaps, x.ctx ≠ c.1) → (∀ x ∈ s.d.lathe.claims, x.ctx ≠ c.1) →
      ∃ d', exec (.ctxRemoval c) s = .next (finish s (settle s.mem d')) ∧ d'.get (LTH_CTX_VALID c) = 0 ∧
        (∀ e ∈ d'.lathe.dropped, e.1 ≠ c.1) ∧ ∀ i ∈ d'.lathe.pend, i.ctx ≠ c.1) ∧
    (∀ (c : Fin 4096) mode tag, mode < 2 → s.d.lathe.cmdQ = [(mode + 2, c.1, tag, false)] →
      s.d.lathe.dropped.find? (fun e => e.1 == c.1 && e.2.2) = some (c.1, mode, true) → s.d.ctxBusy c = false →
      (∀ x ∈ s.d.lathe.swaps, x.ctx ≠ c.1) → (∀ x ∈ s.d.lathe.claims, x.ctx ≠ c.1) → (mode = 0 → s.d.saveHomeOk c = true) →
      ∃ d', exec (.ctxRemoval c) s = .next (finish s (settle s.mem d')) ∧ d'.get (LTH_CTX_VALID c) = 0 ∧ d'.lathe.cmdQ = [] ∧
        d'.lathe.results = s.d.lathe.results ++ [w64 (stOK + (mode + 2) * 2 ^ 8 + c.1 * 2 ^ 12 + tag * 2 ^ 24 + 2 ^ 63)]) ∧
    (s.d.asks a .bar0 0x40050 → ∀ wide, ∃ s', exec (.lthCtxResultPop a wide) s = .next s' ∧
      s'.d.bus.rdata = (s.d.lathe.results.headD 0#64).toNat % (if wide then 2 ^ 64 else 2 ^ 32) ∧
      s'.d.lathe.results = s.d.lathe.results.drop 1 ∧ s'.d.regs = s.d.regs ∧ s'.mem = s.mem)

/-- R68-R70. That QUANTUM_EXPIRY has an effect only once QUANTUM ticks have been waited is log 46, that it else does nothing is log 3; QUANTUM 0 is
stored as 1. -/
def Obligations.SwapsOfContexts : Prop :=
  (∀ (s : State) (a : Agent) (v : Nat), s.serving → s.d.asks a .bar0 0x40030 → ∃ s', exec (.registerWrite a .bar0 0x40030 4 v) s = .next s' ∧
    s'.mem = s.mem ∧ s'.d.get LTH_SWAP_CFG_QUANTUM = max 1 (v % 2 ^ 12)) ∧
  ∀ (s : State) (c : Fin 4096) (ups : List Upset), s.serving →
    (let d := s.d.upsets ups
     ∀ x, d.lathe.swaps.find? (fun y => y.ctx == c.1 && !y.out) = some x → d.saveHomeOk c = true → x.tile < 320 → x.chuck < 4 →
      let r := readRange s.mem d (d.get (LTH_CTX_SAVE_HOME c)) (d.nbanks (x.tile * 4 + x.chuck) * 196608) .consumer
      r.2.1 ≠ .held →
      ∃ d', exec (.swapBringInDone c ups) s = .next (finish s (settle s.mem d')) ∧ d'.get (LTH_CTX_RESIDENT c) = 1 ∧
        d'.get (LTH_CTX_CHUCK c) = x.chuck ∧ (d'.chuck (x.tile * 4 + x.chuck)).resident = true ∧
        ∀ y ∈ d'.lathe.swaps, y.ctx ≠ c.1 ∨ y.out = true) ∧
    (∀ x, s.d.lathe.swaps.find? (fun y => y.ctx == c.1 && y.out) = some x →
      exec (.swapEvictionDone c) s =
        .next (finish s (settle s.mem (claimsReady s.mem (freeForRadio s.mem (evictDone s.mem s.d c)))))) ∧
    (s.d.get LTH_SWAP_CFG_QUANTUM ≤ sget s.d.lathe.waited c 0 → c.1 ∈ s.d.runnable → c.1 ∉ s.d.lathe.widened →
      exec (.quantumExpiry c) s =
        .next { s with d := { s.d with lathe := { s.d.lathe with widened := s.d.lathe.widened ++ [c.1] } } }) ∧
    (sget s.d.lathe.waited c 0 < s.d.get LTH_SWAP_CFG_QUANTUM ∨ c.1 ∉ s.d.runnable ∨ c.1 ∈ s.d.lathe.widened →
      exec (.quantumExpiry c) s = .next s)

/-- R43, R51, R64, R78, R79. A row whose item is not there does nothing (log 3); which coding items are there is log 91, and what becomes of a Gouge
item that has not started log 137. -/
def Obligations.RadioDeadlines : Prop :=
  ∀ (s : State) (t : Fin 320) (i n : Nat), s.serving →
    (∀ x, (s.d.tile t).radio[i]? = some x →
      (x.stage < 2 → exec (.radioDeadlineCut (.tile t i)) s =
        .next (finish s (settle s.mem ((radioPost s.mem s.d t stSLOT_MISS 0 x.tag).radioStage t i 4)))) ∧
      (x.stage = 2 → exec (.radioDeadlineCut (.tile t i)) s =
        .next (finish s (settle s.mem (((radioPost s.mem s.d t stSLOT_MISS 1 x.tag).radioStage t i 4).radioLeave t)))) ∧
      (2 < x.stage → exec (.radioDeadlineCut (.tile t i)) s = .next s)) ∧
    (∀ mod i k, (s.d.gcore n).item = some (mod, i, k) →
      exec (.radioDeadlineCut (.gouge n mod)) s = .next (finish s (settle s.mem (gougeCut s.mem s.d n))) ∧
      ((gougeCut s.mem s.d n).gcore n).item = none ∧ (gougeCut s.mem s.d n).missKnown n k mod = true) ∧
    (∀ mod, (∀ i k, (s.d.gcore n).item ≠ some (mod, i, k)) →
      let due := (s.d.gcore n).ran.contains mod = false ∧ (if mod then (s.d.gougeList n).1 else (s.d.gougeList n).2) = true ∧ s.d.gougeUp n = true
      (¬ due → exec (.radioDeadlineCut (.gouge n mod)) s = .next s) ∧
      (due → ∃ d', exec (.radioDeadlineCut (.gouge n mod)) s = .next (finish s (settle s.mem d')) ∧
        d'.missKnown n (s.d.gougeInterval mod) mod = true ∧ (d'.gcore n).ran = (s.d.gcore n).ran ++ [mod])) ∧
    (∀ r dl, sfind s.d.rad.cells n = some r → s.d.codingRan n dl = false →
      let c := s.d.cellCfg true n
      let due := if dl then r.first < s.d.tick ∧ c.role = 0 ∧ 0 < c.tx ∧ s.d.codingOpen n true = true
        else r.first + 3 ≤ s.d.tick ∧ ∃ x ∈ c.plan, x.ul = true
      (¬ due → exec (.radioDeadlineCut (.coding n dl)) s = .next s) ∧
      (due → ∃ d', exec (.radioDeadlineCut (.coding n dl)) s = .next (finish s (settle s.mem d')) ∧ d'.codingRan n dl = true ∧
        d'.missKnown n (if dl then s.d.tick + 4 else s.d.tick - 3) dl = true ∧
        (dl = false → ∀ x ∈ sget d'.rad.segs n [], s.d.tick - 3 < x.1)))

/-- R12, R13, R15, on the registers whose writes do nothing else: those of the cube array (R10); R475. -/
def Obligations.RegisterAccessTypes : Prop :=
  (∀ (s : State) (off : Nat), s.d.inReset = false →
    exec (.i3cRead32 off) s = .next (finish s (settle s.mem (busRead s.d .i3c .bar0 off 4))) ∧
    exec (.i3cRead64 off) s = .next (finish s (settle s.mem (busRead s.d .i3c .bar0 off 8))) ∧
    (∀ v : W32, exec (.i3cWrite32 off v) s = .next (finish s (settle s.mem (busWrite s.mem s.d .i3c .bar0 off 4 v.toNat)))) ∧
    ∀ v : W64, exec (.i3cWrite64 off v) s = .next (finish s (settle s.mem (busWrite s.mem s.d .i3c .bar0 off 8 v.toNat)))) ∧
  ∀ (s : State) (a : Agent) (off v : Nat) (r : RegRow) (addr : Nat), s.serving → s.d.asks a .bar0 off → off % rowBytes r = 0 →
    s.d.hit a .bar0 off = .reg r addr false → 0x80000 ≤ r.base → r.base < 0x100000 →
    let others (s' : State) : Prop := s'.mem = s.mem ∧
      ∀ g : Fld, (∀ f ∈ r.fields, Fld.key g ≠ Fld.key (fldOf r addr f)) → s'.d.get g = s.d.get g
    let cleared (s' : State) : Prop := ∀ f ∈ r.fields, s'.d.get (fldOf r addr f) = if f.acc = .rc then 0 else s.d.get (fldOf r addr f)
    (r.is64 = false → ∃ s', exec (.registerWrite a .bar0 off 4 v) s = .next s' ∧ others s' ∧
      ∀ f ∈ r.fields, s'.d.get (fldOf r addr f) =
        match f.acc with
        | .rw => v % 2 ^ 32 / 2 ^ f.lo % 2 ^ f.width
        | .w1c => s.d.get (fldOf r addr f) &&& ((2 ^ f.width - 1) ^^^ (v % 2 ^ 32 / 2 ^ f.lo % 2 ^ f.width))
        | _ => s.d.get (fldOf r addr f)) ∧
    (∃ s', exec (.registerReadClear a .bar0 off (rowBytes r)) s = .next s' ∧ s'.d.bus.rdata = regValue s.d r addr ∧ cleared s' ∧ others s') ∧
    (r.is64 = true → s.d.hit a .bar0 (off + 4) = .reg r addr false →
      ∃ s1 s2, exec (.registerReadClear a .bar0 off 4) s = .next s1 ∧ s1.d.bus.rdata = regValue s.d r addr % 2 ^ 32 ∧ cleared s1 ∧ others s1 ∧
        exec (.registerReadClear a .bar0 (off + 4) 4) s1 = .next s2 ∧ s2.d.bus.rdata = regValue s.d r addr / 2 ^ 32 ∧ others s2)

/-- R448. -/
def Obligations.VfSequenceView : Prop :=
  ∀ (s : State) (n off len v : Nat), s.serving → s.d.vfLive n = true →
    (∀ k o, off = 64 * k + o → o % 8 = 0 → o < 64 → k < s.d.get (VIR_INST_SEQ_SEQ_COUNT n) → off < 0x400000 →
      s.d.get (VIR_INST_SEQ_SEQ_BASE n) + k < 65536 →
      ∃ s1 s2, exec (.registerReadClear (.vf n) .bar2 off 8) s = .next s1 ∧
        exec (.registerReadClear .pf .bar2 (0x2000000 + 64 * (s.d.get (VIR_INST_SEQ_SEQ_BASE n) + k) + o) 8) s = .next s2 ∧
        s1.d.bus.rdata = s2.d.bus.rdata ∧ s1.mem = s.mem ∧ ∀ f : Fld, s1.d.get f = s.d.get f) ∧
    (64 * s.d.get (VIR_INST_SEQ_SEQ_COUNT n) ≤ off ∨ 0x400000 ≤ off → (len = 4 ∨ len = 8) → off % len = 0 →
      ∃ s', exec (.registerReadClear (.vf n) .bar2 off len) s = .next s' ∧ s'.d.bus.rdata = 0 ∧ s'.mem = s.mem ∧ ∀ f : Fld, s'.d.get f = s.d.get f) ∧
    exec (.registerWrite (.vf n) .bar2 off len v) s = .next s

/-- R452. A row of another kind than the entry fetched does nothing (log 3); a set reserved word of an ITEM entry is a reserved bit (log 59). -/
def Obligations.SubmissionQueues : Prop :=
  (∀ (s : State) (a : Agent) (i : Nat) (v : W32), s.serving → s.d.pages a i → s.d.resetting i = false →
    ∃ s', exec (.sqDoorbell a v) s = .next s' ∧ s'.mem = s.mem ∧
      (s.d.get (SQ_CFG_EN i) = 1 ∧ ringUsed v.toNat (s.d.get (SQ_CONS_V i)) ≤ 2 ^ s.d.get (SQ_CFG_ORDER i) →
        s'.d.get (SQ_PROD_V i) = v.toNat ∧ s'.d.get (INST_STATUS_SQ_BAD i) = s.d.get (INST_STATUS_SQ_BAD i)) ∧
      (¬ (s.d.get (SQ_CFG_EN i) = 1 ∧ ringUsed v.toNat (s.d.get (SQ_CONS_V i)) ≤ 2 ^ s.d.get (SQ_CFG_ORDER i)) →
        s'.d.get (SQ_PROD_V i) = s.d.get (SQ_PROD_V i) ∧ s'.d.get (INST_STATUS_SQ_BAD i) = 1) ∧
      ∀ f : Fld, Fld.key f ≠ Fld.key (SQ_PROD_V i) → Fld.key f ≠ Fld.key (INST_STATUS_SQ_BAD i) → s'.d.get f = s.d.get f) ∧
  (∀ (s : State) (i : Fin 128) (d' : Dev) (ws : Words), s.serving → sqFetch s.mem s.d i = (d', some ws) →
    d'.get (SQ_CONS_V i) = (s.d.get (SQ_CONS_V i) + 1) % 2 ^ 32 ∧
    (sqKind ws ≠ 1 → exec (.sqRequest i) s = .next s) ∧ (sqKind ws ≠ 2 → exec (.sqItem i) s = .next s) ∧
    (sqKind ws = 1 ∨ sqKind ws = 2 → exec (.sqBadKind i) s = .next s) ∧
    (sqKind ws = 1 → exec (.sqRequest i) s = .next (finish s (settle s.mem (seqSubmit s.mem d' i ws)))) ∧
    (sqKind ws = 2 → (ws.take 4).map BitVec.toNat = [2, 0, 0, 0] →
      exec (.sqItem i) s = .next (finish s (settle s.mem (itemSubmitOp s.mem d' (.host i) (ws.drop 4))))) ∧
    (sqKind ws ≠ 1 → sqKind ws ≠ 2 →
      exec (.sqBadKind i) s = .next (finish s (settle s.mem (seqAnswer s.mem d' i (reqSeq ws) stREFUSED_STATE rkREFUSED (reqFld ws (SEQ_TAG 0))))))) ∧
  (∀ (s : State) (i : Fin 128) (d' : Dev), s.serving → sqFetch s.mem s.d i = (d', none) →
    ∀ e ∈ [Instr.sqRequest i, Instr.sqItem i, Instr.sqBadKind i], exec e s = .next (finish s (settle s.mem d')))

/-- R206, R207, R210. -/
def Obligations.AcceptedSubmission : Prop :=
  ∀ (m : Mem) (d : Dev) (i : Fin 128) (ws : Words),
    let q := reqSeq ws
    let rf (f : Nat → Fld) : Nat := reqFld ws (f 0)
    (d.reqRefused i ws = true → seqSubmit m d i ws = seqAnswer m d i q stREFUSED_STATE rkREFUSED (rf SEQ_TAG)) ∧
    (d.reqRefused i ws = false → ∃ e, seqSubmit m d i ws = seqPost m e q stOK rkACCEPT 0 0 0 ∧
      e.get (SEQ_STATE q) = sqQUEUED ∧ e.get (SEQ_SGEN q) = (d.get (SEQ_SGEN q) + 1) % 256 ∧ e.get (SEQ_INSTANCE q) = i ∧
      e.get (SEQ_STATUS q) = stOK ∧ e.get (SEQ_STEP_CNT q) = 0 ∧ e.get (SEQ_CTX_LEN q) = 0 ∧ e.get (SEQ_PAGES q) = 0 ∧ e.get (SEQ_FAILS q) = 0 ∧
      (∀ f ∈ [SEQ_QUEUE, SEQ_PRIORITY, SEQ_MAX_NEW, SEQ_PROMPT_LEN, SEQ_TAG], e.get (f q) = rf f) ∧
      (rf SEQ_ADAPTER_EN = 1 → e.get (SRV_ADAPTER_REFS (rf SEQ_ADAPTER)) = min 65535 (d.get (SRV_ADAPTER_REFS (rf SEQ_ADAPTER)) + 1)) ∧
      ∀ g : Fld, (∀ w < 8, Fld.key g / 64 ≠ 0x12000000 + 64 * q + 8 * w) → (∀ n, Fld.key g ≠ Fld.key (SRV_ADAPTER_REFS n)) → e.get g = d.get g)

/-- R214. -/
def Obligations.MismatchedTokensAreDropped : Prop :=
  ∀ (s : State) (w0 w1 : W64), s.serving → s.d.recordArrives w0 w1 →
    let q := wfld [w0, w1] NTF_SEQ
    let fits := s.d.get (SEQ_STATE q) = sqACTIVE ∧ wfld [w0, w1] NTF_SGEN = s.d.get (SEQ_SGEN q) ∧ wfld [w0, w1] NTF_STEP_CNT = s.d.get (SEQ_STEP_CNT q)
    (¬ fits → ∃ s', exec (.tokenNotification w0 w1) s = .next s' ∧
      s'.d.get SRV_STATUS_NOTIFY_DROP = min 65535 (s.d.get SRV_STATUS_NOTIFY_DROP + 1) ∧ s'.mem = s.mem ∧ s'.d.srv.steps = s.d.srv.steps ∧
      ∀ f : Fld, Fld.key f ≠ Fld.key SRV_STATUS_NOTIFY_DROP → s'.d.get f = s.d.get f) ∧
    (fits → s.d.cqReady (s.d.get (SEQ_INSTANCE q)) 2 → sget s.d.srv.gens q (s.d.igen (s.d.get (SEQ_INSTANCE q))) = s.d.igen (s.d.get (SEQ_INSTANCE q)) →
      ∃ s', exec (.tokenNotification w0 w1) s = .next s' ∧ s'.d.get (SEQ_STATE q) ≠ sqACTIVE)

/-- R211, with the records and states of R210 and the advances of R224. -/
def Obligations.TokenEndsItsSequence : Prop :=
  ∀ (s : State) (w0 w1 : W64), s.serving → s.d.recordArrives w0 w1 →
    let q := wfld [w0, w1] NTF_SEQ
    let i := s.d.get (SEQ_INSTANCE q)
    s.d.get (SEQ_STATE q) = sqACTIVE → wfld [w0, w1] NTF_SGEN = s.d.get (SEQ_SGEN q) → wfld [w0, w1] NTF_STEP_CNT = s.d.get (SEQ_STEP_CNT q) →
    s.d.get (SEQ_ABORT_REQ q) ≠ 1 → s.d.cqReady i 2 → sget s.d.srv.gens q (s.d.igen i) = s.d.igen i →
    let steps := (s.d.get (SEQ_STEP_CNT q) + 1) % 2 ^ 20
    let prefill := match s.d.rowOf q with | some r => r.prefill | none => false
    let len := (s.d.get (SEQ_CTX_LEN q) + if prefill then s.d.get (SEQ_PROMPT_LEN q) else 1) % 2 ^ 32
    let ends : Option Nat :=
      if s.d.get (SEQ_STOP_EN q) = 1 ∧ wfld [w0, w1] NTF_TOKEN = s.d.get (SEQ_STOP_TOKEN q) then some 0x10
      else if s.d.get (SEQ_MAX_NEW q) ≤ steps then some 0x11
      else if max 1 (s.d.get (SRV_PROF_LIMIT_MAX_CTX (s.d.get (SEQ_PROFILE q)))) ≤ len + 1 then some 0x12
      else none
    ∃ s', exec (.tokenNotification w0 w1) s = .next s' ∧ s'.d.get (SEQ_STEP_CNT q) = steps ∧ s'.d.get (SEQ_CTX_LEN q) = len ∧
      (match ends with
        | some why => s'.d.get (SEQ_STATE q) = sqLEAVING ∧ s'.d.get (SEQ_REASON q) = why ∧
            s'.d.get (CQ_PROD_V i) = (s.d.get (CQ_PROD_V i) + 2) % 2 ^ 32
        | none => s'.d.get (SEQ_STATE q) = sqRUNNING ∧ s'.d.get (SEQ_REASON q) = s.d.get (SEQ_REASON q) ∧
            s'.d.get (CQ_PROD_V i) = (s.d.get (CQ_PROD_V i) + 1) % 2 ^ 32) ∧
      ∀ f : Fld, (∀ g ∈ [SEQ_STEP_CNT q, SEQ_CTX_LEN q, SEQ_STATE q, SEQ_STATUS q, SEQ_REASON q, SEQ_ABORT_REQ q, CQ_PROD_V i],
        Fld.key f ≠ Fld.key g) → (∀ x, Fld.key f ≠ Fld.key (TMAP_HEAT x)) → s'.d.get f = s.d.get f

/-- R210, R213, and the status that the ABORT_RESULT record carries. -/
def Obligations.AbortsFollowTheTable : Prop :=
  (∀ (m : Mem) (d : Dev) (q g i reason : Nat) (owns : Bool),
    let answer (st : Nat) : Dev := seqAnswer m d i q st rkABORT_RESULT (d.get (SEQ_TAG q))
    (owns = false → seqAbort m d q g i owns reason = answer stREFUSED_STATE) ∧
    (owns = true → g ≠ d.get (SEQ_SGEN q) → seqAbort m d q g i owns reason = answer stSTALE_GENERATION) ∧
    (owns = true → g = d.get (SEQ_SGEN q) → d.get (SEQ_STATE q) = sqFREE ∨ d.get (SEQ_STATE q) = sqLEAVING →
      seqAbort m d q g i owns reason = answer stALREADY_DONE) ∧
    (owns = true → g = d.get (SEQ_SGEN q) → d.get (SEQ_STATE q) = sqACTIVE → d.get (SEQ_ABORT_REQ q) = 1 →
      seqAbort m d q g i owns reason = answer stABORTED)) ∧
  ∀ (s : State) (a : Agent) (v : W64), s.serving → s.d.asks a .bar0 0x100040 → v.toNat < 2 ^ 24 →
    let q := v.toNat % 65536
    let st := s.d.get (SEQ_STATE q)
    let i := s.d.get (SEQ_INSTANCE q)
    s.d.cqReady i 2 → sget s.d.srv.gens q (s.d.igen i) = s.d.igen i → s.d.get (SEQ_ADAPTER q) < 4096 →
    ∃ s', exec (.srvAbort a v) s = .next s' ∧
      (v.toNat / 65536 ≠ s.d.get (SEQ_SGEN q) ∨ st = sqFREE ∨ st = sqLEAVING →
        s'.d.get (CQ_PROD_V i) = (s.d.get (CQ_PROD_V i) + 1) % 2 ^ 32 ∧ ∀ f : Fld, (∀ x, Fld.key f ≠ Fld.key (TMAP_HEAT x)) →
        Fld.key f ≠ Fld.key (CQ_PROD_V i) → s'.d.get f = s.d.get f) ∧
      (v.toNat / 65536 = s.d.get (SEQ_SGEN q) →
        (st = sqACTIVE → s'.d.get (SEQ_STATE q) = sqACTIVE ∧ s'.d.get (SEQ_ABORT_REQ q) = 1 ∧
          s'.d.get (CQ_PROD_V i) = (s.d.get (CQ_PROD_V i) + 1) % 2 ^ 32) ∧
        (st = sqQUEUED ∨ st = sqPENDING ∧ s.d.get (SEQ_PAGES q) = 0 → s'.d.get (SEQ_STATE q) = sqFREE) ∧
        (st = sqRUNNING ∨ st = sqPAUSED ∨ st = sqPENDING ∧ s.d.get (SEQ_PAGES q) ≠ 0 → s'.d.get (SEQ_STATE q) = sqLEAVING) ∧
        (st = sqQUEUED ∨ st = sqPENDING ∨ st = sqRUNNING ∨ st = sqPAUSED →
          s'.d.get (SEQ_STATUS q) = stABORTED ∧ s'.d.get (SEQ_REASON q) = rsABORT_CMD ∧
          s'.d.get (CQ_PROD_V i) = (s.d.get (CQ_PROD_V i) + 2) % 2 ^ 32)) ∧
      ∀ f : Fld, (∀ w < 8, Fld.key f / 64 ≠ 0x12000000 + 64 * q + 8 * w) → (∀ n, Fld.key f ≠ Fld.key (SRV_ADAPTER_REFS n)) →
        (∀ x, Fld.key f ≠ Fld.key (TMAP_HEAT x)) → Fld.key f ≠ Fld.key (CQ_PROD_V i) → s'.d.get f = s.d.get f

/-- R212; the replica groups of the profile count the step (R419). A record waits behind its tile's earlier ones (R31): which record a row carries, and
that it does nothing before its turn, is log 57. That a row without a token in a step that ended OK counts as failed is log 55. -/
def Obligations.StepEndAndFailedRows : Prop :=
  (∀ (s : State) (w0 w1 : W64), s.serving → ¬ s.d.recordArrives w0 w1 → exec (.tokenNotification w0 w1) s = .next s) ∧
  (∀ (s : State) (p : Fin 16), s.serving → s.d.srv.steps.any (fun x => x.prof == p.1 && x.left == 0) = true →
    exec (.stepEnd p) s = .next (finish s (settle s.mem ((stepEndOp s.mem s.d p).replicaStep p))) ∧
    ∀ x ∈ (stepEndOp s.mem s.d p).srv.steps, x.prof ≠ p.1) ∧
  (∀ (m : Mem) (d : Dev) (r : SRow), r.token = false → d.get (SEQ_STATE r.seq) = sqACTIVE → d.get (SEQ_SGEN r.seq) = r.sgen →
    d.get (SEQ_ABORT_REQ r.seq) ≠ 1 → d.get (SEQ_FAILS r.seq) < 2 →
    (rowFailed m d r).get (SEQ_FAILS r.seq) = d.get (SEQ_FAILS r.seq) + 1 ∧
    (rowFailed m d r).get (SEQ_STATE r.seq) = (if r.prefill then sqPENDING else sqRUNNING) ∧
    ∀ f : Fld, Fld.key f ≠ Fld.key (SEQ_FAILS r.seq) → Fld.key f ≠ Fld.key (SEQ_STATE r.seq) → (rowFailed m d r).get f = d.get f)

/-- R217, R218. That the effect of a cleared EN comes with TICK_BOUNDARY, and SRV_DISABLE_EFFECT acts at that instant alone, is log 146. -/
def Obligations.ServingControl : Prop :=
  ∀ (s : State) (a : Agent) (v : W32), s.serving →
    let ok := s.d.srvMemoryOk && (List.range 16).all (fun p => !s.d.is (SRV_PROF_CFG_VALID p) || s.d.stepBufOk p)
    (s.d.asks a .bar0 0x100000 →
      (v.toNat % 2 = 1 → s.d.get SRV_CTRL_EN ≠ 1 → ok = false → ∃ s', exec (.srvCtrlWrite a v) s = .next s' ∧
        s'.d.get SRV_STATUS_CFG_REFUSED = 1 ∧ s'.mem = s.mem ∧ ∀ f : Fld, Fld.key f ≠ Fld.key SRV_STATUS_CFG_REFUSED → s'.d.get f = s.d.get f) ∧
      (v.toNat % 2 = 1 → s.d.get SRV_CTRL_EN ≠ 1 → ok = true →
        ∃ d', exec (.srvCtrlWrite a v) s = .next (finish s (settle s.mem d')) ∧ d'.get SRV_CTRL_EN = 1 ∧ d'.get SRV_STATUS_RUNNING = 1 ∧
          d'.get SRV_CTRL_ADMIT_EN = v.toNat / 2 % 2 ∧
          (s.d.pagedSeqs = [] → d'.get SRV_KV_FREE_FREE = s.d.get SRV_KV_CFG_TOTAL % 2 ^ 25)) ∧
      (v.toNat % 2 = 0 → s.d.get SRV_CTRL_EN = 1 → ∃ s', exec (.srvCtrlWrite a v) s = .next s' ∧ s'.d.get SRV_CTRL_EN = 0 ∧
        s'.d.get SRV_CTRL_ADMIT_EN = v.toNat / 2 % 2 ∧ s'.d.get SRV_STATUS_RUNNING = s.d.get SRV_STATUS_RUNNING ∧
        s'.d.srv = { s.d.srv with disable := true } ∧ s'.mem = s.mem)) ∧
    (s.d.srv.disable = true → s.d.srv.steps = [] →
      (servingBoundary s.mem s.d).get SRV_STATUS_RUNNING = 0 ∧ (servingBoundary s.mem s.d).srv.steps = []) ∧
    let now := s.d.lathe.ticks ≠ 0 ∧ (s.d.T : Int) = s.d.lathe.boundaryT
    (s.d.srv.disable = true → s.d.srv.steps = [] → now → ∃ s', exec .srvDisableEffect s = .next s' ∧ s'.d.get SRV_STATUS_RUNNING = 0 ∧
      s'.d.srv = { s.d.srv with disable := false } ∧ s'.mem = s.mem ∧
      ∀ f : Fld, Fld.key f ≠ Fld.key SRV_STATUS_RUNNING → s'.d.get f = s.d.get f) ∧
    (s.d.srv.disable = false ∨ s.d.srv.steps ≠ [] ∨ ¬ now → exec .srvDisableEffect s = .next s)

/-- R200, R217, R220. A reserved A_FMT or B_FMT leaves that field (R14, log 9). -/
def Obligations.QueuesAdaptersProfiles : Prop :=
  ∀ (s : State) (a : Agent), s.serving →
    (∀ (q : Fin 15360) (reg : QReg) (v : W32), s.d.asks a .bar0 (queueOff q reg) →
      (reg = .burst → ∀ e ∈ s.d.queueOf (1024 + q.1), s.d.cost e ≤ v.toNat % 2 ^ 24) →
      ∃ s', exec (.srvQConfigWrite a q reg v) s = .next s' ∧ s'.mem = s.mem ∧
        s'.d.get (SRV_Q_CREDIT_CREDIT (1024 + q)) =
          (if s'.d.get (SRV_Q_CTRL_RESET_FULL (1024 + q)) = 1 then s'.d.get (SRV_Q_BURST_BURST (1024 + q)) * 256 % 2 ^ 32 else 0) ∧
        (match reg with
          | .ctrl => s'.d.get (SRV_Q_CTRL_WEIGHT (1024 + q)) = v.toNat / 65536 ∧ s'.d.get (SRV_Q_CTRL_VALID (1024 + q)) = v.toNat / 128 % 2
          | .rate => s'.d.get (SRV_Q_RATE_RATE (1024 + q)) = v.toNat % 2 ^ 24
          | .burst => s'.d.get (SRV_Q_BURST_BURST (1024 + q)) = v.toNat % 2 ^ 24) ∧
        s'.d.srv = s.d.srv ∧ ∀ f : Fld, (∀ k < 4, Fld.key f / 64 ≠ 0x110000 + 16 * (1024 + q) + 4 * k) → s'.d.get f = s.d.get f) ∧
    (∀ (n : Fin 4096) (w : Fin 4) (v : W64), s.d.asks a .bar0 (0x150000 + 32 * n + 8 * w) →
      (s.d.get (SRV_ADAPTER_REFS n) ≠ 0 → ∃ s', exec (.srvAdapterWrite a n w v) s = .next s' ∧ s'.d.get SRV_STATUS_ADAPTER_BUSY = 1 ∧ s'.mem = s.mem ∧
        ∀ f : Fld, Fld.key f ≠ Fld.key SRV_STATUS_ADAPTER_BUSY → s'.d.get f = s.d.get f) ∧
      (s.d.get (SRV_ADAPTER_REFS n) = 0 → ∃ s', exec (.srvAdapterWrite a n w v) s = .next s' ∧ s'.mem = s.mem ∧ s'.d.get (SRV_ADAPTER_REFS n) = 0 ∧
        (w.1 = 0 → s.d.get (SRV_ADAPTER_A_FMT n) < 16 → s.d.get (SRV_ADAPTER_B_FMT n) < 16 → s'.d.get (SRV_ADAPTER_VALID n) = v.toNat / 2 ^ 63 ∧ s'.d.get (SRV_ADAPTER_INSTANCE n) = v.toNat / 2 ^ 56 % 128 ∧
          s'.d.get (SRV_ADAPTER_RANK n) = v.toNat / 2 ^ 49 % 128 ∧ s'.d.get (SRV_ADAPTER_A_BASE n) = v.toNat % 2 ^ 41 ∧
          s'.d.get (SRV_ADAPTER_A_FMT n) = (if v.toNat / 2 ^ 41 % 16 ≤ 0xA then v.toNat / 2 ^ 41 % 16 else s.d.get (SRV_ADAPTER_A_FMT n)) ∧
          s'.d.get (SRV_ADAPTER_B_FMT n) = if v.toNat / 2 ^ 45 % 16 ≤ 0xA then v.toNat / 2 ^ 45 % 16 else s.d.get (SRV_ADAPTER_B_FMT n)) ∧
        (s.d.get SRV_STATUS_ADAPTER_BUSY ≤ 1 → ∀ f : Fld, Fld.key f / 64 ≠ 0x150000 + 32 * n + 8 * w → s'.d.get f = s.d.get f) ∧
        (w.1 = 1 → s'.d.get (SRV_ADAPTER_B_BASE n) = v.toNat % 2 ^ 41) ∧
        (w.1 = 2 → s'.d.get (SRV_ADAPTER_A_LSTRIDE n) = v.toNat % 2 ^ 32 ∧ s'.d.get (SRV_ADAPTER_B_LSTRIDE n) = v.toNat / 2 ^ 32) ∧
        (w.1 = 3 → s'.d.get (SRV_ADAPTER_OBJECT n) = v.toNat % 65536))) ∧
    (∀ (p : Fin 16) (v : Nat), s.d.asks a .bar0 (0x100100 + 32 * p) →
      (s.d.get (SRV_PROF_CFG_VALID p) = 1 → (∃ q ∈ s.d.liveSeqs, s.d.get (SEQ_PROFILE q) = p) →
        ∃ s', exec (.srvProfWrite a (32 * p) 4 v) s = .next s' ∧ s'.d.get SRV_STATUS_CFG_REFUSED = 1 ∧ s'.mem = s.mem ∧
          ∀ f : Fld, Fld.key f ≠ Fld.key SRV_STATUS_CFG_REFUSED → s'.d.get f = s.d.get f) ∧
      (s.d.get (SRV_PROF_CFG_VALID p) ≠ 1 → (s.d.get SRV_CTRL_EN ≠ 1 ∨ s.d.stepBufOk p = true) →
        ∃ s', exec (.srvProfWrite a (32 * p) 4 v) s = .next s' ∧ s'.mem = s.mem ∧ s'.d.get (SRV_PROF_CFG_TPB p) = v % 2 ^ 9 ∧
          s'.d.get (SRV_PROF_CFG_PPB p) = v / 2 ^ 9 % 2 ^ 8 ∧ s'.d.get (SRV_PROF_CFG_VALID p) = v / 2 ^ 17 % 2)) ∧
    (∀ (p : Fin 16) (k : Nat) (v : W64), (k = 8 ∨ k = 16 ∨ k = 24) → s.d.asks a .bar0 (0x100100 + 32 * p + k) →
      (s.d.get (SRV_PROF_CFG_VALID p) = 1 → (∃ q ∈ s.d.liveSeqs, s.d.get (SEQ_PROFILE q) = p) →
        ∃ s', exec (.srvProfWrite a (32 * p + k) 8 v.toNat) s = .next s' ∧ s'.d.get SRV_STATUS_CFG_REFUSED = 1 ∧ s'.mem = s.mem ∧
          ∀ f : Fld, Fld.key f ≠ Fld.key SRV_STATUS_CFG_REFUSED → s'.d.get f = s.d.get f) ∧
      (s.d.get (SRV_PROF_CFG_VALID p) ≠ 1 → ∃ s', exec (.srvProfWrite a (32 * p + k) 8 v.toNat) s = .next s' ∧ s'.mem = s.mem ∧
        (k = 8 → s'.d.get (SRV_PROF_LIMIT_PREFILL_TOKENS p) = v.toNat % 2 ^ 20 ∧ s'.d.get (SRV_PROF_LIMIT_MAX_CTX p) = v.toNat / 2 ^ 32 % 2 ^ 20) ∧
        (k = 16 → s'.d.get (SRV_PROF_CHAIN_BASE p) = v.toNat % 2 ^ 41 ∧ s'.d.get (SRV_PROF_CHAIN_COUNT p) = v.toNat / 2 ^ 41 % 2 ^ 15) ∧
        (k = 24 → s'.d.get (SRV_PROF_STEPBUF_BASE p) = v.toNat % 2 ^ 41) ∧
        (s.d.get SRV_STATUS_CFG_REFUSED ≤ 1 → ∀ f : Fld, Fld.key f / 64 ≠ 0x100100 + 32 * p + k → s'.d.get f = s.d.get f)))

/-- R236-R238, R14. -/
def Obligations.ObjectCommands : Prop :=
  ∀ (s : State) (a : Agent) (w0 w1 w2 : W64) (ok : Bool), s.serving → s.d.asks a .bar0 0x180020 → s.d.mem.queue = [] → s.d.mem.running = none →
    let words (k : Nat) : Words := [w64 (withField w0.toNat 0 8 k), w1, w2]
    let o := wfld [w0, w1, w2] MCMD_OBJECT
    let tag := wfld [w0, w1, w2] MCMD_TAG
    let own (f : Fld) : Prop := ∃ g ∈ [MEM_CMD_W0_W, MEM_CMD_W1_W, MEM_STATUS_CMD_OVERFLOW, MEM_STATUS_CMD_BUSY, MEM_STATUS_CMD_DEPTH], Fld.key f = Fld.key g
    let answers (s' : State) (k st n : Nat) : Prop := s'.mem = s.mem ∧
      s'.d.mem.results = s.d.mem.results ++ [w64 (st + k * 2 ^ 8 + tag * 2 ^ 16 + n % 2 ^ 22 * 2 ^ 32 + 2 ^ 63)]
    let base := extOf (s.d.get (OBJ_BASE o))
    let n := s.d.get (OBJ_EXTENTS o)
    let tmap (x : Nat) (f : Fld) : Prop := Fld.key f / 64 = 0x10000000 + 16 * x ∨ Fld.key f / 64 = 0x10000008 + 16 * x
    let free (f : Fld) : Prop := ∃ st < 16, Fld.key f = Fld.key (MEM_STACK_FREE_T1_FREE st) ∨ Fld.key f = Fld.key (MEM_STACK_FREE_T2_FREE st)
    (∀ e ∈ [(1, Instr.create), (2, Instr.destroy), (3, Instr.seal), (4, Instr.setOrigin), (5, Instr.migrate), (6, Instr.digest)],
      (reservedSet (words e.1) MCMD_USED = true ∨ (e.1 = 1 ∧ s.d.get (OBJ_VALID o) = 1) ∨ (e.1 ≠ 1 ∧ s.d.get (OBJ_VALID o) ≠ 1)) →
      ∃ s', exec (e.2 a w0 w1 w2 ok) s = .next s' ∧ answers s' e.1 stREFUSED_STATE 0 ∧ ∀ f, ¬ own f → s'.d.get f = s.d.get f) ∧
    (∀ d1 slots, reservedSet (words 1) MCMD_USED = false → s.d.get (OBJ_VALID o) ≠ 1 → s.d.get (OBJ_WRITABLE o) = 1 → s.d.get (OBJ_ORIGIN_KIND o) = 0 →
      s.d.get (OBJ_BASE o) % 2 ^ 20 = 0 → 1 ≤ n → base + n ≤ 2 ^ 21 → (s.d.get (OBJ_PREF_TIER o) = 1 ∨ s.d.get (OBJ_PREF_TIER o) = 2) →
      (∀ k < n, s.d.get (TMAP_TIER (base + k)) = 0) →
      allocSlots (s.d.get (OBJ_PREF_TIER o)) (s.d.get (OBJ_STACK_MASK o)) n s.d none [] = some (d1, slots) →
      ∃ s', exec (.create a w0 w1 w2 ok) s = .next s' ∧ answers s' 1 stOK n ∧ s'.d.get (OBJ_VALID o) = 1 ∧ s'.d.mem.used = d1.mem.used ∧
        (∀ k < n, s'.d.get (TMAP_TIER (base + k)) = s.d.get (OBJ_PREF_TIER o) ∧ s'.d.get (TMAP_WRITABLE (base + k)) = 1 ∧
          s'.d.get (TMAP_OBJECT (base + k)) = o ∧ s'.d.get (TMAP_STACK (base + k)) = (slots.getD k (0, 0)).1 ∧
          s'.d.get (TMAP_LOC (base + k)) = (slots.getD k (0, 0)).2) ∧
        ∀ f, ¬ own f → ¬ free f → Fld.key f ≠ Fld.key (OBJ_VALID o) → (∀ k < n, ¬ tmap (base + k) f) → s'.d.get f = s.d.get f) ∧
    (reservedSet (words 2) MCMD_USED = false → s.d.get (OBJ_VALID o) = 1 → s.d.wmap o = 0 → s.d.adapterNames o = false → s.d.srvMaps o = false →
      base + n ≤ 2 ^ 21 →
      (∀ x ∈ s.d.objExts o, s.d.get (TMAP_MIGRATING x) ≠ 1 ∧ s.d.get (TMAP_REFETCH x) ≠ 1 ∧ s.d.get (TMAP_STACK x) < 16) →
      ∃ s', exec (.destroy a w0 w1 w2 ok) s = .next s' ∧ answers s' 2 stOK 0 ∧ s'.d.get (OBJ_VALID o) = 0 ∧
        (∀ x ∈ s.d.objExts o, s'.d.get (TMAP_TIER x) = 0) ∧
        ∀ f, ¬ own f → ¬ free f → Fld.key f ≠ Fld.key (OBJ_VALID o) → (∀ x ∈ s.d.objExts o, ¬ tmap x f) → s'.d.get f = s.d.get f) ∧
    (reservedSet (words 4) MCMD_USED = false → s.d.get (OBJ_VALID o) = 1 → s.d.get (OBJ_WRITABLE o) ≠ 1 →
      (∀ x ∈ s.d.objExts o, s.d.get (TMAP_TIER x) < 3 ∧ s.d.get (TMAP_REFETCH x) ≠ 1) →
      (wfld [w0, w1, w2] MCMD_TIER = 4 ∨ wfld [w0, w1, w2] MCMD_TIER = 3 ∧ peerOriginBad w2.toNat n = false) → w2.toNat % 2 ^ 20 = 0 →
      ∃ s', exec (.setOrigin a w0 w1 w2 ok) s = .next s' ∧ answers s' 4 stOK 0 ∧ s'.d.get (OBJ_ORIGIN_KIND o) = wfld [w0, w1, w2] MCMD_TIER ∧
        s'.d.get (OBJ_ORIGIN o) = w2.toNat ∧
        ∀ f, ¬ own f → Fld.key f ≠ Fld.key (OBJ_ORIGIN_KIND o) → Fld.key f ≠ Fld.key (OBJ_ORIGIN o) → s'.d.get f = s.d.get f)

/-- R237, R242, R245. -/
def Obligations.SealAndDigest : Prop :=
  ∀ (s : State) (a : Agent) (w0 w1 w2 : W64) (ok : Bool), s.serving → s.d.asks a .bar0 0x180020 → s.d.mem.queue = [] → s.d.mem.running = none →
    let words (k : Nat) : Words := [w64 (withField w0.toNat 0 8 k), w1, w2]
    let o := wfld [w0, w1, w2] MCMD_OBJECT
    let answers (s' : State) (k st : Nat) : Prop := s'.mem = s.mem ∧
      s'.d.mem.results = s.d.mem.results ++ [w64 (st + k * 2 ^ 8 + wfld [w0, w1, w2] MCMD_TAG * 2 ^ 16 + 2 ^ 63)]
    s.d.get (OBJ_VALID o) = 1 → s.d.mem.lines = [] → extOf (s.d.get (OBJ_BASE o)) + s.d.get (OBJ_EXTENTS o) ≤ 2 ^ 21 →
    (∀ x ∈ s.d.objExts o, s.d.get (TMAP_TIER x) = 1 ∨ s.d.get (TMAP_TIER x) = 2) →
    (reservedSet (words 6) MCMD_USED = false → (∃ x ∈ s.d.objExts o, s.d.get (TMAP_REFETCH x) = 1) →
      ∃ s', exec (.digest a w0 w1 w2 ok) s = .next s' ∧ s'.mem = s.mem ∧ s'.d.mem.results = s.d.mem.results ∧ s'.d.mem.running.isSome = true ∧
        s'.d.get (OBJ_LAST_DIGEST o) = s.d.get (OBJ_LAST_DIGEST o)) ∧
    ((∀ x ∈ s.d.objExts o, s.d.get (TMAP_REFETCH x) ≠ 1) →
    let digest := objDigest s.mem s.d o % 2 ^ 64
    (reservedSet (words 3) MCMD_USED = false → s.d.get (OBJ_WRITABLE o) = 1 → s.d.wmap o = 0 → (∀ x ∈ s.d.objExts o, s.d.get (TMAP_MIGRATING x) ≠ 1) →
      ∃ s', exec (.seal a w0 w1 w2 ok) s = .next s' ∧ answers s' 3 stOK ∧ s'.d.get (OBJ_WRITABLE o) = 0 ∧ s'.d.get (OBJ_REF_DIGEST o) = digest ∧
        ∀ x ∈ s.d.objExts o, s'.d.get (TMAP_WRITABLE x) = 0 ∧ s'.d.get (TMAP_TIER x) = s.d.get (TMAP_TIER x)) ∧
    (reservedSet (words 6) MCMD_USED = false →
      ∃ s', exec (.digest a w0 w1 w2 ok) s = .next s' ∧ s'.d.get (OBJ_LAST_DIGEST o) = digest ∧
        answers s' 6 (if objDigest s.mem s.d o = s.d.get (OBJ_REF_DIGEST o) then stOK else stDIGEST_MISMATCH) ∧
        s'.d.get (OBJ_REF_DIGEST o) = s.d.get (OBJ_REF_DIGEST o) ∧ ∀ x ∈ s.d.objExts o, s'.d.get (TMAP_WRITABLE x) = s.d.get (TMAP_WRITABLE x)))

/-- R13, R236, R239. -/
def Obligations.MigrateMovesAnExtent : Prop :=
  ∀ (s : State) (a : Agent) (ok : Bool), s.serving → s.d.mem.queue = [] →
    (∀ (w0 w1 w2 : W64) st sl, s.d.asks a .bar0 0x180020 → s.d.mem.running = none →
      let ws : Words := [w64 (withField w0.toNat 0 8 5), w1, w2]
      let o := wfld ws MCMD_OBJECT
      let tier := wfld ws MCMD_TIER
      let x := extOf (s.d.get (OBJ_BASE o)) + wfld ws MCMD_FIRST
      reservedSet ws MCMD_USED = false → migrateBad s.d ws = false → wfld ws MCMD_COUNT = 1 → tier ≤ 2 → s.d.get (TMAP_OBJECT x) = o →
      s.d.moveRefused o x tier = false → s.d.nextStack tier (wfld ws MCMD_STACK_MASK) none = some (st, sl) →
      (∀ v ∈ s.d.mem.moves, v.stack = st → 2 < v.tier) → (∀ e ∈ s.d.fab.dir, e.1 / 8192 ≠ x) →
      ∃ s', exec (.migrate a w0 w1 w2 ok) s = .next s' ∧ s'.mem = s.mem ∧ s'.d.mem.results = s.d.mem.results ∧ s'.d.get (TMAP_MIGRATING x) = 1 ∧
        s'.d.mem.moves = s.d.mem.moves ++ [⟨x, tier, st, sl, []⟩] ∧ s'.d.mem.used = slotKey tier st sl :: s.d.mem.used ∧
        s'.d.get MEM_STATUS_CMD_BUSY = 1 ∧ s'.d.get (TMAP_LOC x) = s.d.get (TMAP_LOC x)) ∧
    (∀ c done next v, s.d.mem.running = some (c, done, next, none) → s.d.mem.moves = [v] → v.held = [] → s.d.mem.lines = [] →
      wfld [c.w0, c.w1, c.w2] MCMD_OP = 5 → wfld [c.w0, c.w1, c.w2] MCMD_COUNT ≤ next →
      (v.tier = 1 ∨ v.tier = 2) → v.stack < 16 → v.loc < 65536 → v.ext < 2 ^ 21 →
      (s.d.get (TMAP_TIER v.ext) = 1 ∨ s.d.get (TMAP_TIER v.ext) = 2) → s.d.get (TMAP_REFETCH v.ext) ≠ 1 →
      (∀ e ∈ s.d.fab.dir, e.1 / 8192 = v.ext → e.2.waiting = []) →
      ∃ s', exec (.extentCopyDone v.ext ok) s = .next s' ∧ s'.d.get (TMAP_TIER v.ext) = v.tier ∧ s'.d.get (TMAP_STACK v.ext) = v.stack ∧
        s'.d.get (TMAP_LOC v.ext) = v.loc ∧ s'.d.get (TMAP_MIGRATING v.ext) = 0 ∧ s'.d.mem.moves = [] ∧ s'.d.mem.running = none ∧
        s'.d.mem.oldSlots = s.d.mem.oldSlots ++ [(s.d.get (TMAP_TIER v.ext), s.d.get (TMAP_STACK v.ext), s.d.get (TMAP_LOC v.ext))] ∧
        s'.d.mem.results = s.d.mem.results ++
          [w64 (stOK + 5 * 2 ^ 8 + wfld [c.w0] MCMD_TAG * 2 ^ 16 + (done + 1) % 2 ^ 22 * 2 ^ 32 + 2 ^ 63)] ∧
        (∀ i < 2 ^ 20, Mem.get s'.mem (lineKey v.tier v.stack v.loc 0 * 128 + i) = Mem.get s.mem (s.d.physAt (v.ext * 2 ^ 20 + i))) ∧
        ∀ k, k < lineKey v.tier v.stack v.loc 0 * 128 ∨ lineKey v.tier v.stack v.loc 0 * 128 + 2 ^ 20 ≤ k → Mem.get s'.mem k = Mem.get s.mem k) ∧
    (∀ tier stack slot, (tier, stack, slot) ∈ s.d.mem.oldSlots → s.d.mem.running = none →
      let f := if tier = 1 then MEM_STACK_FREE_T1_FREE stack else MEM_STACK_FREE_T2_FREE stack
      ∃ s', exec (.oldSlotFree tier stack slot) s = .next s' ∧ s'.mem = s.mem ∧ s'.d.mem.oldSlots = s.d.mem.oldSlots.erase (tier, stack, slot) ∧
        slotKey tier stack slot ∉ s'.d.mem.used ∧
        s'.d.get f = (if slotKey tier stack slot ∈ s.d.mem.retired then s.d.get f else (s.d.get f + 1) % 2 ^ f.width) ∧
        ∀ g : Fld, Fld.key g ≠ Fld.key f → Fld.key g ≠ Fld.key MEM_STATUS_CMD_BUSY → Fld.key g ≠ Fld.key MEM_STATUS_CMD_DEPTH → s'.d.get g = s.d.get g) ∧
    (s.d.asks a .bar0 0x180028 → ∀ wide, ∃ s', exec (.memCmdResultPop a wide) s = .next s' ∧ s'.mem = s.mem ∧ s'.d.regs = s.d.regs ∧
      s'.d.bus.rdata = (s.d.mem.results.headD 0#64).toNat % (if wide then 2 ^ 64 else 2 ^ 32) ∧ s'.d.mem.results = s.d.mem.results.drop 1)

/-- R230, R246, R247, R249. That an event whose condition is false does nothing, and an origin failure of an extent in tier 1 or 2, are the
model's (log 3). What follows the re-fetch of a replica's extent is R420, and a digest round that waited for it R419. -/
def Obligations.MemoryEvents : Prop :=
  ∀ s : State, s.serving →
    (∀ x ok back, x < 2 ^ 21 → s.d.get (TMAP_REFETCH x) = 1 →
      let src := s.d.extOrigin x
      let stack := s.d.get (TMAP_STACK x)
      let tier := s.d.get (TMAP_TIER x)
      let slot := s.d.get (TMAP_LOC x)
      let e := refetchDoneOp s.mem s.d x ok back
      exec (.refetchDone x ok back) s = .next (finish s (settle s.mem (replicaGoOn s.mem (replicaRefetched s.mem e x (unitSlot stack tier slot))))) ∧
      (ok = false → e.resetReq ≠ none) ∧
      (ok = true → back = true → (src.1 ≠ 4 ∨ s.d.vir.bme = true) → s.d.mem.moves = [] → s.d.mem.running = none → s.d.mem.queue = [] → stack < 16 →
        e.get (TMAP_REFETCH x) = 0 ∧ e.mem.released = (s.d.mem.held.filter (fun h => h.1 == x)).map (·.2) ∧ e.resetReq = none ∧
        (∀ i < 2 ^ 20, physGet s.mem e (lineKey tier stack slot 0 * 128 + i) = originByteAt src.1 src.2 i) ∧
        ∀ k, k < lineKey tier stack slot 0 * 128 ∨ lineKey tier stack slot 0 * 128 + 2 ^ 20 ≤ k → physGet s.mem e k = Mem.get s.mem k)) ∧
    (∀ off hit, s.d.get (TMAP_TIER (extOf off)) < 3 → exec (.originReadFail off hit) s = .next s) ∧
    (∀ off, 3 ≤ s.d.get (TMAP_TIER (extOf off)) → ∃ s', exec (.originReadFail off .other) s = .next s' ∧ s'.mem = s.mem ∧
      s'.d.get (TMAP_ORIGIN_FAIL (extOf off)) = 1 ∧ s'.d.get MEM_LAST_UE_OFFSET = off / 128 * 128 % 2 ^ 41 ∧ s'.d.get MEM_LAST_UE_ACTION = 4 ∧
      s'.d.out.events = s.d.out.events ++ [⟨s.d.ns, srcMemory, .originFail, [off / 128 * 128]⟩] ∧
      (∀ who, s.d.get (TMAP_REFETCH (extOf off)) ≠ 1 → (who = .consumer → s.d.writeHeld off = false) →
        (readLine s'.mem s'.d off who).2 = .originFail ∧ off / 128 ∉ (readLine s'.mem s'.d off who).1.mem.failing) ∧
      ∀ f : Fld, (∀ g ∈ [TMAP_ORIGIN_FAIL (extOf off), MEM_LAST_UE_OFFSET, MEM_LAST_UE_STACK, MEM_LAST_UE_ACTION, MEM_LAST_UE_TIER],
        Fld.key f ≠ Fld.key g) → s'.d.get f = s.d.get f) ∧
    (∀ (stack : Fin 16) errs, s.d.get MEM_CTRL_SCRUB_EN ≠ 1 → exec (.scrubRead stack errs) s = .next s) ∧
    (∀ stack : Fin 16, s.d.get MEM_CTRL_SCRUB_EN = 1 → s.d.mem.lines = [] →
      let n := sget s.d.mem.scrub stack.1 0 % scrubLines
      ∃ s', exec (.scrubRead stack []) s = .next s' ∧ s'.mem = s.mem ∧ sget s'.d.mem.scrub stack.1 0 = (n + 1) % scrubLines ∧ s'.d.mem.lines = [] ∧
        ∀ f : Fld, (∀ x, Fld.key f ≠ Fld.key (TMAP_HEAT x)) → s'.d.get f = s.d.get f) ∧
    (s.d.mem.heatTicks < max 1 (s.d.get MEM_HEAT_CFG_PERIOD) → exec .heatHalving s = .next s) ∧
    (max 1 (s.d.get MEM_HEAT_CFG_PERIOD) ≤ s.d.mem.heatTicks → (s.d.listed (TMAP_HEAT 0) 16 2097152).Nodup →
      ∃ s', exec .heatHalving s = .next s' ∧ s'.mem = s.mem ∧ s'.d.mem.heatTicks = 0 ∧
        (∀ x < 2 ^ 21, s'.d.get (TMAP_HEAT x) = s.d.get (TMAP_HEAT x) / 2 % 65536) ∧
        ∀ f : Fld, (∀ x, Fld.key f ≠ Fld.key (TMAP_HEAT x)) → s'.d.get f = s.d.get f)

/-- R445 (the size of the PF's BAR4), R446, R447. What an access that no byte answers returns and that a read counts HEAT of the lines are in the rules. -/
def Obligations.HostWindows : Prop :=
  ∀ (s : State) (off len : Nat) (bytes : List Byte), s.serving →
    let at0 := s.d.winBase 0 + off
    (2 ^ 41 ≤ at0 ∨ 2 ^ s.d.vir.rbar ≤ off → (∃ s', exec (.hostBar4Read 0 off len []) s = .next s' ∧ s'.d.mem.hostData = onesBytes len ∧ s'.mem = s.mem ∧
        ∀ f : Fld, s'.d.get f = s.d.get f) ∧ exec (.hostBar4Write 0 off bytes) s = .next s) ∧
    (at0 + len ≤ 2 ^ 41 → off + len ≤ 2 ^ s.d.vir.rbar → (∀ k < len, s.d.readPlain (at0 + k)) →
      ∃ s', exec (.hostBar4Read 0 off len []) s = .next s' ∧ s'.d.mem.hostData = uBytes s.mem s.d at0 len ∧ s'.mem = s.mem ∧
        ∀ f : Fld, (∀ x, Fld.key f ≠ Fld.key (TMAP_HEAT x)) → s'.d.get f = s.d.get f) ∧
    (bytes ≠ [] → at0 % 128 + bytes.length ≤ 128 → off < 2 ^ s.d.vir.rbar → s.d.linePlain at0 →
      ∃ s', exec (.hostBar4Write 0 off bytes) s = .next s' ∧ (∀ k < bytes.length, Mem.get s'.mem (s.d.physAt at0 + k) = bytes.getD k 0#8) ∧
        (∀ k, k < s.d.physAt at0 ∨ s.d.physAt at0 + bytes.length ≤ k → Mem.get s'.mem k = Mem.get s.mem k) ∧
        ∀ f : Fld, (∀ x, Fld.key f ≠ Fld.key (TMAP_HEAT x)) → s'.d.get f = s.d.get f) ∧
    (∀ n : Fin 128, n ≠ 0 → s.d.vfLive n = true → 1 ≤ len → (s.d.winBase n + off) % 128 + len ≤ 128 → bytes.length = len →
      s.d.winAllows n off (s.d.winBase n + off) = false →
      (∃ s', exec (.hostBar4Read n off len []) s = .next s' ∧ s'.d.mem.hostData = onesBytes len ∧ s'.mem = s.mem ∧
        s'.d.get (VIR_INST_DISC_WIN_DENY n) = min 65535 (s.d.get (VIR_INST_DISC_WIN_DENY n) + 1) ∧
        ∀ f : Fld, Fld.key f ≠ Fld.key (VIR_INST_DISC_WIN_DENY n) → s'.d.get f = s.d.get f) ∧
      ∃ s', exec (.hostBar4Write n off bytes) s = .next s' ∧ s'.mem = s.mem ∧
        s'.d.get (VIR_INST_DISC_WIN_DENY n) = min 65535 (s.d.get (VIR_INST_DISC_WIN_DENY n) + 1) ∧
        ∀ f : Fld, Fld.key f ≠ Fld.key (VIR_INST_DISC_WIN_DENY n) → s'.d.get f = s.d.get f)

/-- R253, R256, R258, R269, R274. R258 counts a reserved OP, CLASS or SIZE in BAD; that a bad payload length is counted there too is the model's
choice (log 191), and that a packet on a port that is not up does nothing is log 3. -/
def Obligations.PacketsAreChecked : Prop :=
  ∀ e ∈ [(opLOAD, fun p k => Instr.fabricLoad p k []), (opSTORE, fun p k => Instr.fabricStore p k []), (opGETS, fun p k => Instr.fabricGets p k []),
      (opADD, fun p k => Instr.fabricAdd p k []), (opMIN, fun p k => Instr.fabricMin p k []), (opMAX, fun p k => Instr.fabricMax p k []),
      (opCAS, fun p k => Instr.fabricCas p k []), (opACK, Instr.fabricAck), (opDATA, Instr.fabricData), (opOLD, Instr.fabricOld),
      (opINVAL, Instr.inval), (opINVAL_ACK, Instr.invalAck), (opANNOUNCE, Instr.announce), (opGEN_QUERY, Instr.genQuery)],
    ∀ (s : State) (port : Fin 12) (pk : Packet), s.serving → pk.hdr.length = 3 →
      let p := setPkf pk PKT_OP e.1
      let d0 : Dev := { s.d with fab := { s.d.fab with owed := s.d.fab.owed ++ [(port.1, p)] } }
      (s.d.get UNL_CTRL_EN ≠ 1 ∨ s.d.portUp port = false → exec (e.2 port pk) s = .next s) ∧
      (s.d.get UNL_CTRL_EN = 1 → s.d.portUp port = true → 5 < pkf pk PKT_CLASS ∨ 5 < pkf pk PKT_SIZE ∨ 144 < pk.payload.length ∨ pk.payload.length % 16 ≠ 0 →
        ∃ s', exec (e.2 port pk) s = .next s' ∧ s'.mem = s.mem ∧
          s'.d.get (UNL_PORT_REPLAY_BAD port) = min 255 (s.d.get (UNL_PORT_REPLAY_BAD port) + 1) ∧
          ∀ f : Fld, Fld.key f ≠ Fld.key (UNL_PORT_REPLAY_BAD port) → s'.d.get f = s.d.get f) ∧
      (s.d.get UNL_CTRL_EN = 1 → s.d.portUp port = true → packetGood pk = false →
        ∃ s', exec (.packetForward port pk) s = .next s' ∧ s'.mem = s.mem ∧
          s'.d.get (UNL_PORT_REPLAY_BAD port) = min 255 (s.d.get (UNL_PORT_REPLAY_BAD port) + 1) ∧
          ∀ f : Fld, Fld.key f ≠ Fld.key (UNL_PORT_REPLAY_BAD port) → s'.d.get f = s.d.get f) ∧
      (s.d.get UNL_CTRL_EN = 1 → s.d.portUp port = true → pkf pk PKT_CLASS ≤ 5 → pkf pk PKT_SIZE ≤ 5 → pk.payload.length ≤ 144 → pk.payload.length % 16 = 0 →
        (pkf pk PKT_DST ≠ s.d.node → (e.1 = opANNOUNCE → pkf pk PKT_DST ≠ pkf pk PKT_SRC) →
          exec (e.2 port pk) s = .next (finish s (settle s.mem (d0.forward p))) ∧
          exec (.packetForward port p) s = .next (finish s (settle s.mem (d0.forward p)))) ∧
        (pkf pk PKT_DST = s.d.node → e.1 ≤ opCAS → s.d.genOf (pkf pk PKT_SRC) ≠ 0 →
          (s.d.genOf (pkf pk PKT_SRC) ≠ pkf pk PKT_SRC_GEN → ∃ s', exec (e.2 port pk) s = .next s' ∧ s'.mem = s.mem ∧
            s'.d.get UNL_DISCARD_CNT_STALE = min 65535 (s.d.get UNL_DISCARD_CNT_STALE + 1) ∧
            (pkf pk PKT_CLASS ≠ clATOMIC ∧ pkf pk PKT_CLASS ≠ clRELAXED →
              s'.d.out.credits = s.d.out.credits ++ [(port.1, pkf pk PKT_CLASS, pkf pk PKT_VC, pkUnits pk)]) ∧
            ∀ f : Fld, Fld.key f ≠ Fld.key UNL_DISCARD_CNT_STALE → s'.d.get f = s.d.get f) ∧
          (s.d.genOf (pkf pk PKT_SRC) = pkf pk PKT_SRC_GEN → pkf pk PKT_DST_GEN ≠ s.d.gen →
            exec (e.2 port pk) s = .next (finish s (settle s.mem ((d0.feed port p).respond p (respOp e.1) stSTALE_GENERATION []))))))

/-- R229, R251, R258, R261, R262. -/
def Obligations.RequestsAtTheHome : Prop :=
  (∀ e ∈ [(opLOAD, Instr.fabricLoad), (opSTORE, Instr.fabricStore), (opGETS, Instr.fabricGets), (opADD, Instr.fabricAdd),
      (opMIN, Instr.fabricMin), (opMAX, Instr.fabricMax), (opCAS, Instr.fabricCas)],
    ∀ (s : State) (port : Fin 12) (pk : Packet), s.serving → pk.hdr.length = 3 → s.d.get UNL_CTRL_EN = 1 → s.d.portUp port = true →
      pkf pk PKT_CLASS ≤ 5 → pkf pk PKT_SIZE ≤ 5 → pk.payload.length ≤ 144 → pk.payload.length % 16 = 0 → pkf pk PKT_DST = s.d.node →
      s.d.genOf (pkf pk PKT_SRC) ≠ 0 →
      s.d.genOf (pkf pk PKT_SRC) = pkf pk PKT_SRC_GEN → pkf pk PKT_DST_GEN = s.d.gen →
      let k := streamKey (pkf pk PKT_SRC) (pkf pk PKT_CLASS)
      (sfind s.d.fab.rx k = none ∧ pkf pk PKT_SEQ = 0 ∨ sfind s.d.fab.rx k = some (pkf pk PKT_EPOCH, pkf pk PKT_SEQ, [])) →
      s.d.streamHeld (pkf pk PKT_SRC) (pkf pk PKT_CLASS) = false →
      let d0 := ({ s.d with fab := { s.d.fab with owed := s.d.fab.owed ++ [(port.1, setPkf pk PKT_OP e.1)] } } : Dev).feed port (setPkf pk PKT_OP e.1)
      let d1 := { d0 with fab := { d0.fab with rx := sput s.d.fab.rx k (pkf pk PKT_EPOCH, (pkf pk PKT_SEQ + 1) % 65536, []) } }
      exec (e.2 port pk []) s =
        .next (finish s (settle s.mem (genTriggers s.d (homeApply s.mem d1 (setPkf pk PKT_OP e.1)) (pkf pk PKT_SRC))))) ∧
  (∀ (m : Mem) (d : Dev) (pk : Packet),
    let op := pkf pk PKT_OP
    let off := pkf pk PKT_OFFSET
    let x := extOf off
    let n := sizeBytes (pkf pk PKT_SIZE)
    let refused := homeApply m d pk = d.respond pk (respOp op) stREFUSED_STATE []
    let rest (e : Dev) : Prop := ∀ f : Fld, (∀ y, Fld.key f ≠ Fld.key (TMAP_HEAT y)) → e.get f = d.get f
    let wrote (e : Dev) (bytes : List Byte) : Prop := (∀ i < bytes.length, physGet m e (d.physAt off + i) = bytes.getD i 0#8) ∧
      ∀ k, k < d.physAt off ∨ d.physAt off + bytes.length ≤ k → physGet m e k = physGet m d k
    (off / 2 ^ 41 ≠ 0 → refused) ∧
    (off / 2 ^ 41 = 0 → d.get (TMAP_TIER x) = 0 ∨ (opWrites op = true ∧ d.get (TMAP_WRITABLE x) ≠ 1) → refused) ∧
    (op = opLOAD → off % n = 0 → n ≤ 128 → d.readPlain off → ∃ e, homeApply m d pk = e.respond pk opDATA stOK (uBytes m d off n) ∧ rest e ∧ e.wq = d.wq) ∧
    (op = opGETS → off % 128 = 0 → d.readPlain off → (d.get (TMAP_WRITABLE x) ≠ 1 ∨ pkf pk PKT_SRC ∉ d.quad) →
      ∃ e, homeApply m d pk = e.respond pk opDATA stOK (uBytes m d off 128) ∧ rest e ∧ e.wq = d.wq) ∧
    (off % n = 0 → n ≤ 128 → d.linePlain off → d.readPlain off → d.is PRT_INJ_ECC_ARMED = false →
      (op = opSTORE → ∃ e, homeApply m d pk = (e.winReceive (pkf pk PKT_SRC) off ((List.range n).map (fun i => pk.payload.getD i 0#8))).respond pk opACK stOK [] ∧
        rest e ∧ wrote e ((List.range n).map (fun i => pk.payload.getD i 0#8))) ∧
      (op = opADD ∨ op = opMIN ∨ op = opMAX → atypeOk (pkf pk PKT_ATYPE) = true → elemBytes (pkf pk PKT_ATYPE) ≤ n → pk.payload.length < 144 →
        ¬ (op = opADD ∧ pkf pk PKT_ATYPE % 8 = 5 ∧ d.strict = true) →
        ∃ e, homeApply m d pk = (e.winReceive (pkf pk PKT_SRC) off []).respond pk opACK stOK [] ∧ rest e ∧
          wrote e (atomApply op (pkf pk PKT_ATYPE) (fun _ => true) (uBytes m d off n) (pk.payload.take n))) ∧
      (op = opCAS → atypeOk (pkf pk PKT_ATYPE) = true → pkf pk PKT_ATYPE < 8 → elemBytes (pkf pk PKT_ATYPE) = n →
        ∃ e, rest e ∧
          (uBytes m d off n = (List.range n).map (fun i => pk.payload.getD i 0#8) →
            homeApply m d pk = (e.winReceive (pkf pk PKT_SRC) off []).respond pk opOLD stOK (uBytes m d off n) ∧
            wrote e ((List.range n).map (fun i => pk.payload.getD (n + i) 0#8))) ∧
          (uBytes m d off n ≠ (List.range n).map (fun i => pk.payload.getD i 0#8) →
            homeApply m d pk = e.respond pk opOLD stOK (uBytes m d off n) ∧ ∀ k, physGet m e k = physGet m d k))))

/-- R252-R254, R266, R274, R279. -/
def Obligations.ResponsesGenerationsInvalidations : Prop :=
  ∀ (s : State) (port : Fin 12) (pk : Packet), s.serving → pk.hdr.length = 3 → s.d.get UNL_CTRL_EN = 1 → s.d.portUp port = true →
    pkf pk PKT_CLASS ≤ 5 → pkf pk PKT_SIZE ≤ 5 → pk.payload.length ≤ 144 → pk.payload.length % 16 = 0 → pkf pk PKT_DST = s.d.node →
    let src := pkf pk PKT_SRC
    let took (op : Nat) : Dev :=
      ({ s.d with fab := { s.d.fab with owed := s.d.fab.owed ++ [(port.1, setPkf pk PKT_OP op)] } } : Dev).feed port (setPkf pk PKT_OP op)
    (∀ e ∈ [(opACK, Instr.fabricAck), (opDATA, Instr.fabricData), (opOLD, Instr.fabricOld)],
      let hit := s.d.fab.out.find? (fun r => r.tag == pkf pk PKT_TAG && pkf r.pk PKT_DST == src)
      (pkf pk PKT_DST_GEN ≠ s.d.gen ∨ hit = none → pkf pk PKT_CLASS ≠ clATOMIC → pkf pk PKT_CLASS ≠ clRELAXED →
        exec (e.2 port pk) s = .next { s with d := { s.d with
          fab := { s.d.fab with feeds := s.d.feedsNow }
          out := { s.d.out with credits := s.d.out.credits ++ [(port.1, pkf pk PKT_CLASS, pkf pk PKT_VC, pkUnits pk)] } } }) ∧
      (∀ r, pkf pk PKT_DST_GEN = s.d.gen → hit = some r →
        exec (e.2 port pk) s = .next (finish s (settle s.mem ((took e.1).complete r (pkf pk PKT_STATUS) pk.payload))))) ∧
    (s.d.genOf src ≠ 0 → s.d.genOf src = pkf pk PKT_SRC_GEN →
      exec (.genQuery port pk) s = .next (finish s (settle s.mem ((took opGEN_QUERY).sendMgmt src opANNOUNCE (announcePayload s.d.node s.d.gen))))) ∧
    (src ≠ s.d.node → ∃ d', exec (.announce port pk) s = .next (finish s (settle s.mem d')) ∧ d'.genOf src = pkf pk PKT_SRC_GEN) ∧
    (s.d.genOf src ≠ 0 → s.d.genOf src = pkf pk PKT_SRC_GEN → pkf pk PKT_DST_GEN = s.d.gen →
      let off := pkf pk PKT_OFFSET
      (exec (.inval port pk) s = .next (finish s (settle s.mem ((took opINVAL).invalIn (setPkf pk PKT_OP opINVAL)))) ∧
        (((took opINVAL).invalIn (setPkf pk PKT_OP opINVAL)).qcLine src off).1 ≠ 1) ∧
      (∀ sharers held, sfind s.d.fab.dir (dirKey off) = some ⟨sharers, [src], held⟩ →
        ∃ d', exec (.invalAck port pk) s = .next (finish s (settle s.mem d')) ∧ d'.mem.released = held ∧ sfind d'.fab.dir (dirKey off) = none ∧
          d'.regs = s.d.regs ∧ d'.wq = []))

/-- R13, R262, R267, R268, R270. -/
def Obligations.RegisterPortOperations : Prop :=
  ∀ (s : State) (a : Agent) (w0 offset data cmp : W64), s.serving → s.d.asks a .bar0 0x200040 →
    let op (k : Nat) : UOp := { id := s.d.fab.opId, w0 := w64 (withField w0.toNat 0 8 k), offset := offset.toNat, data := data.toNat, cmp := cmp.toNat, bad := false }
    (∀ e ∈ [(1, Instr.unlOpLoad), (2, Instr.unlOpStore), (3, Instr.unlOpAdd), (4, Instr.unlOpMin), (5, Instr.unlOpMax), (6, Instr.unlOpCas)],
      let u := op e.1
      let r := s.d.opReq u
      s.d.fab.ops = [] → offset.toNat < 2 ^ 48 → reservedSet [u.w0] UO_USED = false → s.d.opRefused u = false → s.d.get UNL_CTRL_EN = 1 →
      u.f UO_NODE ≠ s.d.node → s.d.mustHold r = false → (∀ w < 64, s.d.winCovers w 0 offset.toNat = false) →
      ∃ s' q, exec (e.2 a w0 offset data cmp) s = .next s' ∧ s'.mem = s.mem ∧ s'.d.fab.ops = [{ u with stage := 1 }] ∧
        s'.d.fab.out = s.d.fab.out ++ [q] ∧ q.client = srcRegPort ∧ q.desc = u.id ∧ pkf q.pk PKT_OP = uopOp e.1 ∧
        pkf q.pk PKT_DST = u.f UO_NODE ∧ pkf q.pk PKT_OFFSET = offset.toNat ∧ pkf q.pk PKT_SRC_GEN = s.d.gen % 65536 ∧ q.pk.payload = r.pk.payload) ∧
    (s.d.fab.ops = [] → offset.toNat < 2 ^ 48 → reservedSet [(op 0x0F).w0] UO_USED = false → (op 0x0F).reserved = false →
      ∃ s', exec (.unlOpFence a w0 offset data cmp) s = .next s' ∧ s'.mem = s.mem ∧ s'.d.fab.out = s.d.fab.out ∧ s'.d.fab.fenceFail = none ∧
        s'.d.fab.errLog = s.d.fab.errLog ∧ s'.d.out.events = s.d.out.events ∧
        s'.d.fab.ops = [{ op 0x0F with stage := 2, status := (s.d.fab.fenceFail.getD (stOK, 0)).1, node := (s.d.fab.fenceFail.getD (stOK, 0)).2 }]) ∧
    (s.d.fab.ops = [] → offset.toNat < 2 ^ 48 → reservedSet [(op 0x0F).w0] UO_USED = true ∨ (op 0x0F).reserved = true →
      ∃ s', exec (.unlOpFence a w0 offset data cmp) s = .next s' ∧ s'.mem = s.mem ∧ s'.d.fab.out = s.d.fab.out ∧
        s'.d.fab.errLog = s.d.fab.errLog ∧ s'.d.out.events = s.d.out.events ∧
        s'.d.fab.ops = [{ op 0x0F with bad := reservedSet [(op 0x0F).w0] UO_USED, stage := 2, status := stREFUSED_STATE, node := (op 0x0F).f UO_NODE }]) ∧
    (∀ i ∈ [Instr.unlOpLoad, Instr.unlOpStore, Instr.unlOpAdd, Instr.unlOpMin, Instr.unlOpMax, Instr.unlOpCas, Instr.unlOpFence],
      16 ≤ s.d.fab.ops.length → ∃ s', exec (i a w0 offset data cmp) s = .next s' ∧ s'.mem = s.mem ∧ s'.d.get UNL_STATUS_OP_OVERFLOW = 1 ∧ s'.d.fab = s.d.fab) ∧
    (s.d.asks a .bar0 0x200060 → ∀ wide,
      (∀ u, s.d.fab.ops = [u] → u.stage = 2 → ∃ s', exec (.unlOpResultPop a wide) s = .next s' ∧ s'.mem = s.mem ∧ s'.d.fab.ops = [] ∧
        s'.d.get UNL_OP_DATA_DATA = u.rdata % 2 ^ 64 ∧
        s'.d.bus.rdata = (let v := u.status + 2 ^ 8 * u.f UO_OP + 2 ^ 16 * u.node + 2 ^ 63; if wide then v else v % 2 ^ 32)) ∧
      (s.d.fab.ops = [] ∨ (∃ u rest, s.d.fab.ops = u :: rest ∧ u.stage ≠ 2) →
        ∃ s', exec (.unlOpResultPop a wide) s = .next s' ∧ s'.mem = s.mem ∧ s'.d.fab = s.d.fab ∧ s'.d.regs = s.d.regs ∧ s'.d.bus.rdata = 0)) ∧
    (s.d.asks a .bar0 0x200070 → ∀ wide st cl nd off rest, s.d.fab.errLog = (st, cl, nd, off) :: rest →
      ∃ s', exec (.unlErrPop a wide) s = .next s' ∧ s'.mem = s.mem ∧ s'.d.bus.rdata =
        (let v := st + 2 ^ 8 * cl + 2 ^ 24 * nd + 2 ^ 40 * s.d.fab.errLost + 2 ^ 63; if wide then v else v % 2 ^ 32) ∧ s'.d.fab = { s.d.fab with errLog := rest, errLost := 0 } ∧
        s'.d.get UNL_ERR_OFFSET_OFFSET = off % 2 ^ 48 ∧ ∀ f : Fld, Fld.key f ≠ Fld.key UNL_ERR_OFFSET_OFFSET → s'.d.get f = s.d.get f)

/-- R254, R263, R269, R271, R274, R276. That an event whose condition is false does nothing is the model's (log 3). -/
def Obligations.PortsAndTimeouts : Prop :=
  ∀ s : State, s.serving →
    (∀ p : Fin 12,
      (s.d.portUp p = false → exec (.portRetrain p) s = .next s ∧ ∀ acked, exec (.flitReplay ⟨p, acked⟩) s = .next s) ∧
      (∀ acked, let sum := ((s.d.port p).replay.map pkFlits).sum
        (acked = 0 → (s.d.port p).acknowledge acked = s.d.port p) ∧
        ((s.d.port p).part < sum → sum ≤ (s.d.port p).part + acked → ((s.d.port p).acknowledge acked).replay = [] ∧ ((s.d.port p).acknowledge acked).stuck = 0)) ∧
      (s.d.portUp p = true → ∃ s', exec (.portRetrain p) s = .next s' ∧ s'.mem = s.mem ∧ s'.d.get (UNL_PORT_STATUS_STATE p) = 1 ∧
        s'.d.get (UNL_PORT_REPLAY_RETRAINS p) = min 255 (s.d.get (UNL_PORT_REPLAY_RETRAINS p) + 1) ∧ s'.d.out = s.d.out) ∧
      (∀ acked, s.d.portUp p = true → let x := (s.d.port p).acknowledge acked
        ∃ s', exec (.flitReplay ⟨p, acked⟩) s = .next s' ∧ s'.mem = s.mem ∧ (s'.d.port p).replay = x.replay ∧
        s'.d.get (UNL_PORT_REPLAY_REPLAYS p) = min 65535 (s.d.get (UNL_PORT_REPLAY_REPLAYS p) + 1) ∧
        s'.d.out.packets = s.d.out.packets ++ x.replay.map (fun k => (p.1, k)) ∧
        (if x.stuck = 15 then s'.d.get (UNL_PORT_STATUS_STATE p) = 1 ∧ (s'.d.port p).stuck = 0
         else s'.d.get (UNL_PORT_STATUS_STATE p) = 2 ∧ (s'.d.port p).stuck = x.stuck + 1)) ∧
      (∀ lanes, s.d.get (UNL_PORT_STATUS_STATE p) ≠ 1 → exec (.portTrainingDone p lanes) s = .next s) ∧
      (∀ lanes, s.d.get (UNL_PORT_STATUS_STATE p) = 1 →
        ∃ d', exec (.portTrainingDone p lanes) s = .next (finish s (settle s.mem d')) ∧
          (lanes = 1 ∨ lanes = 2 ∨ lanes = 4 → d'.get (UNL_PORT_STATUS_STATE p) = 2 ∧ d'.get (UNL_PORT_STATUS_WIDTH p) = lanes) ∧
          (¬ (lanes = 1 ∨ lanes = 2 ∨ lanes = 4) → d'.get (UNL_PORT_STATUS_STATE p) = 0 ∧
            d'.out.events = s.d.out.events ++ [⟨s.d.ns, srcPort (4 + p), .portDown, []⟩])) ∧
      (∀ cls vc units acked, (s.d.port p).queue = [] → let x := (s.d.port p).acknowledge acked
        ∃ s', exec (.creditReturn p cls vc ⟨units, acked⟩) s = .next s' ∧ s'.mem = s.mem ∧ s'.d.regs = s.d.regs ∧
        sget (s'.d.port p).used (cls * 2 + vc) 0 = sget (s.d.port p).used (cls * 2 + vc) 0 - units ∧
        (s'.d.port p).stuck = x.stuck ∧ (s'.d.port p).replay = x.replay)) ∧
    (∀ tag, s.d.fab.out.find? (fun r => r.tag == tag) = none → exec (.requestTimeout tag) s = .next s) ∧
    (∀ tag r, s.d.fab.out.find? (fun r => r.tag == tag) = some r →
      exec (.requestTimeout tag) s = .next (finish s (settle s.mem (s.d.complete r stNODE_LOST [])))) ∧
    (∀ dst, dst = s.d.node ∨ (s.d.routePort dst).isSome = true → exec (.routeLossTimeout dst) s = .next s) ∧
    (∀ dst, dst ≠ s.d.node → s.d.routePort dst = none → s.d.fab.genHold = [] → s.d.fab.ops = [] →
      ∃ d', exec (.routeLossTimeout dst) s = .next (finish s (settle s.mem d')) ∧ ∀ r ∈ d'.fab.out, pkf r.pk PKT_DST ≠ dst) ∧
    (∀ dst, dst = s.d.node ∨ s.d.genOf dst ≠ 0 → exec (.genQueryTimeout dst) s = .next s) ∧
    (∀ dst, dst ≠ s.d.node → s.d.genOf dst = 0 → s.d.fab.ops = [] →
      ∃ d', exec (.genQueryTimeout dst) s = .next (finish s (settle s.mem d')) ∧ (∀ r ∈ d'.fab.genHold, pkf r.pk PKT_DST ≠ dst) ∧
        ∀ r ∈ s.d.fab.genHold, pkf r.pk PKT_DST = dst → let k := streamKey dst (pkf r.pk PKT_CLASS)
          sget d'.fab.tx k (0, 0) = (((sget s.d.fab.tx k (0, 0)).1 + 1) % 8, 0)) ∧
    (∀ dst, (s.d.routePort dst).isSome = true → exec (.forwardHoldTimeout dst) s = .next s) ∧
    (∀ dst, s.d.routePort dst = none →
      let mine (k : Packet) : Bool := pkf k PKT_DST == dst && pkf k PKT_SRC != s.d.node
      exec (.forwardHoldTimeout dst) s = .next (finish s (settle s.mem ((s.d.fab.noRoute.filter mine).foldl Dev.returnLost
        { s.d with fab := { s.d.fab with noRoute := s.d.fab.noRoute.filter (fun k => !mine k) } })))) ∧
    (∀ k e, s.d.fab.comb[k]? = some e →
      exec (.combiningWindowClose k) s = .next (if e.sent.isNone then finish s (settle s.mem (s.d.combSend e)) else s))

/-- R281, R282, R288, R386. What an unstamped message takes as its time is log 136; that a frame on a port that does not run does nothing is log 3. -/
def Obligations.FronthaulFramesAndDelay : Prop :=
  ∀ (s : State) (p : Fin 4) (f : Frame), s.serving →
    let id := beNat f.payload 4 1
    let vlan := (f.tags[0]?).map (fun t => t.2 % 4096)
    let sent (d : Dev) (action stamp : Nat) := d.out.frames = (s.d.sendFrame p f.src vlan 0xAEFE (owdBytes id action stamp)).out.frames
    let msg (k : Nat) : Prop := s.d.portRuns p = true ∧ owdGood f = true ∧ beNat f.payload 5 1 = k
    let d1 : Dev := { s.d with free := s.d.free + 1 }
    (∀ up, ∃ s', exec (.fronthaulLinkChange p up) s = .next s' ∧ s'.mem = s.mem ∧
      s'.d.get (RAD_PORT_CFG_UP p) = (if up = true ∧ s.d.portRuns p = true then 1 else 0) ∧
      ∀ g : Fld, Fld.key g ≠ Fld.key (RAD_PORT_CFG_UP p) → s'.d.get g = s.d.get g) ∧
    (s.d.portRuns p = false → exec (.fronthaulFrameRx p f) s = .next s) ∧
    (s.d.portRuns p = true →
      (f.fcsOk = false → ∃ s', exec (.fronthaulFrameRx p f) s = .next s' ∧ s'.mem = s.mem ∧
        s'.d.get (RAD_PORT_DISC_FCS p) = min 65535 (s.d.get (RAD_PORT_DISC_FCS p) + 1) ∧
        ∀ g : Fld, Fld.key g ≠ Fld.key (RAD_PORT_DISC_FCS p) → s'.d.get g = s.d.get g) ∧
      (f.fcsOk = true → (2 ≤ f.tags.length ∨ (f.etype ≠ 0xAEFE ∧ f.etype ≠ 0x88F7) ∨
          (f.dst ≠ s.d.get (RAD_PORT_MAC_MAC p) ∧ f.dst ≠ 0x011B19000000 ∧ f.dst ≠ 0x0180C200000E)) →
        ∃ s', exec (.fronthaulFrameRx p f) s = .next s' ∧ s'.mem = s.mem ∧
          s'.d.get (RAD_PORT_DISC_OTHER p) = min 65535 (s.d.get (RAD_PORT_DISC_OTHER p) + 1) ∧
          ∀ g : Fld, Fld.key g ≠ Fld.key (RAD_PORT_DISC_OTHER p) → s'.d.get g = s.d.get g) ∧
      (f.fcsOk = true → f.tags = [] → f.etype = 0x88F7 → f.dst = 0x011B19000000 → f.payload.length ≤ 9198 →
        ∃ s', exec (.fronthaulFrameRx p f) s = .next s' ∧ s'.mem = s.mem ∧ s'.d.regs = s.d.regs ∧
          s'.d.tsu.rx = s.d.tsu.rx ++ [(p.1, if s.d.stamps p = true ∧ beNat f.payload 0 1 % 16 < 4 then some (s.d.portStamp p false) else none, f.payload)])) ∧
    (∀ e ∈ [(Instr.oneWayDelayRequest, [0]), (Instr.requestWithFollowUp, [1]), (Instr.oneWayDelayResponse, [2]), (Instr.remoteRequest, [3, 4]), (Instr.followUp, [5])],
      s.d.portRuns p = true → isOwd f = true → beNat f.payload 5 1 ∈ e.2 → owdGood f = false → ∃ s', exec (e.1 p f) s = .next s' ∧ s'.mem = s.mem ∧
        s'.d.rad = s.d.rad ∧ s'.d.out = s.d.out ∧ s'.d.get (RAD_PORT_DISC_ECPRI p) = min 65535 (s.d.get (RAD_PORT_DISC_ECPRI p) + 1) ∧
        ∀ g : Fld, Fld.key g ≠ Fld.key (RAD_PORT_DISC_ECPRI p) → s'.d.get g = s.d.get g) ∧
    (msg 0 → ∃ s', exec (.oneWayDelayRequest p f) s = .next s' ∧ s'.mem = s.mem ∧ s'.d.regs = s.d.regs ∧ sent s'.d 2 (s.d.owdTime p false) ∧
      exec (.oneWayDelayRequest p f) s = .next (finish s (settle s.mem (ecpriIn s.d p f)))) ∧
    (msg 1 → ∃ s', exec (.requestWithFollowUp p f) s = .next s' ∧ s'.mem = s.mem ∧ s'.d.regs = s.d.regs ∧ s'.d.out = s.d.out ∧
      (s'.d.owd p).held.find? (fun h => h.1 == id) = some (id, s.d.owdTime p false) ∧ (s'.d.owd p).own = (s.d.owd p).own) ∧
    (msg 5 → (∀ h, (s.d.owd p).held.find? (fun h => h.1 == id) = some h → ∃ s', exec (.followUp p f) s = .next s' ∧ s'.mem = s.mem ∧ s'.d.regs = s.d.regs ∧
        sent s'.d 2 h.2 ∧ (s'.d.owd p).held.find? (fun h => h.1 == id) = none) ∧
      ((s.d.owd p).held.find? (fun h => h.1 == id) = none → exec (.followUp p f) s = .next { s with d := d1 })) ∧
    (msg 3 ∨ msg 4 → ∃ s', exec (.remoteRequest p f) s = .next s' ∧ s'.mem = s.mem ∧ s'.d.regs = s.d.regs ∧
      sent s'.d 0 (d1.owdTime p true) ∧ (s'.d.owd p).own = (s.d.owd p).own.filter (fun o => o.1 != id) ++ [(id, d1.owdTime p true)]) ∧
    (s.d.stamps p = true → s.d.owdTime p false = s.d.portStamp p false ∧ d1.owdTime p true = s.d.portStamp p true) ∧
    (msg 2 → (∀ t, (s.d.owd p).own.find? (fun o => o.1 == id) = some (id, t) → ∃ s', exec (.oneWayDelayResponse p f) s = .next s' ∧ s'.mem = s.mem ∧
        s'.d.get (RAD_PORT_DELAY_MEAS_ID p) = id % 256 ∧ s'.d.get (RAD_PORT_DELAY_VALID p) = 1 ∧
        s'.d.get (RAD_PORT_DELAY_DELAY_NS p) = encInt 32 ((((ecpriTime f.payload 6 * 65536 : Nat) : Int) - sext 64 (beNat f.payload 16 8) - t) / 65536) % 2 ^ 32 ∧
        (s'.d.owd p).own = (s.d.owd p).own.filter (fun o => o.1 != id)) ∧
      ((s.d.owd p).own.find? (fun o => o.1 == id) = none → exec (.oneWayDelayResponse p f) s = .next { s with d := d1 }))

/-- R286, R287, R294, R312. That an event whose condition is false does nothing is the model's (log 3). -/
def Obligations.IqStreams : Prop :=
  ∀ s : State, s.serving →
    (∀ (p : Fin 4) (f : Frame),
      let b := f.payload
      let count := beNat b 14 2 % 4096
      let off := beNat b 12 2
      let ant := beNat b 4 2 % 8
      let k := s.d.nearTick (beNat b 8 4)
      (s.d.portRuns p = false → exec (.iqDataMessage p f) s = .next s) ∧
      (s.d.portRuns p = true → s.d.cellOf p (beNat b 4 2 / 8) = none → ∃ s', exec (.iqDataMessage p f) s = .next s' ∧ s'.mem = s.mem ∧ s'.d.rad = s.d.rad ∧
        s'.d.get (RAD_PORT_DISC_ECPRI p) = min 65535 (s.d.get (RAD_PORT_DISC_ECPRI p) + 1) ∧
        ∀ g : Fld, Fld.key g ≠ Fld.key (RAD_PORT_DISC_ECPRI p) → s'.d.get g = s.d.get g) ∧
      (∀ n, s.d.portRuns p = true → s.d.cellOf p (beNat b 4 2 / 8) = some n →
        let c := s.d.cellCfg true n
        beNat b 0 1 = 0x10 → beNat b 1 1 = 0 → beNat b 7 1 = 0x80 → sizeAgrees f = true → beNat b 14 2 / 4096 = c.ulFmt → c.ulFmt < 3 →
        beNat b 2 2 = 12 + iqBytes c.ulFmt count → (c.ulFmt = 2 → bfpBad (b.drop 16) count = false) → ant < c.rx → c.vlanEn = false → f.tags = [] →
        0 < count → count ≤ 2048 → off + count ≤ c.samples (s.d.get LTH_TICK_CFG_PERIOD) → off % 16 = 0 → count % 16 = 0 →
        s.d.windowOpen n k = true → (∀ r ∈ s.d.rad.iq, r.cell = n → r.interval = k.toNat → r.ant = ant → r.off + r.count ≤ off ∨ off + count ≤ r.off) →
        ∃ s', exec (.iqDataMessage p f) s = .next s' ∧ s'.mem = s.mem ∧ s'.d.regs = s.d.regs ∧
          s'.d.rad = { s.d.rad with iq := s.d.rad.iq ++ [⟨n, k.toNat, ant, off, count, c.ulFmt, b.drop 16,
            if s.d.stamps p then some (s.d.portStamp p false) else none⟩] })) ∧
    (∀ n : Fin 512, (sfind s.d.rad.cells n = none → exec (.ingressWindowClose n) s = .next s) ∧
      (∀ r, sfind s.d.rad.cells n = some r → s.d.tick ≠ 0 →
        let k := s.d.tick - 1
        let c := s.d.cellCfg true n
        let got (a : Nat) := s.d.received n k a (c.samples (s.d.get LTH_TICK_CFG_PERIOD))
        r.first ≤ k → s.d.rad.closed.contains (n.1, k) = false → ∃ s', exec (.ingressWindowClose n) s = .next s' ∧ s'.mem = s.mem ∧
          s'.d.rad.closed.contains (n.1, k) = true ∧ (∀ x ∈ s'.d.rad.iq, x.cell = n → k < x.interval) ∧
          (∃ r', sfind s'.d.rad.cells n = some r' ∧ r'.window = some k ∧
            ∀ a < c.rx, (r'.input.getD a []).drop (c.taps * c.dft) = (got a).map (fun x => x.getD 0#32)) ∧
          ((∃ a < c.rx, none ∈ got a) → s'.d.get (RAD_CELL_STAT_MISS n) = min 65535 (s.d.get (RAD_CELL_STAT_MISS n) + 1) ∧
            s'.d.missKnown n k false = true) ∧
          ((∀ a < c.rx, none ∉ got a) → s'.d.regs = s.d.regs ∧ s'.d.rad.misses = s.d.rad.misses))) ∧
    (∀ (t : Fin 320) (i : Nat) (r : RItem), (s.d.tile t).radio[i]? = some r → ∃ s', exec (.radioInputArrival t i) s = .next s' ∧ s'.mem = s.mem ∧
      s'.d.regs = s.d.regs ∧ (s'.d.tile t).radio[i]? = some { r with arrived := true }) ∧
    (∀ n : Fin 512, (sfind s.d.rad.cells n = none → s.d.subsOf n = [] → exec (.dlIqEgress n) s = .next s) ∧
      (∀ r, sfind s.d.rad.cells n = some r → s.d.subsOf n = [] → sfind r.egress (s.d.tick + 1) = none →
        let c := s.d.cellCfg true n
        c.role = 0 → r.first < s.d.tick + 1 → s.d.portRuns c.port = true → ∃ s' fresh, exec (.dlIqEgress n) s = .next s' ∧ s'.mem = s.mem ∧
          s'.d.out.frames = s.d.out.frames ++ fresh ∧ (∀ x ∈ fresh, x.1 = c.port) ∧
          fresh.length = c.tx * ceilDiv (c.samples (s.d.get LTH_TICK_CFG_PERIOD)) (max 1 (s.d.get (actF RAD_FRAME_CFG_DL_MSG_SAMPLES)))))

/-- R56, R61, R146, R296, R299, R300, R372. That CONFIG_ACTIVATE before its boundary does nothing is the model's (log 3). -/
def Obligations.RadioConfiguration : Prop :=
  ∀ s : State, s.serving →
    (∀ (a : Agent) (v : W32), s.d.asks a .bar0 0x280018 →
      let d0 := s.d.set RAD_CFG_CTRL_VIEW (v.toNat / 2)
      let d1 := ((d0.set RAD_CFG_ERR_CELL 0).set RAD_CFG_ERR_CH 0x1FF).set RAD_CFG_ERR_CHECK 0
      (s.d.is RAD_CFG_CTRL_PENDING = true → ∃ s', exec (.radCfgCommit a v) s = .next s' ∧ s'.mem = s.mem ∧
        s'.d.get RAD_CFG_CTRL_RESULT = stREFUSED_STATE ∧ s'.d.get RAD_CFG_CTRL_PENDING = 1 ∧ s'.d.rad = s.d.rad) ∧
      (∀ e, s.d.is RAD_CFG_CTRL_PENDING = false → d0.radioCheck = some e → ∃ s', exec (.radCfgCommit a v) s = .next s' ∧ s'.mem = s.mem ∧
        s'.d.get RAD_CFG_CTRL_RESULT = stREFUSED_STATE ∧ s'.d.get RAD_CFG_CTRL_PENDING ≠ 1 ∧ s'.d.get RAD_CFG_ERR_CELL = e.1 % 512 ∧
        s'.d.get RAD_CFG_ERR_CH = e.2.1 % 512 ∧ s'.d.get RAD_CFG_ERR_CHECK = e.2.2 % 16 ∧ s'.d.rad = s.d.rad) ∧
      (s.d.is RAD_CFG_CTRL_PENDING = false → d0.radioCheck = none → d1.admitVerdict.1 ≠ 0 → ∃ s', exec (.radCfgCommit a v) s = .next s' ∧
        s'.mem = s.mem ∧ s'.d.get RAD_CFG_CTRL_RESULT = stREFUSED_STATE ∧ s'.d.get LTH_STATUS_LAST_ADMIT = stREFUSED_STATE ∧
        s'.d.get LTH_ADMIT_DETAIL_KIND = d1.admitVerdict.1 % 8 ∧ s'.d.get LTH_ADMIT_DETAIL_INDEX = d1.admitVerdict.2 % 1024 ∧
        s'.d.get RAD_CFG_CTRL_PENDING ≠ 1 ∧ s'.d.rad = s.d.rad) ∧
      (s.d.is RAD_CFG_CTRL_PENDING = false → d0.radioCheck = none → d1.admitVerdict.1 = 0 →
        ∃ s', exec (.radCfgCommit a v) s = .next s' ∧ s'.mem = s.mem ∧ s'.d.tiles = s.d.tiles ∧ s'.d.chucks = s.d.chucks ∧
          s'.d.get RAD_CFG_CTRL_RESULT = stOK ∧ s'.d.get RAD_CFG_CTRL_PENDING = 1 ∧ s'.d.get LTH_STATUS_LAST_ADMIT = stOK ∧
          s'.d.rad = { s.d.rad with admitTick := s.d.ticksLater 2 } ∧
          ∀ i < 32, s'.d.get (LTH_RADIO_LOAD_LOAD i) = (if s.d.is (LTH_RADIO_TILE_VALID i) then d1.entryLoad false i else 0) % 2 ^ 20)) ∧
    (s.d.mayActivate = false → exec .configActivate s = .next s) ∧
    (s.d.mayActivate = true → s.d.rad.cells = [] → s.d.regs.Pairwise (fun x y => x.1 < y.1) →
      ∃ d', exec .configActivate s = .next (finish s (settle s.mem d')) ∧ d'.get RAD_CFG_CTRL_PENDING = 0 ∧ d'.gact = s.d.gimg ∧
        d'.rad.loads = (s.d.validCells false).filter (fun n => !s.d.cellSame n) ∧ d'.get GGC_STATUS_LOADING = (if d'.rad.loads = [] then 0 else 1) ∧
        (∀ i < 32, s.d.is (LTH_RADIO_TILE_VALID i) = true → let t := s.d.get (LTH_RADIO_TILE_TILE i)
          t < 320 → (∀ j < 32, s.d.is (LTH_RADIO_TILE_VALID j) = true → s.d.get (LTH_RADIO_TILE_TILE j) = t → j = i) →
          d'.get (CUB_SEQ_PART_BANKS t 0) = 2 ^ s.d.get (LTH_RADIO_TILE_CHUCK0_BANKS i) - 1 ∧ d'.get (CUB_SEQ_PART_VALID t 0) = 1) ∧
        ∀ g : Fld, g.lo < 64 → inRadioSet g.addr = true → (∀ n, Fld.key g ≠ Fld.key (RAD_CELL_ROLE n)) → d'.get (actF g) = s.d.get g) ∧
    (∀ n : Fin 512, ∃ s', exec (.gougeImageLoadDone n) s = .next s' ∧ s'.mem = s.mem ∧ s'.d.rad.loads = s.d.rad.loads.filter (fun k => k / 32 != n.1 / 32) ∧
      s'.d.get GGC_STATUS_LOADING = (if s'.d.rad.loads = [] then 0 else 1) ∧
      ∀ g : Fld, Fld.key g ≠ Fld.key GGC_STATUS_LOADING → s'.d.get g = s.d.get g)

/-- R84, R295, R303, R341, R348. That an event whose condition is false does nothing is the model's (log 3). -/
def Obligations.RolesAndRings : Prop :=
  ∀ s : State, s.serving →
    let due := s.d.is RAD_CTRL_EN = true ∧ s.d.is TSU_STATUS_VALID = true ∧ s.d.is LTH_STATUS_LOCKED = true ∧ s.d.tick % s.d.frameTicks = 0 ∧
        s.d.get LTH_TICK_CFG_SYNC_MODE ≠ 0
    (∀ (a : Agent) (v : W32), s.d.asks a .bar0 0x280024 →
      let n := v.toNat % 512
      let role := v.toNat / 512 % 4
      let refused := s.d.is RAD_CFG_CTRL_PENDING = true ∨ s.d.is (actF (RAD_CELL_VALID n)) = false ∨ 1 < role
      (refused → ∃ s', exec (.radRoleCmd a v) s = .next s' ∧ s'.mem = s.mem ∧ s'.d.get RAD_ROLE_CMD_RESULT = stREFUSED_STATE ∧ s'.d.rad = s.d.rad) ∧
      (¬ refused → ∃ d', exec (.radRoleCmd a v) s = .next (finish s (settle s.mem d')) ∧ d'.get RAD_ROLE_CMD_RESULT = stOK ∧
        sfind d'.rad.roles n = some (role, s.d.ticksLater 1, false) ∧ d'.rad.cells = s.d.rad.cells)) ∧
    (∀ n : Fin 512,
      ((∀ role k, sfind s.d.rad.roles n = some (role, k, false) → s.d.tick < k ∨ s.d.tick % s.d.frameTicks ≠ 0) →
        exec (.roleChangeEffect n) s = .next s) ∧
      (∀ role k, sfind s.d.rad.roles n = some (role, k, false) → k ≤ s.d.tick → s.d.tick % s.d.frameTicks = 0 →
        ∃ s', exec (.roleChangeEffect n) s = .next s' ∧ s'.mem = s.mem ∧ sfind s'.d.rad.roles n = none ∧
          s'.d.get (actF (RAD_CELL_ROLE n)) = role % 4 ∧
          (role = 1 → s.d.get (actF (RAD_CELL_ROLE n)) ≠ 1 → s'.d.subsOf n = []) ∧
          ∀ g : Fld, Fld.key g ≠ Fld.key (actF (RAD_CELL_ROLE n)) → s'.d.get g = s.d.get g)) ∧
    ((¬ due → exec .cellsOnAir s = .next s) ∧
      (due → ∃ s', exec .cellsOnAir s = .next s' ∧ s'.mem = s.mem ∧ s'.d.get RAD_STATUS_ON_AIR = s'.d.rad.cells.length % 1024 ∧
        (∀ n ∈ s.d.validCells true, sfind s.d.rad.cells n = none → sfind s'.d.rad.cells n = some { first := s.d.tick, since := s.d.tick }) ∧
        ∀ n r, sfind s.d.rad.cells n = some r → sfind s'.d.rad.cells n = some r)) ∧
    (∀ (a : Agent) (q : Fin 1024) (v : W32), s.d.asks a .bar0 (0x2A000C + 32 * q) → ∃ s', exec (.ringDoorbell a q v) s = .next s' ∧ s'.mem = s.mem ∧
      s'.d.get (RAD_RING_PROD_PROD q) = (if q.1 % 2 = 1 then v.toNat else s.d.get (RAD_RING_PROD_PROD q)) ∧
      ∀ g : Fld, Fld.key g ≠ Fld.key (RAD_RING_PROD_PROD q) → s'.d.get g = s.d.get g) ∧
    (∀ (a : Agent) (q : Fin 1024) (v : W32), s.d.asks a .bar0 (0x2A0008 + 32 * q) →
      let order := v.toNat % 32
      let es := v.toNat / 32 % 8
      let was := s.d.is (RAD_RING_CFG_VALID q)
      let d1 := (s.d.set RAD_STATUS_CFG_REFUSED 0).set (RAD_RING_CFG_INT_EN q) (v.toNat / 256 % 2)
      let d2 := (d1.set (RAD_RING_CFG_ORDER q) order).set (RAD_RING_CFG_ESIZE q) es
      let fits := order ≤ 16 ∧ es ≤ 5 ∧ d2.insideWritable (some 0) (s.d.get (RAD_RING_BASE_BASE q) * 4096) (128 * 2 ^ es * 2 ^ order) = true
      ∃ s', exec (.radioRingCfgWrite a q v) s = .next s' ∧ s'.mem = s.mem ∧ s'.d.get (RAD_RING_CFG_INT_EN q) = v.toNat / 256 % 2 ∧
        (was = true → s'.d.get (RAD_RING_CFG_ORDER q) = s.d.get (RAD_RING_CFG_ORDER q) ∧ s'.d.get (RAD_RING_CFG_ESIZE q) = s.d.get (RAD_RING_CFG_ESIZE q)) ∧
        (was = false → s'.d.get (RAD_RING_CFG_ORDER q) = order ∧ s'.d.get (RAD_RING_CFG_ESIZE q) = es) ∧
        (v.toNat / 2 ^ 31 = 0 → s'.d.get (RAD_RING_CFG_VALID q) = 0) ∧
        (v.toNat / 2 ^ 31 = 1 → was = true ∨ fits → s'.d.get (RAD_RING_CFG_VALID q) = 1) ∧
        (v.toNat / 2 ^ 31 = 1 → was = false → ¬ fits → s'.d.get (RAD_RING_CFG_VALID q) ≠ 1 ∧ s'.d.get RAD_STATUS_CFG_REFUSED = 1))

/-- R41, R51, R331, R338, R339, R348, R369, R402. That an event whose condition is false does nothing is the model's (log 3). -/
def Obligations.SubmissionsAndItems : Prop :=
  ∀ s : State, s.serving →
    (∀ n : Fin 512,
      let q := 2 * n.1 + 1
      let cons := s.d.get (RAD_RING_CONS_CONS q)
      (sfind s.d.rad.cells n = none ∨ s.d.is (RAD_RING_CFG_VALID q) = false ∨ ringUsed (s.d.get (RAD_RING_PROD_PROD q)) cons = 0 ∨ 64 ≤ (s.d.subsOf n).length →
        exec (.submissionFetch n) s = .next s) ∧
      (∀ r, sfind s.d.rad.cells n = some r → (s.d.cellCfg true n).role = 0 → s.d.is (RAD_RING_CFG_VALID q) = true →
        ringUsed (s.d.get (RAD_RING_PROD_PROD q)) cons ≠ 0 → (s.d.subsOf n).length < 64 → s.d.is (RAD_RING_CFG_INT_EN q) = false →
        let c := s.d.cellCfg true n
        let size := 128 * 2 ^ s.d.get (RAD_RING_CFG_ESIZE q)
        let off := s.d.get (RAD_RING_BASE_BASE q) * 4096 + cons % 2 ^ s.d.get (RAD_RING_CFG_ORDER q) * size
        (∀ k < size, s.d.readPlain (off + k)) →
        let h := uWords s.mem s.d off 8
        let len := if wfld h SUBM_KIND = 1 then 64 else min (wfld h SUBM_LEN) (size - 64)
        let j := s.d.nearTick (wfld h SUBM_START_INTERVAL)
        let sub : Sub := ⟨h, uBytes s.mem s.d (off + 64) len, cons, j.toNat, none⟩
        let d1 := s.d.set (RAD_RING_CONS_CONS q) (cons + 1)
        let reason := if d1.subBad n c sub (size - 64) then rnBAD_FIELD else if j ≤ (s.d.tick : Int) + (if r.since = s.d.tick then 3 else 4) then rnLATE
          else if j - s.d.tick > 65535 then rnFAR else if d1.subOverlap n c sub (s.d.subsOf n) then rnOVERLAP else 0
        ∃ s', exec (.submissionFetch n) s = .next s' ∧ s'.mem = s.mem ∧ s'.d.get (RAD_RING_CONS_CONS q) = (cons + 1) % 2 ^ 32 ∧
          (reason = 0 → s'.d.subsOf n = s.d.subsOf n ++ [sub] ∧ s'.d.rad.recs = s.d.rad.recs) ∧
          (reason ≠ 0 → s'.d.subsOf n = s.d.subsOf n ∧ ∃ rec, sget s'.d.rad.recs n [] = sget s.d.rad.recs n [] ++ [rec] ∧ rec.kind = 3 ∧
            wfld rec.words UREC_STATUS = stREFUSED_STATE ∧ wfld rec.words UREC_REASON = reason ∧ wfld rec.words UREC_TAG = wfld h SUBM_TAG))) ∧
    (∀ n : Fin 512,
      (sfind s.d.rad.cells n = none → ∀ dl, exec (.codingItem n dl) s = .next s) ∧
      (∀ r, sfind s.d.rad.cells n = some r →
        (s.d.tick < 3 → exec (.codingItem n false) s = .next s) ∧
        ((s.d.cellCfg true n).role ≠ 0 → exec (.codingItem n true) s = .next s) ∧
        (∀ dl, s.d.lathe.inGuard = true ∨ s.d.codingRan n dl = true → exec (.codingItem n dl) s = .next s) ∧
        (3 ≤ s.d.tick → s.d.lathe.inGuard = false → s.d.codingRan n false = false →
          let x := codingUl s.mem (s.d.codingPlace n false) n (s.d.tick - 3)
          let due := (s.d.cellCfg true n).plan.any (fun y => y.ul) = true ∧ r.first + 3 ≤ s.d.tick
          (∀ y ∈ sget x.rad.segs n [], s.d.tick - 3 < y.1) ∧ (∀ y ∈ sget x.rad.recs n [], y.kind ∉ [0, 1, 2]) ∧
          (x.poolShort = true → exec (.codingItem n false) s = .next (finish s (settle s.mem (codingCut s.mem s.d n false 1)))) ∧
          (s.d.pool.length = 32 → (due → exec (.codingItem n false) s = .next (finish s (settle s.mem (codingPost s.mem x n false stOK 1)))) ∧
            (¬ due → exec (.codingItem n false) s = .next (finish s (settle s.mem x))))) ∧
        ((s.d.cellCfg true n).role = 0 → s.d.lathe.inGuard = false → s.d.codingRan n true = false → s.d.pool.length = 32 →
          let e := codingDl (s.d.codingPlace n true) n
          let x := if (s.d.cellCfg true n).plan.any (fun y => y.ul) = true then e else flushRecs s.mem (missRecs e n 0) n [0]
          exec (.codingItem n true) s = .next (finish s (settle s.mem (codingPost s.mem x n true stOK 1))) ∧
          (e.subsOf n).map (·.hdr) = (s.d.subsOf n).map (·.hdr) ∧
          (∀ y ∈ e.subsOf n, wfld y.hdr SUBM_KIND = 0 → y.interval ≤ s.d.tick + 4 → y.bits ≠ none) ∧
          ∀ g : Fld, Fld.key g ≠ Fld.key RAD_CE_PEAK_BITS → e.get g = s.d.get g))) ∧
    (∀ (n : Fin 512) (mod : Bool),
      let g := s.d.gcore n
      let l := s.d.gougeList n
      (s.d.gougeUp n = false ∨ s.d.lathe.inGuard = true ∨ g.item ≠ none ∨ g.ran.contains mod = true ∨ (if mod then l.1 else l.2) = false →
        exec (.gougeItemStart n mod) s = .next s) ∧
      (s.d.is GGC_CTRL_EN = true → s.d.rad.loads.contains n.1 = false → g.off = false → s.d.lathe.inGuard = false → g.item = none → g.ran.contains mod = false →
        (if mod then l.1 = true ∧ g.ran = [] else l.2 = true ∧ (l.1 = false ∨ g.ran.contains true = true)) →
        let i := if mod = true ∨ l.1 = false then 0 else 1
        ∃ d', exec (.gougeItemStart n mod) s = .next (finish s (settle s.mem d')) ∧
          (d'.gcore n).item = some (mod, i, if mod then s.d.tick + 3 else s.d.tick - 2) ∧ (d'.gcore n).pc = Config.gougeEntry mod % 4096 ∧
          (d'.gcore n).ran = g.ran ++ [mod] ∧ d'.get (GGC_CORE_STAT_BUSY n) = 1 ∧ d'.get (GGC_CORE_STAT_ITEM n) = i)) ∧
    (∀ (n : Fin 512) (ch : Fin 320) (o : Fin 2),
      let k := rxKey n ch o
      (sfind s.d.rad.rx k = none → exec (.syncSearchTimeout n ch o) s = .next s ∧ exec (.noiseMeasurement n ch o) s = .next s) ∧
      (∀ r x, sfind s.d.rad.rx k = some r → (s.d.plan true n).find? (fun x => x.ch == ch.1) = some x → r.bits.length < syncLimit (s.d.mode true n x.mode) →
        exec (.syncSearchTimeout n ch o) s = .next s) ∧
      (∀ r x, sfind s.d.rad.rx k = some r → (s.d.plan true n).find? (fun x => x.ch == ch.1) = some x → syncLimit (s.d.mode true n x.mode) ≤ r.bits.length →
        r.phase = 1 → ∃ s', exec (.syncSearchTimeout n ch o) s = .next s' ∧ s'.mem = s.mem ∧
        sfind s'.d.rad.rx k = some { r.release with w := r.wOld } ∧
        s'.d.get (RAD_MODEM_STAT_FALSE_PRE n) = min 65535 (s.d.get (RAD_MODEM_STAT_FALSE_PRE n) + 1) ∧
        ∀ g : Fld, Fld.key g ≠ Fld.key (RAD_MODEM_STAT_FALSE_PRE n) → s'.d.get g = s.d.get g) ∧
      (∀ r x, sfind s.d.rad.rx k = some r → (s.d.plan true n).find? (fun x => x.ch == ch.1) = some x →
        let f := r.noise (s.d.rxCfg n (s.d.cellCfg true n) x o)
        ∃ s', exec (.noiseMeasurement n ch o) s = .next s' ∧ s'.mem = s.mem ∧ s'.d.regs = s.d.regs ∧ sfind s'.d.rad.rx k = some f.1 ∧
          (∀ i j, (s.d.gcore n).item = some (false, i, j) → (s'.d.gcore n).made = (s.d.gcore n).made ++ f.2 ∧ s'.d.rad.segs = s.d.rad.segs) ∧
          ((s.d.gcore n).item = none → sget s'.d.rad.segs n [] = sget s.d.rad.segs n [] ++ [(s.d.tick - 2, f.2)])))

/-- R353, R357, R359-R362, R370. -/
def Obligations.GougeArithmetic : Prop :=
  ∀ (s : State) (n : Fin 512) (w : W64), s.serving →
    let g := s.d.gcore n
    let x := g.args w
    let calm := g.item ≠ none ∧ g.rep = none ∧ g.slots = none ∧ g.loops = []
    let clip (v : Int) : Int := clampInt (-32768) 32767 v
    let clips (v : Int) : Bool := decide (clip v ≠ v)
    let whole (k : Nat) (v : Int) : GOut := { writes := [(k, .reg x.dst 3, v)] }
    let lanes (lo hi : Int) : GOut := { whole 2 (gPair (clip lo) (clip hi)) with sat := clips lo || clips hi }
    let wrap (v : Int) : Int := sext 40 (encInt 40 v)
    let up (a : Nat) (v : Int) : Nat × Int :=
      let v := if x.modf.testBit 1 then -v else v
      (a, if x.modf.testBit 0 then v else sget g.acc a 0 + v)
    let mac (l : List (Nat × Int)) : GOut := { writes := l.map (fun e => (2, .acc e.1, wrap e.2)), accs := l.map (fun e => (e.1, wrap e.2)), aov := l.any (fun e => wrap e.2 != e.2) }
    let dot (a b : W32) : Int := wre a * wre b + wim a * wim b
    let shifted (v : Int) : Int := if x.modf.testBit 1 ∧ x.sb ≠ 0 then (v + 2 ^ (x.sb - 1)) / 2 ^ x.sb else v / 2 ^ x.sb
    let h := g.cget (crH x.acc)
    let upd (old b : Int) : Int :=
      let p := if h = 0 then wre x.a * b else roundAway (wre x.a * b) (2 ^ h)
      if x.modf.testBit 1 then old - p else old + p
    let im := if x.modf.testBit 2 then -wim x.b else wim x.b
    let still (d : Dev) : Prop := (∀ f : Fld, Fld.key f ≠ Fld.key (GGC_INT_MAX_HOLDOFF n) → d.get f = s.d.get f) ∧ (g.held = none → d.regs = s.d.regs)
    let ext (a : Nat) : Int := if x.sb = 0 then sget g.accX a 0
      else if x.modf.testBit 1 then roundAway (sget g.accX a 0) (2 ^ x.sb) else (sget g.accX a 0 + 2 ^ (x.sb - 1)) / 2 ^ x.sb
    (∀ e ∈ gougeRows n w, ∀ e' ∈ gougeRows n w, gougeOp w = some e'.1 → exec e.2 s = exec e'.2 s) ∧
    (gougeOp w = none → g.item ≠ none → ∀ e ∈ gougeRows n w,
      exec e.2 s = .next (finish s (settle s.mem (gFault s.mem (s.d.gLand n g.cyc) n gcENCODING)))) ∧
    (∀ e ∈ [((Instr.gougeNop : Fin 512 → W64 → Instr), GougeOp.nop, false, ({} : GOut)), (Instr.gougeMov, GougeOp.mov, false, whole 2 x.a.toNat),
        (Instr.add2, GougeOp.add2, false, lanes (wre x.a + wre x.b) (wim x.a + wim x.b)), (Instr.sub2, GougeOp.sub2, false, lanes (wre x.a - wre x.b) (wim x.a - wim x.b)),
        (Instr.gougeAnd, GougeOp.and, false, whole 2 (x.a &&& x.b).toNat), (Instr.gougeOr, GougeOp.or, false, whole 2 (x.a ||| x.b).toNat), (Instr.gougeXor, GougeOp.xor, false, whole 2 (x.a ^^^ x.b).toNat),
        (Instr.asr2, GougeOp.asr2, decide (15 < x.sb), whole 2 (gPair (shifted (wre x.a)) (shifted (wim x.a)))),
        (Instr.pack, GougeOp.pack, false, whole 2 (gPair (wre x.a) (wre x.b))),
        (Instr.cmp, GougeOp.cmp, false, { writes := [(2, .cmp, (if wre x.a = wre x.b then 1 else 0) + (if wre x.a < wre x.b then 2 else 0))] }),
        (Instr.slice, GougeOp.slice, false, whole 2 (gPair (gSlice (x.modf.testBit 0) (wre x.a)) 0)),
        (Instr.atan, GougeOp.atan, false, whole 4 (gPair (argUnits (wre x.a) (wim x.a)) 0)),
        (Instr.cmac, GougeOp.cmac, decide (x.acc % 2 = 1), mac [up x.acc (wre x.a * wre x.b - wim x.a * im), up (x.acc + 1) (wre x.a * im + wim x.a * wre x.b)]),
        (Instr.rdot2, GougeOp.rdot2, false, mac [up x.acc (dot x.a x.b)]),
        (Instr.rdot4, GougeOp.rdot4, decide (x.sb = 31 ∨ wfld [w] GA_SA = 31), mac [up x.acc (dot x.a x.b + dot x.a1 x.b1)]),
        (Instr.rmul4, GougeOp.rmul4, decide (x.acc ≠ 0 ∧ x.acc ≠ 4), mac [up x.acc (wre x.a * wre x.b), up (x.acc + 1) (wim x.a * wre x.b),
          up (x.acc + 2) (wre x.a * wim x.b), up (x.acc + 3) (wim x.a * wim x.b)]),
        (Instr.dupd, GougeOp.dupd, false, lanes (upd (wre x.old) (wre x.b)) (upd (wim x.old) (wim x.b))),
        (Instr.ext, GougeOp.ext, false, { writes := [(2, .reg x.dst (if x.modf.testBit 0 then 2 else 1), gPair (clip (ext x.acc)) (clip (ext x.acc)))], sat := clips (ext x.acc) }),
        (Instr.extc, GougeOp.extc, decide (x.acc = 7), lanes (ext x.acc) (ext (x.acc + 1)))],
      calm → g.flight = [] → gougeOp w = some e.2.1 →
        (e.2.2.1 = false → gMoves w = [] → ∃ s', exec (e.1 n w) s = .next s' ∧ s'.mem = s.mem ∧ still s'.d ∧ s'.d.gmem = s.d.gmem ∧ s'.d.rad = s.d.rad ∧
          (∀ k, k ≠ n.1 → s'.d.gcore k = s.d.gcore k) ∧
          let g' := s'.d.gcore n
          g'.item = g.item ∧ g'.pc = (g.pc + 1) % 4096 ∧ g'.cyc = (g.cyc + 1) % 2 ^ 32 ∧ g'.regs = g.regs ∧ g'.accX = g.accX ∧ g'.stack = g.stack ∧
          g'.flight = e.2.2.2.writes.map (fun y => (g.cyc + y.1, y.2.1, y.2.2)) ∧
          (∀ a, sget g'.acc a 0 = match e.2.2.2.accs.find? (fun y => y.1 == a) with | some y => y.2 | none => sget g.acc a 0) ∧
          g'.cget crSR = (g.cget crSR ||| (if e.2.2.2.aov then 4 else 0) ||| (if e.2.2.2.sat then 8 else 0)) % 16 ∧
          g'.cget crRRB = (if wfld [w] GA_RT = 1 then (g.cget crRRB + 1) % 16 else g.cget crRRB) ∧
          ∀ c, c ≠ crSR → c ≠ crRRB → c ≠ crCYC → g'.cget c = g.cget c) ∧
        (e.2.2.1 = true → s.d.get (GGC_FAULT_VALID n) = 0 → ∃ d', exec (e.1 n w) s = .next (finish s (settle s.mem d')) ∧ (d'.gcore n).item = none ∧
          d'.get (GGC_FAULT_VALID n) = 1 ∧ d'.get (GGC_FAULT_CAUSE n) = gcENCODING)) ∧
    (∀ v, calm → g.flight = [] → gougeOp w = some .nop → gMoves w = [v] → gAccessBad v.store (g.cget (crP v.ptr)) = false →
      let a := g.cget (crP v.ptr)
      ∃ s', exec (.gougeNop n w) s = .next s' ∧ s'.mem = s.mem ∧ still s'.d ∧ s'.d.gmem = s.d.gmem ∧ s'.d.rad = s.d.rad ∧
        (s'.d.gcore n).flight = [(g.cyc + 2, if v.store then .word a else .reg (g.phys v.reg) 3, if v.store then ((g.rd v.reg).toNat : Int) else s.d.gword true n a)] ∧
        (v.mode = 0 → (s'.d.gcore n).cget (crP v.ptr) = a) ∧
        (v.mode = 1 → g.cget (crL v.ptr) = 0 → (s'.d.gcore n).cget (crP v.ptr) = (a + 4) % 2 ^ 18)) ∧
    (∀ t dst v, calm → g.flight = [(t, dst, v)] → gougeOp w = some .nop → gMoves w = [] →
      ∃ s', exec (.gougeNop n w) s = .next s' ∧ s'.mem = s.mem ∧ still s'.d ∧
        (g.cyc < t → (s'.d.gcore n).flight = [(t, dst, v)] ∧ (s'.d.gcore n).regs = g.regs) ∧
        (t ≤ g.cyc → (s'.d.gcore n).flight = [] ∧
          (∀ r, dst = .reg r 3 → sget (s'.d.gcore n).regs r 0#32 = BitVec.ofInt 32 v) ∧
          (∀ a, dst = .acc a → sget (s'.d.gcore n).accX a 0 = v) ∧
          (∀ c, dst = .creg c → c < 46 → wfld [w] GA_RT = 0 → (s'.d.gcore n).cget c = encInt 32 v % 2 ^ cregWidth c)))

/-- R51, R358, R360, R363-R367, R370. That no instruction of a core without an item does anything, and the timer and INTERRUPT_TAKE where their
conditions are false, are the model's (log 3). -/
def Obligations.GougeControl : Prop :=
  ∀ (s : State) (n : Fin 512) (w : W64), s.serving →
    let g := s.d.gcore n
    let calm := g.item ≠ none ∧ g.rep = none ∧ g.slots = none ∧ g.loops = [] ∧ g.flight = []
    let c := wfld [w] GBC_CREG
    let r := wfld [w] GBC_DREG
    let imm := wfld [w] GBC_IMM
    let plainC := w.toNat / 2 ^ 24 % 2 ^ 8 = 0 ∧ wfld [w] GBC_COND ≤ 4
    let runs (i : Instr) (P : Dev → GCore → Prop) : Prop := ∃ s', exec i s = .next s' ∧ s'.mem = s.mem ∧ s'.d.gmem = s.d.gmem ∧
      (∀ k, k ≠ n.1 → s'.d.gcore k = s.d.gcore k) ∧ P s'.d (s'.d.gcore n)
    let still (d : Dev) : Prop := (∀ f : Fld, Fld.key f ≠ Fld.key (GGC_INT_MAX_HOLDOFF n) → d.get f = s.d.get f) ∧ (g.held = none → d.regs = s.d.regs)
    let sends (o : GougeOp) (i : Instr) (l : List (Nat × GDst × Int)) : Prop := gougeOp w = some o → runs i (fun d g' => still d ∧ g'.flight = l ∧ g'.pc = (g.pc + 1) % 4096 ∧
      g'.regs = g.regs ∧ ∀ k, k ≠ crCYC → g'.cget k = g.cget k)
    let jumps (o : GougeOp) (i : Instr) (target : Option Nat) (rti : Bool) (stack : List Nat) : Prop := gougeOp w = some o → runs i (fun d g' => d.regs = s.d.regs ∧
      g'.slots = some (2, target, rti) ∧ g'.pc = (g.pc + 1) % 4096 ∧ g'.stack = stack ∧ g'.regs = g.regs)
    (∀ e ∈ [Instr.gougeNop, Instr.gougeMov, Instr.add2, Instr.sub2, Instr.gougeAnd, Instr.gougeOr, Instr.gougeXor, Instr.asr2, Instr.pack, Instr.cmp,
        Instr.slice, Instr.atan, Instr.cmac, Instr.rdot2, Instr.rdot4, Instr.rmul4, Instr.dupd, Instr.ext, Instr.extc, Instr.ldi, Instr.ldc, Instr.mvtc,
        Instr.mvfc, Instr.addc, Instr.gougeBr, Instr.call, Instr.ret, Instr.rep, Instr.gougeLoop, Instr.rti, Instr.swi, Instr.halt],
      g.item = none → exec (e n w) s = .next s) ∧
    (calm → w.toNat / 2 ^ 32 % 2 ^ 15 = 0 →
      sends .ldi (.ldi n w) [(g.cyc + 2, .reg (g.phys r) 3, imm)] ∧
      (c ≤ 47 → sends .mvfc (.mvfc n w) [(g.cyc + 2, .reg (g.phys r) 3, g.cget c)] ∧
        sends .ldc (.ldc n w) (if c = crIPEND ∨ c = crCYC then [] else [(g.cyc + 2, .creg c, imm)]) ∧
        sends .mvtc (.mvtc n w) (if c = crIPEND ∨ c = crCYC then [] else [(g.cyc + 2, if c = crSR then .creg crSRkeep else .creg c,
          if c = crSR then (g.rd r).toNat % 16 else (g.rd r).toNat)]) ∧
        sends .addc (.addc n w) (if c = crIPEND ∨ c = crCYC then [] else [(g.cyc + 2, if c = crSR then .creg crSRkeep else .creg c,
          if c = crSR then ((g.cget c : Int) + s32 imm) % 16 else (g.cget c : Int) + s32 imm)]))) ∧
    (calm → plainC →
      jumps .br (.gougeBr n w) (if g.cond (wfld [w] GBC_COND) then some (wfld [w] GBC_TARGET) else none) false g.stack ∧
      (g.stack.length < 8 → jumps .call (.call n w) (some (wfld [w] GBC_TARGET)) false ((g.pc + 3) % 4096 :: g.stack)) ∧
      (∀ a rest, g.stack = a :: rest → jumps .ret (.ret n w) (some a) false rest) ∧
      jumps .rti (.rti n w) none true g.stack ∧
      (gougeOp w = some .rep → runs (.rep n w) (fun d g' => still d ∧ g'.regs = g.regs ∧
        (g.count w = 0 → g'.rep = none ∧ g'.pc = (g.pc + 2) % 4096) ∧ (g.count w ≠ 0 → g'.rep = some (g.count w) ∧ g'.pc = (g.pc + 1) % 4096))) ∧
      (gougeOp w = some .loop → wfld [w] GBC_BODY ≠ 0 → g.pc + 1 + wfld [w] GBC_BODY ≤ 4096 → runs (.gougeLoop n w) (fun d g' => still d ∧ g'.regs = g.regs ∧
        (g.count w = 0 → g'.loops = [] ∧ g'.pc = (g.pc + 1 + wfld [w] GBC_BODY) % 4096) ∧
        (g.count w ≠ 0 → g'.loops = [(0, g.pc + 1, g.pc + 1 + wfld [w] GBC_BODY, wfld [w] GBC_ROT == 1)] ∧ g'.pc = g.pc + 1 ∧
          g'.cget crLC0 = g.count w % 2 ^ 20))) ∧
      (gougeOp w = some .swi → runs (.swi n w) (fun d g' => d.regs = s.d.regs ∧ g'.cget crIPEND = (g.cget crIPEND ||| 2) % 8 ∧ g'.pc = (g.pc + 1) % 4096)) ∧
      (gougeOp w = some .halt → ∃ d', exec (.halt n w) s = .next (finish s (settle s.mem (radioPost s.mem d' (512 + n) stOK 1 none))) ∧
        (d'.gcore n).item = none ∧ d'.get (GGC_CORE_STAT_BUSY n) = 0 ∧ (d'.gcore n).cget crIPEND = 0)) ∧
    (g.item ≠ none → g.flight = [] → gougeOp w = some .nop → gMoves w = [] → wfld [w] GA_RT = 0 →
      (∀ k t q, g.rep = none → g.slots = some (k, t, q) → 1 < k → runs (.gougeNop n w) (fun _ g' => g'.slots = some (k - 1, t, q) ∧ g'.pc = (g.pc + 1) % 4096)) ∧
      (∀ t, g.rep = none → g.slots = some (1, some t, false) → runs (.gougeNop n w) (fun _ g' => g'.slots = none ∧ g'.pc = t)) ∧
      (∀ t b, g.rep = none → g.slots = some (1, t, true) → g.shadow = some b → runs (.gougeNop n w) (fun _ g' => g'.slots = none ∧ g'.pc = b.pc ∧
        g'.shadow = none ∧ g'.loops = b.loops ∧ g'.cget crSR = b.sr % 16)) ∧
      (∀ k, g.rep = some k → 1 < k → runs (.gougeNop n w) (fun _ g' => g'.rep = some (k - 1) ∧ g'.pc = g.pc)) ∧
      (∀ start, g.rep = none → g.slots = none → g.loops = [(0, start, g.pc + 1, false)] →
        (1 < g.cget crLC0 → start < 4096 → runs (.gougeNop n w) (fun _ g' => g'.pc = start ∧ g'.cget crLC0 = (g.cget crLC0 - 1) % 2 ^ 20)) ∧
        (g.cget crLC0 ≤ 1 → runs (.gougeNop n w) (fun _ g' => g'.loops = [] ∧ g'.cget crLC0 = 0 ∧ g'.pc = (g.pc + 1) % 4096)))) ∧
    (∀ e ∈ [(GougeOp.br, Instr.gougeBr n w), (.call, .call n w), (.ret, .ret n w), (.rep, .rep n w), (.rti, .rti n w), (.swi, .swi n w), (.halt, .halt n w), (.loop, .gougeLoop n w)],
      gougeOp w = some e.1 → (e.1 = .loop → wfld [w] GBC_BODY ≠ 0) → g.item ≠ none → g.flight = [] → plainC → g.slots ≠ none →
      s.d.get (GGC_FAULT_VALID n) = 0 → ∃ d', exec e.2 s = .next (finish s (settle s.mem d')) ∧ (d'.gcore n).item = none ∧
        d'.get (GGC_FAULT_VALID n) = 1 ∧ d'.get (GGC_FAULT_CAUSE n) = gcSLOT) ∧
    (let gl := (s.d.gLand n g.cyc).gcore n
     let hit := gl.item ≠ none ∧ (gl.cget crTMR = gl.cyc ∨ (gl.was < gl.cget crTMR ∧ gl.cget crTMR < gl.cyc))
     (g.flight = [] → gl = g) ∧ (¬ hit → exec (.gougeTimer n) s = .next s) ∧
     (hit → gl.cget crTMR = gl.cyc ∨ gl.held ≠ none ∨ (gl.pend 0).wants = false →
         exec (.gougeTimer n) s = .next (finish s (settle s.mem (let d := (s.d.gLand n gl.cyc).setG n (gl.pend 0); if (gl.pend 0).holds then d else d.endHold n))) ∧
       (gl.pend 0).cget crIPEND = (gl.cget crIPEND ||| 1) % 8) ∧
       (hit → gl.cget crTMR < gl.cyc → gl.held = none → (gl.pend 0).wants = true →
         exec (.gougeTimer n) s = .next (finish s (settle s.mem
           (let d := (s.d.gLand n gl.cyc).setG n { gl.pend 0 with held := some (gl.cget crTMR) }; if (gl.pend 0).holds then d else d.endHold n))) ∧
       (gl.pend 0).cget crIPEND = (gl.cget crIPEND ||| 1) % 8)) ∧
    (∀ (a : Agent) (v : W32), s.d.asks a .bar0 0x30000C → v.toNat % 512 = n → runs (.ggcDoorbell a v) (fun d g' => d.regs = s.d.regs ∧
      g'.cget crIPEND = (g.cget crIPEND ||| 4) % 8)) ∧
    (let land := if g.item = none then s.d else s.d.gLand n g.cyc
     let gl := land.gcore n
     let want := gl.cget crIE &&& gl.cget crIPEND
     let v := if want.testBit 0 then 0 else if want.testBit 1 then 1 else 2
     (g.flight = [] → gl = g) ∧
     (gl.item = none ∨ gl.shadow ≠ none ∨ gl.slots ≠ none ∨ gl.loops ≠ [] ∨ gl.rep ≠ none ∨ want = 0 →
       exec (.interruptTake n) s = .next (finish s (settle s.mem land))) ∧
     (gl.item ≠ none → gl.shadow = none → gl.slots = none → gl.loops = [] → gl.rep = none → want ≠ 0 →
       ∃ d', exec (.interruptTake n) s = .next (finish s (settle s.mem d')) ∧ let g' := d'.gcore n
       g'.pc = 4 * v ∧
       g'.shadow = some ⟨gl.pc, gl.cget crSR, gl.cget crRRB, gl.cget crLC0, gl.cget crLC1, [], none⟩ ∧
       g'.cget crIPEND = (gl.cget crIPEND - 2 ^ v) % 8 ∧ g'.cyc = (gl.cyc + 3) % 2 ^ 32 ∧ g'.regs = gl.regs ∧
       d'.get (GGC_INT_MAX_HOLDOFF n) = (match gl.held with
         | some t => (land.raise (GGC_INT_MAX_HOLDOFF n) (gl.cyc - t)).get (GGC_INT_MAX_HOLDOFF n)
         | none => land.get (GGC_INT_MAX_HOLDOFF n))))

/-- R376, R378-R380, R382-R386, R388, R390-R392. That a command whose condition does not hold leaves the state as it was is log 3. -/
def Obligations.TimeUnit : Prop :=
  ∀ s : State, s.serving →
    let ref := s.d.get TSU_CTRL_REF
    let same (s' : State) (fs : List Fld) : Prop := ∀ f : Fld, (∀ g ∈ fs, Fld.key f ≠ Fld.key g) → s'.d.get f = s.d.get f
    let held (s' : State) : Prop := s'.d.get TSU_STATUS_HOLDOVER = 1 ∧ s'.d.get TSU_STATUS_PPS_LOCKED = 0 ∧ s'.d.tsu.slew = 0 ∧
      s'.d.get TSU_SLEW_LOST_AMOUNT = s.d.get TSU_SLEW_AMOUNT % 2 ^ 32 ∧ s'.d.get TSU_RATE_RATE = s.d.get TSU_RATE_RATE ∧
      s'.d.get TSU_STATUS_VALID = s.d.get TSU_STATUS_VALID ∧ s'.d.tsu.fine = s.d.tsu.fine
    let ended (s' : State) : Prop := s'.d.get TSU_STATUS_HOLDOVER = 0 ∧ s'.d.get TSU_CTRL_HOLD = 0
    (∀ (a : Agent) (v : W64), s.d.asks a .bar0 0x380020 →
      (ref = 1 → s.d.get TSU_STATUS_STEPPED ≠ 1 → ∃ s', exec (.tsuStep a v) s = .next s' ∧ s'.mem = s.mem ∧ s'.d.T = v.toNat ∧ s'.d.tsu.slew = 0 ∧
        s'.d.get TSU_STATUS_VALID = 1 ∧ s'.d.get TSU_STATUS_STEPPED = 1 ∧ s'.d.get TSU_STEP_OLD_T = s.d.T ∧
        ∀ o < 4, pulsesOf s'.d o = none ∧ (pulsesOf s.d o ≠ none → s'.d.get (TSU_PULSE_CTRL_CANCELLED o) = 1)) ∧
      (ref ≠ 1 ∨ s.d.get TSU_STATUS_STEPPED = 1 → ∃ s', exec (.tsuStep a v) s = .next s' ∧ s'.mem = s.mem ∧ s'.d.tsu = s.d.tsu ∧
        s'.d.get TSU_STATUS_STEP_REFUSED = 1 ∧ same s' [TSU_STATUS_STEP_REFUSED])) ∧
    (let e := ppsError s.d.T
     let near := e.natAbs ≤ s.d.get TSU_SERVO_CFG_PPS_WINDOW * 1000
     let seen (s' : State) : Prop := s'.mem = s.mem ∧ s'.d.get TSU_PPS_CAP_T = s.d.T ∧ s'.d.get TSU_PPS_ERR_E = encInt 32 e ∧
       s'.d.get TSU_PPS_CNT_EDGES = min 65535 (s.d.get TSU_PPS_CNT_EDGES + 1)
     (ref = 2 → s.d.get TSU_STATUS_STEPPED ≠ 1 → ∃ s', exec .ppsInEdge s = .next s' ∧ s'.mem = s.mem ∧ s'.d.get TSU_STATUS_VALID = 1 ∧
       s'.d.get TSU_STATUS_STEPPED = 1 ∧
       s'.d.T = (if s.d.get TSU_PPS_TOD_SEC = 0 then s.d.T / 1000000000 + 1 else s.d.get TSU_PPS_TOD_SEC) * 1000000000 % 2 ^ 64) ∧
     (ref ≠ 2 → ∃ s', exec .ppsInEdge s = .next s' ∧ seen s' ∧ s'.d.tsu = s.d.tsu ∧ s'.d.out = s.d.out ∧
       same s' [TSU_PPS_CAP_T, TSU_PPS_ERR_E, TSU_PPS_CNT_EDGES]) ∧
     (ref = 2 → s.d.get TSU_STATUS_STEPPED = 1 → near → ∃ s', exec .ppsInEdge s = .next s' ∧ seen s' ∧ ended s' ∧ s'.d.tsu.slew = -e * finePerNs ∧
       s'.d.get TSU_RATE_RATE = encInt 32 (clampRate (s.d.rate - e * 256 / 2 ^ min 8 (s.d.get TSU_SERVO_CFG_KI))) ∧ s'.d.tsu.rejects = 0 ∧
       s'.d.tsu.fine = s.d.tsu.fine ∧ (e.natAbs ≤ 100 → 3 ≤ s.d.tsu.good → s'.d.get TSU_STATUS_PPS_LOCKED = 1) ∧
       (100 < e.natAbs → s'.d.get TSU_STATUS_PPS_LOCKED = 0)) ∧
     (ref = 2 → s.d.get TSU_STATUS_STEPPED = 1 → ¬ near → ∃ s', exec .ppsInEdge s = .next s' ∧ seen s' ∧
       s'.d.get TSU_PPS_CNT_REJECT = min 65535 (s.d.get TSU_PPS_CNT_REJECT + 1) ∧ s'.d.tsu.rejects = s.d.tsu.rejects + 1 ∧
       s'.d.get TSU_RATE_RATE = s.d.get TSU_RATE_RATE ∧ (2 ≤ s.d.tsu.rejects → s'.d.get TSU_STATUS_HOLDOVER = 1) ∧
       (s.d.tsu.rejects < 2 → s'.d.get TSU_STATUS_HOLDOVER = s.d.get TSU_STATUS_HOLDOVER ∧ s'.d.tsu.slew = s.d.tsu.slew))) ∧
    (∀ (a : Agent) (v : W32),
      (s.d.asks a .bar0 0x380030 → ∃ s', exec (.tsuRateWrite a v) s = .next s' ∧ s'.mem = s.mem ∧ s'.d.tsu = s.d.tsu ∧
        s'.d.get TSU_RATE_RATE = encInt 32 (clampRate (s32 v.toNat)) ∧ (ref = 1 → ended s') ∧
        same s' (if ref = 1 then [TSU_RATE_RATE, TSU_STATUS_HOLDOVER, TSU_CTRL_HOLD] else [TSU_RATE_RATE])) ∧
      (s.d.asks a .bar0 0x380034 → ∃ s', exec (.tsuSlewWrite a v) s = .next s' ∧ s'.mem = s.mem ∧
        s'.d.tsu = { s.d.tsu with slew := s32 v.toNat * finePerNs } ∧ s'.d.get TSU_SLEW_AMOUNT = v.toNat ∧ (ref = 1 → ended s') ∧
        same s' (if ref = 1 then [TSU_SLEW_AMOUNT, TSU_STATUS_HOLDOVER, TSU_CTRL_HOLD] else [TSU_SLEW_AMOUNT])) ∧
      (s.d.asks a .bar0 0x380000 →
        let ref' := if v.toNat / 2 % 4 = 3 then ref else v.toNat / 2 % 4
        ∃ s', exec (.tsuHold a v) s = .next s' ∧ s'.mem = s.mem ∧ s'.d.get TSU_CTRL_EN = v.toNat % 2 ∧ s'.d.get TSU_CTRL_REF = ref' ∧
          (ref' = 1 → s.d.get TSU_STATUS_STEPPED = 1 → s.d.get TSU_STATUS_HOLDOVER ≠ 1 → held s') ∧
          (ref' ≠ 1 ∨ s.d.get TSU_STATUS_STEPPED ≠ 1 → same s' [TSU_CTRL_EN, TSU_CTRL_REF] ∧ s'.d.tsu = s.d.tsu))) ∧
    (∃ s', exec .slewDone s = .next s' ∧ s'.mem = s.mem ∧ s'.d.tsu = { s.d.tsu with slew := 0, fine :=
      ((s.d.tsu.fine : Int) + ceilDiv s.d.tsu.slew.natAbs s.d.slewStep * (10 * finePerNs + 10 * s.d.rate) + s.d.tsu.slew).toNat } ∧
      s'.d.get TSU_SLEW_AMOUNT = 0 ∧ same s' [TSU_SLEW_AMOUNT]) ∧
    (∀ e ∈ [(1, Instr.servoTimeout), (2, Instr.ppsTimeout)],
      (ref = e.1 → s.d.get TSU_STATUS_VALID = 1 → s.d.get TSU_STATUS_HOLDOVER ≠ 1 → ∃ s', exec e.2 s = .next s' ∧ s'.mem = s.mem ∧ held s' ∧
        s'.d.out.events = s.d.out.events ++ [⟨s.d.ns, srcFaceplate, .holdover, []⟩]) ∧
      (ref ≠ e.1 ∨ s.d.get TSU_STATUS_VALID ≠ 1 ∨ s.d.get TSU_STATUS_HOLDOVER = 1 → exec e.2 s = .next s)) ∧
    (∀ a : Agent,
      (s.d.asks a .bar0 0x380008 → ∃ s', exec (.tsuNsRead a false) s = .next s' ∧ s'.mem = s.mem ∧ s'.d.regs = s.d.regs ∧ s'.d.bus.rdata = s.d.T % 2 ^ 32 ∧
        sfind s'.d.bus.tlatch (agentKey a) = some (s.d.T, 7)) ∧
      (s.d.asks a .bar0 0x380060 → ∀ wide,
        (s.d.tsu.txLog = [] → ∃ s', exec (.tsuTxtsPop a wide) s = .next s' ∧ s'.mem = s.mem ∧ s'.d.bus.rdata = 0 ∧ s'.d.tsu = s.d.tsu ∧ s'.d.regs = s.d.regs) ∧
        (∀ t rest, s.d.tsu.txLog = t :: rest → ∃ s', exec (.tsuTxtsPop a wide) s = .next s' ∧ s'.mem = s.mem ∧
          s'.d.tsu = { s.d.tsu with txLog := rest, txLost := 0 } ∧ s'.d.get TSU_TXTS_TIME_T = t.stamp / 65536 % 2 ^ 64 ∧
          s'.d.bus.rdata = (t.seqId + 2 ^ 16 * t.mtype + 2 ^ 20 * t.port + (if t.ecpri then 2 ^ 24 else 0) + 2 ^ 32 * (t.stamp % 65536) +
            2 ^ 48 * s.d.tsu.txLost + 2 ^ 63) % (if wide then 2 ^ 64 else 2 ^ 32)))) ∧
    (∀ (a : Agent) (o : Fin 4) (v : W32), s.d.asks a .bar0 (0x380210 + 32 * o) →
      let start := s.d.get (TSU_PULSE_START_T o)
      let period := s.d.get (TSU_PULSE_PERIOD_NS o)
      let width := s.d.get (TSU_PULSE_WIDTH_NS o)
      let pol := v.toNat / 4 % 2
      let bad := width < 8 ∨ v.toNat % 4 = 2 ∧ period ≤ width ∨ period < 1000 ∨ 4000000000 < period
      ∃ s', exec (.tsuPulseCtrlWrite a o v) s = .next s' ∧ s'.mem = s.mem ∧ (∀ q, q ≠ o.1 → pulsesOf s'.d q = pulsesOf s.d q) ∧
        (v.toNat % 4 = 0 → pulsesOf s'.d o = none ∧ s'.d.get (TSU_PULSE_CTRL_ARMED o) = 0 ∧ s'.d.get (TSU_PULSE_NEXT_T o) = 0 ∧
          s'.d.get (TSU_PULSE_CTRL_MODE o) = 0 ∧ s'.d.get (TSU_PULSE_CTRL_POL o) = pol) ∧
        (v.toNat % 4 = 3 → pulsesOf s'.d o = pulsesOf s.d o ∧ s'.d.get (TSU_PULSE_CTRL_MODE o) = s.d.get (TSU_PULSE_CTRL_MODE o)) ∧
        (v.toNat % 4 = 1 ∨ v.toNat % 4 = 2 → bad → pulsesOf s'.d o = none ∧ s'.d.get (TSU_PULSE_CTRL_BAD o) = 1) ∧
        (v.toNat % 4 = 1 → ¬ bad → start < s.d.T + 1000 → pulsesOf s'.d o = none ∧ s'.d.get (TSU_PULSE_CTRL_LATE o) = 1) ∧
        (v.toNat % 4 = 1 → ¬ bad → s.d.T + 1000 ≤ start → pulsesOf s'.d o = some ⟨start, period, width, pol, 1, start, 0, false⟩ ∧
          s'.d.get (TSU_PULSE_CTRL_ARMED o) = 1) ∧
        (v.toNat % 4 = 2 → ¬ bad → ∃ k, s.d.T + 1000 ≤ start + k * period ∧ (k ≠ 0 → start + (k - 1) * period < s.d.T + 1000) ∧
          pulsesOf s'.d o = some ⟨start, period, width, pol, 2, start + k * period, 0, false⟩ ∧ s'.d.get (TSU_PULSE_CTRL_ARMED o) = 1)) ∧
    (∀ o : Fin 4, (s.d.get TSU_CTRL_EN ≠ 1 ∨ pulsesOf s.d o = none → exec (.pulseEdge o) s = .next s) ∧
      (∀ p, s.d.get TSU_CTRL_EN = 1 → pulsesOf s.d o = some p →
        (s.d.T + 2 < (if p.active then p.fall else p.next) → exec (.pulseEdge o) s = .next s) ∧
        (p.active = false → p.next ≤ s.d.T + 2 → ∃ s', exec (.pulseEdge o) s = .next s' ∧ s'.mem = s.mem ∧
          s'.d.out.edges = s.d.out.edges ++ [(pinPULSE o, 1 - p.pol, p.next)] ∧
          pulsesOf s'.d o = some { p with active := true, next := if p.mode = 2 then p.next + p.period else 0, fall := p.next + p.width }) ∧
        (p.active = true → p.fall ≤ s.d.T + 2 → ∃ s', exec (.pulseEdge o) s = .next s' ∧ s'.mem = s.mem ∧
          (p.mode ≠ 1 ∨ s.d.get (TSU_PULSE_CTRL_POL o) = p.pol → s'.d.out.edges = s.d.out.edges ++ [(pinPULSE o, p.pol, p.fall)]) ∧
          pulsesOf s'.d o = if p.mode = 1 then none else some { p with active := false }))) ∧
    (let sec := s.d.T / 1000000000
     let runs := s.d.get TSU_STATUS_VALID = 1 ∨ s.d.get TSU_PPS_OUT_CFG_OUT_BEFORE_VALID = 1
     (s.d.tsu.ppsHigh = true → s.d.tsu.ppsFall ≤ s.d.T → ∃ s', exec .ppsOutEdge s = .next s' ∧ s'.mem = s.mem ∧ s'.d.regs = s.d.regs ∧
        s'.d.tsu = { s.d.tsu with ppsHigh := false } ∧ s'.d.out.edges = s.d.out.edges ++ [(pinPPS_OUT, 0, s.d.tsu.ppsFall)]) ∧
      (s.d.tsu.ppsHigh = false → runs → s.d.T % 1000000000 ≤ 10 → s.d.tsu.ppsLast < sec → ∃ s', exec .ppsOutEdge s = .next s' ∧ s'.mem = s.mem ∧
        s'.d.regs = s.d.regs ∧ s'.d.out.edges = s.d.out.edges ++ [(pinPPS_OUT, 1, sec * 1000000000)] ∧ s'.d.tsu = { s.d.tsu with
          ppsHigh := true, ppsLast := sec, ppsFall := sec * 1000000000 + min 999 (max 1 (s.d.get TSU_PPS_OUT_CFG_PPS_WIDTH)) * 1000000 }) ∧
      (s.d.tsu.ppsHigh = true ∧ s.d.T < s.d.tsu.ppsFall ∨
        s.d.tsu.ppsHigh = false ∧ (¬ runs ∨ 10 < s.d.T % 1000000000 ∨ sec ≤ s.d.tsu.ppsLast) → exec .ppsOutEdge s = .next s)) ∧
    (∀ (p : Fin 12) (bytes : List Byte),
      (s.d.get (UNL_PORT_STATUS_STATE p) ≠ 2 → exec (.uneisPtpMessage p bytes) s = .next s) ∧
      (s.d.get (UNL_PORT_STATUS_STATE p) = 2 → ∃ s', exec (.uneisPtpMessage p bytes) s = .next s' ∧ s'.mem = s.mem ∧
        (Config.ptpReply s.d.free (4 + p) bytes = none → s'.d.regs = s.d.regs) ∧
        s'.d.tsu.rx = s.d.tsu.rx ++ [(4 + p.1, if s.d.stamps (4 + p) ∧ beNat bytes 0 1 % 16 < 4 then some (s.d.portStamp (4 + p) false) else none, bytes)]))

/-- R24, R145, R397, R398, R400, R401, R403, R405, R407-R409, R433, R434. The form of the log of a corrected mesh error is the model's (log 181), and that an
event whose condition is false does nothing (log 3). -/
def Obligations.FaultsAndTests : Prop :=
  ∀ s : State, s.serving →
    (s.d.tlsRuns = false ∨ s.d.tls.inQ = [] → exec .faultRecordReceive s = .next s) ∧
    (∀ f rest, s.d.tlsRuns = true → s.d.tls.inQ = f :: rest → f.inj = false → f.failed = false →
      let r := s.d.unit f.unit
      let again := f.confirmed = true ∧ 0 < r.inWindow (s.d.get TLS_POS_POS)
      (r.state = 0 → ¬ again → ∃ d', exec .faultRecordReceive s = .next (finish s (settle s.mem d')) ∧ d'.tls.inQ = rest ∧
        (d'.unit f.unit).state = 1 ∧ (d'.unit f.unit).due = true ∧
        (f.cure = none → exec .faultRecordReceive s = .next { s with d := d' } ∧ d'.regs = s.d.regs)) ∧
      (r.state ≠ 2 → again → ∃ d', exec .faultRecordReceive s = .next (finish s (settle s.mem d')) ∧ (d'.unit f.unit).state = 2 ∧
        d'.get TLS_STATUS_NEW_FAULT = 1 ∧ d'.pins.faultLow = true)) ∧
    (s.d.tlsRuns = false → exec .watchdogExpiry s = .next s) ∧
    (s.d.tlsRuns = true →
      let past := (s.d.tls.wdogT.filter (fun t => decide (s.d.T < t + 60000000000))).length
      ∃ s', exec .watchdogExpiry s = .next s' ∧ s'.mem = s.mem ∧ s'.d.get TLS_STATUS_RUNNING = 0 ∧
        s'.d.get TLS_STATUS_WDOG_EXP = min (2 ^ TLS_STATUS_WDOG_EXP.width - 1) (s.d.get TLS_STATUS_WDOG_EXP + 1) ∧
        (2 ≤ past → s'.d.get TLS_STATUS_HALTED = 1 ∧ s'.d.pins.faultLow = true) ∧
        (past < 2 → s'.d.get TLS_STATUS_HALTED = s.d.get TLS_STATUS_HALTED)) ∧
    (∀ v : W32, ∃ s', exec (.tlsWdogWrite v) s = .next s' ∧ s'.mem = s.mem ∧ s'.d.get TLS_WDOG_PERIOD = v.toNat % 1024 ∧
      ∀ f : Fld, Fld.key f ≠ Fld.key TLS_WDOG_PERIOD → s'.d.get f = s.d.get f) ∧
    ((s.d.get TLS_STATUS_HALTED = 1 ∨ s.d.tls.wdogT = [] ∨ s.d.get TLS_STATUS_RUNNING = 1 → exec .tailstockRestartDone s = .next s) ∧
      (s.d.get TLS_STATUS_HALTED ≠ 1 → s.d.tls.wdogT ≠ [] → s.d.get TLS_STATUS_RUNNING ≠ 1 →
        ∃ d', exec .tailstockRestartDone s = .next (finish s (settle s.mem d')) ∧ d'.get TLS_STATUS_RUNNING = 1 ∧ d'.tls.results = [] ∧
          (s.d.tls.results = [] → (∀ f : Fld, Fld.key f ≠ Fld.key TLS_STATUS_RUNNING → d'.get f = s.d.get f) ∧
            ∀ u t, (s.d.unit u).test ≠ 0 → s.d.testAsk u = some t → t ∈ d'.tls.asks))) ∧
    (∀ e ∈ (List.finRange 2).flatMap (fun die => (List.finRange 8).flatMap (fun row => (List.finRange 21).map (fun pcol =>
          (Instr.meshDoubleBitError die row ⟨pcol, false⟩, unitTile die row pcol, 0x10)))) ++
        (List.finRange 320).flatMap (fun t => (List.finRange 16).map (fun bank => (Instr.sramDoubleBitError t ⟨bank, false⟩, s.d.tileUnit t, 0x10))) ++
        (List.finRange 3).map (fun l => (Instr.dieLinkFlitFailure l, unitLink l, 0x14)),
      ∃ s', exec e.1 s = .next s' ∧ s'.mem = [] ∧ s'.d.regs = [] ∧ s'.d.pins.faultLow = false ∧
        (s.d.tls.retained = [] → ∃ w rest, s'.d.tls.retained = w :: rest ∧ wfld w HREC_EVENT = 6 ∧ wfld w HREC_UNIT = e.2.1 % 2 ^ 32 ∧ wfld w HREC_DKIND = e.2.2 ∧
          (s.d.tlsRuns = true → s.d.tls.inQ = [] → s.d.tls.toFlash = [] → s.d.tls.cures = [] →
            ∃ v ∈ rest, wfld v HREC_EVENT = 0 ∧ wfld v HREC_UNIT = e.2.1 % 2 ^ 32 ∧ wfld v HREC_DKIND = e.2.2))) ∧
    (∀ (die : Fin 2) (row : Fin 8) (pcol : Fin 21), ∃ s', exec (.meshDoubleBitError die row ⟨pcol, true⟩) s = .next s' ∧ s'.mem = s.mem ∧ s'.d.regs = s.d.regs ∧
      s'.d.out.events = s.d.out.events ++ [⟨s.d.ns, srcTailstock, .meshCorrected, [die.1, row.1, pcol.1]⟩]) ∧
    (∀ (t : Fin 320) (bank : Fin 16), ∃ s', exec (.sramDoubleBitError t ⟨bank, true⟩) s = .next s' ∧ s'.mem = s.mem ∧
      s'.d.get (CUB_SRAM_ECC_CORRECTED t) = min (2 ^ (CUB_SRAM_ECC_CORRECTED t).width - 1) (s.d.get (CUB_SRAM_ECC_CORRECTED t) + 1) ∧
      s'.d.get (CUB_SRAM_ECC_LAST_BANK t) = bank.1 ∧
      ∀ f : Fld, Fld.key f ≠ Fld.key (CUB_SRAM_ECC_CORRECTED t) → Fld.key f ≠ Fld.key (CUB_SRAM_ECC_LAST_BANK t) → s'.d.get f = s.d.get f) ∧
    (let firsts : Prop := ∃ e ∈ s.d.tls.units, e.2.first = true ∧ s.d.testable e.1 = true
    (∀ u c rest,
      let r := s.d.unit u
      let near (t : Int) : Prop := (4 * t - c.temp).natAbs ≤ s.d.get TLS_TEST_CFG_TEMP_TOL
      let runs (s' : State) : Prop := (s'.d.unit u).test = 2 ∧ (s'.d.unit u).wait = none ∧ ∀ t, s.d.testAsk u = some t → t ∈ s'.d.tls.asks
      (s.d.tlsRuns = false ∨ r.due = false ∨ r.test ≠ 0 ∨ r.wait ≠ none ∨ s.d.testable u = false ∨ r.left = [] ∨ (r.first = false ∧ firsts) →
        exec (.retestStart u) s = .next s) ∧
      (s.d.tlsRuns = true → r.due = true → r.test = 0 → r.wait = none → s.d.testable u = true → r.left = c :: rest → (r.first = false → ¬ firsts) →
        (sfind s.d.tls.holds (unitDie u) ≠ none ∨ s.d.testWaits u = true → ∃ s', exec (.retestStart u) s = .next s' ∧ s'.mem = s.mem ∧
          s'.d.regs = s.d.regs ∧ s'.d.unit u = { r with blocked := true, first := false }) ∧
        (sfind s.d.tls.holds (unitDie u) = none → s.d.testWaits u = false → ∃ s', exec (.retestStart u) s = .next s' ∧ s'.mem = s.mem ∧
          (s'.d.unit u).blocked = false ∧ (s'.d.unit u).left = r.left ∧ s'.d.get PRT_CTRL_HELD = 1 ∧ s'.d.get PRT_CTRL_EN = 1 ∧
          s'.d.get PRT_LOAD_SIG = c.load % 2 ^ 32 ∧
          (∀ t, sfind s.d.pins.temps (unitSensor u) = some t →
            (near t → runs s') ∧ (¬ near t → (s'.d.unit u).test = 0 ∧ (s'.d.unit u).wait = some (s.d.get TLS_POS_POS))))) ∧
      ((s.d.tlsRuns = false ∨ r.wait = none → exec (.retestWaitExpiry u) s = .next s) ∧
        (∀ pos, s.d.tlsRuns = true → r.wait = some pos →
          (s.d.get TLS_POS_POS < pos + 3600 * s.d.get TLS_TEST_CFG_RETEST_WAIT → exec (.retestWaitExpiry u) s = .next s) ∧
          (pos + 3600 * s.d.get TLS_TEST_CFG_RETEST_WAIT ≤ s.d.get TLS_POS_POS → ∃ s', exec (.retestWaitExpiry u) s = .next s' ∧ s'.mem = s.mem ∧
            s'.d.regs = s.d.regs ∧ runs s' ∧
            (∀ t, r.left = c :: rest → sfind s.d.pins.temps (unitSensor u) = some t → ¬ near t → (s'.d.unit u).part = true))))) ∧
    ((s.d.tlsRuns = false ∨ s.d.get TLS_CTRL_AUTO_TEST ≠ 1 ∨ firsts → exec .sweepTestDue s = .next s) ∧
      (∀ t : Fin 320, ¬ firsts → s.d.tlsRuns = true → s.d.get TLS_CTRL_AUTO_TEST = 1 → s.d.tls.sweep < 320 → s.d.tileDisabled t = false →
        (∀ k < (t.1 + 320 - s.d.tls.sweep) % 320, s.d.tileDisabled ((k + s.d.tls.sweep) % 320) = true) →
        ∃ s', exec .sweepTestDue s = .next s' ∧ s'.mem = s.mem ∧ s'.d.regs = s.d.regs ∧ s'.d.tls.sweep = (t.1 + 1) % 320 ∧
          ((s.d.unit (s.d.tileUnit t)).due = false → (s.d.unit (s.d.tileUnit t)).test = 0 → (s'.d.unit (s.d.tileUnit t)).test = 1)))) ∧
    (∀ u pass,
      let r := s.d.unit u
      (r.test = 0 ∨ (∃ t, s.d.testAsk u = some t ∧ t ∈ s.d.tls.asks) → exec (.unitTestDone u pass) s = .next s) ∧
      (s.d.tlsRuns = false → r.test ≠ 0 → (∀ t, s.d.testAsk u = some t → t ∉ s.d.tls.asks) → ∃ s', exec (.unitTestDone u pass) s = .next s' ∧
        s'.mem = s.mem ∧ s'.d.regs = s.d.regs ∧ s'.d.tls.units = s.d.tls.units ∧
        (s.d.get TLS_STATUS_HALTED ≠ 1 → (∀ x ∈ s.d.tls.results, x.1 ≠ u) → s'.d.tls.results = s.d.tls.results ++ [(u, pass)])) ∧
      (s.d.tlsRuns = true → r.test ≠ 0 → (∀ t, s.d.testAsk u = some t → t ∉ s.d.tls.asks) →
        ∃ d', exec (.unitTestDone u pass) s = .next (finish s (settle s.mem d')) ∧
          (pass = false → r.state ≠ 2 → (d'.unit u).state = 2 ∧ (d'.unit u).test = 0) ∧
          (pass = true → r.test = 1 → d'.unit u = { r with test := 0 }) ∧
          (pass = true → r.test ≠ 1 → r.left.length ≤ 1 → d'.unit u = r.healthy) ∧
          (pass = true → r.test ≠ 1 → 1 < r.left.length → (d'.unit u).state = r.state ∧ (d'.unit u).test = 0 ∧ (d'.unit u).left = r.left.drop 1))) ∧
    ((s.d.tls.toFlash = [] → exec .historyRecordWrite s = .next s) ∧
      (∀ w rest, s.d.tls.toFlash = w :: rest → s.d.fpl.flash.hist.length < 32768 →
        (sfind s.d.fpl.flash.units (wfld w HREC_UNIT)).isSome = true ∨ s.d.fpl.flash.units.length < 8192 → ∃ s', exec .historyRecordWrite s = .next s' ∧ s'.mem = s.mem ∧
        s'.d.regs = s.d.regs ∧ s'.d.tls.toFlash = rest ∧ s'.d.fpl.flash.hist = s.d.fpl.flash.hist ++ [w] ∧
        sget s'.d.fpl.flash.units (wfld w HREC_UNIT) {} = s.d.unit (wfld w HREC_UNIT))) ∧
    ((s.d.tlsRuns = false → exec .posSave s = .next s) ∧
      (s.d.tlsRuns = true → ∃ s', exec .posSave s = .next s' ∧ s'.mem = s.mem ∧ s'.d.regs = s.d.regs ∧
        s'.d.fpl.flash = { s.d.fpl.flash with pos := s.d.get TLS_POS_POS }.append)) ∧
    (∀ (a : Agent) (v : W32), s.d.asks a .bar0 0x28 →
      let idle := s.d.get LTH_CTRL_RUN ≠ 1 ∧ s.d.get UNL_CTRL_EN ≠ 1
      ∃ s', exec (.fplDetCfgWrite a v) s = .next s' ∧ s'.mem = s.mem ∧ s'.d.get FPL_REPLAY_CLASS_DET_STRICT = s.d.get FPL_REPLAY_CLASS_DET_STRICT ∧
        (v.toNat % 2 = s.d.get FPL_DET_CFG_DET_STRICT ∨ idle → s'.d.get FPL_DET_CFG_DET_STRICT = v.toNat % 2) ∧
        (v.toNat % 2 ≠ s.d.get FPL_DET_CFG_DET_STRICT → ¬ idle → s'.d.get FPL_DET_CFG_DET_STRICT = s.d.get FPL_DET_CFG_DET_STRICT ∧
          s'.d.get FPL_DET_CFG_REFUSED = 1)) ∧
    (∀ a : Agent, s.d.asks a .bar0 0x3C0028 → ∀ wide,
      (s.d.tls.journal = [] → ∃ s', exec (.tlsJrnlPop a wide) s = .next s' ∧ s'.mem = s.mem ∧ s'.d.tls = s.d.tls ∧ s'.d.regs = s.d.regs ∧ s'.d.bus.rdata = 0) ∧
      (∀ e rest, s.d.tls.journal = e :: rest → ∃ s', exec (.tlsJrnlPop a wide) s = .next s' ∧ s'.mem = s.mem ∧
        s'.d.tls = { s.d.tls with journal := rest, jlost := 0 } ∧ s'.d.get TLS_JRNL_DATA_TIME = wfld e.1 HREC_TIME ∧
        s'.d.bus.rdata % 2 ^ 32 = wfld e.1 HREC_UNIT)) ∧
    (∀ (a : Agent) (v : W64), s.d.asks a .bar0 0x3C0020 → v.toNat < 2 ^ 24 →
      let q := v.toNat % 65536
      let i := s.d.get (SEQ_INSTANCE q)
      s.d.cqReady i 2 → sget s.d.srv.gens q (s.d.igen i) = s.d.igen i → s.d.get (SEQ_ADAPTER q) < 4096 →
      v.toNat / 65536 = s.d.get (SEQ_SGEN q) → s.d.get (SEQ_STATE q) = sqRUNNING →
      ∃ s', exec (.tlsSeqLost a v) s = .next s' ∧ s'.d.get (SEQ_STATE q) = sqLEAVING ∧ s'.d.get (SEQ_STATUS q) = stABORTED ∧
        s'.d.get (SEQ_REASON q) = rsSTATE_LOST)

/-- R410-R412, R414-R416, R419, R420, R422, R424, R493. That an event whose condition is false does nothing is the model's (log 3). -/
def Obligations.TailstockMessages : Prop :=
  (∀ e ∈ [((0x01 : Nat), Instr.hello, fun (_ : Mem) d pk => helloIn d pk), (0x02, Instr.compare, fun _ d pk => compareIn d pk), (0x03, Instr.relinquish, fun _ d pk => relinquishIn d pk),
      (0x04, Instr.takeover, fun _ d pk => takeoverIn d pk), (0x05, Instr.replicaDigest, replicaIn), (0x06, Instr.winDigest, winDigestIn),
      (0x07, Instr.winResult, winResultIn), (0x08, Instr.flag, fun _ d pk => flagIn d pk), (0x09, Instr.backup, backupIn)],
    ∀ (s : State) (pk : Packet), s.serving → pk.hdr.length = 3 →
      (s.d.get UNL_CTRL_EN ≠ 1 ∨ pkf pk PKT_DST ≠ s.d.node → exec (e.2.1 pk) s = .next s) ∧
      (mgmtGate s.d pk = (s.d, true) → s.d.tlsRuns = true → msgType pk = e.1 →
        exec (e.2.1 pk) s = .next (finish s (settle s.mem (genTriggers s.d (e.2.2 s.mem s.d pk) (pkf pk PKT_SRC)))))) ∧
  (∀ (m : Mem) (d : Dev) (pk : Packet),
    let src := pkf pk PKT_SRC
    (d.pairOf src (msgIndex pk) = none → helloIn d pk = d ∧ compareIn d pk = d ∧ relinquishIn d pk = d ∧ takeoverIn d pk = d) ∧
    (∀ n, d.pairOf src (msgIndex pk) = some n →
      ((helloIn d pk).get (TLS_PAIR_CLASS_DIFF n) = (if msgField pk 0 = d.replayClass then 0 else 1) ∧ n ∈ (helloIn d pk).tls.hello) ∧
      ((compareIn d pk).get (TLS_PAIR_HEARD n) = 1 ∧ sfind (compareIn d pk).tls.heard n = some d.tick) ∧
      (∀ own, d.get (TLS_PAIR_CLASS_DIFF n) ≠ 1 → leNat (pk.payload.take 8) / 2 ^ 10 % 16 = 1 →
        let a := leNat ((pk.payload.drop 16).take 8)
        let dg := leNat ((pk.payload.drop 24).take 8)
        (sget d.tls.mine n []).find? (fun x => x.key == (a % 2 ^ 9, a / 2 ^ 9 % 2, a / 2 ^ 32)) = some own →
          (own.digest = dg → (compareIn d pk).get (TLS_SHADOW_STAT_MATCH n) = min (2 ^ 24 - 1) (d.get (TLS_SHADOW_STAT_MATCH n) + 1) ∧
            sget (compareIn d pk).tls.mine n [] = (sget d.tls.mine n []).erase own) ∧
          (own.digest ≠ dg → (compareIn d pk).get (TLS_SHADOW_STAT_MISMATCH n) = min 4095 (d.get (TLS_SHADOW_STAT_MISMATCH n) + 1))) ∧
      (d.paired n = true → d.get (actF (RAD_CELL_ROLE n)) = 1 → sfind d.rad.cells n ≠ none → sfind d.rad.roles n = none → 1 ≤ d.get TLS_SHADOW_CFG_MODE →
        sfind (relinquishIn d pk).rad.roles n = some (0, d.ticksLater 1, true)) ∧
      (d.paired n = true → d.get (actF (RAD_CELL_ROLE n)) = 1 → d.get TLS_SHADOW_CFG_MODE = 0 → (relinquishIn d pk).rad = d.rad) ∧
      (d.paired n = true → d.get (actF (RAD_CELL_ROLE n)) = 0 →
        sfind (takeoverIn d pk).rad.roles n = some (1, max (msgField pk 0) (d.ticksLater 1), false) ∧ (takeoverIn d pk).regs = d.regs)) ∧
    (∀ r < 64, ∀ p, d.is (TLS_REPLICA_VALID r) = true → d.get (TLS_REPLICA_GROUP r) = msgField pk 0 →
      (∀ q < 64, q ≠ r → d.is (TLS_REPLICA_VALID q) = true → d.get (TLS_REPLICA_GROUP q) ≠ msgField pk 0) →
      (d.replicaPeers r).find? (fun p => p.2 == src) = some p → sfind d.tls.rounds (r * 4 + 3) = none →
      replicaIn m d pk = d.setRound (r * 4 + p.1) (msgField pk 1, msgField pk 2, if msgField pk 4 % 2 = 1 then refExpelled else msgField pk 3)) ∧
    (∀ r < 64, ∀ p q k1 k2 k3 a b ref, d.replicaPeers r = [p, q] → p.1 ≠ q.1 → p.1 < 3 → q.1 < 3 → d.get (TLS_REPLICA_STATE r) = 0 → ref < 2 ^ 64 → a ≠ b →
      sfind d.tls.rounds (r * 4 + 3) = some (k1, a, ref) → sfind d.tls.rounds (r * 4 + p.1) = some (k2, b, ref) →
      sfind d.tls.rounds (r * 4 + q.1) = some (k3, b, ref) → (replicaEval m d r).get (TLS_REPLICA_STATE r) = 1) ∧
    (∀ w x, w = msgField pk 0 → w < 64 → x = d.win w → d.is (TLS_CWIN_VALID w) = true → d.get (TLS_CWIN_ROUND w) = msgField pk 1 →
      d.linePlain (d.get (TLS_CWIN_STATUS_OFF w)) → d.get (TLS_CWIN_STATUS_OFF w) % 16 = 0 → d.is PRT_INJ_ECC_ARMED = false →
      (d.get (TLS_CWIN_KIND w) = 1 → d.get (TLS_CWIN_PEER0 w) = src → x.peer = none →
        (d.get (TLS_CWIN_STATE w) = 0 → winDigestIn m d pk = d.setWin w { x with peer := some (src, msgIndex pk, msgField pk 2) }) ∧
        (∀ own, d.get (TLS_CWIN_STATE w) = 1 → x.shut = some (msgField pk 1, own) →
          let e := winDigestIn m d pk
          e.get (TLS_CWIN_STATE w) = 0 ∧
          (own = msgField pk 2 ∨ x.fails ≠ 0 → e.get (TLS_CWIN_ROUND w) = (msgField pk 1 + 1) % 2 ^ 32 ∧ e.win w = { x with terms := [], peer := none, fails := 0 }) ∧
          (own ≠ msgField pk 2 → x.fails = 0 → e.get (TLS_CWIN_ROUND w) = msgField pk 1 ∧ e.win w = { x with terms := [], peer := none, fails := 1 }))) ∧
      (d.get (TLS_CWIN_KIND w) = 0 → d.is (TLS_CWIN_DRY w) = false → d.get (TLS_CWIN_PEER0 w) = src → d.get (TLS_CWIN_STATE w) = 1 →
        let e := winResultIn m d pk
        (msgField pk 2 = stOK ∨ msgField pk 2 = stDIGEST_MISMATCH → e.get (TLS_CWIN_STATE w) = 0 ∧ e.get (TLS_CWIN_ROUND w) = (msgField pk 1 + 1) % 2 ^ 32) ∧
        (msgField pk 2 = stDEFERRED → e.get (TLS_CWIN_STATE w) = 0 ∧ e.get (TLS_CWIN_ROUND w) = msgField pk 1 ∧ (e.win w).fails = x.fails + 1))) ∧
    (∀ w t, w = msgField pk 1 → w < 64 → d.is (TLS_CWIN_VALID w) = true → d.get (TLS_CWIN_KIND w) = 0 → t = d.get (TLS_CWIN_TILE w) → t < 320 →
      let own := (d.win w).inj = some (msgField pk 0) ∧ d.get PRT_CTRL_MASK_INJ = 1
      (¬ own → ((flagIn d pk).unit (d.tileUnit t)).state ≠ 0) ∧ (own → (flagIn d pk).tls.units = d.tls.units)) ∧
    (∀ off, off = d.get TLS_GO_BASE_BASE + 8 * (msgField pk 0 % 16) → off % 8 = 0 → d.linePlain off → d.is PRT_INJ_ECC_ARMED = false →
      let v := msgField pk 1 % 256 + msgField pk 2 * 256
      (∀ i < 8, physGet m (backupIn m d pk) (d.physAt off + i) = (bytesLE 8 v).getD i 0#8) ∧
      ∀ k, k < d.physAt off ∨ d.physAt off + 8 ≤ k → physGet m (backupIn m d pk) k = physGet m d k)) ∧
  (∀ s : State, s.serving →
    (∀ n : Fin 512,
      let old (e : CmpEnt) : Bool := decide (e.tick + s.d.get TLS_SHADOW_CFG_MATCH_WAIT ≤ s.d.tick)
      let k := ((sget s.d.tls.mine n []).filter old).length + ((sget s.d.tls.theirs n []).filter old).length
      (s.d.tlsRuns = false ∨ k = 0 → exec (.matchWaitExpiry n) s = .next s) ∧
      (s.d.tlsRuns = true → k ≠ 0 → ∃ s', exec (.matchWaitExpiry n) s = .next s' ∧ s'.mem = s.mem ∧
        s'.d.get (TLS_SHADOW_STAT_ONE_SIDED n) = min 4095 (s.d.get (TLS_SHADOW_STAT_ONE_SIDED n) + k) ∧
        (∀ e ∈ sget s'.d.tls.mine n [], old e = false) ∧ (∀ e ∈ sget s'.d.tls.theirs n [], old e = false) ∧
        ∀ f : Fld, Fld.key f ≠ Fld.key (TLS_SHADOW_STAT_ONE_SIDED n) → s'.d.get f = s.d.get f) ∧
      (s.d.tlsRuns = false ∨ s.d.partnerSilent n = false → exec (.missTicksExpiry n) s = .next s) ∧
      (s.d.tlsRuns = true → s.d.paired n = true → s.d.partnerSilent n = true → n.1 ∉ s.d.tls.silent → s.d.get (actF (RAD_CELL_ROLE n)) = 1 →
        sfind s.d.rad.cells n ≠ none → sfind s.d.rad.roles n = none →
        ∃ d', exec (.missTicksExpiry n) s = .next (finish s (settle s.mem d')) ∧ n.1 ∈ d'.tls.silent ∧ d'.get (TLS_PAIR_HEARD n) = 0 ∧
          sfind d'.rad.roles n = if 2 ≤ s.d.get TLS_SHADOW_CFG_MODE then some (0, s.d.ticksLater 1, true) else none) ∧
      (∀ role k, sfind s.d.rad.roles n = some (role, k, true) → k ≤ s.d.tick → s.d.tick % s.d.frameTicks = 0 →
        ∃ s', exec (.takeoverEffect n) s = .next s' ∧ s'.mem = s.mem ∧ sfind s'.d.rad.roles n = none ∧
          s'.d.get (actF (RAD_CELL_ROLE n)) = role % 4) ∧
      ((∀ role k, sfind s.d.rad.roles n = some (role, k, true) → s.d.tick < k ∨ s.d.tick % s.d.frameTicks ≠ 0) →
        exec (.takeoverEffect n) s = .next s)) ∧
    (∀ r,
      (s.d.tlsRuns = false ∨ 64 ≤ r ∨ s.d.is (TLS_REPLICA_VALID r) = false ∨ r ∈ s.d.tls.roundWait ∨ sget s.d.tls.steps r 0 ≤ s.d.get (TLS_REPLICA_N r) →
        exec (.replicaRound r) s = .next s) ∧
      (∀ d1, s.d.tlsRuns = true → r < 64 → r ∉ s.d.tls.roundWait → s.d.is (TLS_REPLICA_VALID r) = true → s.d.get (TLS_REPLICA_STATE r) ≠ 1 → s.d.get (TLS_REPLICA_N r) < sget s.d.tls.steps r 0 →
        let o := s.d.get (TLS_REPLICA_OBJECT r)
        let d0 := { s.d with tls := { s.d.tls with steps := sput s.d.tls.steps r (sget s.d.tls.steps r 0 - (s.d.get (TLS_REPLICA_N r) + 1)) } }
        (digestScan s.mem d0 o = (d1, .held) → ∃ d', exec (.replicaRound r) s = .next (finish s (settle s.mem d')) ∧ r ∈ d'.tls.roundWait ∧
          d'.get (TLS_REPLICA_ROUND r) = d1.get (TLS_REPLICA_ROUND r)) ∧
        (digestScan s.mem d0 o = (d1, .ok) →
        ∃ d', exec (.replicaRound r) s = .next (finish s (settle s.mem d')) ∧ d'.get (TLS_REPLICA_ROUND r) = (d1.get (TLS_REPLICA_ROUND r) + 1) % 2 ^ 32 ∧
          d'.get (TLS_REPLICA_LAST r) = objDigest s.mem d1 o % 2 ^ 64))) ∧
    (∀ w,
      (64 ≤ w ∨ s.d.is (TLS_CWIN_VALID w) = false ∨ s.d.get (TLS_CWIN_STATE w) ≠ 0 ∨ (s.d.win w).terms.length < s.d.get (TLS_CWIN_LINES w) →
        exec (.windowSeal w) s = .next s) ∧
      (w < 64 → s.d.is (TLS_CWIN_VALID w) = true → s.d.get (TLS_CWIN_STATE w) = 0 → s.d.get (TLS_CWIN_LINES w) ≠ 0 →
        s.d.get (TLS_CWIN_LINES w) ≤ (s.d.win w).terms.length → (s.d.win w).peer = none →
        ∃ d', exec (.windowSeal w) s = .next (finish s (settle s.mem d')) ∧ d'.get (TLS_CWIN_STATE w) = 1 ∧
          (d'.win w).shut = some (s.d.get (TLS_CWIN_ROUND w), (s.d.win w).digest))) ∧
    (∀ g i,
      let k := Dev.stragKey g i
      (s.d.tlsRuns = false ∨ 16 ≤ g ∨ s.d.is (TLS_STRAG_VALID g) = false ∨ sget s.d.tls.lags k 0 = 0 ∨ sfind s.d.tls.backups k ≠ none →
        exec (.stragglerDetected g i) s = .next s) ∧
      (s.d.tlsRuns = true → g < 16 → s.d.is (TLS_STRAG_VALID g) = true → i < 8 → i < s.d.get (TLS_STRAG_MEMBERS g) → sget s.d.tls.lags k 0 ≠ 0 →
        s.d.get (TLS_STRAG_WAIT_TICKS g) ≤ sget s.d.tls.lags k 0 → sfind s.d.tls.backups k = none →
        ∃ d', exec (.stragglerDetected g i) s = .next (finish s (settle s.mem d')) ∧
          d'.get (TLS_STRAG_BACKUPS g) = min 255 (s.d.get (TLS_STRAG_BACKUPS g) + 1) ∧
          sfind d'.tls.backups k = some ((stragSlots s.mem s.d g).getD i 0))))

/-- R71, R442-R444, R449, R451, R454-R459, R462. When the driver sets MSI-X Enable and that the size of BAR4 is 2 TiB after reset are the model's
(log 12), that SQ_PROD equals SQ_CONS after an instance reset too (log 187), and that an event whose condition is false does nothing (log 3). -/
def Obligations.HostAndInstances : Prop :=
  (∀ s : State,
    (s.d.inReset = false → exec .perstNAssert s = .next (finish s (settle s.mem (linkReset s.mem { s.d with vir := { s.d.vir with perst := true, linkUp := false, link := (0, 0) } })))) ∧
    (s.d.inReset = true → exec .perstNAssert s = .next (finish s (settle s.mem { s.d with vir := { s.d.vir with perst := true, linkUp := false, link := (0, 0) } }))) ∧
    (s.d.vir.linkUp = true → exec .perstNDeassert s = .next (finish s (settle s.mem { s.d with vir := { s.d.vir with perst := false } }))) ∧
    (s.d.vir.linkUp = false → ∃ rate lanes, 1 ≤ rate ∧ rate ≤ 7 ∧ lanes ∈ [1, 2, 4, 8, 16] ∧ exec .perstNDeassert s =
      .next (finish s (settle s.mem { s.d with free := s.d.free + 1, vir := { s.d.vir with perst := false, linkUp := true, link := (rate, lanes) } })))) ∧
  (∀ (m : Mem) (d : Dev), (linkReset m d).get VIR_STATUS_NUM_VFS = 0 ∧ (linkReset m d).get VIR_STATUS_VF_EN = 0 ∧ (linkReset m d).vir.bme = false ∧
    (linkReset m d).vir.fns = [] ∧ (linkReset m d).vir.rbar = 41 ∧ ∀ i < 128, (linkReset m d).resetting i = true) ∧
  (∀ (m : Mem) (d : Dev) (i : Fin 128) (removed : Bool),
    (d.resetting i = true → let e := instResetOp m d i removed
      e = { d with vir := { d.vir with resets := e.vir.resets } } ∧
      sfind e.vir.resets i = some ((sget d.vir.resets i (0, false)).1, (sget d.vir.resets i (0, false)).2 || removed)) ∧
    (d.resetting i = false →
      let e := instResetOp m d i removed
      e.resetting i = true ∧ e.get (INST_STATUS_GEN i) = (if d.igen i = 65535 then 1 else (d.igen i + 1) % 65536) ∧
      sfind e.vir.resets i = some (0, removed) ∧ e.mbox i = [] ∧
      (∀ q < 65536, (d.seqInRange i q = false ∨ d.get (SEQ_STATE q) = sqFREE ∨ d.get (SEQ_STATE q) = sqLEAVING → e.get (SEQ_STATE q) = d.get (SEQ_STATE q)) ∧
        (d.seqInRange i q = true → d.get (SEQ_STATE q) ≠ sqFREE → d.get (SEQ_STATE q) ≠ sqLEAVING →
          e.get (SEQ_STATE q) = (if d.get (SEQ_PAGES q) = 0 then sqFREE else sqLEAVING) ∧ e.get (SEQ_STATUS q) = stABORTED ∧
          e.get (SEQ_REASON q) = rsINSTANCE_RESET)) ∧
      ((∀ q ∈ d.liveSeqs, d.seqInRange i q = true → d.get (SEQ_INSTANCE q) = i ∧ sfind d.srv.gens q = some (d.igen i)) →
        let ended := (d.liveSeqs.eraseDups.filter (fun q => d.seqInRange i q && d.get (SEQ_STATE q) != sqFREE && d.get (SEQ_STATE q) != sqLEAVING)).length
        e.get (CQ_PROD_V i) = d.get (CQ_PROD_V i) ∧ (ended ≠ 0 → e.get (VIR_INST_DISC_LATE i) = min 65535 (d.get (VIR_INST_DISC_LATE i) + ended))) ∧
      (∀ c < 4096, d.get (LTH_CTX_VALID c) = 1 → d.ctxInst c = i → ∃ x ∈ e.lathe.dropped, x.1 = c) ∧
      (∀ x ∈ e.lathe.dropped, x ∈ d.lathe.dropped ∨ x.2 = (2, false) ∧ x.1 ∈ d.validCtxs ∧ d.ctxInst x.1 = i)) ∧
    (d.resetting i = false → (∀ q ∈ d.liveSeqs, d.seqInRange i q = false) →
      let e := instResetOp m d i removed
      e.resetting i = true ∧ e.get (INST_STATUS_GEN i) = (if d.igen i = 65535 then 1 else (d.igen i + 1) % 65536) ∧
      e.get (VIR_INST_DISC_RESETS i) = min 65535 (d.get (VIR_INST_DISC_RESETS i) + 1) ∧ sfind e.vir.resets i = some (0, removed) ∧
      e.mbox i = [] ∧ (∀ j, j ≠ i.1 → e.mbox j = (d.mbox j).filter (fun w => wfld w MSG_SENDER != i)) ∧
      (∀ f : Fld, f.addr < 0x20000000 → f.lo < 64 → Fld.key f ≠ Fld.key (VIR_INST_DISC_RESETS i) → e.get f = d.get f))) ∧
  (∀ s : State, s.serving →
    let only (s' : State) (fs : List Fld) : Prop := s'.mem = s.mem ∧ ∀ f : Fld, (∀ g ∈ fs, Fld.key f ≠ Fld.key g) → s'.d.get f = s.d.get f
    (exec .pcieLinkDown s = .next (finish s (settle s.mem (linkReset s.mem { s.d with vir := { s.d.vir with linkUp := false } })))) ∧
    (∀ e ∈ [Instr.pcieHotReset, Instr.pfFunctionLevelReset], exec e s = .next (finish s (settle s.mem (linkReset s.mem s.d)))) ∧
    ((∀ p ∈ s.d.vir.msixPend, p.2.2 = s.d.igen p.1) → (s.d.vir.msixPend.map (fun p => (p.1, p.2.1))).Nodup →
      let masked (p : Nat × Nat × Nat) : Bool := s.d.msixWord p.1 p.2.1 3 % 2 == 1 || (p.1 != 0 && !(s.d.pcieFn p.1).msixEn) || (s.d.pcieFn p.1).msixMask
      ∃ s', exec .busMasterEnableSet s = .next s' ∧ only s' [] ∧ s'.d.vir.bme = true ∧ (s'.d.pcieFn 0).msixEn = true ∧ s'.d.vir.linkUp = true ∧
        s'.d.out.msix = s.d.out.msix ++ (s.d.vir.msixPend.filter (fun p => !masked p)).map (fun p => s.d.msixMsg p.1 p.2.1) ∧
        s'.d.vir.msixPend = s.d.vir.msixPend.filter masked) ∧
    (∀ num : Fin 128, (∀ n, num.1 < n → s.d.vfLive n = false) → ∃ s', exec (.vfEnableSet num) s = .next s' ∧ only s' [VIR_STATUS_NUM_VFS, VIR_STATUS_VF_EN] ∧
      s'.d.vir = { s.d.vir with fns := s'.d.vir.fns } ∧
      (∀ n, (s'.d.pcieFn n).msixEn = (if 1 ≤ n ∧ n ≤ num.1 ∧ s.d.vfLive n = false then true else if n ≤ num.1 then (s.d.pcieFn n).msixEn else false)) ∧
      s'.d.get VIR_STATUS_NUM_VFS = num ∧ s'.d.get VIR_STATUS_VF_EN = if num.1 = 0 then 0 else 1) ∧
    (∀ num : Fin 128,
      ((∃ n < 128, num.1 < n ∧ s.d.vfLive n = true) → exec (.vfEnableSet num) s = exec (.vfRemoval num) s) ∧
      ((∀ n, num.1 < n → s.d.vfLive n = false) → exec (.vfRemoval num) s = .next s) ∧
      (∀ n < 128, num.1 < n → s.d.vfLive n = true → ∃ d', exec (.vfRemoval num) s = .next (finish s (settle s.mem d')) ∧
        d'.get VIR_STATUS_NUM_VFS = num ∧ d'.get VIR_STATUS_VF_EN = (if num.1 = 0 then 0 else 1) ∧
        ((∀ k, num.1 < k → k ≠ n → s.d.vfLive k = false) →
          let e := ((instResetOp s.mem s.d n true).set VIR_STATUS_NUM_VFS num).set VIR_STATUS_VF_EN (if num.1 = 0 then 0 else 1)
          d' = { e with vir := { e.vir with fns := e.vir.fns.filter (fun x => decide (x.1 ≤ num.1)) } }))) ∧
    (∀ i : Fin 128,
      (i.1 = 0 ∨ s.d.vfLive i = false → exec (.vfFunctionLevelReset i) s = .next s) ∧
      (i.1 ≠ 0 → s.d.vfLive i = true → exec (.vfFunctionLevelReset i) s = .next (finish s (settle s.mem
        ((instResetOp s.mem { s.d with vir := { s.d.vir with fns := sdel s.d.vir.fns i } } i false).msixEnable i))))) ∧
    (∀ (a : Agent) (i : Fin 128) (v : W32), s.d.asks a .bar0 (0x420000 + 64 * i) →
      let clash := s.d.get (VIR_INST_CTRL_EN i) = 0 ∧ s.d.rangeClash i = true
      (clash → ∃ s', exec (.virInstEnable a i v) s = .next s' ∧ s'.d.get VIR_STATUS_CFG_REFUSED = 1 ∧ only s' [VIR_STATUS_CFG_REFUSED]) ∧
      (¬ clash → ∃ s', exec (.virInstEnable a i v) s = .next s' ∧ s'.d.get (VIR_INST_CTRL_EN i) = 1 ∧
        s'.d.get (INST_STATUS_STATE i) = (if s.d.resetting i then isRESETTING else isENABLED) ∧
        only s' [VIR_INST_CTRL_EN i, INST_STATUS_STATE i, VIR_STATUS_CFG_REFUSED]) ∧
      (∃ e d', exec (.virInstReset a i v) s = .next (finish s (settle s.mem d')) ∧
        (∀ f : Fld, (∀ g ∈ [VIR_INST_CTRL_EN i, INST_STATUS_STATE i, VIR_STATUS_CFG_REFUSED], Fld.key f ≠ Fld.key g) → e.get f = s.d.get f) ∧
        let x := instResetOp s.mem e i false
        (∀ f : Fld, d'.get f = x.get f) ∧ d'.vir = x.vir ∧ d'.lathe = x.lathe ∧ d'.wq = x.wq) ∧
      (s.d.resetting i = false → s.d.liveSeqs = [] → ∃ s', exec (.virInstReset a i v) s = .next s' ∧ s'.mem = s.mem ∧
        s'.d.resetting i = true ∧ s'.d.get (INST_STATUS_GEN i) = (if s.d.igen i = 65535 then 1 else (s.d.igen i + 1) % 65536) ∧
        sfind s'.d.vir.resets i = some (0, false) ∧ (¬ (v.toNat % 2 = 1 ∧ clash) → s'.d.get (VIR_INST_CTRL_EN i) = v.toNat % 2))) ∧
    (∀ i : Fin 128,
      (sfind s.d.vir.resets i = none → exec (.instanceResetComplete i) s = .next s) ∧
      (∀ n removed, sfind s.d.vir.resets i = some (n, removed) →
        (n < 2 → s.d.get LTH_STATUS_RUNNING = 1 → exec (.instanceResetComplete i) s = .next s) ∧
        (∀ c ∈ s.d.validCtxs, s.d.ctxInst c = i → s.d.ctxSwapping c = true → exec (.instanceResetComplete i) s = .next s) ∧
        (2 ≤ n ∨ s.d.get LTH_STATUS_RUNNING ≠ 1 → (∀ c ∈ s.d.validCtxs, s.d.ctxInst c = i → s.d.ctxSwapping c = false) → s.d.lathe.cmdQ = [] →
          ∃ d', exec (.instanceResetComplete i) s = .next (finish s (settle s.mem d')) ∧ sfind d'.vir.resets i = none ∧
            d'.get (SQ_CFG_EN i) = 0 ∧ d'.get (CQ_CFG_EN i) = 0 ∧ d'.get (IQ_CFG_EN i) = 0 ∧ d'.get (SQ_PROD_V i) = d'.get (SQ_CONS_V i) ∧
            d'.get (INST_STATUS_STATE i) = (if removed = false ∧ s.d.get (VIR_INST_CTRL_EN i) = 1 then isENABLED else isDISABLED) ∧
            ∀ c < 4096, (s.d.ctxInst c = i → d'.get (LTH_CTX_VALID c) = 0 ∧ (s.d.get (LTH_CTX_VALID c) ≠ 0 → ∀ k < 8, d'.get (MEM_CTX_BIND_VALID c k) = 0)) ∧
              (s.d.ctxInst c ≠ i → d'.get (LTH_CTX_VALID c) = s.d.get (LTH_CTX_VALID c))) ∧
        (2 ≤ n ∨ s.d.get LTH_STATUS_RUNNING ≠ 1 → s.d.validCtxs = [] → ∃ s', exec (.instanceResetComplete i) s = .next s' ∧
          only s' [SQ_CFG_EN i, CQ_CFG_EN i, IQ_CFG_EN i, SQ_PROD_V i, VIR_INST_CTRL_EN i, INST_STATUS_STATE i] ∧ sfind s'.d.vir.resets i = none ∧
          s'.d.get (SQ_PROD_V i) = s.d.get (SQ_CONS_V i) % 2 ^ 32 ∧
          s'.d.get (SQ_CFG_EN i) = 0 ∧ s'.d.get (CQ_CFG_EN i) = 0 ∧ s'.d.get (IQ_CFG_EN i) = 0 ∧
          s'.d.get (VIR_INST_CTRL_EN i) = (if removed then 0 else s.d.get (VIR_INST_CTRL_EN i)) ∧
          s'.d.get (INST_STATUS_STATE i) = (if removed = false ∧ s.d.get (VIR_INST_CTRL_EN i) = 1 then isENABLED else isDISABLED) ∧
          (i.1 ≠ 0 → ∀ v w, s'.d.msixWord i (v % 16384) (w % 4) = if w % 4 = 3 then 1 else 0)))) ∧
    (∀ (a : Agent) (i : Fin 128) (ring : Fin 3) (v : W64), s.d.pages a i →
      let r := ringCfg i ring
      let fb (f : Fld) : Nat := v.toNat / 2 ^ f.lo % 2 ^ f.width
      let on := s.d.get r.2.2.2 = 1
      ∃ s', exec (.ringCfgWrite a i ring v) s = .next s' ∧ only s' [r.1, r.2.1, r.2.2.1, r.2.2.2, INST_STATUS_RING_REFUSED i] ∧
        (s.d.resetting i = true → only s' []) ∧
        (s.d.resetting i = false →
          (s'.d.get r.1 = if on then s.d.get r.1 else fb r.1) ∧ (s'.d.get r.2.1 = if on then s.d.get r.2.1 else fb r.2.1) ∧
          (ring.1 ≠ 0 → s'.d.get r.2.2.1 = fb r.2.2.1) ∧
          (v.toNat < 2 ^ 63 → s'.d.get r.2.2.2 = 0) ∧ (2 ^ 63 ≤ v.toNat → on → s'.d.get r.2.2.2 = 1) ∧
          (2 ^ 63 ≤ v.toNat → ¬ on →
            let fits := 4 ≤ fb r.2.1 ∧ fb r.2.1 ≤ 16 ∧ s.d.insideWritable (some i) (fb r.1 * 4096) (2 ^ fb r.2.1 * ringEntry ring) = true
            (fits → s'.d.get r.2.2.2 = 1) ∧ (¬ fits → s'.d.get (INST_STATUS_RING_REFUSED i) = 1 ∧ s'.d.get r.2.2.2 = s.d.get r.2.2.2)))) ∧
    (∀ (a : Agent) (i : Fin 128) (ring : Fin 3) (v : W64), agentInst a ≠ i → exec (.ringCfgWrite a i ring v) s = .next s) ∧
    (∀ (a : Agent) (i : Fin 128) (w0 w1 w2 w3 w4 w5 w6 w7 : W64), s.d.pages a i →
      let ws := [w0, w1, w2, w3, w4, w5, w6, w7]
      let tgt := if i.1 = 0 then wfld ws MSG_TARGET else 0
      let full := i.1 = 0 ∧ tgt = 0 ∨ mboxCap tgt ≤ (s.d.mbox tgt).length
      let q := wfld ws MSG_SEQ
      let ends (P : State → Prop) : Prop := ∃ s', exec (.mailboxSend a w0 w1 w2 w3 w4 w5 w6 w7) s = .next s' ∧ P s'
      let reports (st : Nat) (s' : State) : Prop := s'.mem = s.mem ∧ s'.d.vir = s.d.vir ∧ s'.d.get (MBOX_CTRL_SEND_STATUS i) = st
      (s.d.resetting i = true → ends (fun s' => only s' [] ∧ s'.d.vir = s.d.vir)) ∧
      (s.d.resetting i = false → wfld ws MSG_IGEN ≠ s.d.igen i → ends (reports stSTALE_GENERATION)) ∧
      (s.d.resetting i = false → wfld ws MSG_IGEN = s.d.igen i →
        (wfld ws MSG_TYPE ≠ 1 → wfld ws MSG_TYPE ≠ 2 → ends (reports stREFUSED_STATE)) ∧
        (wfld ws MSG_TYPE = 2 → full → ends (reports stREFUSED_STATE)) ∧
        (wfld ws MSG_TYPE = 2 → ¬ full → ends (fun s' => s'.mem = s.mem ∧ s'.d.get (MBOX_CTRL_SEND_STATUS i) = stOK ∧
          s'.d.get (MBOX_CTRL_IN_VALID tgt) = 1 ∧ ∃ w, s'.d.mbox tgt = s.d.mbox tgt ++ [w :: [w1, w2, w3, w4, w5, w6, w7]] ∧ wfld [w] MSG_SENDER = i ∧
            wfld [w] MSG_TYPE = 2 ∧ wfld [w] MSG_IGEN = s.d.igen i ∧ w.toNat / 2 ^ 39 = 0 ∧ w.toNat / 2 ^ 15 % 2 = 0)) ∧
        (wfld ws MSG_TYPE = 1 → ∃ d', exec (.mailboxSend a w0 w1 w2 w3 w4 w5 w6 w7) s = .next (finish s (settle s.mem d')) ∧
          d'.get (MBOX_CTRL_SEND_STATUS i) = stOK ∧
          (s.d.seqInRange i q = true → wfld ws MSG_SGEN = s.d.get (SEQ_SGEN q) → s.d.get (SEQ_STATE q) = sqACTIVE → s.d.get (SEQ_ABORT_REQ q) = 0 →
            s.d.cqReady i 1 → d'.get (SEQ_ABORT_REQ q) = 1 ∧ d'.get (SEQ_REASON q) = rsABORT_CMD)))) ∧
    (∀ (a : Agent) (i : Fin 128) (v : W32), s.d.pages a i → ∃ s', exec (.mailboxPop a v) s = .next s' ∧ s'.mem = s.mem ∧
      (s.d.resetting i = true ∨ v.toNat / 2 % 2 = 0 → only s' [] ∧ s'.d.vir = s.d.vir) ∧
      (s.d.resetting i = false → v.toNat / 2 % 2 = 1 → (s.d.mbox i).length ≤ 64 →
        s'.d.mbox i = (s.d.mbox i).drop 1 ∧ (∀ j, j ≠ i.1 → s'.d.mbox j = s.d.mbox j) ∧
        s'.d.get (MBOX_CTRL_IN_COUNT i) = (s.d.mbox i).length - 1 ∧ s'.d.get (MBOX_CTRL_IN_VALID i) = (if (s.d.mbox i).length ≤ 1 then 0 else 1) ∧
        (∀ k < 8, s'.d.get (MBOX_IN_W i k) = ((((s.d.mbox i).drop 1).headD []).getD k 0#64).toNat) ∧
        only s' ([MBOX_CTRL_IN_VALID i, MBOX_CTRL_IN_COUNT i] ++ (List.range 8).map (MBOX_IN_W i)))) ∧
    (∀ (i : Fin 128) v,
      let hit := s.d.vir.recent.find? (fun r => r.1 == i.1 && r.2.1 == v)
      (hit = none → exec (.msixCoalesceExpiry i v) s = .next s) ∧
      (∀ r, hit = some r → r.2.2.2 = none → ∃ s', exec (.msixCoalesceExpiry i v) s = .next s' ∧ only s' [] ∧ s'.d.out = s.d.out ∧
        s'.d.vir.recent = s.d.vir.recent.filter (fun q => !(q.1 == i.1 && q.2.1 == v))) ∧
      (∀ r, hit = some r → r.2.2.2 = some (s.d.igen i) → ∃ s', exec (.msixCoalesceExpiry i v) s = .next s' ∧ only s' [] ∧
        (s.d.vir.bme = true → s.d.msixMasked i v = false → s'.d.out.msix = s.d.out.msix ++ [s.d.msixMsg i v] ∧ (i.1, v, s.d.T, none) ∈ s'.d.vir.recent) ∧
        (s.d.vir.bme = false ∨ s.d.msixMasked i v = true → s'.d.out.msix = s.d.out.msix ∧ ∃ g, (i.1, v, g) ∈ s'.d.vir.msixPend)) ∧
      (∀ r g, hit = some r → r.2.2.2 = some g → g ≠ s.d.igen i → ∃ s', exec (.msixCoalesceExpiry i v) s = .next s' ∧
        only s' [VIR_INST_DISC_LATE i] ∧ s'.d.out = s.d.out ∧ s'.d.get (VIR_INST_DISC_LATE i) = min 65535 (s.d.get (VIR_INST_DISC_LATE i) + 1))) ∧
    (∀ (a : Agent) (wide : Bool), s.d.asks a .bar0 0x400020 →
      (s.d.bus.journal = [] → ∃ s', exec (.virJrnlPop a wide) s = .next s' ∧ only s' [] ∧ s'.d.bus.journal = [] ∧ s'.d.bus.rdata = 0) ∧
      (∀ e rest, s.d.bus.journal = e :: rest → ∃ s', exec (.virJrnlPop a wide) s = .next s' ∧
        only s' [VIR_JRNL_ADDR_OFFSET, VIR_JRNL_NEW_VALUE, VIR_JRNL_OLD_VALUE] ∧ s'.d.bus.journal = rest ∧ s'.d.bus.jrnlLost = 0 ∧
        s'.d.get VIR_JRNL_ADDR_OFFSET = e.offset % 2 ^ 26 ∧ s'.d.get VIR_JRNL_NEW_VALUE = e.new % 2 ^ 64 ∧ s'.d.get VIR_JRNL_OLD_VALUE = e.old % 2 ^ 64 ∧
        s'.d.bus.rdata % 2 ^ 32 = e.ns % 2 ^ 32 ∧
        (wide = true → s'.d.bus.rdata = e.ns + 2 ^ 32 * e.src + 2 ^ 40 * e.space + (if e.wide then 2 ^ 42 else 0) + (if e.refused then 2 ^ 43 else 0) +
          (if e.burst then 2 ^ 44 else 0) + 2 ^ 45 * s.d.bus.jrnlLost + 2 ^ 63))))

/-- R252, R442, R462-R465, R467, R468, R470-R475, R477, R488. That an event whose condition is false does nothing is the model's (log 3), and so is the serial
number of a device without an identity, which is free (log 192). -/
def Obligations.StartUpAndAccess : Prop :=
  (∀ (m : Mem) (k n : Nat) (d : Dev) (i : Nat) (bs : List Byte),
    let e := imageRun m k n d i bs
    e.get FPL_BOOT_STATUS_IN_SERVICE = 1 ∧ e.get FPL_BOOT_STATUS_PHASE = 4 ∧ e.fpl.applying = false ∧
    (n ≠ 0 → k ≤ i → 8 ≤ bs.length → 7 ≤ leNat (bs.take 1) → leNat (bs.take 1) ≠ 0x0F →
      e.get FPL_CFG_STATUS_STATUS = stREFUSED_STATE ∧ e.get FPL_CFG_STATUS_RECORD = i % 2 ^ 20) ∧
    (n ≠ 0 → k ≤ i → 8 ≤ bs.length → leNat (bs.take 1) = 0x0F → e.get FPL_CFG_STATUS_STATUS = stOK ∧ e.get FPL_CFG_STATUS_RECORD = 0)) ∧
  (∀ (d : Dev) (applied : Bool),
    let e := d.enterService applied
    e.get FPL_BOOT_STATUS_IN_SERVICE = 1 ∧ (d.get FPL_BOOT_STATUS_FULL_TRAIN ≠ 1 → e.fpl.flash = d.fpl.flash) ∧
    (d.get FPL_BOOT_STATUS_FULL_TRAIN = 1 → ∃ res, e.fpl.flash = { d.fpl.flash with training := some ⟨res, crc32 res, d.serial⟩ }) ∧ (d.get FPL_BOOT_STATUS_FULL_TRAIN = 1 → e.trained = true)) ∧
  (∀ (d : Dev) (t : Training), (d.fpl.flash.training = none → d.trained = false) ∧
    (d.fpl.flash.training = some t → (d.trained = true ↔ crc32 t.results = t.crc ∧ t.serial = d.serial))) ∧
  (∀ d : Dev, d.get FPL_BOOT_STATUS_ID_OK = 1 →
    d.serial = leNat ((sha512 (wordsBytes ((List.range 4).map (fun i => w64 (d.get (FPL_ID_KEY_KEY i)))))).take 8)) ∧
  (∀ s : State, s.d.quiet = true →
    let f := s.d.fpl.flash
    let f0 := f.load
    let x := f0.slot f0.active
    let o := f0.slot (1 - f0.active)
    let fit (y : Slot) : Prop := (y.state = 1 ∨ y.state = 2) ∧ y.verifies f0.minSvn = true
    let runs (e : Instr) (P : State → Prop) : Prop := ∃ s', exec e s = .next s' ∧ s'.mem = s.mem ∧ P s'
    let only (s' : State) (fs : List Fld) : Prop := ∀ g : Fld, (∀ h ∈ fs, Fld.key g ≠ Fld.key h) → s'.d.get g = s.d.get g
    let boots (slot fallback : Nat) (s' : State) : Prop := s'.d.get FPL_BOOT_STATUS_PHASE = 1 ∧ s'.d.get FPL_BOOT_STATUS_SLOT = slot ∧
      s'.d.get FPL_BOOT_STATUS_FALLBACK = fallback ∧ s'.d.fpl.flash.active = slot ∧ s'.d.fpl.bootState = (f0.slot slot).state ∧ s'.d.fpl.flash.boot = (f0.boot + 1) % 65536 ∧
      s'.d.pins.rstLow = false ∧ s'.d.pins.pwrLow = false ∧ s'.d.fpl.time0 = s.d.T ∧ only s' [FPL_BOOT_STATUS_PHASE, FPL_BOOT_STATUS_SLOT, FPL_BOOT_STATUS_FALLBACK]
    let serves (status record : Nat) (s' : State) : Prop := s'.d.get FPL_BOOT_STATUS_IN_SERVICE = 1 ∧ s'.d.get FPL_BOOT_STATUS_PHASE = 4 ∧
      s'.d.get FPL_CFG_STATUS_STATUS = status ∧ s'.d.get FPL_CFG_STATUS_RECORD = record ∧ s'.d.fpl.applying = false ∧ s'.d.fpl.flash = { f with training := s'.d.fpl.flash.training } ∧
      s'.d.out.ibi = s.d.out.ibi ++ [2] ∧ s'.d.get FPL_BOOT_TIME_SERVICE_MS = (s.d.T - s.d.fpl.time0) / 1000000 % 65536
    let logged (s' : State) : Prop := ∃ e, s'.d.bus.journal.getLast? = some e ∧ e.src = 0x81 ∧ e.space = 3
    let step (s' : State) : Prop := s'.d.fpl.applying = true ∧ s'.d.fpl.record = s.d.fpl.record + 1 ∧ s'.d.bus.journal = s.d.bus.journal
    (s.d.pins.held = true ∨ s.d.get FPL_BOOT_STATUS_PHASE ≠ 0 → exec .bootRomStart s = .next s) ∧
    (s.d.pins.held = false → s.d.get FPL_BOOT_STATUS_PHASE = 0 →
      runs .bootRomStart (fun s' => s'.d.get FPL_BOOT_STATUS_PHASE = 1 ∧ s'.d.inReset = false ∧ s'.d.fpl.flash.boot = (f0.boot + 1) % 65536 ∧
        s'.d.fpl.flash.count = (f0.count + 1) % 2 ^ 32 ∧ s'.d.fpl.flash.sector.getLast? = some (s'.d.fpl.flash.record s'.d.fpl.flash.count) ∧
        s'.d.fpl.key = if Config.pufOk s.d.free then Config.pufKey else [])) ∧
    (s.d.pins.held = false → s.d.get FPL_BOOT_STATUS_PHASE = 0 → f0.active < 2 →
      (x.state = 2 → x.verifies f0.minSvn = true → runs .bootRomStart (fun s' => boots f0.active 0 s' ∧ s'.d.fpl.fwDigest = x.digest ∧ s'.d.fpl.flash.slot f0.active = x)) ∧
      (x.state = 1 → 0 < x.tries → x.verifies f0.minSvn = true → runs .bootRomStart (fun s' => boots f0.active 0 s' ∧ s'.d.fpl.fwDigest = x.digest ∧
        s'.d.fpl.flash.slot f0.active = { x with tries := x.tries - 1 })) ∧
      (¬ fit x ∨ x.state = 1 ∧ x.tries = 0 →
        (fit o → runs .bootRomStart (fun s' => boots (1 - f0.active) 1 s' ∧ s'.d.fpl.fwDigest = o.digest ∧ s'.d.fpl.flash.slot f0.active = { x with state := 3 })) ∧
        (¬ fit o → runs .bootRomStart (fun s' => s'.d.get FPL_BOOT_STATUS_PHASE = 1 ∧ s'.d.fpl.fwDigest = [] ∧ s'.d.fpl.flash.active = f0.active ∧
          s'.d.fpl.flash.slot f0.active = { x with state := 3 })))) ∧
    (s.d.inReset = false → s.d.get FPL_BOOT_STATUS_PHASE ≠ 1 → exec .flashReadDone s = .next s) ∧
    (s.d.inReset = false → s.d.get FPL_BOOT_STATUS_PHASE = 1 →
      let common (s' : State) : Prop := s'.d.get FPL_BOOT_STATUS_FACTORY_BAD = (if Config.factoryGood then 0 else 1) ∧
        s'.d.get FPL_BOOT_STATUS_ID_OK = (if s.d.fpl.key = [] then s.d.get FPL_BOOT_STATUS_ID_OK else 1) ∧
        s'.d.get FPL_FW_SLOTS_SLOT_A = slotWord f.slotA % 2 ^ 32 ∧ s'.d.get FPL_FW_SLOTS_SLOT_B = slotWord f.slotB % 2 ^ 32 ∧ s'.d.get FPL_FW_CTRL_ACTIVE = f.active % 2 ∧
        s'.d.get FPL_FW_CTRL_OWNER_LOCK = (if f.lock then 1 else 0) ∧ s'.d.get FPL_BOOT_TIME_FLASH_MS = (s.d.T - s.d.fpl.time0) / 1000000 % 65536
      (s.d.fpl.fwDigest = [] → runs .flashReadDone (fun s' => common s' ∧ s'.d.get FPL_BOOT_STATUS_PHASE = 5 ∧ s'.d.get TLS_STATUS_RUNNING = s.d.get TLS_STATUS_RUNNING ∧
        s'.d.fpl.flash = f)) ∧
      (s.d.fpl.fwDigest ≠ [] → ∃ d', exec .flashReadDone s = .next (finish s (settle s.mem d')) ∧ d'.get FPL_BOOT_STATUS_PHASE = 2 ∧
        d'.get TLS_STATUS_RUNNING = 1) ∧
      (let r := s.d.retainedIn.fpl.flash
       s.d.fpl.fwDigest ≠ [] → (∀ e ∈ r.units, e.2.state ≠ 2) → runs .flashReadDone (fun s' => common s' ∧ s'.d.get FPL_BOOT_STATUS_PHASE = 2 ∧
        s'.d.get TLS_STATUS_RUNNING = 1 ∧ s'.d.tls.retained = [] ∧ s'.d.get TLS_POS_POS = f.pos % 2 ^ TLS_POS_POS.width ∧
        s'.d.get UNL_NODE_GEN = (if (f.gen + 1) % 65536 = 0 then 1 else (f.gen + 1) % 65536) ∧ s'.d.fpl.flash = ({ r with gen := s'.d.get UNL_NODE_GEN } : Flash).append ∧
        s'.d.get FPL_REPLAY_CLASS_FW_VERSION = (f.slot s.d.booted).ver % 65536 ∧ s'.d.get FPL_FW_CTRL_CONFIRM = (if (f.slot s.d.booted).state = 2 then 1 else 0) ∧
        s'.d.get FPL_BOOT_STATUS_CFG_COPY = f.selected.getD 0 ∧ s'.d.fpl.image = f.selected.map (fun i => (i, f.copy i)) ∧ s'.d.fpl.released = f.pos % 2 ^ TLS_POS_POS.width ∧
        ∀ u, (s'.d.unit u).state = (sget r.units u {}).state ∧ (s'.d.unit u).times = (sget r.units u {}).times ∧ ((s'.d.unit u).due = true ↔ (sget r.units u {}).state = 1)))) ∧
    (s.d.inReset = false → s.d.get FPL_BOOT_STATUS_PHASE ≠ 2 → exec .memoryTrainingDone s = .next s) ∧
    (s.d.inReset = false → s.d.get FPL_BOOT_STATUS_PHASE = 2 → runs .memoryTrainingDone (fun s' => s'.d.get FPL_BOOT_STATUS_PHASE = 3 ∧
      s'.d.get FPL_BOOT_STATUS_FULL_TRAIN = (if s.d.trained then 0 else 1) ∧ only s' [FPL_BOOT_STATUS_PHASE, FPL_BOOT_STATUS_FULL_TRAIN])) ∧
    (s.d.inReset = false → s.d.get FPL_BOOT_STATUS_PHASE ≠ 3 → exec .configImageApply s = .next s ∧ exec .imageRadioCommit s = .next s ∧ exec .imageEnd s = .next s ∧
      (∀ ps, exec (.imageWrite32 ps) s = .next s) ∧ (∀ ps, exec (.imageWrite64 ps) s = .next s) ∧ (∀ sp off vs, exec (.imageBlock sp off vs) s = .next s) ∧
      (∀ mask img, exec (.imageGouge mask img) s = .next s) ∧ ∀ w0 w1 w2 ok, exec (.imageMemcmd w0 w1 w2 ok) s = .next s) ∧
    (s.d.inReset = false → s.d.get FPL_BOOT_STATUS_PHASE = 3 →
      let i := s.d.fpl.record
      let d0 := { s.d with fpl := { s.d.fpl with applying := true, record := i + 1 } }
      (s.d.fpl.image = none → runs .configImageApply (serves stDIGEST_MISMATCH (s.d.get FPL_CFG_STATUS_RECORD))) ∧
      exec .configImageApply s = .next (finish s (settle s.mem (match s.d.fpl.image with
        | none => (s.d.set FPL_CFG_STATUS_STATUS stDIGEST_MISMATCH).enterService false
        | some c => imageRun s.mem i (wfld (imgHdr c.2) CIMG_RECORDS) { s.d with fpl := { s.d.fpl with applying := true } } 0
            ((c.2.take (wfld (imgHdr c.2) CIMG_LENGTH - 64)).drop 64)))) ∧
      runs .imageEnd (fun s' => serves stOK 0 s' ∧ logged s') ∧
      (∀ ps, exec (.imageWrite32 ps) s = .next (finish s (settle s.mem (ps.foldl (fun d p => imageWrite s.mem d .bar0 p.1 4 p.2.toNat) d0)))) ∧
      (∀ ps, exec (.imageWrite64 ps) s = .next (finish s (settle s.mem (ps.foldl (fun d p => imageWrite s.mem d .bar0 p.1 8 p.2.toNat) d0)))) ∧
      (∀ sp off vs, exec (.imageBlock sp off vs) s = .next (finish s (settle s.mem
        (vs.zipIdx.foldl (fun d p => imageWrite s.mem d sp (off + 4 * p.2) 4 p.1.toNat) d0)))) ∧
      (∀ (off : Nat) (v : W32) (w : W64), let prt := 0x440000 ≤ off ∧ off < 0x480000
        (¬ prt → ∀ d, imageWrite s.mem d .bar0 off 4 v.toNat = busWrite s.mem d .faceplate .bar0 off 4 v.toNat ∧
          imageWrite s.mem d .bar0 off 8 w.toNat = busWrite s.mem d .faceplate .bar0 off 8 w.toNat) ∧
        (prt → ∀ e ∈ [Instr.imageWrite32 [(off, v)], Instr.imageWrite64 [(off, w)], Instr.imageBlock .bar0 off [v]], runs e (fun s' => step s' ∧
          s'.d.get FPL_CFG_REFUSED_WRITES = min (2 ^ FPL_CFG_REFUSED_WRITES.width - 1) (s.d.get FPL_CFG_REFUSED_WRITES + 1) ∧ only s' [FPL_CFG_REFUSED_WRITES]))) ∧
      (∀ v : W32, runs (.imageWrite32 [(0x2C, v)]) (fun s' => step s' ∧ s'.d.get FPL_SUPPLY_CFG_VMIN = v.toNat % 65536 ∧ only s' [FPL_SUPPLY_CFG_VMIN])) ∧
      (∀ v : W64, runs (.imageWrite64 [(0x38, v)]) (fun s' => step s' ∧ s'.d.get FPL_UPD_SRC_OFFSET = v.toNat % 2 ^ 41 ∧ only s' [FPL_UPD_SRC_OFFSET])) ∧
      (∀ v w : W32, runs (.imageBlock .bar0 0x48 [v, w]) (fun s' => step s' ∧ s'.d.get (FPL_CHAIN_NODE 0) = v.toNat % 65536 ∧ s'.d.get (FPL_CHAIN_VALID 0) = v.toNat / 2 ^ 31 ∧
        s'.d.get (FPL_CHAIN_NODE 1) = w.toNat % 65536 ∧ s'.d.get (FPL_CHAIN_VALID 1) = w.toNat / 2 ^ 31 ∧
        only s' [FPL_CHAIN_NODE 0, FPL_CHAIN_VALID 0, FPL_CHAIN_NODE 1, FPL_CHAIN_VALID 1])) ∧
      (∀ mask img,
        (img.length ≠ gougeImageBytes ∨ s.d.get RAD_CFG_CTRL_PENDING = 1 → runs (.imageGouge mask img) (fun s' => serves stREFUSED_STATE (i % 2 ^ 20) s' ∧ logged s')) ∧
        (img.length = gougeImageBytes → s.d.get RAD_CFG_CTRL_PENDING ≠ 1 → runs (.imageGouge mask img) (fun s' => step s' ∧ ∀ n < 512, ∀ k < 0x2000,
          sget s'.d.gimg (n * 65536 + k) 0#32 = if mask.getD n false then BitVec.ofNat 32 (leNat ((img.drop (4 * k)).take 4)) else sget s.d.gimg (n * 65536 + k) 0#32))) ∧
      (∀ w0 w1 w2 ok,
        let r := imageMemcmd s.mem d0 w0 w1 w2 ok
        exec (.imageMemcmd w0 w1 w2 ok) s = .next (finish s (settle s.mem (match r.2 with | none => r.1 | some st => r.1.imageEnds i st)))) ∧
      (let d1 := radioCommitOp (d0.unlatch (latchKey .faceplate .bar0))
       exec .imageRadioCommit s = .next (finish s (settle s.mem (if d1.get RAD_CFG_CTRL_RESULT = stOK then d1 else d1.set FPL_CFG_STATUS_RADIO_REFUSED 1))))) ∧
    (∀ (a : Agent) (v : W32), s.d.inReset = false → s.d.asks a .bar0 0x68 → s.d.fpl.applying = false →
      (s.d.get FPL_ATTEST_CTRL_BUSY = 1 → runs (.attestGo a v) (fun s' => only s' [])) ∧
      (s.d.get FPL_ATTEST_CTRL_BUSY ≠ 1 → s.d.get FPL_BOOT_STATUS_ID_OK ≠ 1 → runs (.attestGo a v) (fun s' => s'.d.get FPL_ATTEST_CTRL_STATUS = stREFUSED_STATE ∧
        only s' [FPL_ATTEST_CTRL_STATUS])) ∧
      (s.d.get FPL_ATTEST_CTRL_BUSY ≠ 1 → s.d.get FPL_BOOT_STATUS_ID_OK = 1 → runs (.attestGo a v) (fun s' => s'.d.get FPL_ATTEST_CTRL_BUSY = 1 ∧ only s' [FPL_ATTEST_CTRL_BUSY]))) ∧
    (s.d.inReset = false → s.d.get FPL_ATTEST_CTRL_BUSY ≠ 1 → exec .attestDone s = .next s) ∧
    (s.d.inReset = false → s.d.get FPL_ATTEST_CTRL_BUSY = 1 → runs .attestDone (fun s' => s'.d.get FPL_ATTEST_CTRL_BUSY = 0 ∧ s'.d.get FPL_ATTEST_CTRL_STATUS = stOK ∧
      (∀ k < 4, s'.d.get (FPL_ATTEST_REPORT_WORD (4 + k)) = s.d.get (FPL_ATTEST_NONCE_NONCE k) % 2 ^ 64) ∧
      (∀ k < 4, s'.d.get (FPL_ATTEST_REPORT_WORD (8 + k)) = s.d.get (FPL_ID_KEY_KEY k) % 2 ^ 64) ∧
      (∀ k < 8, s'.d.get (FPL_ATTEST_REPORT_WORD (24 + k)) = ((bytesWords 8 (edSign (idSeed s.d.fpl.key) (wordsBytes s.d.attestWords))).getD k 0#64).toNat) ∧
      only s' ([FPL_ATTEST_CTRL_BUSY, FPL_ATTEST_CTRL_STATUS] ++ (List.range 32).map FPL_ATTEST_REPORT_WORD))) ∧
    (s.d.inReset = false → s.d.get FPL_BOOT_STATUS_PHASE ≠ 0 → s.d.fpl.applying = false →
      (∀ off, exec (.i3cRead32 off) s = .next (finish s (settle s.mem (busRead s.d .i3c .bar0 off 4))) ∧
        exec (.i3cRead64 off) s = .next (finish s (settle s.mem (busRead s.d .i3c .bar0 off 8))) ∧
        (∀ v : W32, exec (.i3cWrite32 off v) s = .next (finish s (settle s.mem (busWrite s.mem s.d .i3c .bar0 off 4 v.toNat)))) ∧
        (∀ v : W64, exec (.i3cWrite64 off v) s = .next (finish s (settle s.mem (busWrite s.mem s.d .i3c .bar0 off 8 v.toNat)))) ∧
        (s.d.reach .i3c .bar0 off false = false → runs (.i3cRead32 off) (fun s' => only s' [] ∧ s'.d.bus.rdata = 0)) ∧
        (s.d.reach .i3c .bar0 off true = false → ∀ v, exec (.i3cWrite32 off v) s = .next { s with d := s.d.unlatch (latchKey .i3c .bar0) })) ∧
      runs (.i3cRead32 0x2C) (fun s' => only s' [] ∧ s'.d.bus.rdata = s.d.get FPL_SUPPLY_CFG_VMIN) ∧
      runs (.i3cRead64 0x38) (fun s' => only s' [] ∧ s'.d.bus.rdata = s.d.get FPL_UPD_SRC_OFFSET) ∧
      (∀ v : W32, runs (.i3cWrite32 0x2C v) (fun s' => s'.d.get FPL_SUPPLY_CFG_VMIN = v.toNat % 65536 ∧ only s' [FPL_SUPPLY_CFG_VMIN] ∧
        ∃ e, s'.d.bus.journal.getLast? = some e ∧ e.src = 0x80 ∧ e.space = 0 ∧ e.offset = 0x2C ∧ e.new = v.toNat)) ∧
      (∀ v : W64, runs (.i3cWrite64 0x38 v) (fun s' => s'.d.get FPL_UPD_SRC_OFFSET = v.toNat % 2 ^ 41 ∧ only s' [FPL_UPD_SRC_OFFSET])) ∧
      (∀ addr : Fin 128, runs (.dynamicAddressAssignment addr) (fun s' => s'.d.fpl.i3c = addr ∧ s'.d.out.i3cId = s.d.out.i3cId ++ [s.d.serial % 2 ^ 48] ∧
        s'.d.regs = s.d.regs))))

/-- R468, R476, R477, R479-R484, R503. That the times are counted in powered seconds is the model's (log 193), that an event whose condition is false
does nothing too (log 3), and that a slot written again since the boot is neither confirmed nor timed out (log 194). -/
def Obligations.FirmwareUpdates : Prop :=
  (∀ (d : Dev) (st r : Nat),
    (d.fpl.upd.chain.any (fun e => e.2.stage != 2) = true → (d.updOwn st r).get FPL_UPD_CTRL_STATE = 4 ∧ (d.updOwn st r).fpl.upd.own = some (st, r)) ∧
    (d.fpl.upd.chain = [] → let e := d.updOwn st r
      e.get FPL_UPD_CTRL_STATE = 0 ∧ e.get FPL_UPD_CTRL_STATUS = st % 256 ∧ e.get FPL_UPD_CTRL_REASON = r % 256 ∧ e.fpl.upd.pieces = [] ∧ e.fpl.flash = d.fpl.flash)) ∧
  (∀ (d : Dev) (dg : List Byte), d.fpl.upd.fwd = true → dg ∉ d.fpl.upd.sent →
    let e := d.forwardImage dg
    e.fpl.upd.sent = dg :: d.fpl.upd.sent ∧ e.fpl.upd.began = d.get TLS_POS_POS ∧ ∀ i < 4, ((d.get (FPL_CHAIN_VALID i) = 1 → ∃ id, sfind e.fpl.upd.chain i = some { id := id, off := 0, stage := 0, heard := d.get TLS_POS_POS, prog := d.get TLS_POS_POS } ∧ e.get (FPL_CHAIN_STATUS_DONE i) = 0) ∧
      (d.get (FPL_CHAIN_VALID i) ≠ 1 → sfind e.fpl.upd.chain i = none))) ∧
  (∀ (d : Dev) (pk : Packet),
    let u := d.fpl.upd
    let src := pkf pk PKT_SRC
    let w := fwWord pk
    (u.sent.any (fun x => x.take 32 == (fwBytes pk).take 32) = true → fwOfferOp d pk = d.fwAnswer src (fwId pk) stALREADY_DONE 0 0) ∧
    (u.sent = [] → u.up ≠ some (src, fwId pk) →
      (∀ r, d.updBad 0 = some r → fwOfferOp d pk = d.fwAnswer src (fwId pk) stREFUSED_STATE r d.node) ∧
      (d.updBad 0 = none → d.updBusy = true → fwOfferOp d pk = d.fwAnswer src (fwId pk) stREFUSED_STATE 0x08 d.node) ∧
      (d.updBad 0 = none → d.updBusy = false → w ≤ imageMax → let e := fwOfferOp d pk
        e.get FPL_UPD_CTRL_STATE = 1 ∧ e.fpl.upd.up = some (src, fwId pk) ∧ e.fpl.upd.total = w ∧ e.fpl.upd.mode = 2 ∧ e.fpl.upd.pieces = [] ∧ e.fpl.upd.prog = d.get TLS_POS_POS ∧
        e.fpl.past = if u.waits then d.fpl.past ++ [u] else d.fpl.past)) ∧
    (d.get FPL_UPD_CTRL_STATE = 1 → u.up = some (src, fwId pk) → w % 128 = 0 → w < u.total →
      sfind (fwChunkOp d pk).fpl.upd.pieces w = some ((fwBytes pk).take (min 128 (u.total - w))) ∧
      ((∀ o < u.total, o % 128 = 0 → o ≠ w → sfind u.pieces o ≠ none) → (fwChunkOp d pk).get FPL_UPD_CTRL_STATE = 2)) ∧
    (d.get FPL_UPD_CTRL_STATE ≠ 1 ∨ u.up ≠ some (src, fwId pk) → fwChunkOp d pk = d) ∧
    (d.transferOf pk = none → fwNakOp d pk = d ∧ fwResultOp d pk = d) ∧
    (∀ k i c, d.transferOf pk = some (k, i, c) →
      sfind ((fwNakOp d pk).updAt k).chain i = some { c with off := w, stage := 1, heard := d.get TLS_POS_POS, prog := if c.stage = 0 ∨ c.off < w then d.get TLS_POS_POS else c.prog } ∧
      (u.own = none → i < 4 → k = 0 → let e := fwResultOp d pk
        sfind e.fpl.upd.chain i = some { c with stage := 2, res := (w % 256, w / 256 % 256, w / 65536 % 65536) } ∧ e.get (FPL_CHAIN_STATUS_DONE i) = 1 ∧
        e.get (FPL_CHAIN_STATUS_STATUS i) = w % 256 ∧ e.get (FPL_CHAIN_STATUS_REASON i) = w / 256 % 256 ∧ e.get (FPL_CHAIN_STATUS_NODE i) = w / 65536 % 65536) ∧
      (∀ v, u.own = none → k = 1 → d.fpl.past = [v] → v.chain = [(i, c)] → let e := fwResultOp d pk
        e.fpl.past = [] ∧ e.fpl.upd = u ∧
        let x := d.chainEnd 1 i c (w % 256) (w / 256 % 256) (w / 65536 % 65536)
        let v' : Upd := { v with chain := [(i, { c with stage := 2, res := (w % 256, w / 256 % 256, w / 65536 % 65536) })] }
        e = ({ x with fpl := { x.fpl with past := [] } } : Dev).updAnswer v' (v'.outcome d.node (v.own.getD (stABORTED, 0)))))) ∧
  (∀ (bs : List Byte) (minSvn : Nat), let h := imgHdr bs
    containerBad bs minSvn = none → wfld h FWH_MAGIC = 0x57454153 ∧ wfld h FWH_FORMAT = 1 ∧ wfld h FWH_KEY_INDEX ≤ 1 ∧ 128 ≤ wfld h FWH_LENGTH ∧
      wfld h FWH_LENGTH ≤ imageMax ∧ minSvn ≤ wfld h FWH_SVN ∧ 3 ≤ wfld h FWH_SECTIONS ∧ wfld h FWH_SECTIONS ≤ 16 ∧
      ∀ t ∈ [1, 2, 3], (containerSections bs).count t = 1) ∧
  (∀ (x : Slot) (minSvn : Nat), x.verifies minSvn = true → minSvn ≤ x.svn) ∧
  (∀ s : State, s.serving → s.d.get FPL_FW_CTRL_HOST_ACK_REQ < 2 → s.d.get FPL_FW_CTRL_OWNER_LOCK < 2 → s.d.get FPL_UPD_CTRL_TARGET < 2 → s.d.get FPL_UPD_CTRL_SRC_MODE < 2 →
      s.d.get FPL_UPD_CTRL_FORWARD < 2 → s.d.get FPL_UPD_CTRL_STATE < 8 →
    let f := s.d.fpl.flash
    let u := s.d.fpl.upd
    let b := s.d.booted
    let st := s.d.get FPL_UPD_CTRL_STATE
    let runs (e : Instr) (P : State → Prop) : Prop := ∃ s', exec e s = .next s' ∧ s'.mem = s.mem ∧ P s'
    let only (s' : State) (fs : List Fld) : Prop := ∀ g : Fld, (∀ h ∈ fs, Fld.key g ≠ Fld.key h) → s'.d.get g = s.d.get g
    let ends (e : Instr) (status reason : Nat) : Prop := ∃ d', exec e s = .next (finish s (settle s.mem d')) ∧ d'.get FPL_UPD_CTRL_STATE = 0 ∧
      d'.get FPL_UPD_CTRL_STATUS = status ∧ d'.get FPL_UPD_CTRL_REASON = reason ∧ d'.fpl.upd.pieces = [] ∧ d'.fpl.upd.up = none
    let idle (e : Instr) : Prop := exec e s = .next s
    let ready := s.d.get TLS_STATUS_RUNNING = 1 ∧ (s.d.get FPL_FW_CTRL_HOST_ACK_REQ = 1 → s.d.get FPL_FW_CTRL_HOST_OK = 1) ∧ s.d.fpl.bootState = 1 ∧ (f.slot b).state = 1
    (∀ a : Agent, s.d.asks a .bar0 0x18 →
      (ready → runs (.confirm a) (fun s' => s'.d.fpl.flash = ({ f.setSlot b { f.slot b with state := 2 } with minSvn := max f.minSvn (f.slot b).svn } : Flash).append ∧
        s'.d.get FPL_FW_CTRL_CONFIRM = 1 ∧ only s' [FPL_FW_CTRL_CONFIRM, FPL_FW_SLOTS_SLOT_A, FPL_FW_SLOTS_SLOT_B, FPL_FW_CTRL_ACTIVE])) ∧
      (¬ ready → runs (.confirm a) (fun s' => s'.d.fpl = s.d.fpl ∧ only s' [])) ∧
      runs (.hostOk a) (fun s' => s'.d.fpl = s.d.fpl ∧ s'.d.get FPL_FW_CTRL_HOST_OK = 1 ∧ only s' [FPL_FW_CTRL_HOST_OK]) ∧
      (∀ v, runs (.ownerLockWrite a v) (fun s' => s'.d.get FPL_FW_CTRL_OWNER_LOCK = (if v then 1 else 0) ∧ only s' [FPL_FW_CTRL_OWNER_LOCK] ∧
        s'.d.fpl.flash = if (s.d.get FPL_FW_CTRL_OWNER_LOCK == 1) == v then f else Flash.keep { f with lock := v } f)) ∧
      (∀ r now, s.d.activateBad = some r → runs (.activate a now) (fun s' => s'.d.fpl = s.d.fpl ∧ s'.d.get FPL_FW_CTRL_RESULT = stREFUSED_STATE ∧
        s'.d.get FPL_FW_CTRL_REASON = r ∧ only s' [FPL_FW_CTRL_RESULT, FPL_FW_CTRL_REASON])) ∧
      (s.d.activateBad = none →
        let g := { f.setSlot (1 - f.active) { f.slot (1 - f.active) with tries := 3 } with active := 1 - f.active }
        let g := g.keep f
        runs (.activate a false) (fun s' => s'.d.fpl.flash = g ∧ s'.d.get FPL_FW_CTRL_RESULT = stOK ∧ s'.d.get FPL_FW_CTRL_REASON = 0 ∧
          only s' [FPL_FW_CTRL_RESULT, FPL_FW_CTRL_REASON, FPL_FW_SLOTS_SLOT_A, FPL_FW_SLOTS_SLOT_B, FPL_FW_CTRL_ACTIVE]) ∧
        ∃ s', exec (.activate a true) s = .next s' ∧ s'.mem = [] ∧ s'.d.regs = [] ∧ s'.d.fpl = { flash := g } ∧ s'.d.tls.retained = s.d.tls.retained)) ∧
    (s.d.fpl.fwDigest = [] ∨ s.d.fpl.bootState ≠ 1 ∨ (f.slot b).state ≠ 1 ∨ s.d.get TLS_POS_POS < s.d.fpl.released + 120 → idle .confirmTimeout) ∧
    (s.d.fpl.fwDigest ≠ [] → s.d.fpl.bootState = 1 → (f.slot b).state = 1 → s.d.fpl.released + 120 ≤ s.d.get TLS_POS_POS → s.d.tls.inQ = [] → s.d.tls.retained = [] → ∃ s', exec .confirmTimeout s = .next s' ∧ s'.mem = [] ∧ s'.d.regs = [] ∧
      s'.d.fpl = { flash := ({ f.setSlot b { f.slot b with state := 3, tries := 0 } with active := 1 - b } : Flash).append } ∧
      ∃ w rest, s'.d.tls.retained = w :: rest ∧ wfld w HREC_EVENT = 6) ∧
    (∀ (a : Agent) (v : W32), s.d.asks a .bar0 0x30 → v.toNat / 2 % 4 = 0 →
      let t := v.toNat / 8 % 2
      let cfg := [FPL_UPD_CTRL_TARGET, FPL_UPD_CTRL_SRC_MODE, FPL_UPD_CTRL_FORWARD, FPL_UPD_CTRL_STATUS, FPL_UPD_CTRL_REASON]
      (∀ r, s.d.updBad t = some r → runs (.updateStart a v) (fun s' => s'.d.fpl = s.d.fpl ∧ s'.d.get FPL_UPD_CTRL_STATUS = stREFUSED_STATE ∧
        s'.d.get FPL_UPD_CTRL_REASON = r ∧ only s' cfg)) ∧
      (s.d.updBad t = none → s.d.updBusy = true → runs (.updateStart a v) (fun s' => s'.d.fpl = s.d.fpl ∧ s'.d.get FPL_UPD_CTRL_STATUS = stREFUSED_STATE ∧
        s'.d.get FPL_UPD_CTRL_REASON = 0x08 ∧ only s' cfg)) ∧
      (s.d.updBad t = none → s.d.updBusy = false → runs (.updateStart a v) (fun s' => s'.d.get FPL_UPD_CTRL_STATE = 1 ∧ s'.d.get FPL_UPD_CTRL_STATUS = 0 ∧
        s'.d.get FPL_UPD_LEN_BYTES = 0 ∧ s'.d.fpl.flash = f ∧ s'.d.fpl.upd = { u with pieces := [], total := 0, up := none, erased := false, own := none, chain := [], tgt := t, mode := v.toNat / 16 % 2, fwd := decide (v.toNat / 2 ^ 24 % 2 = 1) && decide (t = 0), prog := s.d.get TLS_POS_POS } ∧
        s'.d.fpl.past = (if u.waits then s.d.fpl.past ++ [u] else s.d.fpl.past) ∧ only s' (cfg ++ [FPL_UPD_CTRL_STATE, FPL_UPD_LEN_BYTES])))) ∧
    (∀ a : Agent, s.d.asks a .bar0 0x30 →
      runs (.updateEnd a) (fun s' => s'.d.fpl = s.d.fpl ∧ s'.d.get FPL_UPD_CTRL_STATE = (if st = 1 ∧ u.mode = 1 then 2 else st) ∧ only s' [FPL_UPD_CTRL_STATE]) ∧
      (st = 1 ∨ st = 2 → u.chain = [] → ends (.updateAbort a) stABORTED 0 ∧ ∃ d', exec (.updateAbort a) s = .next (finish s (settle s.mem d')) ∧
        d'.fpl.past = s.d.fpl.past.filter Upd.waits) ∧
      (st ≠ 1 → st ≠ 2 → runs (.updateAbort a) (fun s' => s'.d.fpl = s.d.fpl ∧ only s' []))) ∧
    (∀ (a : Agent) (v : W64), s.d.asks a .bar0 0x40 →
      (st = 1 → u.mode = 1 → u.total + 8 ≤ imageMax → runs (.fplUpdDataWrite a v) (fun s' =>
        s'.d.fpl.upd = { u with pieces := sput u.pieces u.total (bytesLE 8 v.toNat), total := u.total + 8 } ∧ s'.d.get FPL_UPD_LEN_BYTES = u.total + 8 ∧
        only s' [FPL_UPD_LEN_BYTES])) ∧
      (st ≠ 1 ∨ u.mode ≠ 1 ∨ imageMax < u.total + 8 → runs (.fplUpdDataWrite a v) (fun s' => s'.d.fpl = s.d.fpl ∧ only s' []))) ∧
    (st ≠ 1 ∨ u.mode ≠ 0 → idle .updateReceiveDone) ∧
    (st = 1 → u.mode = 0 →
      let h := readRange s.mem s.d (s.d.get FPL_UPD_SRC_OFFSET / 64 * 64) 64 .consumer
      let len := min imageMax (wfld (imgHdr h.2.2) (if u.tgt = 0 then FWH_LENGTH else CIMG_LENGTH))
      let r := readRange s.mem h.1 (s.d.get FPL_UPD_SRC_OFFSET / 64 * 64) len .consumer
      (h.2.1 = .ok → r.2.1 = .ok → ∃ d', exec .updateReceiveDone s = .next (finish s (settle s.mem d')) ∧ d'.get FPL_UPD_CTRL_STATE = 2 ∧
        d'.get FPL_UPD_LEN_BYTES = len ∧ d'.fpl.upd = { u with pieces := [(0, r.2.2)], total := len }) ∧
      (h.2.1 ≠ .ok → h.2.1 ≠ .held → ∃ d', exec .updateReceiveDone s = .next (finish s (settle s.mem d')) ∧ d'.get FPL_UPD_CTRL_STATE = 2 ∧
        d'.fpl.upd = { u with pieces := [], total := 0 })) ∧
    (st ≠ 2 → idle .updateVerifyDone) ∧
    (st = 2 → u.chain = [] → u.fwd = false →
      let dg := containerDigest u.image
      let holds (x : Slot) : Bool := !x.digest.isEmpty && x.digest == dg
      let other := f.slot (1 - f.active)
      let present := !s.d.recovery && (holds (f.slot f.active) || (holds other && (other.state == 1 || other.state == 2)))
      let late (t : Nat) : Option (Nat × Nat) := (s.d.updBad t).map (fun r => (stREFUSED_STATE, r))
      let verdict : Option (Nat × Nat) :=
        if u.tgt = 1 then (if configGood u.image then late 1 else some (stDIGEST_MISMATCH, 0))
        else match containerBad u.image f.minSvn with
          | some r => some (if r = reSIGNATURE then stDIGEST_MISMATCH else stREFUSED_STATE, r)
          | none => if present then some (stALREADY_DONE, 0) else late 0
      ∃ d', exec .updateVerifyDone s = .next (finish s (settle s.mem d')) ∧ match verdict with
        | some v => d'.get FPL_UPD_CTRL_STATE = 0 ∧ d'.get FPL_UPD_CTRL_STATUS = v.1 ∧ d'.get FPL_UPD_CTRL_REASON = v.2 ∧ d'.fpl.upd.pieces = [] ∧ d'.fpl.flash = f
        | none => d'.get FPL_UPD_CTRL_STATE = 3 ∧ d'.fpl.upd = { u with erased := true } ∧ (u.tgt = 0 → d'.fpl.flash = (f.setSlot s.d.updTarget {}).keep f) ∧
            (u.tgt = 1 → d'.fpl.flash = if s.d.updTarget = 0 then { f with cfg0 := [] } else { f with cfg1 := [] })) ∧
    (∀ ok, st ≠ 3 → idle (.updateWriteDone ok)) ∧
    (st = 3 → u.chain = [] → ends (.updateWriteDone false) stUNCORRECTABLE 0x07) ∧
    (st = 3 → u.chain = [] → s.d.get FPL_BOOT_STATUS_PHASE = 4 →
      let img := u.image.take (wfld (imgHdr u.image) (if u.tgt = 0 then FWH_LENGTH else CIMG_LENGTH))
      ends (.updateWriteDone true) stOK 0 ∧ ∃ d', exec (.updateWriteDone true) s = .next (finish s (settle s.mem d')) ∧
        d'.fpl.flash = if u.tgt = 0 then (f.setSlot (1 - f.active) { ver := wfld (imgHdr img) FWH_FW_VERSION, state := 1, tries := 3, img := img }).keep f
          else if s.d.updTarget = 0 then { f with cfg0 := img } else { f with cfg1 := img }) ∧
    (∀ ok, ok = true ∨ st ≠ 3 → runs (.marginOkChange ok) (fun s' => s'.d.fpl = s.d.fpl ∧ s'.d.get FPL_SUPPLY_MARGIN_OK = (if ok then 1 else 0) ∧ only s' [FPL_SUPPLY_MARGIN_OK])) ∧
    (st = 3 → u.chain = [] → ends (.marginOkChange false) stREFUSED_STATE 0x02) ∧
    (∀ e ∈ [((0x20 : Nat), Instr.fwOffer, fwOfferOp), (0x21, Instr.fwChunk, fwChunkOp), (0x22, Instr.fwNak, fwNakOp), (0x23, Instr.fwResult, fwResultOp)], ∀ pk : Packet, pk.hdr.length = 3 →
      (s.d.get UNL_CTRL_EN ≠ 1 ∨ pkf pk PKT_DST ≠ s.d.node → idle (e.2.1 pk)) ∧
      (mgmtGate s.d pk = (s.d, true) → msgType pk = e.1 →
        exec (e.2.1 pk) s = .next (finish s (settle s.mem (genTriggers s.d (e.2.2 s.d pk) (pkf pk PKT_SRC)))))) ∧
    let pos := s.d.get TLS_POS_POS
    ((∀ e ∈ s.d.transfers, e.2.2.stage ≠ 1 ∨ pos < e.2.2.heard + 1) → idle .fwResendTimeout) ∧
    (∀ i c, s.d.fpl.past = [] → u.chain = [(i, c)] → c.stage = 1 → c.heard + 1 ≤ pos → exec .fwResendTimeout s = .next (finish s (settle s.mem
      ((s.d.setChain 0 i { c with heard := pos }).streamFrom 0 i c (c.off / 128 * 128))))) ∧
    (s.d.fpl.past = [] → u.chain = [] → u.own = none → idle .fwChainResultTimeout ∧ (st ≠ 1 ∨ u.mode ≠ 2 ∨ pos < u.prog + 10 → idle .fwTransferTimeout) ∧
      (st = 1 → u.mode = 2 → u.prog + 10 ≤ pos → ends .fwTransferTimeout stABORTED 0x09)) ∧
    (∀ i c, s.d.fpl.past = [] → u.chain = [(i, c)] → c.stage < 2 → i < 4 → st ≠ 1 →
     ∀ e ∈ [(Instr.fwTransferTimeout, (0x09 : Nat), c.prog + 10), (Instr.fwChainResultTimeout, 0, u.began + 300)],
      (pos < e.2.2 → u.own = none → idle e.1) ∧
      (e.2.2 ≤ pos → u.own = none → runs e.1 (fun s' => s'.d.get (FPL_CHAIN_STATUS_DONE i) = 1 ∧ s'.d.get (FPL_CHAIN_STATUS_STATUS i) = stABORTED ∧
        s'.d.get (FPL_CHAIN_STATUS_REASON i) = e.2.1 ∧ s'.d.get (FPL_CHAIN_STATUS_NODE i) = s.d.get (FPL_CHAIN_NODE i) % 65536 ∧
        s'.d.fpl.upd.chain = [(i, { c with stage := 2, res := (stABORTED, e.2.1, s.d.get (FPL_CHAIN_NODE i)) })] ∧
        only s' [FPL_CHAIN_STATUS_STATUS i, FPL_CHAIN_STATUS_REASON i, FPL_CHAIN_STATUS_DONE i, FPL_CHAIN_STATUS_NODE i])) ∧
      (e.2.2 ≤ pos → u.own = some (stOK, 0) → ends e.1 stABORTED e.2.1)))

/-- R400, R463, R464, R471, R474, R487, R489, R491, R492, R499, R502, R503, R505, R506. That a command whose condition does not hold leaves the state
as it was is log 3; the size of the injected product error is log 182, that the corrupted flits follow one another is log 190, and the cells of
the boundary-scan register are log 189. -/
def Obligations.PerturbationAndPins : Prop :=
  (∀ s : State, s.serving → ∀ a : Agent,
    let runs (e : Instr) (P : State → Prop) : Prop := ∃ s', exec e s = .next s' ∧ s'.mem = s.mem ∧ P s'
    let only (s' : State) (fs : List Fld) : Prop := ∀ g : Fld, (∀ h ∈ fs, Fld.key g ≠ Fld.key h) → s'.d.get g = s.d.get g
    let refused (e : Instr) : Prop := runs e (fun s' => s'.d.get PRT_STATUS_CFG_REFUSED = 1 ∧ only s' [PRT_STATUS_CFG_REFUSED])
    let held := s.d.get PRT_CTRL_HELD = 1 ∧ a ≠ .tailstock
    let bit (b : Bool) : Nat := if b then 1 else 0
    (∀ v : W32, s.d.asks a .bar0 0x440000 →
      (held → refused (.prtCtrlWrite a v)) ∧
      (¬ held → runs (.prtCtrlWrite a v) (fun s' => s'.d.get PRT_CTRL_EN = v.toNat % 2 ∧ s'.d.get PRT_CTRL_MASK_INJ = v.toNat / 2 % 2 ^ PRT_CTRL_MASK_INJ.width ∧
        s'.d.get PRT_CTRL_LEASE = v.toNat / 2 ^ 16 % 2 ^ PRT_CTRL_LEASE.width ∧ s'.d.fpl.lease = some 0 ∧
        s'.d.get PRT_STATUS_ACTIVE = bit (v.toNat % 2 == 1 && prtDelays.any (fun f => s.d.get f != 0)) ∧
        only s' [PRT_CTRL_EN, PRT_CTRL_MASK_INJ, PRT_CTRL_LEASE, PRT_STATUS_ACTIVE, PRT_STATUS_CFG_REFUSED]))) ∧
    (s.d.fpl.lease = none ∨ s.d.get PRT_CTRL_LEASE = 0 → exec .leaseExpiry s = .next s) ∧
    (∀ k, s.d.fpl.lease = some k → s.d.get PRT_CTRL_LEASE ≠ 0 →
      (k ≤ s.d.get PRT_CTRL_LEASE → exec .leaseExpiry s = .next s) ∧
      (s.d.get PRT_CTRL_LEASE < k → runs .leaseExpiry (fun s' => (∀ f ∈ prtDelays, s'.d.get f = 0) ∧ s'.d.get PRT_CTRL_EN = 0 ∧
        s'.d.get PRT_STATUS_EXPIRED = 1 ∧ s'.d.get PRT_STATUS_ACTIVE = 0 ∧ s'.d.fpl.lease = none ∧
        only s' (prtDelays ++ [PRT_CTRL_EN, PRT_STATUS_EXPIRED, PRT_STATUS_ACTIVE])))) ∧
    (∀ v : W64, s.d.asks a .bar0 0x440030 →
      let n := v.toNat / 2 ^ 41 % 8
      let off := v.toNat % 2 ^ 41 / 128 * 128
      let bad := 2 ^ 63 ≤ v.toNat ∧ (n = 0 ∨ 4 < n)
      (held ∨ bad → refused (.prtInjEcc a v)) ∧
      (¬ held → ¬ bad → runs (.prtInjEcc a v) (fun s' => s'.d.get PRT_INJ_ECC_OFFSET = off ∧ s'.d.get PRT_INJ_ECC_SYMBOLS = n ∧
        s'.d.get PRT_INJ_ECC_ARMED = bit (decide (2 ^ 63 ≤ v.toNat) && s.d.get (TMAP_TIER (extOf off)) != 0) ∧
        only s' [PRT_INJ_ECC_OFFSET, PRT_INJ_ECC_SYMBOLS, PRT_INJ_ECC_ARMED, PRT_STATUS_CFG_REFUSED]))) ∧
    (∀ v : W32,
      let arm := decide (2 ^ 31 ≤ v.toNat)
      let n := v.toNat / 2 ^ 8 % 256
      (s.d.asks a .bar0 0x440038 →
        (held ∨ (arm = true ∧ 319 < v.toNat % 512) → refused (.prtInjChk a v)) ∧
        (¬ held → ¬ (arm = true ∧ 319 < v.toNat % 512) → runs (.prtInjChk a v) (fun s' => s'.d.get PRT_INJ_CHK_TILE = v.toNat % 512 ∧
          s'.d.get PRT_INJ_CHK_ARMED = bit (arm && !s.d.tileDisabled (v.toNat % 512)) ∧ s'.d.get PRT_INJ_CHK_CUBE = v.toNat / 2 ^ 9 % 2 ^ PRT_INJ_CHK_CUBE.width ∧
          s'.d.get PRT_INJ_CHK_ROW = v.toNat / 2 ^ 12 % 2 ^ PRT_INJ_CHK_ROW.width ∧ s'.d.get PRT_INJ_CHK_BIT = v.toNat / 2 ^ 16 % 2 ^ PRT_INJ_CHK_BIT.width ∧
          only s' [PRT_INJ_CHK_TILE, PRT_INJ_CHK_CUBE, PRT_INJ_CHK_ROW, PRT_INJ_CHK_LAYER, PRT_INJ_CHK_BIT, PRT_INJ_CHK_REPEAT, PRT_INJ_CHK_ARMED, PRT_STATUS_CFG_REFUSED]))) ∧
      (s.d.asks a .bar0 0x440040 →
        let bad := arm = true ∧ (v.toNat % 8 = 0 ∨ n = 0)
        (held ∨ bad → runs (.prtInjDig a v) (fun s' => s'.d.get PRT_STATUS_CFG_REFUSED = 1 ∧ only s' [PRT_STATUS_CFG_REFUSED])) ∧
        (¬ held → ¬ bad → runs (.prtInjDig a v) (fun s' => s'.d.get PRT_INJ_DIG_KINDS = v.toNat % 8 ∧ s'.d.get PRT_INJ_DIG_COUNT = n ∧ s'.d.get PRT_INJ_DIG_ARMED = bit arm ∧
          s'.d.tls.dig = (if s.d.get PRT_INJ_DIG_ARMED = 1 then s.d.tls.dig else 0) ∧
          only s' [PRT_INJ_DIG_KINDS, PRT_INJ_DIG_COUNT, PRT_INJ_DIG_ARMED, PRT_STATUS_CFG_REFUSED]))) ∧
      (s.d.asks a .bar0 0x440044 →
        let bad := arm = true ∧ (11 < v.toNat % 16 ∨ n = 0)
        (held ∨ bad → refused (.prtInjLink a v)) ∧
        (¬ held → ¬ bad → runs (.prtInjLink a v) (fun s' => s'.d.get PRT_INJ_LINK_PORT = v.toNat % 16 ∧ s'.d.get PRT_INJ_LINK_COUNT = n ∧
          s'.d.get PRT_INJ_LINK_ARMED = bit (arm && s.d.get (UNL_PORT_STATUS_STATE (v.toNat % 16)) != 0) ∧ s'.d.tls.link = 0 ∧
          only s' [PRT_INJ_LINK_PORT, PRT_INJ_LINK_COUNT, PRT_INJ_LINK_ARMED, PRT_STATUS_CFG_REFUSED]))))) ∧
  (∀ d : Dev,
    let only (d' : Dev) (fs : List Fld) : Prop := ∀ g : Fld, (∀ h ∈ fs, Fld.key g ≠ Fld.key h) → d'.get g = d.get g
    (let d' := d.prtDisarm;
      (d.get PRT_INJ_ECC_ARMED = 1 → d'.get PRT_INJ_ECC_ARMED = if d.get (TMAP_TIER (extOf (d.get PRT_INJ_ECC_OFFSET))) = 0 then 0 else 1) ∧
      (d.get PRT_INJ_CHK_ARMED = 1 → d'.get PRT_INJ_CHK_ARMED = if d.tileDisabled (d.get PRT_INJ_CHK_TILE) = true then 0 else 1) ∧
      (d.get PRT_INJ_LINK_ARMED = 1 → d'.get PRT_INJ_LINK_ARMED = if d.get (UNL_PORT_STATUS_STATE (d.get PRT_INJ_LINK_PORT)) = 0 then 0 else 1) ∧
      only d' [PRT_INJ_ECC_ARMED, PRT_INJ_CHK_ARMED, PRT_INJ_LINK_ARMED]) ∧
    (∀ (m : Mem) (off : Nat) (bytes : List Byte),
      let x := extOf off
      let r := writeLine m d off bytes
      let hit := d.get PRT_INJ_ECC_ARMED = 1 ∧ d.get PRT_INJ_ECC_OFFSET / 128 = off / 128
      bytes.length = 128 → d.get (TMAP_TIER x) ≠ 0 → d.get (TMAP_WRITABLE x) = 1 → d.dirBusy off = false → d.get (TMAP_MIGRATING x) ≠ 1 → d.get (TMAP_REFETCH x) ≠ 1 →
        r.2 = .ok ∧
        (hit → r.1.lineErr (d.lineAt off) = ⟨(List.range (d.get PRT_INJ_ECC_SYMBOLS)).map (fun i => (6 + i, 0xFFFF)), false, true⟩ ∧
          r.1.get PRT_INJ_ECC_ARMED = 0 ∧ r.1.get PRT_STATUS_FIRED_ECC = 1) ∧
        (¬ hit → r.1.lineErr (d.lineAt off) = {} ∧ r.1.get PRT_INJ_ECC_ARMED = d.get PRT_INJ_ECC_ARMED ∧ r.1.get PRT_STATUS_FIRED_ECC = d.get PRT_STATUS_FIRED_ECC)) ∧
    (∀ (t : Nat) (r : Run), ¬ (r.rerun = true ∧ r.inject.isSome = true) →
      let q := d.injectChk t r
      let hit := d.get PRT_INJ_CHK_ARMED = 1 ∧ d.get PRT_INJ_CHK_TILE = t ∧ r.item.origin ≠ 2
      (hit → q.2.1 = some (d.get PRT_INJ_CHK_CUBE, d.get PRT_INJ_CHK_ROW, d.get PRT_INJ_CHK_LAYER, d.get PRT_INJ_CHK_BIT) ∧
        q.2.2 = d.is PRT_INJ_CHK_REPEAT ∧ q.1.get PRT_INJ_CHK_ARMED = 0 ∧ q.1.get PRT_STATUS_FIRED_CHK = 1 ∧ only q.1 [PRT_INJ_CHK_ARMED, PRT_STATUS_FIRED_CHK]) ∧
      (¬ hit → q = (d, none, false))) ∧
    (∀ (t : Nat) (r : Run) (x : Nat × Nat × Nat × Nat), r.rerun = true → r.inject = some x → d.injectChk t r = (d, some x, true)) ∧
    (∀ (cpx : Bool) (on : Nat → Nat → Bool) (cu ro la bi : Nat), ro < 8 → la < 2 → on ro 0 = true →
      (injected cu ro la bi).cube = cu ∧ detection cpx on (injected cu ro la bi).err = some ⟨1, some ro, 2 ^ ro, 1, 2 ^ la⟩) ∧
    (∀ kind v,
      let r := d.sentDigest kind v
      let hit := d.get PRT_INJ_DIG_ARMED = 1 ∧ (d.get PRT_INJ_DIG_KINDS).testBit kind = true
      (¬ hit → r = (d, v)) ∧
      (hit → r.2 = v ^^^ 1 ∧ r.1.tls.dig = d.tls.dig + 1 ∧ (d.tls.dig + 1 < d.get PRT_INJ_DIG_COUNT → r.1.regs = d.regs) ∧
        (d.get PRT_INJ_DIG_COUNT ≤ d.tls.dig + 1 → r.1.get PRT_INJ_DIG_ARMED = 0 ∧ r.1.get PRT_STATUS_FIRED_DIG = 1 ∧ only r.1 [PRT_INJ_DIG_ARMED, PRT_STATUS_FIRED_DIG]))) ∧
    (∀ p < 12,
      let d' := d.linkInject p
      let hit := d.get PRT_INJ_LINK_ARMED = 1 ∧ d.get PRT_INJ_LINK_PORT = p ∧ (d.port p).stuck < 16
      let k := min (max 1 (d.get PRT_INJ_LINK_COUNT - d.tls.link)) (16 - (d.port p).stuck)
      (¬ hit → d' = d) ∧
      (hit → (d'.port p).stuck = (d.port p).stuck + k ∧ (d'.port p).queue = (d.port p).queue ∧ d'.tls.link = d.tls.link + k ∧
        d'.get (UNL_PORT_REPLAY_REPLAYS p) = min (2 ^ (UNL_PORT_REPLAY_REPLAYS p).width - 1) (d.get (UNL_PORT_REPLAY_REPLAYS p) + k) ∧
        (d.tls.link + k < d.get PRT_INJ_LINK_COUNT → only d' [UNL_PORT_REPLAY_REPLAYS p]) ∧
        (d.get PRT_INJ_LINK_COUNT ≤ d.tls.link + k → d'.get PRT_INJ_LINK_ARMED = 0 ∧ d'.get PRT_STATUS_FIRED_LINK = 1 ∧
          only d' [UNL_PORT_REPLAY_REPLAYS p, PRT_INJ_LINK_ARMED, PRT_STATUS_FIRED_LINK])))) ∧
  (∀ d : Dev,
    (∀ i,
      let d' := d.setTap i
      d'.pins = { d.pins with tap := i } ∧ d'.regs = d.regs ∧
      d'.out.edges = d.out.edges ++ if (d.pins.tap < tapEXTEST ∧ i < tapEXTEST) ∨ d.pins.tap = i then []
        else (drivenPins.filter (fun p => d.pinLevel p != (d.putTap i).pinLevel p)).map (fun p => (p, (d.putTap i).pinLevel p, d.T))) ∧
    (∀ p, (d.pins.tap = tapEXTEST ∨ d.pins.tap = tapCLAMP → d.pinLevel p = if d.pins.bsr.getD (scanCells.idxOf p) false then 1 else 0) ∧
      (d.pins.tap = tapHIGHZ → d.pinLevel p = lvlZ) ∧
      (d.pins.tap < tapEXTEST → d.pinLevel p = d.pinOwn p)) ∧
    (∀ p, p ∈ drivenPins → d.pinLevel p ≠ lvlZ → d.pinSample p = (d.pinLevel p == 1)) ∧
    d.pinSample pinPWR_GOOD = !d.pins.pwrLow ∧ d.pinSample pinSYS_RST_N = !d.pins.rstLow ∧ d.pinSample pinPERST_N = !d.vir.perst) ∧
  (∀ s : State, s.d.quiet = true →
    let tap (n : Nat) : State := { s with d := s.d.setTap n }
    let idle (s' : State) : Prop := s'.d.pins.nvmClk = false ∧ s'.d.pins.nvmCsN = true ∧ s'.d.pins.avsClk = false ∧ s'.d.pins.avsMdata = false ∧ s'.d.pins.tdo = none
    let reset (e : Instr) (P : State → Prop) : Prop := ∃ s', exec e s = .next s' ∧ s'.mem = [] ∧ s'.d.regs = [] ∧ s'.d.fpl = { flash := s.d.fpl.flash } ∧ s'.d.inReset = true ∧
      s'.pending = s.pending ∧ P s'
    reset .pwrGoodLow (fun s' => s'.d.pins.pwrLow = true ∧ s'.d.tls.retained = [] ∧ idle s') ∧
    reset .sysRstNLow (fun s' => s'.d.pins.rstLow = true ∧ s'.d.tls.retained = s.d.tls.retained ∧ idle s') ∧
    (s.d.pins.held = false → s.d.get FPL_BOOT_STATUS_PHASE = 0 → ∃ s', exec .bootRomStart s = .next s' ∧ s'.mem = s.mem ∧ s'.d.inReset = false ∧
      s'.d.get FPL_BOOT_STATUS_PHASE = 1 ∧ s'.d.pins.tap = if tapEXTEST ≤ s.d.pins.tap then tapBYPASS else s.d.pins.tap) ∧
    (s.d.inReset = false →
      (s.d.get FPL_BOOT_STATUS_PHASE = 1 → ∃ d', exec .flashReadDone s = .next (finish s (settle s.mem d')) ∧
        d'.get FPL_BOOT_STATUS_PHASE = if s.d.fpl.fwDigest = [] then 5 else 2) ∧
      (s.d.get FPL_BOOT_STATUS_PHASE = 2 → ∃ s', exec .memoryTrainingDone s = .next s' ∧ s'.mem = s.mem ∧ s'.d.get FPL_BOOT_STATUS_PHASE = 3 ∧
        s'.d.get FPL_BOOT_STATUS_FULL_TRAIN = if s.d.trained = true then 0 else 1) ∧
      (s.d.get FPL_BOOT_STATUS_PHASE = 3 → ∀ e ∈ [Instr.configImageApply, Instr.imageEnd], ∃ d', exec e s = .next (finish s (settle s.mem d')) ∧
        d'.get FPL_BOOT_STATUS_PHASE = 4 ∧ d'.get FPL_BOOT_STATUS_IN_SERVICE = 1 ∧ d'.fpl.applying = false ∧
        (e = .imageEnd → s.d.get FPL_BOOT_STATUS_FULL_TRAIN = 1 → d'.trained = true)) ∧
      (s.d.get FPL_BOOT_STATUS_PHASE = 3 →
        let d0 := { s.d with fpl := { s.d.fpl with applying := true, record := s.d.fpl.record + 1 } }
        let writes (sp : Space) (n : Nat) (l : List (Nat × Nat)) : Host.Outcome State Fault Refusal :=
          .next (finish s (settle s.mem (l.foldl (fun d p => imageWrite s.mem d sp p.1 n p.2) d0)))
        (∀ ps, exec (.imageWrite32 ps) s = writes .bar0 4 (ps.map (fun p => (p.1, p.2.toNat)))) ∧
        (∀ ps, exec (.imageWrite64 ps) s = writes .bar0 8 (ps.map (fun p => (p.1, p.2.toNat)))) ∧
        (∀ sp off vs, exec (.imageBlock sp off vs) s = writes sp 4 (vs.zipIdx.map (fun p => (off + 4 * p.2, p.1.toNat)))) ∧
        (∀ mask img, img.length = gougeImageBytes → s.d.get RAD_CFG_CTRL_PENDING ≠ 1 → ∃ s', exec (.imageGouge mask img) s = .next s' ∧ s'.mem = s.mem ∧
          s'.d.fpl.record = s.d.fpl.record + 1 ∧ ∀ n < 512, ∀ k < 0x2000, mask.getD n false = true →
            sget s'.d.gimg (n * 65536 + k) 0#32 = BitVec.ofNat 32 (leNat ((img.drop (4 * k)).take 4))) ∧
        (∀ w0 w1 w2 ok, let r := imageMemcmd s.mem d0 w0 w1 w2 ok
          exec (.imageMemcmd w0 w1 w2 ok) s = .next (finish s (settle s.mem ((r.2.map (r.1.imageEnds s.d.fpl.record)).getD r.1)))) ∧
        ∃ d', exec .imageRadioCommit s = .next (finish s (settle s.mem d')) ∧ d'.fpl.record = s.d.fpl.record + 1 ∧ d'.fpl.applying = true) ∧
      (∀ (a : Agent) (v : W32), s.d.asks a .bar0 0x68 → s.d.fpl.applying = false → s.d.get FPL_ATTEST_CTRL_BUSY ≠ 1 → s.d.get FPL_BOOT_STATUS_ID_OK = 1 →
        ∃ s', exec (.attestGo a v) s = .next s' ∧ s'.mem = s.mem ∧ s'.d.get FPL_ATTEST_CTRL_BUSY = 1) ∧
      (s.d.get FPL_ATTEST_CTRL_BUSY = 1 → ∃ s', exec .attestDone s = .next s' ∧ s'.mem = s.mem ∧ s'.d.get FPL_ATTEST_CTRL_BUSY = 0 ∧
        s'.d.get FPL_ATTEST_CTRL_STATUS = stOK ∧ ∀ k < 4, s'.d.get (FPL_ATTEST_REPORT_WORD (4 + k)) = s.d.get (FPL_ATTEST_NONCE_NONCE k) % 2 ^ 64) ∧
      (s.d.get FPL_BOOT_STATUS_PHASE ≠ 0 → ∀ addr : Fin 128, ∃ s', exec (.dynamicAddressAssignment addr) s = .next s' ∧ s'.mem = s.mem ∧
        s'.d.fpl.i3c = addr ∧ s'.d.regs = s.d.regs)) ∧
    (∀ k t,
      let temps := sput s.d.pins.temps k t
      let cool := temps.all (fun e => decide (e.2 < (sensorLevels e.1).2.1))
      (19 ≤ k → exec (.thermalAlert k t) s = .next s) ∧
      (k < 19 → ∃ s', exec (.thermalAlert k t) s = .next s' ∧ s'.mem = s.mem ∧ s'.d.regs = s.d.regs ∧ s'.d.pins.temps = temps ∧
        ((sensorLevels k).1 ≤ t → s'.d.pins.thermLow = true ∧ s'.d.pins.held = s.d.pins.held ∧
          s'.d.out.edges = if s.d.pins.thermLow then s.d.out.edges else s.d.out.edges ++ [(pinTHERM_ALERT_N, 0, s.d.T)]) ∧
        (t < (sensorLevels k).1 → cool = true → s'.d.pins.thermLow = false ∧ s'.d.pins.held = false ∧
          s'.d.out.edges = if s.d.pins.thermLow then s.d.out.edges ++ [(pinTHERM_ALERT_N, 1, s.d.T)] else s.d.out.edges) ∧
        (t < (sensorLevels k).1 → cool = false → s'.d.pins.thermLow = s.d.pins.thermLow ∧ s'.d.pins.held = s.d.pins.held ∧ s'.d.out = s.d.out)) ∧
      (19 ≤ k ∨ t < (sensorLevels k).2.2 → exec (.thermalTrip k t) s = exec (.thermalAlert k t) s) ∧
      (k < 19 → (sensorLevels k).2.2 ≤ t → s.d.inReset = true → ∃ s', exec (.thermalTrip k t) s = .next s' ∧ s'.d.pins.held = true ∧ s'.d.regs = s.d.regs ∧
        s'.d.tls = s.d.tls ∧ s'.mem = s.mem) ∧
      (k < 19 → (sensorLevels k).2.2 ≤ t → s.d.inReset = false → s.d.tls.inQ = [] → s.d.tls.retained = [] → reset (.thermalTrip k t) (fun s' => s'.d.pins.held = true ∧ s'.d.pins.thermLow = true ∧
        ∃ w rest, s'.d.tls.retained = w :: rest ∧ wfld w HREC_EVENT = 6))) ∧
    exec .trstNLow s = .next (tap tapIDCODE) ∧
    exec .bypass s = .next (tap tapBYPASS) ∧
    exec .idcode s = .next { s with d := { s.d.setTap tapIDCODE with out := { (s.d.setTap tapIDCODE).out with tdo := s.d.out.tdo ++ [0x21648A4D] } } } ∧
    (∀ bs,
      let d := s.d.setTap tapSAMPLE
      let all := scanCells.map d.pinSample ++ bs
      exec (.samplePreload bs) s = .next { s with d := { d with
        free := s.d.free + 1
        pins := { d.pins with bsr := all.drop bs.length }
        out := { d.out with tdo := d.out.tdo ++ if bs = [] then [] else [bitsNum (all.take bs.length)] } } }) ∧
    (∀ e ∈ [(Instr.extest, tapEXTEST), (Instr.clamp, tapCLAMP), (Instr.highz, tapHIGHZ)],
      exec e.1 s = .next (tap (if s.d.pins.rstLow then e.2 else tapBYPASS))))
end

