-- ==== Sys2Proof/Laws/State.lean ====
section
/-!
SUPPORT. Laws/State.lean: what each update of the state leaves alone, field by field, and the laws of register fields and of the sparse
tables.
-/

namespace Sys2Proof.Machine

/-! ### Updates of one part leave every other part alone -/

@[simp] theorem Dev.set_bus (d : Dev) (f : Fld) (v : Nat) : (d.set f v).bus = d.bus := rfl
@[simp] theorem Dev.set_out (d : Dev) (f : Fld) (v : Nat) : (d.set f v).out = d.out := rfl
@[simp] theorem Dev.set_lathe (d : Dev) (f : Fld) (v : Nat) : (d.set f v).lathe = d.lathe := rfl
@[simp] theorem Dev.set_tiles (d : Dev) (f : Fld) (v : Nat) : (d.set f v).tiles = d.tiles := rfl
@[simp] theorem Dev.set_chucks (d : Dev) (f : Fld) (v : Nat) : (d.set f v).chucks = d.chucks := rfl
@[simp] theorem Dev.set_sram (d : Dev) (f : Fld) (v : Nat) : (d.set f v).sram = d.sram := rfl
@[simp] theorem Dev.set_mem (d : Dev) (f : Fld) (v : Nat) : (d.set f v).mem = d.mem := rfl
@[simp] theorem Dev.set_fab (d : Dev) (f : Fld) (v : Nat) : (d.set f v).fab = d.fab := rfl
@[simp] theorem Dev.set_srv (d : Dev) (f : Fld) (v : Nat) : (d.set f v).srv = d.srv := rfl
@[simp] theorem Dev.set_vir (d : Dev) (f : Fld) (v : Nat) : (d.set f v).vir = d.vir := rfl
@[simp] theorem Dev.set_rad (d : Dev) (f : Fld) (v : Nat) : (d.set f v).rad = d.rad := rfl
@[simp] theorem Dev.set_gouge (d : Dev) (f : Fld) (v : Nat) : (d.set f v).gouge = d.gouge := rfl
@[simp] theorem Dev.set_gimg (d : Dev) (f : Fld) (v : Nat) : (d.set f v).gimg = d.gimg := rfl
@[simp] theorem Dev.set_gmem (d : Dev) (f : Fld) (v : Nat) : (d.set f v).gmem = d.gmem := rfl
@[simp] theorem Dev.set_gact (d : Dev) (f : Fld) (v : Nat) : (d.set f v).gact = d.gact := rfl
@[simp] theorem Dev.set_tsu (d : Dev) (f : Fld) (v : Nat) : (d.set f v).tsu = d.tsu := rfl
@[simp] theorem Dev.set_tls (d : Dev) (f : Fld) (v : Nat) : (d.set f v).tls = d.tls := rfl
@[simp] theorem Dev.set_fpl (d : Dev) (f : Fld) (v : Nat) : (d.set f v).fpl = d.fpl := rfl
@[simp] theorem Dev.set_pins (d : Dev) (f : Fld) (v : Nat) : (d.set f v).pins = d.pins := rfl
@[simp] theorem Dev.set_wq (d : Dev) (f : Fld) (v : Nat) : (d.set f v).wq = d.wq := rfl
@[simp] theorem Dev.set_resetReq (d : Dev) (f : Fld) (v : Nat) : (d.set f v).resetReq = d.resetReq := rfl
@[simp] theorem Dev.set_free (d : Dev) (f : Fld) (v : Nat) : (d.set f v).free = d.free := rfl

@[simp] theorem Dev.setChuck_regs (d : Dev) (tc : Nat) (c : Chuck) : (d.setChuck tc c).regs = d.regs := rfl
@[simp] theorem Dev.setChuck_bus (d : Dev) (tc : Nat) (c : Chuck) : (d.setChuck tc c).bus = d.bus := rfl
@[simp] theorem Dev.setChuck_out (d : Dev) (tc : Nat) (c : Chuck) : (d.setChuck tc c).out = d.out := rfl
@[simp] theorem Dev.setChuck_lathe (d : Dev) (tc : Nat) (c : Chuck) : (d.setChuck tc c).lathe = d.lathe := rfl
@[simp] theorem Dev.setChuck_tiles (d : Dev) (tc : Nat) (c : Chuck) : (d.setChuck tc c).tiles = d.tiles := rfl
@[simp] theorem Dev.setChuck_sram (d : Dev) (tc : Nat) (c : Chuck) : (d.setChuck tc c).sram = d.sram := rfl
@[simp] theorem Dev.setChuck_mem (d : Dev) (tc : Nat) (c : Chuck) : (d.setChuck tc c).mem = d.mem := rfl
@[simp] theorem Dev.setChuck_fab (d : Dev) (tc : Nat) (c : Chuck) : (d.setChuck tc c).fab = d.fab := rfl
@[simp] theorem Dev.setChuck_srv (d : Dev) (tc : Nat) (c : Chuck) : (d.setChuck tc c).srv = d.srv := rfl
@[simp] theorem Dev.setChuck_vir (d : Dev) (tc : Nat) (c : Chuck) : (d.setChuck tc c).vir = d.vir := rfl
@[simp] theorem Dev.setChuck_rad (d : Dev) (tc : Nat) (c : Chuck) : (d.setChuck tc c).rad = d.rad := rfl
@[simp] theorem Dev.setChuck_gouge (d : Dev) (tc : Nat) (c : Chuck) : (d.setChuck tc c).gouge = d.gouge := rfl
@[simp] theorem Dev.setChuck_gimg (d : Dev) (tc : Nat) (c : Chuck) : (d.setChuck tc c).gimg = d.gimg := rfl
@[simp] theorem Dev.setChuck_gmem (d : Dev) (tc : Nat) (c : Chuck) : (d.setChuck tc c).gmem = d.gmem := rfl
@[simp] theorem Dev.setChuck_gact (d : Dev) (tc : Nat) (c : Chuck) : (d.setChuck tc c).gact = d.gact := rfl
@[simp] theorem Dev.setChuck_tsu (d : Dev) (tc : Nat) (c : Chuck) : (d.setChuck tc c).tsu = d.tsu := rfl
@[simp] theorem Dev.setChuck_tls (d : Dev) (tc : Nat) (c : Chuck) : (d.setChuck tc c).tls = d.tls := rfl
@[simp] theorem Dev.setChuck_fpl (d : Dev) (tc : Nat) (c : Chuck) : (d.setChuck tc c).fpl = d.fpl := rfl
@[simp] theorem Dev.setChuck_pins (d : Dev) (tc : Nat) (c : Chuck) : (d.setChuck tc c).pins = d.pins := rfl
@[simp] theorem Dev.setChuck_wq (d : Dev) (tc : Nat) (c : Chuck) : (d.setChuck tc c).wq = d.wq := rfl
@[simp] theorem Dev.setChuck_resetReq (d : Dev) (tc : Nat) (c : Chuck) : (d.setChuck tc c).resetReq = d.resetReq := rfl
@[simp] theorem Dev.setChuck_free (d : Dev) (tc : Nat) (c : Chuck) : (d.setChuck tc c).free = d.free := rfl

@[simp] theorem Dev.setTile_regs (d : Dev) (t : Nat) (x : Tile) : (d.setTile t x).regs = d.regs := rfl
@[simp] theorem Dev.setTile_bus (d : Dev) (t : Nat) (x : Tile) : (d.setTile t x).bus = d.bus := rfl
@[simp] theorem Dev.setTile_out (d : Dev) (t : Nat) (x : Tile) : (d.setTile t x).out = d.out := rfl
@[simp] theorem Dev.setTile_lathe (d : Dev) (t : Nat) (x : Tile) : (d.setTile t x).lathe = d.lathe := rfl
@[simp] theorem Dev.setTile_chucks (d : Dev) (t : Nat) (x : Tile) : (d.setTile t x).chucks = d.chucks := rfl
@[simp] theorem Dev.setTile_sram (d : Dev) (t : Nat) (x : Tile) : (d.setTile t x).sram = d.sram := rfl
@[simp] theorem Dev.setTile_mem (d : Dev) (t : Nat) (x : Tile) : (d.setTile t x).mem = d.mem := rfl
@[simp] theorem Dev.setTile_fab (d : Dev) (t : Nat) (x : Tile) : (d.setTile t x).fab = d.fab := rfl
@[simp] theorem Dev.setTile_srv (d : Dev) (t : Nat) (x : Tile) : (d.setTile t x).srv = d.srv := rfl
@[simp] theorem Dev.setTile_vir (d : Dev) (t : Nat) (x : Tile) : (d.setTile t x).vir = d.vir := rfl
@[simp] theorem Dev.setTile_rad (d : Dev) (t : Nat) (x : Tile) : (d.setTile t x).rad = d.rad := rfl
@[simp] theorem Dev.setTile_gouge (d : Dev) (t : Nat) (x : Tile) : (d.setTile t x).gouge = d.gouge := rfl
@[simp] theorem Dev.setTile_gimg (d : Dev) (t : Nat) (x : Tile) : (d.setTile t x).gimg = d.gimg := rfl
@[simp] theorem Dev.setTile_gmem (d : Dev) (t : Nat) (x : Tile) : (d.setTile t x).gmem = d.gmem := rfl
@[simp] theorem Dev.setTile_gact (d : Dev) (t : Nat) (x : Tile) : (d.setTile t x).gact = d.gact := rfl
@[simp] theorem Dev.setTile_tsu (d : Dev) (t : Nat) (x : Tile) : (d.setTile t x).tsu = d.tsu := rfl
@[simp] theorem Dev.setTile_tls (d : Dev) (t : Nat) (x : Tile) : (d.setTile t x).tls = d.tls := rfl
@[simp] theorem Dev.setTile_fpl (d : Dev) (t : Nat) (x : Tile) : (d.setTile t x).fpl = d.fpl := rfl
@[simp] theorem Dev.setTile_pins (d : Dev) (t : Nat) (x : Tile) : (d.setTile t x).pins = d.pins := rfl
@[simp] theorem Dev.setTile_wq (d : Dev) (t : Nat) (x : Tile) : (d.setTile t x).wq = d.wq := rfl
@[simp] theorem Dev.setTile_resetReq (d : Dev) (t : Nat) (x : Tile) : (d.setTile t x).resetReq = d.resetReq := rfl
@[simp] theorem Dev.setTile_free (d : Dev) (t : Nat) (x : Tile) : (d.setTile t x).free = d.free := rfl

@[simp] theorem Dev.setUnit_regs (d : Dev) (u : Nat) (r : UnitRec) : (d.setUnit u r).regs = d.regs := rfl
@[simp] theorem Dev.setUnit_bus (d : Dev) (u : Nat) (r : UnitRec) : (d.setUnit u r).bus = d.bus := rfl
@[simp] theorem Dev.setUnit_out (d : Dev) (u : Nat) (r : UnitRec) : (d.setUnit u r).out = d.out := rfl
@[simp] theorem Dev.setUnit_lathe (d : Dev) (u : Nat) (r : UnitRec) : (d.setUnit u r).lathe = d.lathe := rfl
@[simp] theorem Dev.setUnit_tiles (d : Dev) (u : Nat) (r : UnitRec) : (d.setUnit u r).tiles = d.tiles := rfl
@[simp] theorem Dev.setUnit_chucks (d : Dev) (u : Nat) (r : UnitRec) : (d.setUnit u r).chucks = d.chucks := rfl
@[simp] theorem Dev.setUnit_sram (d : Dev) (u : Nat) (r : UnitRec) : (d.setUnit u r).sram = d.sram := rfl
@[simp] theorem Dev.setUnit_mem (d : Dev) (u : Nat) (r : UnitRec) : (d.setUnit u r).mem = d.mem := rfl
@[simp] theorem Dev.setUnit_fab (d : Dev) (u : Nat) (r : UnitRec) : (d.setUnit u r).fab = d.fab := rfl
@[simp] theorem Dev.setUnit_srv (d : Dev) (u : Nat) (r : UnitRec) : (d.setUnit u r).srv = d.srv := rfl
@[simp] theorem Dev.setUnit_vir (d : Dev) (u : Nat) (r : UnitRec) : (d.setUnit u r).vir = d.vir := rfl
@[simp] theorem Dev.setUnit_rad (d : Dev) (u : Nat) (r : UnitRec) : (d.setUnit u r).rad = d.rad := rfl
@[simp] theorem Dev.setUnit_gouge (d : Dev) (u : Nat) (r : UnitRec) : (d.setUnit u r).gouge = d.gouge := rfl
@[simp] theorem Dev.setUnit_gimg (d : Dev) (u : Nat) (r : UnitRec) : (d.setUnit u r).gimg = d.gimg := rfl
@[simp] theorem Dev.setUnit_gmem (d : Dev) (u : Nat) (r : UnitRec) : (d.setUnit u r).gmem = d.gmem := rfl
@[simp] theorem Dev.setUnit_gact (d : Dev) (u : Nat) (r : UnitRec) : (d.setUnit u r).gact = d.gact := rfl
@[simp] theorem Dev.setUnit_tsu (d : Dev) (u : Nat) (r : UnitRec) : (d.setUnit u r).tsu = d.tsu := rfl
@[simp] theorem Dev.setUnit_fpl (d : Dev) (u : Nat) (r : UnitRec) : (d.setUnit u r).fpl = d.fpl := rfl
@[simp] theorem Dev.setUnit_pins (d : Dev) (u : Nat) (r : UnitRec) : (d.setUnit u r).pins = d.pins := rfl
@[simp] theorem Dev.setUnit_wq (d : Dev) (u : Nat) (r : UnitRec) : (d.setUnit u r).wq = d.wq := rfl
@[simp] theorem Dev.setUnit_resetReq (d : Dev) (u : Nat) (r : UnitRec) : (d.setUnit u r).resetReq = d.resetReq := rfl
@[simp] theorem Dev.setUnit_free (d : Dev) (u : Nat) (r : UnitRec) : (d.setUnit u r).free = d.free := rfl

@[simp] theorem Dev.setG_regs (d : Dev) (n : Nat) (g : GCore) : (d.setG n g).regs = d.regs := rfl
@[simp] theorem Dev.setG_bus (d : Dev) (n : Nat) (g : GCore) : (d.setG n g).bus = d.bus := rfl
@[simp] theorem Dev.setG_out (d : Dev) (n : Nat) (g : GCore) : (d.setG n g).out = d.out := rfl
@[simp] theorem Dev.setG_lathe (d : Dev) (n : Nat) (g : GCore) : (d.setG n g).lathe = d.lathe := rfl
@[simp] theorem Dev.setG_tiles (d : Dev) (n : Nat) (g : GCore) : (d.setG n g).tiles = d.tiles := rfl
@[simp] theorem Dev.setG_chucks (d : Dev) (n : Nat) (g : GCore) : (d.setG n g).chucks = d.chucks := rfl
@[simp] theorem Dev.setG_sram (d : Dev) (n : Nat) (g : GCore) : (d.setG n g).sram = d.sram := rfl
@[simp] theorem Dev.setG_mem (d : Dev) (n : Nat) (g : GCore) : (d.setG n g).mem = d.mem := rfl
@[simp] theorem Dev.setG_fab (d : Dev) (n : Nat) (g : GCore) : (d.setG n g).fab = d.fab := rfl
@[simp] theorem Dev.setG_srv (d : Dev) (n : Nat) (g : GCore) : (d.setG n g).srv = d.srv := rfl
@[simp] theorem Dev.setG_vir (d : Dev) (n : Nat) (g : GCore) : (d.setG n g).vir = d.vir := rfl
@[simp] theorem Dev.setG_rad (d : Dev) (n : Nat) (g : GCore) : (d.setG n g).rad = d.rad := rfl
@[simp] theorem Dev.setG_gimg (d : Dev) (n : Nat) (g : GCore) : (d.setG n g).gimg = d.gimg := rfl
@[simp] theorem Dev.setG_gmem (d : Dev) (n : Nat) (g : GCore) : (d.setG n g).gmem = d.gmem := rfl
@[simp] theorem Dev.setG_gact (d : Dev) (n : Nat) (g : GCore) : (d.setG n g).gact = d.gact := rfl
@[simp] theorem Dev.setG_tsu (d : Dev) (n : Nat) (g : GCore) : (d.setG n g).tsu = d.tsu := rfl
@[simp] theorem Dev.setG_tls (d : Dev) (n : Nat) (g : GCore) : (d.setG n g).tls = d.tls := rfl
@[simp] theorem Dev.setG_fpl (d : Dev) (n : Nat) (g : GCore) : (d.setG n g).fpl = d.fpl := rfl
@[simp] theorem Dev.setG_pins (d : Dev) (n : Nat) (g : GCore) : (d.setG n g).pins = d.pins := rfl
@[simp] theorem Dev.setG_wq (d : Dev) (n : Nat) (g : GCore) : (d.setG n g).wq = d.wq := rfl
@[simp] theorem Dev.setG_resetReq (d : Dev) (n : Nat) (g : GCore) : (d.setG n g).resetReq = d.resetReq := rfl
@[simp] theorem Dev.setG_free (d : Dev) (n : Nat) (g : GCore) : (d.setG n g).free = d.free := rfl

@[simp] theorem Dev.setPort_regs (d : Dev) (p : Nat) (x : FPort) : (d.setPort p x).regs = d.regs := rfl
@[simp] theorem Dev.setPort_bus (d : Dev) (p : Nat) (x : FPort) : (d.setPort p x).bus = d.bus := rfl
@[simp] theorem Dev.setPort_out (d : Dev) (p : Nat) (x : FPort) : (d.setPort p x).out = d.out := rfl
@[simp] theorem Dev.setPort_lathe (d : Dev) (p : Nat) (x : FPort) : (d.setPort p x).lathe = d.lathe := rfl
@[simp] theorem Dev.setPort_tiles (d : Dev) (p : Nat) (x : FPort) : (d.setPort p x).tiles = d.tiles := rfl
@[simp] theorem Dev.setPort_chucks (d : Dev) (p : Nat) (x : FPort) : (d.setPort p x).chucks = d.chucks := rfl
@[simp] theorem Dev.setPort_sram (d : Dev) (p : Nat) (x : FPort) : (d.setPort p x).sram = d.sram := rfl
@[simp] theorem Dev.setPort_mem (d : Dev) (p : Nat) (x : FPort) : (d.setPort p x).mem = d.mem := rfl
@[simp] theorem Dev.setPort_srv (d : Dev) (p : Nat) (x : FPort) : (d.setPort p x).srv = d.srv := rfl
@[simp] theorem Dev.setPort_vir (d : Dev) (p : Nat) (x : FPort) : (d.setPort p x).vir = d.vir := rfl
@[simp] theorem Dev.setPort_rad (d : Dev) (p : Nat) (x : FPort) : (d.setPort p x).rad = d.rad := rfl
@[simp] theorem Dev.setPort_gouge (d : Dev) (p : Nat) (x : FPort) : (d.setPort p x).gouge = d.gouge := rfl
@[simp] theorem Dev.setPort_gimg (d : Dev) (p : Nat) (x : FPort) : (d.setPort p x).gimg = d.gimg := rfl
@[simp] theorem Dev.setPort_gmem (d : Dev) (p : Nat) (x : FPort) : (d.setPort p x).gmem = d.gmem := rfl
@[simp] theorem Dev.setPort_gact (d : Dev) (p : Nat) (x : FPort) : (d.setPort p x).gact = d.gact := rfl
@[simp] theorem Dev.setPort_tsu (d : Dev) (p : Nat) (x : FPort) : (d.setPort p x).tsu = d.tsu := rfl
@[simp] theorem Dev.setPort_tls (d : Dev) (p : Nat) (x : FPort) : (d.setPort p x).tls = d.tls := rfl
@[simp] theorem Dev.setPort_fpl (d : Dev) (p : Nat) (x : FPort) : (d.setPort p x).fpl = d.fpl := rfl
@[simp] theorem Dev.setPort_pins (d : Dev) (p : Nat) (x : FPort) : (d.setPort p x).pins = d.pins := rfl
@[simp] theorem Dev.setPort_wq (d : Dev) (p : Nat) (x : FPort) : (d.setPort p x).wq = d.wq := rfl
@[simp] theorem Dev.setPort_resetReq (d : Dev) (p : Nat) (x : FPort) : (d.setPort p x).resetReq = d.resetReq := rfl
@[simp] theorem Dev.setPort_free (d : Dev) (p : Nat) (x : FPort) : (d.setPort p x).free = d.free := rfl

@[simp] theorem Dev.setFlash_regs (d : Dev) (f : Flash) : (d.setFlash f).regs = d.regs := rfl
@[simp] theorem Dev.setFlash_bus (d : Dev) (f : Flash) : (d.setFlash f).bus = d.bus := rfl
@[simp] theorem Dev.setFlash_out (d : Dev) (f : Flash) : (d.setFlash f).out = d.out := rfl
@[simp] theorem Dev.setFlash_lathe (d : Dev) (f : Flash) : (d.setFlash f).lathe = d.lathe := rfl
@[simp] theorem Dev.setFlash_tiles (d : Dev) (f : Flash) : (d.setFlash f).tiles = d.tiles := rfl
@[simp] theorem Dev.setFlash_chucks (d : Dev) (f : Flash) : (d.setFlash f).chucks = d.chucks := rfl
@[simp] theorem Dev.setFlash_sram (d : Dev) (f : Flash) : (d.setFlash f).sram = d.sram := rfl
@[simp] theorem Dev.setFlash_mem (d : Dev) (f : Flash) : (d.setFlash f).mem = d.mem := rfl
@[simp] theorem Dev.setFlash_fab (d : Dev) (f : Flash) : (d.setFlash f).fab = d.fab := rfl
@[simp] theorem Dev.setFlash_srv (d : Dev) (f : Flash) : (d.setFlash f).srv = d.srv := rfl
@[simp] theorem Dev.setFlash_vir (d : Dev) (f : Flash) : (d.setFlash f).vir = d.vir := rfl
@[simp] theorem Dev.setFlash_rad (d : Dev) (f : Flash) : (d.setFlash f).rad = d.rad := rfl
@[simp] theorem Dev.setFlash_gouge (d : Dev) (f : Flash) : (d.setFlash f).gouge = d.gouge := rfl
@[simp] theorem Dev.setFlash_gimg (d : Dev) (f : Flash) : (d.setFlash f).gimg = d.gimg := rfl
@[simp] theorem Dev.setFlash_gmem (d : Dev) (f : Flash) : (d.setFlash f).gmem = d.gmem := rfl
@[simp] theorem Dev.setFlash_gact (d : Dev) (f : Flash) : (d.setFlash f).gact = d.gact := rfl
@[simp] theorem Dev.setFlash_tsu (d : Dev) (f : Flash) : (d.setFlash f).tsu = d.tsu := rfl
@[simp] theorem Dev.setFlash_tls (d : Dev) (f : Flash) : (d.setFlash f).tls = d.tls := rfl
@[simp] theorem Dev.setFlash_pins (d : Dev) (f : Flash) : (d.setFlash f).pins = d.pins := rfl
@[simp] theorem Dev.setFlash_wq (d : Dev) (f : Flash) : (d.setFlash f).wq = d.wq := rfl
@[simp] theorem Dev.setFlash_resetReq (d : Dev) (f : Flash) : (d.setFlash f).resetReq = d.resetReq := rfl
@[simp] theorem Dev.setFlash_free (d : Dev) (f : Flash) : (d.setFlash f).free = d.free := rfl

@[simp] theorem Dev.setUpd_regs (d : Dev) (u : Upd) : (d.setUpd u).regs = d.regs := rfl
@[simp] theorem Dev.setUpd_bus (d : Dev) (u : Upd) : (d.setUpd u).bus = d.bus := rfl
@[simp] theorem Dev.setUpd_out (d : Dev) (u : Upd) : (d.setUpd u).out = d.out := rfl
@[simp] theorem Dev.setUpd_lathe (d : Dev) (u : Upd) : (d.setUpd u).lathe = d.lathe := rfl
@[simp] theorem Dev.setUpd_tiles (d : Dev) (u : Upd) : (d.setUpd u).tiles = d.tiles := rfl
@[simp] theorem Dev.setUpd_chucks (d : Dev) (u : Upd) : (d.setUpd u).chucks = d.chucks := rfl
@[simp] theorem Dev.setUpd_sram (d : Dev) (u : Upd) : (d.setUpd u).sram = d.sram := rfl
@[simp] theorem Dev.setUpd_mem (d : Dev) (u : Upd) : (d.setUpd u).mem = d.mem := rfl
@[simp] theorem Dev.setUpd_fab (d : Dev) (u : Upd) : (d.setUpd u).fab = d.fab := rfl
@[simp] theorem Dev.setUpd_srv (d : Dev) (u : Upd) : (d.setUpd u).srv = d.srv := rfl
@[simp] theorem Dev.setUpd_vir (d : Dev) (u : Upd) : (d.setUpd u).vir = d.vir := rfl
@[simp] theorem Dev.setUpd_rad (d : Dev) (u : Upd) : (d.setUpd u).rad = d.rad := rfl
@[simp] theorem Dev.setUpd_gouge (d : Dev) (u : Upd) : (d.setUpd u).gouge = d.gouge := rfl
@[simp] theorem Dev.setUpd_gimg (d : Dev) (u : Upd) : (d.setUpd u).gimg = d.gimg := rfl
@[simp] theorem Dev.setUpd_gmem (d : Dev) (u : Upd) : (d.setUpd u).gmem = d.gmem := rfl
@[simp] theorem Dev.setUpd_gact (d : Dev) (u : Upd) : (d.setUpd u).gact = d.gact := rfl
@[simp] theorem Dev.setUpd_tsu (d : Dev) (u : Upd) : (d.setUpd u).tsu = d.tsu := rfl
@[simp] theorem Dev.setUpd_tls (d : Dev) (u : Upd) : (d.setUpd u).tls = d.tls := rfl
@[simp] theorem Dev.setUpd_pins (d : Dev) (u : Upd) : (d.setUpd u).pins = d.pins := rfl
@[simp] theorem Dev.setUpd_wq (d : Dev) (u : Upd) : (d.setUpd u).wq = d.wq := rfl
@[simp] theorem Dev.setUpd_resetReq (d : Dev) (u : Upd) : (d.setUpd u).resetReq = d.resetReq := rfl
@[simp] theorem Dev.setUpd_free (d : Dev) (u : Upd) : (d.setUpd u).free = d.free := rfl

@[simp] theorem Dev.setFine_regs (d : Dev) (n : Nat) : (d.setFine n).regs = d.regs := rfl
@[simp] theorem Dev.setFine_bus (d : Dev) (n : Nat) : (d.setFine n).bus = d.bus := rfl
@[simp] theorem Dev.setFine_out (d : Dev) (n : Nat) : (d.setFine n).out = d.out := rfl
@[simp] theorem Dev.setFine_lathe (d : Dev) (n : Nat) : (d.setFine n).lathe = d.lathe := rfl
@[simp] theorem Dev.setFine_tiles (d : Dev) (n : Nat) : (d.setFine n).tiles = d.tiles := rfl
@[simp] theorem Dev.setFine_chucks (d : Dev) (n : Nat) : (d.setFine n).chucks = d.chucks := rfl
@[simp] theorem Dev.setFine_sram (d : Dev) (n : Nat) : (d.setFine n).sram = d.sram := rfl
@[simp] theorem Dev.setFine_mem (d : Dev) (n : Nat) : (d.setFine n).mem = d.mem := rfl
@[simp] theorem Dev.setFine_fab (d : Dev) (n : Nat) : (d.setFine n).fab = d.fab := rfl
@[simp] theorem Dev.setFine_srv (d : Dev) (n : Nat) : (d.setFine n).srv = d.srv := rfl
@[simp] theorem Dev.setFine_vir (d : Dev) (n : Nat) : (d.setFine n).vir = d.vir := rfl
@[simp] theorem Dev.setFine_rad (d : Dev) (n : Nat) : (d.setFine n).rad = d.rad := rfl
@[simp] theorem Dev.setFine_gouge (d : Dev) (n : Nat) : (d.setFine n).gouge = d.gouge := rfl
@[simp] theorem Dev.setFine_gimg (d : Dev) (n : Nat) : (d.setFine n).gimg = d.gimg := rfl
@[simp] theorem Dev.setFine_gmem (d : Dev) (n : Nat) : (d.setFine n).gmem = d.gmem := rfl
@[simp] theorem Dev.setFine_gact (d : Dev) (n : Nat) : (d.setFine n).gact = d.gact := rfl
@[simp] theorem Dev.setFine_tls (d : Dev) (n : Nat) : (d.setFine n).tls = d.tls := rfl
@[simp] theorem Dev.setFine_fpl (d : Dev) (n : Nat) : (d.setFine n).fpl = d.fpl := rfl
@[simp] theorem Dev.setFine_pins (d : Dev) (n : Nat) : (d.setFine n).pins = d.pins := rfl
@[simp] theorem Dev.setFine_wq (d : Dev) (n : Nat) : (d.setFine n).wq = d.wq := rfl
@[simp] theorem Dev.setFine_resetReq (d : Dev) (n : Nat) : (d.setFine n).resetReq = d.resetReq := rfl
@[simp] theorem Dev.setFine_free (d : Dev) (n : Nat) : (d.setFine n).free = d.free := rfl

@[simp] theorem Dev.event_regs (d : Dev) (source : Nat) (kind : EvKind) (args : List Nat) : (d.event source kind args).regs = d.regs := rfl
@[simp] theorem Dev.event_bus (d : Dev) (source : Nat) (kind : EvKind) (args : List Nat) : (d.event source kind args).bus = d.bus := rfl
@[simp] theorem Dev.event_lathe (d : Dev) (source : Nat) (kind : EvKind) (args : List Nat) : (d.event source kind args).lathe = d.lathe := rfl
@[simp] theorem Dev.event_tiles (d : Dev) (source : Nat) (kind : EvKind) (args : List Nat) : (d.event source kind args).tiles = d.tiles := rfl
@[simp] theorem Dev.event_chucks (d : Dev) (source : Nat) (kind : EvKind) (args : List Nat) : (d.event source kind args).chucks = d.chucks := rfl
@[simp] theorem Dev.event_sram (d : Dev) (source : Nat) (kind : EvKind) (args : List Nat) : (d.event source kind args).sram = d.sram := rfl
@[simp] theorem Dev.event_mem (d : Dev) (source : Nat) (kind : EvKind) (args : List Nat) : (d.event source kind args).mem = d.mem := rfl
@[simp] theorem Dev.event_fab (d : Dev) (source : Nat) (kind : EvKind) (args : List Nat) : (d.event source kind args).fab = d.fab := rfl
@[simp] theorem Dev.event_srv (d : Dev) (source : Nat) (kind : EvKind) (args : List Nat) : (d.event source kind args).srv = d.srv := rfl
@[simp] theorem Dev.event_vir (d : Dev) (source : Nat) (kind : EvKind) (args : List Nat) : (d.event source kind args).vir = d.vir := rfl
@[simp] theorem Dev.event_rad (d : Dev) (source : Nat) (kind : EvKind) (args : List Nat) : (d.event source kind args).rad = d.rad := rfl
@[simp] theorem Dev.event_gouge (d : Dev) (source : Nat) (kind : EvKind) (args : List Nat) : (d.event source kind args).gouge = d.gouge := rfl
@[simp] theorem Dev.event_gimg (d : Dev) (source : Nat) (kind : EvKind) (args : List Nat) : (d.event source kind args).gimg = d.gimg := rfl
@[simp] theorem Dev.event_gmem (d : Dev) (source : Nat) (kind : EvKind) (args : List Nat) : (d.event source kind args).gmem = d.gmem := rfl
@[simp] theorem Dev.event_gact (d : Dev) (source : Nat) (kind : EvKind) (args : List Nat) : (d.event source kind args).gact = d.gact := rfl
@[simp] theorem Dev.event_tsu (d : Dev) (source : Nat) (kind : EvKind) (args : List Nat) : (d.event source kind args).tsu = d.tsu := rfl
@[simp] theorem Dev.event_tls (d : Dev) (source : Nat) (kind : EvKind) (args : List Nat) : (d.event source kind args).tls = d.tls := rfl
@[simp] theorem Dev.event_fpl (d : Dev) (source : Nat) (kind : EvKind) (args : List Nat) : (d.event source kind args).fpl = d.fpl := rfl
@[simp] theorem Dev.event_pins (d : Dev) (source : Nat) (kind : EvKind) (args : List Nat) : (d.event source kind args).pins = d.pins := rfl
@[simp] theorem Dev.event_wq (d : Dev) (source : Nat) (kind : EvKind) (args : List Nat) : (d.event source kind args).wq = d.wq := rfl
@[simp] theorem Dev.event_resetReq (d : Dev) (source : Nat) (kind : EvKind) (args : List Nat) : (d.event source kind args).resetReq = d.resetReq := rfl
@[simp] theorem Dev.event_free (d : Dev) (source : Nat) (kind : EvKind) (args : List Nat) : (d.event source kind args).free = d.free := rfl

@[simp] theorem Dev.edge_regs (d : Dev) (pin level : Nat) : (d.edge pin level).regs = d.regs := rfl
@[simp] theorem Dev.edge_bus (d : Dev) (pin level : Nat) : (d.edge pin level).bus = d.bus := rfl
@[simp] theorem Dev.edge_lathe (d : Dev) (pin level : Nat) : (d.edge pin level).lathe = d.lathe := rfl
@[simp] theorem Dev.edge_tiles (d : Dev) (pin level : Nat) : (d.edge pin level).tiles = d.tiles := rfl
@[simp] theorem Dev.edge_chucks (d : Dev) (pin level : Nat) : (d.edge pin level).chucks = d.chucks := rfl
@[simp] theorem Dev.edge_sram (d : Dev) (pin level : Nat) : (d.edge pin level).sram = d.sram := rfl
@[simp] theorem Dev.edge_mem (d : Dev) (pin level : Nat) : (d.edge pin level).mem = d.mem := rfl
@[simp] theorem Dev.edge_fab (d : Dev) (pin level : Nat) : (d.edge pin level).fab = d.fab := rfl
@[simp] theorem Dev.edge_srv (d : Dev) (pin level : Nat) : (d.edge pin level).srv = d.srv := rfl
@[simp] theorem Dev.edge_vir (d : Dev) (pin level : Nat) : (d.edge pin level).vir = d.vir := rfl
@[simp] theorem Dev.edge_rad (d : Dev) (pin level : Nat) : (d.edge pin level).rad = d.rad := rfl
@[simp] theorem Dev.edge_gouge (d : Dev) (pin level : Nat) : (d.edge pin level).gouge = d.gouge := rfl
@[simp] theorem Dev.edge_gimg (d : Dev) (pin level : Nat) : (d.edge pin level).gimg = d.gimg := rfl
@[simp] theorem Dev.edge_gmem (d : Dev) (pin level : Nat) : (d.edge pin level).gmem = d.gmem := rfl
@[simp] theorem Dev.edge_gact (d : Dev) (pin level : Nat) : (d.edge pin level).gact = d.gact := rfl
@[simp] theorem Dev.edge_tsu (d : Dev) (pin level : Nat) : (d.edge pin level).tsu = d.tsu := rfl
@[simp] theorem Dev.edge_tls (d : Dev) (pin level : Nat) : (d.edge pin level).tls = d.tls := rfl
@[simp] theorem Dev.edge_fpl (d : Dev) (pin level : Nat) : (d.edge pin level).fpl = d.fpl := rfl
@[simp] theorem Dev.edge_pins (d : Dev) (pin level : Nat) : (d.edge pin level).pins = d.pins := rfl
@[simp] theorem Dev.edge_wq (d : Dev) (pin level : Nat) : (d.edge pin level).wq = d.wq := rfl
@[simp] theorem Dev.edge_resetReq (d : Dev) (pin level : Nat) : (d.edge pin level).resetReq = d.resetReq := rfl
@[simp] theorem Dev.edge_free (d : Dev) (pin level : Nat) : (d.edge pin level).free = d.free := rfl

@[simp] theorem Dev.physPut_regs (d : Dev) (k : Nat) (v : Byte) : (d.physPut k v).regs = d.regs := rfl
@[simp] theorem Dev.physPut_bus (d : Dev) (k : Nat) (v : Byte) : (d.physPut k v).bus = d.bus := rfl
@[simp] theorem Dev.physPut_out (d : Dev) (k : Nat) (v : Byte) : (d.physPut k v).out = d.out := rfl
@[simp] theorem Dev.physPut_lathe (d : Dev) (k : Nat) (v : Byte) : (d.physPut k v).lathe = d.lathe := rfl
@[simp] theorem Dev.physPut_tiles (d : Dev) (k : Nat) (v : Byte) : (d.physPut k v).tiles = d.tiles := rfl
@[simp] theorem Dev.physPut_chucks (d : Dev) (k : Nat) (v : Byte) : (d.physPut k v).chucks = d.chucks := rfl
@[simp] theorem Dev.physPut_sram (d : Dev) (k : Nat) (v : Byte) : (d.physPut k v).sram = d.sram := rfl
@[simp] theorem Dev.physPut_mem (d : Dev) (k : Nat) (v : Byte) : (d.physPut k v).mem = d.mem := rfl
@[simp] theorem Dev.physPut_fab (d : Dev) (k : Nat) (v : Byte) : (d.physPut k v).fab = d.fab := rfl
@[simp] theorem Dev.physPut_srv (d : Dev) (k : Nat) (v : Byte) : (d.physPut k v).srv = d.srv := rfl
@[simp] theorem Dev.physPut_vir (d : Dev) (k : Nat) (v : Byte) : (d.physPut k v).vir = d.vir := rfl
@[simp] theorem Dev.physPut_rad (d : Dev) (k : Nat) (v : Byte) : (d.physPut k v).rad = d.rad := rfl
@[simp] theorem Dev.physPut_gouge (d : Dev) (k : Nat) (v : Byte) : (d.physPut k v).gouge = d.gouge := rfl
@[simp] theorem Dev.physPut_gimg (d : Dev) (k : Nat) (v : Byte) : (d.physPut k v).gimg = d.gimg := rfl
@[simp] theorem Dev.physPut_gmem (d : Dev) (k : Nat) (v : Byte) : (d.physPut k v).gmem = d.gmem := rfl
@[simp] theorem Dev.physPut_gact (d : Dev) (k : Nat) (v : Byte) : (d.physPut k v).gact = d.gact := rfl
@[simp] theorem Dev.physPut_tsu (d : Dev) (k : Nat) (v : Byte) : (d.physPut k v).tsu = d.tsu := rfl
@[simp] theorem Dev.physPut_tls (d : Dev) (k : Nat) (v : Byte) : (d.physPut k v).tls = d.tls := rfl
@[simp] theorem Dev.physPut_fpl (d : Dev) (k : Nat) (v : Byte) : (d.physPut k v).fpl = d.fpl := rfl
@[simp] theorem Dev.physPut_pins (d : Dev) (k : Nat) (v : Byte) : (d.physPut k v).pins = d.pins := rfl
@[simp] theorem Dev.physPut_resetReq (d : Dev) (k : Nat) (v : Byte) : (d.physPut k v).resetReq = d.resetReq := rfl
@[simp] theorem Dev.physPut_free (d : Dev) (k : Nat) (v : Byte) : (d.physPut k v).free = d.free := rfl

@[simp] theorem Dev.answer_regs (d : Dev) (v : Nat) : (d.answer v).regs = d.regs := rfl
@[simp] theorem Dev.answer_out (d : Dev) (v : Nat) : (d.answer v).out = d.out := rfl
@[simp] theorem Dev.answer_lathe (d : Dev) (v : Nat) : (d.answer v).lathe = d.lathe := rfl
@[simp] theorem Dev.answer_tiles (d : Dev) (v : Nat) : (d.answer v).tiles = d.tiles := rfl
@[simp] theorem Dev.answer_chucks (d : Dev) (v : Nat) : (d.answer v).chucks = d.chucks := rfl
@[simp] theorem Dev.answer_sram (d : Dev) (v : Nat) : (d.answer v).sram = d.sram := rfl
@[simp] theorem Dev.answer_mem (d : Dev) (v : Nat) : (d.answer v).mem = d.mem := rfl
@[simp] theorem Dev.answer_fab (d : Dev) (v : Nat) : (d.answer v).fab = d.fab := rfl
@[simp] theorem Dev.answer_srv (d : Dev) (v : Nat) : (d.answer v).srv = d.srv := rfl
@[simp] theorem Dev.answer_vir (d : Dev) (v : Nat) : (d.answer v).vir = d.vir := rfl
@[simp] theorem Dev.answer_rad (d : Dev) (v : Nat) : (d.answer v).rad = d.rad := rfl
@[simp] theorem Dev.answer_gouge (d : Dev) (v : Nat) : (d.answer v).gouge = d.gouge := rfl
@[simp] theorem Dev.answer_gimg (d : Dev) (v : Nat) : (d.answer v).gimg = d.gimg := rfl
@[simp] theorem Dev.answer_gmem (d : Dev) (v : Nat) : (d.answer v).gmem = d.gmem := rfl
@[simp] theorem Dev.answer_gact (d : Dev) (v : Nat) : (d.answer v).gact = d.gact := rfl
@[simp] theorem Dev.answer_tsu (d : Dev) (v : Nat) : (d.answer v).tsu = d.tsu := rfl
@[simp] theorem Dev.answer_tls (d : Dev) (v : Nat) : (d.answer v).tls = d.tls := rfl
@[simp] theorem Dev.answer_fpl (d : Dev) (v : Nat) : (d.answer v).fpl = d.fpl := rfl
@[simp] theorem Dev.answer_pins (d : Dev) (v : Nat) : (d.answer v).pins = d.pins := rfl
@[simp] theorem Dev.answer_wq (d : Dev) (v : Nat) : (d.answer v).wq = d.wq := rfl
@[simp] theorem Dev.answer_resetReq (d : Dev) (v : Nat) : (d.answer v).resetReq = d.resetReq := rfl
@[simp] theorem Dev.answer_free (d : Dev) (v : Nat) : (d.answer v).free = d.free := rfl

@[simp] theorem Dev.unlatch_regs (d : Dev) (k : Nat) : (d.unlatch k).regs = d.regs := rfl
@[simp] theorem Dev.unlatch_out (d : Dev) (k : Nat) : (d.unlatch k).out = d.out := rfl
@[simp] theorem Dev.unlatch_lathe (d : Dev) (k : Nat) : (d.unlatch k).lathe = d.lathe := rfl
@[simp] theorem Dev.unlatch_tiles (d : Dev) (k : Nat) : (d.unlatch k).tiles = d.tiles := rfl
@[simp] theorem Dev.unlatch_chucks (d : Dev) (k : Nat) : (d.unlatch k).chucks = d.chucks := rfl
@[simp] theorem Dev.unlatch_sram (d : Dev) (k : Nat) : (d.unlatch k).sram = d.sram := rfl
@[simp] theorem Dev.unlatch_mem (d : Dev) (k : Nat) : (d.unlatch k).mem = d.mem := rfl
@[simp] theorem Dev.unlatch_fab (d : Dev) (k : Nat) : (d.unlatch k).fab = d.fab := rfl
@[simp] theorem Dev.unlatch_srv (d : Dev) (k : Nat) : (d.unlatch k).srv = d.srv := rfl
@[simp] theorem Dev.unlatch_vir (d : Dev) (k : Nat) : (d.unlatch k).vir = d.vir := rfl
@[simp] theorem Dev.unlatch_rad (d : Dev) (k : Nat) : (d.unlatch k).rad = d.rad := rfl
@[simp] theorem Dev.unlatch_gouge (d : Dev) (k : Nat) : (d.unlatch k).gouge = d.gouge := rfl
@[simp] theorem Dev.unlatch_gimg (d : Dev) (k : Nat) : (d.unlatch k).gimg = d.gimg := rfl
@[simp] theorem Dev.unlatch_gmem (d : Dev) (k : Nat) : (d.unlatch k).gmem = d.gmem := rfl
@[simp] theorem Dev.unlatch_gact (d : Dev) (k : Nat) : (d.unlatch k).gact = d.gact := rfl
@[simp] theorem Dev.unlatch_tsu (d : Dev) (k : Nat) : (d.unlatch k).tsu = d.tsu := rfl
@[simp] theorem Dev.unlatch_tls (d : Dev) (k : Nat) : (d.unlatch k).tls = d.tls := rfl
@[simp] theorem Dev.unlatch_fpl (d : Dev) (k : Nat) : (d.unlatch k).fpl = d.fpl := rfl
@[simp] theorem Dev.unlatch_pins (d : Dev) (k : Nat) : (d.unlatch k).pins = d.pins := rfl
@[simp] theorem Dev.unlatch_wq (d : Dev) (k : Nat) : (d.unlatch k).wq = d.wq := rfl
@[simp] theorem Dev.unlatch_resetReq (d : Dev) (k : Nat) : (d.unlatch k).resetReq = d.resetReq := rfl
@[simp] theorem Dev.unlatch_free (d : Dev) (k : Nat) : (d.unlatch k).free = d.free := rfl

@[simp] theorem Dev.putTap_regs (d : Dev) (i : Nat) : (d.putTap i).regs = d.regs := rfl
@[simp] theorem Dev.putTap_bus (d : Dev) (i : Nat) : (d.putTap i).bus = d.bus := rfl
@[simp] theorem Dev.putTap_out (d : Dev) (i : Nat) : (d.putTap i).out = d.out := rfl
@[simp] theorem Dev.putTap_lathe (d : Dev) (i : Nat) : (d.putTap i).lathe = d.lathe := rfl
@[simp] theorem Dev.putTap_tiles (d : Dev) (i : Nat) : (d.putTap i).tiles = d.tiles := rfl
@[simp] theorem Dev.putTap_chucks (d : Dev) (i : Nat) : (d.putTap i).chucks = d.chucks := rfl
@[simp] theorem Dev.putTap_sram (d : Dev) (i : Nat) : (d.putTap i).sram = d.sram := rfl
@[simp] theorem Dev.putTap_mem (d : Dev) (i : Nat) : (d.putTap i).mem = d.mem := rfl
@[simp] theorem Dev.putTap_fab (d : Dev) (i : Nat) : (d.putTap i).fab = d.fab := rfl
@[simp] theorem Dev.putTap_srv (d : Dev) (i : Nat) : (d.putTap i).srv = d.srv := rfl
@[simp] theorem Dev.putTap_vir (d : Dev) (i : Nat) : (d.putTap i).vir = d.vir := rfl
@[simp] theorem Dev.putTap_rad (d : Dev) (i : Nat) : (d.putTap i).rad = d.rad := rfl
@[simp] theorem Dev.putTap_gouge (d : Dev) (i : Nat) : (d.putTap i).gouge = d.gouge := rfl
@[simp] theorem Dev.putTap_gimg (d : Dev) (i : Nat) : (d.putTap i).gimg = d.gimg := rfl
@[simp] theorem Dev.putTap_gmem (d : Dev) (i : Nat) : (d.putTap i).gmem = d.gmem := rfl
@[simp] theorem Dev.putTap_gact (d : Dev) (i : Nat) : (d.putTap i).gact = d.gact := rfl
@[simp] theorem Dev.putTap_tsu (d : Dev) (i : Nat) : (d.putTap i).tsu = d.tsu := rfl
@[simp] theorem Dev.putTap_tls (d : Dev) (i : Nat) : (d.putTap i).tls = d.tls := rfl
@[simp] theorem Dev.putTap_fpl (d : Dev) (i : Nat) : (d.putTap i).fpl = d.fpl := rfl
@[simp] theorem Dev.putTap_wq (d : Dev) (i : Nat) : (d.putTap i).wq = d.wq := rfl
@[simp] theorem Dev.putTap_resetReq (d : Dev) (i : Nat) : (d.putTap i).resetReq = d.resetReq := rfl
@[simp] theorem Dev.putTap_free (d : Dev) (i : Nat) : (d.putTap i).free = d.free := rfl

/-! ### Sparse tables -/

@[simp] theorem sget_sput_same {α : Type} (m : SMap α) (k : Nat) (v dflt : α) : sget (sput m k v) k dflt = v := by
  induction m with
  | nil => simp [sput, sget]
  | cons e t ih =>
    obtain ⟨k', v'⟩ := e
    simp only [sput]
    split
    · simp [sget]
    · split
      · simp [sget]
      · rename_i h1 h2
        simp [sget, ih, Ne.symm h2]

theorem sget_sput_ne {α : Type} (m : SMap α) (k k' : Nat) (v dflt : α) (h : k' ≠ k) : sget (sput m k v) k' dflt = sget m k' dflt := by
  induction m with
  | nil => simp [sput, sget, Ne.symm h]
  | cons e t ih =>
    obtain ⟨j, w⟩ := e
    simp only [sput]
    split
    · simp [sget, Ne.symm h]
    · split
      · rename_i h2
        subst h2
        simp [sget, Ne.symm h]
      · simp only [sget, ih]

@[simp] theorem sfind_sput_same {α : Type} (m : SMap α) (k : Nat) (v : α) : sfind (sput m k v) k = some v := by
  induction m with
  | nil => simp [sput, sfind]
  | cons e t ih =>
    obtain ⟨k', v'⟩ := e
    simp only [sput]
    split
    · simp [sfind]
    · split
      · simp [sfind]
      · rename_i h1 h2
        simp [sfind, ih, Ne.symm h2]

theorem sfind_sput_ne {α : Type} (m : SMap α) (k k' : Nat) (v : α) (h : k' ≠ k) : sfind (sput m k v) k' = sfind m k' := by
  induction m with
  | nil => simp [sput, sfind, Ne.symm h]
  | cons e t ih =>
    obtain ⟨j, w⟩ := e
    simp only [sput]
    split
    · simp [sfind, Ne.symm h]
    · split
      · rename_i h2
        subst h2
        simp [sfind, Ne.symm h]
      · simp only [sfind, ih]

/-! ### Register fields -/

@[simp] theorem Dev.get_set_same (d : Dev) (f : Fld) (v : Nat) : (d.set f v).get f = v % 2 ^ f.width := by
  simp [Dev.get, Dev.set]

theorem Dev.get_set_ne (d : Dev) (f g : Fld) (v : Nat) (h : Fld.key g ≠ Fld.key f) : (d.set f v).get g = d.get g := by
  simp [Dev.get, Dev.set, sget_sput_ne _ _ _ _ _ h]

/-- An update that leaves the registers alone leaves every field's value. -/
theorem Dev.get_congr {d e : Dev} (h : d.regs = e.regs) (f : Fld) : d.get f = e.get f := by
  simp [Dev.get, h]

@[simp] theorem Dev.chuck_setChuck_same (d : Dev) (tc : Nat) (c : Chuck) : (d.setChuck tc c).chuck tc = c := by
  simp [Dev.chuck, Dev.setChuck]

theorem Dev.chuck_setChuck_ne (d : Dev) (tc tc' : Nat) (c : Chuck) (h : tc' ≠ tc) : (d.setChuck tc c).chuck tc' = d.chuck tc' := by
  simp [Dev.chuck, Dev.setChuck, sget_sput_ne _ _ _ _ _ h]

@[simp] theorem Dev.tile_setTile_same (d : Dev) (t : Nat) (x : Tile) : (d.setTile t x).tile t = x := by
  simp [Dev.tile, Dev.setTile]

@[simp] theorem Dev.gcore_setG_same (d : Dev) (n : Nat) (g : GCore) : (d.setG n g).gcore n = g := by
  simp [Dev.gcore, Dev.setG]

@[simp] theorem Dev.answer_rdata (d : Dev) (v : Nat) : (d.answer v).bus.rdata = v := rfl

/-- Between instructions that drive no pin, a load changes the instruction register alone. -/
theorem Dev.setTap_quiet (d : Dev) (i : Nat) (h : d.pins.tap < tapEXTEST) (hi : i < tapEXTEST) : d.setTap i = d.putTap i := by
  simp [Dev.setTap, h, hi]

end Sys2Proof.Machine
end

