-- ==== Sys2Proof/Laws/Run.lean ====
section
/-!
SUPPORT. Laws/Run.lean: the canonical form of memory, and what running a command can do.
-/

namespace Sys2Proof.Machine

/-! ### Memory -/

theorem Mem.wfFrom_mono {lo lo' : Nat} (h : lo' ≤ lo) : ∀ {m : Mem}, Mem.wfFrom lo m = true → Mem.wfFrom lo' m = true
  | [], _ => rfl
  | (k, v) :: t, hm => by
    simp only [Mem.wfFrom, Bool.and_eq_true, decide_eq_true_eq] at hm ⊢
    exact ⟨⟨Nat.le_trans h hm.1.1, hm.1.2⟩, hm.2⟩

/-- A write keeps the canonical form. -/
theorem Mem.set_wfFrom (k : Nat) (v : Byte) : ∀ {lo : Nat} {m : Mem}, lo ≤ k → Mem.wfFrom lo m = true →
    Mem.wfFrom lo (Mem.set m k v) = true
  | lo, [], h, _ => by
    by_cases hv : v = 0#8
    · simp [Mem.set, hv, Mem.wfFrom]
    · simp [Mem.set, hv, Mem.wfFrom, h]
  | lo, (k', v') :: t, h, hm => by
    simp only [Mem.wfFrom, Bool.and_eq_true, decide_eq_true_eq, bne_iff_ne] at hm
    by_cases h1 : k < k'
    · by_cases hv : v = 0#8
      · simp [Mem.set, h1, hv, Mem.wfFrom, hm]
      · simp [Mem.set, h1, hv, Mem.wfFrom, h, hm, Nat.succ_le_of_lt h1]
    · by_cases h2 : k = k'
      · by_cases hv : v = 0#8
        · subst h2
          simp only [Mem.set, hv, Nat.lt_irrefl, if_true, if_false]
          exact Mem.wfFrom_mono (by omega) hm.2
        · subst h2
          simp [Mem.set, hv, Mem.wfFrom, hm]
      · have h3 : k' + 1 ≤ k := by omega
        simp only [Mem.set, h1, h2, if_false, Mem.wfFrom, Bool.and_eq_true, decide_eq_true_eq, bne_iff_ne]
        exact ⟨hm.1, Mem.set_wfFrom k v h3 hm.2⟩

theorem Mem.set_wf {m : Mem} (k : Nat) (v : Byte) (h : m.wf = true) : (Mem.set m k v).wf = true :=
  Mem.set_wfFrom k v (Nat.zero_le k) h

/-- A command's byte writes keep the canonical form. -/
theorem Mem.apply_wf {m : Mem} (h : m.wf = true) : ∀ l : List Host.Cell, (Mem.apply m l).wf = true
  | [] => h
  | (k, v) :: t => Mem.set_wf k v (Mem.apply_wf h t)

theorem Mem.get_of_lt : ∀ {m : Mem} {k lo : Nat}, Mem.wfFrom lo m = true → k < lo → Mem.get m k = 0#8
  | [], _, _, _, _ => rfl
  | (k', v') :: t, k, lo, hm, h => by
    simp only [Mem.wfFrom, Bool.and_eq_true, decide_eq_true_eq] at hm
    have hk : k' ≠ k := by omega
    simp [Mem.get, hk, Mem.get_of_lt hm.2 (show k < k' + 1 by omega)]

/-- A byte reads as it was written. -/
theorem Mem.get_set_same (k : Nat) (v : Byte) : ∀ {m : Mem} {lo : Nat}, Mem.wfFrom lo m = true → Mem.get (Mem.set m k v) k = v
  | [], _, _ => by
    by_cases hv : v = 0#8 <;> simp [Mem.set, Mem.get, hv]
  | (k', v') :: t, lo, hm => by
    simp only [Mem.wfFrom, Bool.and_eq_true, decide_eq_true_eq] at hm
    by_cases h1 : k < k'
    · by_cases hv : v = 0#8
      · have hk : k' ≠ k := by omega
        simp [Mem.set, h1, hv, Mem.get, hk, Mem.get_of_lt hm.2 (show k < k' + 1 by omega)]
      · simp [Mem.set, h1, hv, Mem.get]
    · by_cases h2 : k = k'
      · subst h2
        by_cases hv : v = 0#8
        · simp [Mem.set, hv, Mem.get_of_lt hm.2 (Nat.lt_succ_self k)]
        · simp [Mem.set, hv, Mem.get]
      · simp [Mem.set, h1, h2, Mem.get, Ne.symm h2, Mem.get_set_same k v hm.2]

/-- Every other byte is left alone. -/
theorem Mem.get_set_ne (k j : Nat) (v : Byte) (hj : j ≠ k) : ∀ {m : Mem}, Mem.get (Mem.set m k v) j = Mem.get m j
  | [] => by
    by_cases hv : v = 0#8 <;> simp [Mem.set, Mem.get, hv, Ne.symm hj]
  | (k', v') :: t => by
    by_cases h1 : k < k'
    · by_cases hv : v = 0#8 <;> simp [Mem.set, h1, hv, Mem.get, Ne.symm hj]
    · by_cases h2 : k = k'
      · subst h2
        by_cases hv : v = 0#8 <;> simp [Mem.set, hv, Mem.get, Ne.symm hj]
      · simp [Mem.set, h1, h2, Mem.get, Mem.get_set_ne k j v hj (m := t)]

/-! ### Running a command -/

/-- A command always answers a next state, and leaves the queue alone. -/
theorem runAlways_next (f : Mem → Dev → Dev) (s : State) :
    runAlways f s = .next (finish s (settle s.mem (f s.mem s.d))) := rfl

theorem run_reset (f : Mem → Dev → Dev) (s : State) (h : s.d.inReset = true) : run f s = .next s := by
  simp [run, h]

theorem run_next (f : Mem → Dev → Dev) (s : State) (h : s.d.inReset = false) :
    run f s = .next (finish s (settle s.mem (f s.mem s.d))) := by
  simp [run, h, runAlways]

@[simp] theorem finish_pending (s : State) (d : Dev) : (finish s d).pending = s.pending := by
  simp only [finish]; split <;> rfl

theorem finish_mem_wf (s : State) (d : Dev) (h : s.mem.wf = true) : (finish s d).mem.wf = true := by
  simp only [finish]
  split
  · rfl
  · exact Mem.apply_wf h _

@[simp] theorem finish_wq (s : State) (d : Dev) : (finish s d).d.wq = [] := by
  simp only [finish]; split <;> rfl

@[simp] theorem finish_resetReq (s : State) (d : Dev) : (finish s d).d.resetReq = none := by
  simp only [finish]
  split
  · rfl
  · assumption

/-- What follows an operation that leaves nothing to do. -/
theorem settle_quiet (m : Mem) (d : Dev) (h : d.quiet = true) : settle m d = d := by
  simp only [Dev.quiet, Bool.and_eq_true, List.isEmpty_iff, Bool.not_eq_true', List.all_eq_true, List.mem_range, decide_eq_true_eq] at h
  obtain ⟨⟨⟨⟨⟨⟨⟨⟨⟨⟨hr, hw⟩, hl⟩, ho⟩, ht⟩, hp⟩, h1⟩, h2⟩, h3⟩, -⟩, -⟩ := h
  have hf : d.radioFollow = d := by
    unfold Dev.radioFollow
    have inner : ∀ (e : Nat × Tile), e ∈ d.tiles → ∀ l : List Nat, l.foldl (fun d i =>
        match (e.2.radio[i]?) with
        | none => d
        | some r =>
          if r.stage = 3 then moveOutputs d e.1 i
          else if r.stage = 4 then (d.itemMiss r).radioStage e.1 i 5
          else d) d = d := by
      intro e he l
      induction l with
      | nil => rfl
      | cons i l ih =>
        rw [List.foldl_cons]
        have : (match (e.2.radio[i]?) with
          | none => d
          | some r =>
            if r.stage = 3 then moveOutputs d e.1 i
            else if r.stage = 4 then (d.itemMiss r).radioStage e.1 i 5
            else d) = d := by
          split
          · rfl
          · rename_i r hr
            have hm := ht e he r (List.mem_of_getElem? hr)
            simp only [bne_iff_ne, ne_eq] at hm
            simp [hm.1, hm.2]
        rw [this]; exact ih
    have outer : ∀ l : SMap Tile, (∀ e ∈ l, e ∈ d.tiles) → l.foldl (fun d e =>
        (List.range e.2.radio.length).foldl (fun d i =>
          match (e.2.radio[i]?) with
          | none => d
          | some r =>
            if r.stage = 3 then moveOutputs d e.1 i
            else if r.stage = 4 then (d.itemMiss r).radioStage e.1 i 5
            else d) d) d = d := by
      intro l hl
      induction l with
      | nil => rfl
      | cons e l ih =>
        rw [List.foldl_cons, inner e (hl e (by simp))]
        exact ih (fun x hx => hl x (by simp [hx]))
    exact outer d.tiles (fun e he => he)
  have hs : settleLoop m 65536 d = d := by
    show settleLoop m (65535 + 1) d = d
    have hw' : (d.mem.running.isNone && !d.mem.queue.isEmpty) = false := by
      cases hn : d.mem.running <;> simp [hn] at hw ⊢
      exact hw
    rw [settleLoop]; simp only [hr, hl, hw']; rfl
  have hq : d.stuckPorts = d := by
    unfold Dev.stuckPorts
    have : ∀ l : List Nat, (∀ p ∈ l, p < 12) → l.foldl (fun d p => if (d.port p).stuck ≥ 16 then d.portRetrain p else d) d = d := by
      intro l hl
      induction l with
      | nil => rfl
      | cons p l ih =>
        have hp' := hp p (hl p (by simp))
        rw [List.foldl_cons, if_neg (by omega)]
        exact ih (fun x hx => hl x (by simp [hx]))
    exact this _ (fun p hp => List.mem_range.mp hp)
  have hd : d.prtDisarm = d := by
    simp [Dev.prtDisarm, h1, h2, h3]
  have hc : d.creditsBack = d := by simp [Dev.creditsBack, ho]
  simp [settle, hf, hs, hq, hd, hc]

/-- A device that has nothing left to do stands as it is. -/
theorem finish_quiet (s : State) (d : Dev) (hq : d.quiet = true) : finish s d = { s with d := d } := by
  have h2 := hq
  simp only [Dev.quiet, Bool.and_eq_true, Option.isNone_iff_eq_none, List.isEmpty_iff] at h2
  have hw : d.wq = [] := h2.2
  have hr : d.resetReq = none := h2.1.2
  cases d
  simp only at hw hr
  subst hw
  subst hr
  rfl

/-- A command whose operation leaves nothing to do answers just that. -/
theorem run_quiet (f : Mem → Dev → Dev) (s : State) (h : s.d.inReset = false) (hq : (f s.mem s.d).quiet = true) :
    run f s = .next { s with d := f s.mem s.d } := by
  rw [run_next f s h, settle_quiet _ _ hq, finish_quiet s _ hq]

theorem runAlways_quiet (f : Mem → Dev → Dev) (s : State) (hq : (f s.mem s.d).quiet = true) :
    runAlways f s = .next { s with d := f s.mem s.d } := by
  rw [runAlways_next, settle_quiet _ _ hq, finish_quiet s _ hq]

/-- Quiet depends only on these parts. -/
theorem Dev.quiet_congr {d e : Dev} (hq : d.quiet = true) (h1 : e.mem = d.mem) (h2 : e.fab.loop = d.fab.loop)
    (h3 : e.tiles = d.tiles) (h4 : e.fab.ports = d.fab.ports) (h5 : e.get PRT_INJ_ECC_ARMED = d.get PRT_INJ_ECC_ARMED)
    (h6 : e.get PRT_INJ_CHK_ARMED = d.get PRT_INJ_CHK_ARMED) (h7 : e.get PRT_INJ_LINK_ARMED = d.get PRT_INJ_LINK_ARMED)
    (h8 : e.resetReq = d.resetReq) (h9 : e.wq = d.wq) (h10 : e.fab.owed = d.fab.owed) : e.quiet = true := by
  rw [← hq]
  unfold Dev.quiet Dev.port Dev.is
  rw [h1, h2, h3, h4, h5, h6, h7, h8, h9, h10]

end Sys2Proof.Machine
end

