-- ==== Sys2Proof/Laws/PerInstr.lean ====
section
/-!
SUPPORT. Laws/PerInstr.lean: every command runs one operation on the device.
-/

namespace Sys2Proof.Laws.Runs

open Sys2Proof.Machine in
/-- The command runs an operation, whatever the state; only some act while the device is held in reset. -/
def Statement (i : Instr) : Prop :=
  ∃ f : Mem → Dev → Dev, (∀ s, exec i s = run f s) ∨ (∀ s, exec i s = runAlways f s)

end Sys2Proof.Laws.Runs

namespace Sys2Proof

theorem Laws.Runs.registerWrite (a : Agent) (sp : Space) (off len value : Nat) : Laws.Runs.Statement (.registerWrite a sp off len value) := ⟨_, Or.inl (fun _ => rfl)⟩
theorem Laws.Runs.registerReadClear (a : Agent) (sp : Space) (off len : Nat) : Laws.Runs.Statement (.registerReadClear a sp off len) := ⟨_, Or.inl (fun _ => rfl)⟩
theorem Laws.Runs.tickBoundary : Laws.Runs.Statement (.tickBoundary) := ⟨_, Or.inl (fun _ => rfl)⟩
theorem Laws.Runs.guardStart : Laws.Runs.Statement (.guardStart) := ⟨_, Or.inl (fun _ => rfl)⟩
theorem Laws.Runs.radioDeadlineCut (u : RadioUnit) : Laws.Runs.Statement (.radioDeadlineCut u) := ⟨_, Or.inl (fun _ => rfl)⟩
theorem Laws.Runs.spindleSyncEdge : Laws.Runs.Statement (.spindleSyncEdge) := ⟨_, Or.inl (fun _ => rfl)⟩
theorem Laws.Runs.syncLoss : Laws.Runs.Statement (.syncLoss) := ⟨_, Or.inl (fun _ => rfl)⟩
theorem Laws.Runs.lthCtrlWrite (a : Agent) (value : W32) : Laws.Runs.Statement (.lthCtrlWrite a value) := ⟨_, Or.inl (fun _ => rfl)⟩
theorem Laws.Runs.lthTickCfgWrite (a : Agent) (value : W32) : Laws.Runs.Statement (.lthTickCfgWrite a value) := ⟨_, Or.inl (fun _ => rfl)⟩
theorem Laws.Runs.itemSubmit (src : Submitter) (w0 w1 w2 w3 : W64) : Laws.Runs.Statement (.itemSubmit src w0 w1 w2 w3) := ⟨_, Or.inl (fun _ => rfl)⟩
theorem Laws.Runs.itemStart (t : Fin 320) : Laws.Runs.Statement (.itemStart t) := ⟨_, Or.inl (fun _ => rfl)⟩
theorem Laws.Runs.radioItemReady (t : Fin 320) (i : Nat) : Laws.Runs.Statement (.radioItemReady t i) := ⟨_, Or.inl (fun _ => rfl)⟩
theorem Laws.Runs.ctxLoad (a : Agent) (value : W64) : Laws.Runs.Statement (.ctxLoad a value) := ⟨_, Or.inl (fun _ => rfl)⟩
theorem Laws.Runs.ctxUnloadSave (a : Agent) (value : W64) : Laws.Runs.Statement (.ctxUnloadSave a value) := ⟨_, Or.inl (fun _ => rfl)⟩
theorem Laws.Runs.ctxUnloadDiscard (a : Agent) (value : W64) : Laws.Runs.Statement (.ctxUnloadDiscard a value) := ⟨_, Or.inl (fun _ => rfl)⟩
theorem Laws.Runs.ctxRemoval (c : Fin 4096) : Laws.Runs.Statement (.ctxRemoval c) := ⟨_, Or.inl (fun _ => rfl)⟩
theorem Laws.Runs.lthCtxResultPop (a : Agent) (wide : Bool) : Laws.Runs.Statement (.lthCtxResultPop a wide) := ⟨_, Or.inl (fun _ => rfl)⟩
theorem Laws.Runs.quantumExpiry (c : Fin 4096) : Laws.Runs.Statement (.quantumExpiry c) := ⟨_, Or.inl (fun _ => rfl)⟩
theorem Laws.Runs.swapEvictionDone (c : Fin 4096) : Laws.Runs.Statement (.swapEvictionDone c) := ⟨_, Or.inl (fun _ => rfl)⟩
theorem Laws.Runs.swapBringInDone (c : Fin 4096) (ups : List Upset) : Laws.Runs.Statement (.swapBringInDone c ups) := ⟨_, Or.inl (fun _ => rfl)⟩
theorem Laws.Runs.nop (t : Fin 320) (c : Fin 4) (w0 w1 : W64) : Laws.Runs.Statement (.nop t c w0 w1) := ⟨_, Or.inl (fun _ => rfl)⟩
theorem Laws.Runs.end_ (t : Fin 320) (c : Fin 4) (w0 w1 : W64) : Laws.Runs.Statement (.end_ t c w0 w1) := ⟨_, Or.inl (fun _ => rfl)⟩
theorem Laws.Runs.commit (t : Fin 320) (c : Fin 4) (w0 w1 : W64) : Laws.Runs.Statement (.commit t c w0 w1) := ⟨_, Or.inl (fun _ => rfl)⟩
theorem Laws.Runs.waitSemaphore (t : Fin 320) (c : Fin 4) (w0 w1 : W64) : Laws.Runs.Statement (.waitSemaphore t c w0 w1) := ⟨_, Or.inl (fun _ => rfl)⟩
theorem Laws.Runs.waitMatrixDrain (t : Fin 320) (c : Fin 4) (w0 w1 : W64) : Laws.Runs.Statement (.waitMatrixDrain t c w0 w1) := ⟨_, Or.inl (fun _ => rfl)⟩
theorem Laws.Runs.waitDma (t : Fin 320) (c : Fin 4) (w0 w1 : W64) : Laws.Runs.Statement (.waitDma t c w0 w1) := ⟨_, Or.inl (fun _ => rfl)⟩
theorem Laws.Runs.semrel (t : Fin 320) (c : Fin 4) (w0 w1 : W64) : Laws.Runs.Statement (.semrel t c w0 w1) := ⟨_, Or.inl (fun _ => rfl)⟩
theorem Laws.Runs.cfg (t : Fin 320) (c : Fin 4) (w0 w1 : W64) : Laws.Runs.Statement (.cfg t c w0 w1) := ⟨_, Or.inl (fun _ => rfl)⟩
theorem Laws.Runs.cfgk (t : Fin 320) (c : Fin 4) (w0 w1 : W64) : Laws.Runs.Statement (.cfgk t c w0 w1) := ⟨_, Or.inl (fun _ => rfl)⟩
theorem Laws.Runs.opa (t : Fin 320) (c : Fin 4) (w0 w1 : W64) : Laws.Runs.Statement (.opa t c w0 w1) := ⟨_, Or.inl (fun _ => rfl)⟩
theorem Laws.Runs.opb (t : Fin 320) (c : Fin 4) (w0 w1 : W64) : Laws.Runs.Statement (.opb t c w0 w1) := ⟨_, Or.inl (fun _ => rfl)⟩
theorem Laws.Runs.opc (t : Fin 320) (c : Fin 4) (w0 w1 : W64) : Laws.Runs.Statement (.opc t c w0 w1) := ⟨_, Or.inl (fun _ => rfl)⟩
theorem Laws.Runs.matmul (t : Fin 320) (c : Fin 4) (w0 w1 : W64) : Laws.Runs.Statement (.matmul t c w0 w1) := ⟨_, Or.inl (fun _ => rfl)⟩
theorem Laws.Runs.tileStepIssue (t : Fin 320) (f : StepIn) : Laws.Runs.Statement (.tileStepIssue t f) := ⟨_, Or.inl (fun _ => rfl)⟩
theorem Laws.Runs.cLoad (t : Fin 320) : Laws.Runs.Statement (.cLoad t) := ⟨_, Or.inl (fun _ => rfl)⟩
theorem Laws.Runs.drainSet (t : DrainIn) : Laws.Runs.Statement (.drainSet t) := ⟨_, Or.inl (fun _ => rfl)⟩
theorem Laws.Runs.itemRerun (t : Fin 320) : Laws.Runs.Statement (.itemRerun t) := ⟨_, Or.inl (fun _ => rfl)⟩
theorem Laws.Runs.mirrorSweepDone (t : Fin 320) : Laws.Runs.Statement (.mirrorSweepDone t) := ⟨_, Or.inl (fun _ => rfl)⟩
theorem Laws.Runs.vopFadd (t : Fin 320) (c : Fin 4) (w0 w1 : W64) : Laws.Runs.Statement (.vopFadd t c w0 w1) := ⟨_, Or.inl (fun _ => rfl)⟩
theorem Laws.Runs.vopFsub (t : Fin 320) (c : Fin 4) (w0 w1 : W64) : Laws.Runs.Statement (.vopFsub t c w0 w1) := ⟨_, Or.inl (fun _ => rfl)⟩
theorem Laws.Runs.vopFmul (t : Fin 320) (c : Fin 4) (w0 w1 : W64) : Laws.Runs.Statement (.vopFmul t c w0 w1) := ⟨_, Or.inl (fun _ => rfl)⟩
theorem Laws.Runs.vopFma (t : Fin 320) (c : Fin 4) (w0 w1 : W64) : Laws.Runs.Statement (.vopFma t c w0 w1) := ⟨_, Or.inl (fun _ => rfl)⟩
theorem Laws.Runs.vopFmin (t : Fin 320) (c : Fin 4) (w0 w1 : W64) : Laws.Runs.Statement (.vopFmin t c w0 w1) := ⟨_, Or.inl (fun _ => rfl)⟩
theorem Laws.Runs.vopFmax (t : Fin 320) (c : Fin 4) (w0 w1 : W64) : Laws.Runs.Statement (.vopFmax t c w0 w1) := ⟨_, Or.inl (fun _ => rfl)⟩
theorem Laws.Runs.vopFdiv (t : Fin 320) (c : Fin 4) (w0 w1 : W64) : Laws.Runs.Statement (.vopFdiv t c w0 w1) := ⟨_, Or.inl (fun _ => rfl)⟩
theorem Laws.Runs.vopFsqrt (t : Fin 320) (c : Fin 4) (w0 w1 : W64) : Laws.Runs.Statement (.vopFsqrt t c w0 w1) := ⟨_, Or.inl (fun _ => rfl)⟩
theorem Laws.Runs.vopFexp (t : Fin 320) (c : Fin 4) (w0 w1 : W64) : Laws.Runs.Statement (.vopFexp t c w0 w1) := ⟨_, Or.inl (fun _ => rfl)⟩
theorem Laws.Runs.vopFlog (t : Fin 320) (c : Fin 4) (w0 w1 : W64) : Laws.Runs.Statement (.vopFlog t c w0 w1) := ⟨_, Or.inl (fun _ => rfl)⟩
theorem Laws.Runs.vopFrsqrt (t : Fin 320) (c : Fin 4) (w0 w1 : W64) : Laws.Runs.Statement (.vopFrsqrt t c w0 w1) := ⟨_, Or.inl (fun _ => rfl)⟩
theorem Laws.Runs.vopFtanh (t : Fin 320) (c : Fin 4) (w0 w1 : W64) : Laws.Runs.Statement (.vopFtanh t c w0 w1) := ⟨_, Or.inl (fun _ => rfl)⟩
theorem Laws.Runs.vopFrcp (t : Fin 320) (c : Fin 4) (w0 w1 : W64) : Laws.Runs.Statement (.vopFrcp t c w0 w1) := ⟨_, Or.inl (fun _ => rfl)⟩
theorem Laws.Runs.vopFcmplt (t : Fin 320) (c : Fin 4) (w0 w1 : W64) : Laws.Runs.Statement (.vopFcmplt t c w0 w1) := ⟨_, Or.inl (fun _ => rfl)⟩
theorem Laws.Runs.vopFcmple (t : Fin 320) (c : Fin 4) (w0 w1 : W64) : Laws.Runs.Statement (.vopFcmple t c w0 w1) := ⟨_, Or.inl (fun _ => rfl)⟩
theorem Laws.Runs.vopFcmpeq (t : Fin 320) (c : Fin 4) (w0 w1 : W64) : Laws.Runs.Statement (.vopFcmpeq t c w0 w1) := ⟨_, Or.inl (fun _ => rfl)⟩
theorem Laws.Runs.vopRsum (t : Fin 320) (c : Fin 4) (w0 w1 : W64) : Laws.Runs.Statement (.vopRsum t c w0 w1) := ⟨_, Or.inl (fun _ => rfl)⟩
theorem Laws.Runs.vopRmax (t : Fin 320) (c : Fin 4) (w0 w1 : W64) : Laws.Runs.Statement (.vopRmax t c w0 w1) := ⟨_, Or.inl (fun _ => rfl)⟩
theorem Laws.Runs.vopRmin (t : Fin 320) (c : Fin 4) (w0 w1 : W64) : Laws.Runs.Statement (.vopRmin t c w0 w1) := ⟨_, Or.inl (fun _ => rfl)⟩
theorem Laws.Runs.vopIadd (t : Fin 320) (c : Fin 4) (w0 w1 : W64) : Laws.Runs.Statement (.vopIadd t c w0 w1) := ⟨_, Or.inl (fun _ => rfl)⟩
theorem Laws.Runs.vopIsub (t : Fin 320) (c : Fin 4) (w0 w1 : W64) : Laws.Runs.Statement (.vopIsub t c w0 w1) := ⟨_, Or.inl (fun _ => rfl)⟩
theorem Laws.Runs.vopAnd (t : Fin 320) (c : Fin 4) (w0 w1 : W64) : Laws.Runs.Statement (.vopAnd t c w0 w1) := ⟨_, Or.inl (fun _ => rfl)⟩
theorem Laws.Runs.vopOr (t : Fin 320) (c : Fin 4) (w0 w1 : W64) : Laws.Runs.Statement (.vopOr t c w0 w1) := ⟨_, Or.inl (fun _ => rfl)⟩
theorem Laws.Runs.vopXor (t : Fin 320) (c : Fin 4) (w0 w1 : W64) : Laws.Runs.Statement (.vopXor t c w0 w1) := ⟨_, Or.inl (fun _ => rfl)⟩
theorem Laws.Runs.vopShl (t : Fin 320) (c : Fin 4) (w0 w1 : W64) : Laws.Runs.Statement (.vopShl t c w0 w1) := ⟨_, Or.inl (fun _ => rfl)⟩
theorem Laws.Runs.vopShr (t : Fin 320) (c : Fin 4) (w0 w1 : W64) : Laws.Runs.Statement (.vopShr t c w0 w1) := ⟨_, Or.inl (fun _ => rfl)⟩
theorem Laws.Runs.vopSar (t : Fin 320) (c : Fin 4) (w0 w1 : W64) : Laws.Runs.Statement (.vopSar t c w0 w1) := ⟨_, Or.inl (fun _ => rfl)⟩
theorem Laws.Runs.vopRol (t : Fin 320) (c : Fin 4) (w0 w1 : W64) : Laws.Runs.Statement (.vopRol t c w0 w1) := ⟨_, Or.inl (fun _ => rfl)⟩
theorem Laws.Runs.vopMullo (t : Fin 320) (c : Fin 4) (w0 w1 : W64) : Laws.Runs.Statement (.vopMullo t c w0 w1) := ⟨_, Or.inl (fun _ => rfl)⟩
theorem Laws.Runs.vopMulhi (t : Fin 320) (c : Fin 4) (w0 w1 : W64) : Laws.Runs.Statement (.vopMulhi t c w0 w1) := ⟨_, Or.inl (fun _ => rfl)⟩
theorem Laws.Runs.vopMulhiu (t : Fin 320) (c : Fin 4) (w0 w1 : W64) : Laws.Runs.Statement (.vopMulhiu t c w0 w1) := ⟨_, Or.inl (fun _ => rfl)⟩
theorem Laws.Runs.vopCvtf2i (t : Fin 320) (c : Fin 4) (w0 w1 : W64) : Laws.Runs.Statement (.vopCvtf2i t c w0 w1) := ⟨_, Or.inl (fun _ => rfl)⟩
theorem Laws.Runs.vopCvti2f (t : Fin 320) (c : Fin 4) (w0 w1 : W64) : Laws.Runs.Statement (.vopCvti2f t c w0 w1) := ⟨_, Or.inl (fun _ => rfl)⟩
theorem Laws.Runs.vopMov (t : Fin 320) (c : Fin 4) (w0 w1 : W64) : Laws.Runs.Statement (.vopMov t c w0 w1) := ⟨_, Or.inl (fun _ => rfl)⟩
theorem Laws.Runs.vopSel (t : Fin 320) (c : Fin 4) (w0 w1 : W64) : Laws.Runs.Statement (.vopSel t c w0 w1) := ⟨_, Or.inl (fun _ => rfl)⟩
theorem Laws.Runs.vopLaneid (t : Fin 320) (c : Fin 4) (w0 w1 : W64) : Laws.Runs.Statement (.vopLaneid t c w0 w1) := ⟨_, Or.inl (fun _ => rfl)⟩
theorem Laws.Runs.vld (t : Fin 320) (c : Fin 4) (w0 w1 : W64) : Laws.Runs.Statement (.vld t c w0 w1) := ⟨_, Or.inl (fun _ => rfl)⟩
theorem Laws.Runs.vst (t : Fin 320) (c : Fin 4) (w0 w1 : W64) : Laws.Runs.Statement (.vst t c w0 w1) := ⟨_, Or.inl (fun _ => rfl)⟩
theorem Laws.Runs.qmx (t : Fin 320) (c : Fin 4) (w0 w1 : W64) : Laws.Runs.Statement (.qmx t c w0 w1) := ⟨_, Or.inl (fun _ => rfl)⟩
theorem Laws.Runs.sopAdd (t : Fin 320) (c : Fin 4) (w0 w1 : W64) : Laws.Runs.Statement (.sopAdd t c w0 w1) := ⟨_, Or.inl (fun _ => rfl)⟩
theorem Laws.Runs.sopSub (t : Fin 320) (c : Fin 4) (w0 w1 : W64) : Laws.Runs.Statement (.sopSub t c w0 w1) := ⟨_, Or.inl (fun _ => rfl)⟩
theorem Laws.Runs.sopMul (t : Fin 320) (c : Fin 4) (w0 w1 : W64) : Laws.Runs.Statement (.sopMul t c w0 w1) := ⟨_, Or.inl (fun _ => rfl)⟩
theorem Laws.Runs.sopAnd (t : Fin 320) (c : Fin 4) (w0 w1 : W64) : Laws.Runs.Statement (.sopAnd t c w0 w1) := ⟨_, Or.inl (fun _ => rfl)⟩
theorem Laws.Runs.sopOr (t : Fin 320) (c : Fin 4) (w0 w1 : W64) : Laws.Runs.Statement (.sopOr t c w0 w1) := ⟨_, Or.inl (fun _ => rfl)⟩
theorem Laws.Runs.sopXor (t : Fin 320) (c : Fin 4) (w0 w1 : W64) : Laws.Runs.Statement (.sopXor t c w0 w1) := ⟨_, Or.inl (fun _ => rfl)⟩
theorem Laws.Runs.sopShl (t : Fin 320) (c : Fin 4) (w0 w1 : W64) : Laws.Runs.Statement (.sopShl t c w0 w1) := ⟨_, Or.inl (fun _ => rfl)⟩
theorem Laws.Runs.sopShr (t : Fin 320) (c : Fin 4) (w0 w1 : W64) : Laws.Runs.Statement (.sopShr t c w0 w1) := ⟨_, Or.inl (fun _ => rfl)⟩
theorem Laws.Runs.sopMovi (t : Fin 320) (c : Fin 4) (w0 w1 : W64) : Laws.Runs.Statement (.sopMovi t c w0 w1) := ⟨_, Or.inl (fun _ => rfl)⟩
theorem Laws.Runs.sopCmpeq (t : Fin 320) (c : Fin 4) (w0 w1 : W64) : Laws.Runs.Statement (.sopCmpeq t c w0 w1) := ⟨_, Or.inl (fun _ => rfl)⟩
theorem Laws.Runs.sopCmplt (t : Fin 320) (c : Fin 4) (w0 w1 : W64) : Laws.Runs.Statement (.sopCmplt t c w0 w1) := ⟨_, Or.inl (fun _ => rfl)⟩
theorem Laws.Runs.sopCmpltu (t : Fin 320) (c : Fin 4) (w0 w1 : W64) : Laws.Runs.Statement (.sopCmpltu t c w0 w1) := ⟨_, Or.inl (fun _ => rfl)⟩
theorem Laws.Runs.loop (t : Fin 320) (c : Fin 4) (w0 w1 : W64) : Laws.Runs.Statement (.loop t c w0 w1) := ⟨_, Or.inl (fun _ => rfl)⟩
theorem Laws.Runs.br (t : Fin 320) (c : Fin 4) (w0 w1 : W64) : Laws.Runs.Statement (.br t c w0 w1) := ⟨_, Or.inl (fun _ => rfl)⟩
theorem Laws.Runs.dma (t : Fin 320) (c : Fin 4) (w0 w1 : W64) : Laws.Runs.Statement (.dma t c w0 w1) := ⟨_, Or.inl (fun _ => rfl)⟩
theorem Laws.Runs.dmaDescriptorStart (t : Fin 320) (ups : List Upset) : Laws.Runs.Statement (.dmaDescriptorStart t ups) := ⟨_, Or.inl (fun _ => rfl)⟩
theorem Laws.Runs.dmaDescriptorComplete (t : Fin 320) (c : Fin 4) : Laws.Runs.Statement (.dmaDescriptorComplete t c) := ⟨_, Or.inl (fun _ => rfl)⟩
theorem Laws.Runs.notifyServingRecord (t : Fin 320) (c : Fin 4) (w0 w1 : W64) : Laws.Runs.Statement (.notifyServingRecord t c w0 w1) := ⟨_, Or.inl (fun _ => rfl)⟩
theorem Laws.Runs.notifyInterrupt (t : Fin 320) (c : Fin 4) (w0 w1 : W64) : Laws.Runs.Statement (.notifyInterrupt t c w0 w1) := ⟨_, Or.inl (fun _ => rfl)⟩
theorem Laws.Runs.cycleBoundExceeded (t : Fin 320) (c : Fin 4) : Laws.Runs.Statement (.cycleBoundExceeded t c) := ⟨_, Or.inl (fun _ => rfl)⟩
theorem Laws.Runs.tailLimitReached (t : Fin 320) (c : Fin 4) : Laws.Runs.Statement (.tailLimitReached t c) := ⟨_, Or.inl (fun _ => rfl)⟩
theorem Laws.Runs.sqDoorbell (a : Agent) (value : W32) : Laws.Runs.Statement (.sqDoorbell a value) := ⟨_, Or.inl (fun _ => rfl)⟩
theorem Laws.Runs.sqRequest (i : Fin 128) : Laws.Runs.Statement (.sqRequest i) := ⟨_, Or.inl (fun _ => rfl)⟩
theorem Laws.Runs.sqItem (i : Fin 128) : Laws.Runs.Statement (.sqItem i) := ⟨_, Or.inl (fun _ => rfl)⟩
theorem Laws.Runs.sqBadKind (i : Fin 128) : Laws.Runs.Statement (.sqBadKind i) := ⟨_, Or.inl (fun _ => rfl)⟩
theorem Laws.Runs.stepEnd (p : Fin 16) : Laws.Runs.Statement (.stepEnd p) := ⟨_, Or.inl (fun _ => rfl)⟩
theorem Laws.Runs.tokenNotification (w0 w1 : W64) : Laws.Runs.Statement (.tokenNotification w0 w1) := ⟨_, Or.inl (fun _ => rfl)⟩
theorem Laws.Runs.srvAbort (a : Agent) (value : W64) : Laws.Runs.Statement (.srvAbort a value) := ⟨_, Or.inl (fun _ => rfl)⟩
theorem Laws.Runs.srvQConfigWrite (a : Agent) (q : Fin 15360) (reg : QReg) (value : W32) : Laws.Runs.Statement (.srvQConfigWrite a q reg value) := ⟨_, Or.inl (fun _ => rfl)⟩
theorem Laws.Runs.srvCtrlWrite (a : Agent) (value : W32) : Laws.Runs.Statement (.srvCtrlWrite a value) := ⟨_, Or.inl (fun _ => rfl)⟩
theorem Laws.Runs.srvDisableEffect : Laws.Runs.Statement (.srvDisableEffect) := ⟨_, Or.inl (fun _ => rfl)⟩
theorem Laws.Runs.srvProfWrite (a : Agent) (off len value : Nat) : Laws.Runs.Statement (.srvProfWrite a off len value) := ⟨_, Or.inl (fun _ => rfl)⟩
theorem Laws.Runs.srvAdapterWrite (a : Agent) (n : Fin 4096) (word : Fin 4) (value : W64) : Laws.Runs.Statement (.srvAdapterWrite a n word value) := ⟨_, Or.inl (fun _ => rfl)⟩
theorem Laws.Runs.create (a : Agent) (w0 w1 w2 : W64) (originOk : Bool) : Laws.Runs.Statement (.create a w0 w1 w2 originOk) := ⟨_, Or.inl (fun _ => rfl)⟩
theorem Laws.Runs.destroy (a : Agent) (w0 w1 w2 : W64) (originOk : Bool) : Laws.Runs.Statement (.destroy a w0 w1 w2 originOk) := ⟨_, Or.inl (fun _ => rfl)⟩
theorem Laws.Runs.seal (a : Agent) (w0 w1 w2 : W64) (originOk : Bool) : Laws.Runs.Statement (.seal a w0 w1 w2 originOk) := ⟨_, Or.inl (fun _ => rfl)⟩
theorem Laws.Runs.setOrigin (a : Agent) (w0 w1 w2 : W64) (originOk : Bool) : Laws.Runs.Statement (.setOrigin a w0 w1 w2 originOk) := ⟨_, Or.inl (fun _ => rfl)⟩
theorem Laws.Runs.migrate (a : Agent) (w0 w1 w2 : W64) (originOk : Bool) : Laws.Runs.Statement (.migrate a w0 w1 w2 originOk) := ⟨_, Or.inl (fun _ => rfl)⟩
theorem Laws.Runs.digest (a : Agent) (w0 w1 w2 : W64) (originOk : Bool) : Laws.Runs.Statement (.digest a w0 w1 w2 originOk) := ⟨_, Or.inl (fun _ => rfl)⟩
theorem Laws.Runs.memCmdResultPop (a : Agent) (wide : Bool) : Laws.Runs.Statement (.memCmdResultPop a wide) := ⟨_, Or.inl (fun _ => rfl)⟩
theorem Laws.Runs.extentCopyDone (ext : Nat) (originOk : Bool) : Laws.Runs.Statement (.extentCopyDone ext originOk) := ⟨_, Or.inl (fun _ => rfl)⟩
theorem Laws.Runs.oldSlotFree (tier stack slot : Nat) : Laws.Runs.Statement (.oldSlotFree tier stack slot) := ⟨_, Or.inl (fun _ => rfl)⟩
theorem Laws.Runs.refetchDone (ext : Nat) (originOk readBackOk : Bool) : Laws.Runs.Statement (.refetchDone ext originOk readBackOk) := ⟨_, Or.inl (fun _ => rfl)⟩
theorem Laws.Runs.originReadFail (off : Nat) (hit : OriginUser) : Laws.Runs.Statement (.originReadFail off hit) := ⟨_, Or.inl (fun _ => rfl)⟩
theorem Laws.Runs.scrubRead (stack : Fin 16) (errs : List (Nat × Nat)) : Laws.Runs.Statement (.scrubRead stack errs) := ⟨_, Or.inl (fun _ => rfl)⟩
theorem Laws.Runs.heatHalving : Laws.Runs.Statement (.heatHalving) := ⟨_, Or.inl (fun _ => rfl)⟩
theorem Laws.Runs.hostBar4Read (fn : Fin 128) (off len : Nat) (ups : List Upset) : Laws.Runs.Statement (.hostBar4Read fn off len ups) := ⟨_, Or.inl (fun _ => rfl)⟩
theorem Laws.Runs.hostBar4Write (fn : Fin 128) (off : Nat) (bytes : List Byte) : Laws.Runs.Statement (.hostBar4Write fn off bytes) := ⟨_, Or.inl (fun _ => rfl)⟩
theorem Laws.Runs.fabricLoad (port : Fin 12) (pk : Packet) (ups : List Upset) : Laws.Runs.Statement (.fabricLoad port pk ups) := ⟨_, Or.inl (fun _ => rfl)⟩
theorem Laws.Runs.fabricStore (port : Fin 12) (pk : Packet) (ups : List Upset) : Laws.Runs.Statement (.fabricStore port pk ups) := ⟨_, Or.inl (fun _ => rfl)⟩
theorem Laws.Runs.fabricGets (port : Fin 12) (pk : Packet) (ups : List Upset) : Laws.Runs.Statement (.fabricGets port pk ups) := ⟨_, Or.inl (fun _ => rfl)⟩
theorem Laws.Runs.fabricAdd (port : Fin 12) (pk : Packet) (ups : List Upset) : Laws.Runs.Statement (.fabricAdd port pk ups) := ⟨_, Or.inl (fun _ => rfl)⟩
theorem Laws.Runs.fabricMin (port : Fin 12) (pk : Packet) (ups : List Upset) : Laws.Runs.Statement (.fabricMin port pk ups) := ⟨_, Or.inl (fun _ => rfl)⟩
theorem Laws.Runs.fabricMax (port : Fin 12) (pk : Packet) (ups : List Upset) : Laws.Runs.Statement (.fabricMax port pk ups) := ⟨_, Or.inl (fun _ => rfl)⟩
theorem Laws.Runs.fabricCas (port : Fin 12) (pk : Packet) (ups : List Upset) : Laws.Runs.Statement (.fabricCas port pk ups) := ⟨_, Or.inl (fun _ => rfl)⟩
theorem Laws.Runs.fabricAck (port : Fin 12) (pk : Packet) : Laws.Runs.Statement (.fabricAck port pk) := ⟨_, Or.inl (fun _ => rfl)⟩
theorem Laws.Runs.fabricData (port : Fin 12) (pk : Packet) : Laws.Runs.Statement (.fabricData port pk) := ⟨_, Or.inl (fun _ => rfl)⟩
theorem Laws.Runs.fabricOld (port : Fin 12) (pk : Packet) : Laws.Runs.Statement (.fabricOld port pk) := ⟨_, Or.inl (fun _ => rfl)⟩
theorem Laws.Runs.inval (port : Fin 12) (pk : Packet) : Laws.Runs.Statement (.inval port pk) := ⟨_, Or.inl (fun _ => rfl)⟩
theorem Laws.Runs.invalAck (port : Fin 12) (pk : Packet) : Laws.Runs.Statement (.invalAck port pk) := ⟨_, Or.inl (fun _ => rfl)⟩
theorem Laws.Runs.announce (port : Fin 12) (pk : Packet) : Laws.Runs.Statement (.announce port pk) := ⟨_, Or.inl (fun _ => rfl)⟩
theorem Laws.Runs.genQuery (port : Fin 12) (pk : Packet) : Laws.Runs.Statement (.genQuery port pk) := ⟨_, Or.inl (fun _ => rfl)⟩
theorem Laws.Runs.packetForward (port : Fin 12) (pk : Packet) : Laws.Runs.Statement (.packetForward port pk) := ⟨_, Or.inl (fun _ => rfl)⟩
theorem Laws.Runs.genQueryTimeout (dst : Nat) : Laws.Runs.Statement (.genQueryTimeout dst) := ⟨_, Or.inl (fun _ => rfl)⟩
theorem Laws.Runs.routeLossTimeout (dst : Nat) : Laws.Runs.Statement (.routeLossTimeout dst) := ⟨_, Or.inl (fun _ => rfl)⟩
theorem Laws.Runs.forwardHoldTimeout (dst : Nat) : Laws.Runs.Statement (.forwardHoldTimeout dst) := ⟨_, Or.inl (fun _ => rfl)⟩
theorem Laws.Runs.requestTimeout (tag : Nat) : Laws.Runs.Statement (.requestTimeout tag) := ⟨_, Or.inl (fun _ => rfl)⟩
theorem Laws.Runs.combiningWindowClose (k : Nat) : Laws.Runs.Statement (.combiningWindowClose k) := ⟨_, Or.inl (fun _ => rfl)⟩
theorem Laws.Runs.flitReplay (port : PortReplay) : Laws.Runs.Statement (.flitReplay port) := ⟨_, Or.inl (fun _ => rfl)⟩
theorem Laws.Runs.portRetrain (port : Fin 12) : Laws.Runs.Statement (.portRetrain port) := ⟨_, Or.inl (fun _ => rfl)⟩
theorem Laws.Runs.portTrainingDone (port : Fin 12) (lanes : Nat) : Laws.Runs.Statement (.portTrainingDone port lanes) := ⟨_, Or.inl (fun _ => rfl)⟩
theorem Laws.Runs.unlOpLoad (a : Agent) (w0 offset data cmp : W64) : Laws.Runs.Statement (.unlOpLoad a w0 offset data cmp) := ⟨_, Or.inl (fun _ => rfl)⟩
theorem Laws.Runs.unlOpStore (a : Agent) (w0 offset data cmp : W64) : Laws.Runs.Statement (.unlOpStore a w0 offset data cmp) := ⟨_, Or.inl (fun _ => rfl)⟩
theorem Laws.Runs.unlOpAdd (a : Agent) (w0 offset data cmp : W64) : Laws.Runs.Statement (.unlOpAdd a w0 offset data cmp) := ⟨_, Or.inl (fun _ => rfl)⟩
theorem Laws.Runs.unlOpMin (a : Agent) (w0 offset data cmp : W64) : Laws.Runs.Statement (.unlOpMin a w0 offset data cmp) := ⟨_, Or.inl (fun _ => rfl)⟩
theorem Laws.Runs.unlOpMax (a : Agent) (w0 offset data cmp : W64) : Laws.Runs.Statement (.unlOpMax a w0 offset data cmp) := ⟨_, Or.inl (fun _ => rfl)⟩
theorem Laws.Runs.unlOpCas (a : Agent) (w0 offset data cmp : W64) : Laws.Runs.Statement (.unlOpCas a w0 offset data cmp) := ⟨_, Or.inl (fun _ => rfl)⟩
theorem Laws.Runs.unlOpFence (a : Agent) (w0 offset data cmp : W64) : Laws.Runs.Statement (.unlOpFence a w0 offset data cmp) := ⟨_, Or.inl (fun _ => rfl)⟩
theorem Laws.Runs.unlOpResultPop (a : Agent) (wide : Bool) : Laws.Runs.Statement (.unlOpResultPop a wide) := ⟨_, Or.inl (fun _ => rfl)⟩
theorem Laws.Runs.unlErrPop (a : Agent) (wide : Bool) : Laws.Runs.Statement (.unlErrPop a wide) := ⟨_, Or.inl (fun _ => rfl)⟩
theorem Laws.Runs.fronthaulFrameRx (p : Fin 4) (f : Frame) : Laws.Runs.Statement (.fronthaulFrameRx p f) := ⟨_, Or.inl (fun _ => rfl)⟩
theorem Laws.Runs.fronthaulLinkChange (p : Fin 4) (up : Bool) : Laws.Runs.Statement (.fronthaulLinkChange p up) := ⟨_, Or.inl (fun _ => rfl)⟩
theorem Laws.Runs.iqDataMessage (p : Fin 4) (f : Frame) : Laws.Runs.Statement (.iqDataMessage p f) := ⟨_, Or.inl (fun _ => rfl)⟩
theorem Laws.Runs.oneWayDelayRequest (p : Fin 4) (f : Frame) : Laws.Runs.Statement (.oneWayDelayRequest p f) := ⟨_, Or.inl (fun _ => rfl)⟩
theorem Laws.Runs.requestWithFollowUp (p : Fin 4) (f : Frame) : Laws.Runs.Statement (.requestWithFollowUp p f) := ⟨_, Or.inl (fun _ => rfl)⟩
theorem Laws.Runs.followUp (p : Fin 4) (f : Frame) : Laws.Runs.Statement (.followUp p f) := ⟨_, Or.inl (fun _ => rfl)⟩
theorem Laws.Runs.remoteRequest (p : Fin 4) (f : Frame) : Laws.Runs.Statement (.remoteRequest p f) := ⟨_, Or.inl (fun _ => rfl)⟩
theorem Laws.Runs.oneWayDelayResponse (p : Fin 4) (f : Frame) : Laws.Runs.Statement (.oneWayDelayResponse p f) := ⟨_, Or.inl (fun _ => rfl)⟩
theorem Laws.Runs.ingressWindowClose (n : Fin 512) : Laws.Runs.Statement (.ingressWindowClose n) := ⟨_, Or.inl (fun _ => rfl)⟩
theorem Laws.Runs.radioInputArrival (t : Fin 320) (i : Nat) : Laws.Runs.Statement (.radioInputArrival t i) := ⟨_, Or.inl (fun _ => rfl)⟩
theorem Laws.Runs.dlIqEgress (n : Fin 512) : Laws.Runs.Statement (.dlIqEgress n) := ⟨_, Or.inl (fun _ => rfl)⟩
theorem Laws.Runs.radCfgCommit (a : Agent) (value : W32) : Laws.Runs.Statement (.radCfgCommit a value) := ⟨_, Or.inl (fun _ => rfl)⟩
theorem Laws.Runs.configActivate : Laws.Runs.Statement (.configActivate) := ⟨_, Or.inl (fun _ => rfl)⟩
theorem Laws.Runs.gougeImageLoadDone (n : Fin 512) : Laws.Runs.Statement (.gougeImageLoadDone n) := ⟨_, Or.inl (fun _ => rfl)⟩
theorem Laws.Runs.radRoleCmd (a : Agent) (value : W32) : Laws.Runs.Statement (.radRoleCmd a value) := ⟨_, Or.inl (fun _ => rfl)⟩
theorem Laws.Runs.roleChangeEffect (n : Fin 512) : Laws.Runs.Statement (.roleChangeEffect n) := ⟨_, Or.inl (fun _ => rfl)⟩
theorem Laws.Runs.cellsOnAir : Laws.Runs.Statement (.cellsOnAir) := ⟨_, Or.inl (fun _ => rfl)⟩
theorem Laws.Runs.ringDoorbell (a : Agent) (q : Fin 1024) (value : W32) : Laws.Runs.Statement (.ringDoorbell a q value) := ⟨_, Or.inl (fun _ => rfl)⟩
theorem Laws.Runs.radioRingCfgWrite (a : Agent) (q : Fin 1024) (value : W32) : Laws.Runs.Statement (.radioRingCfgWrite a q value) := ⟨_, Or.inl (fun _ => rfl)⟩
theorem Laws.Runs.submissionFetch (n : Fin 512) : Laws.Runs.Statement (.submissionFetch n) := ⟨_, Or.inl (fun _ => rfl)⟩
theorem Laws.Runs.codingItem (n : Fin 512) (dl : Bool) : Laws.Runs.Statement (.codingItem n dl) := ⟨_, Or.inl (fun _ => rfl)⟩
theorem Laws.Runs.gougeItemStart (n : Fin 512) (mod : Bool) : Laws.Runs.Statement (.gougeItemStart n mod) := ⟨_, Or.inl (fun _ => rfl)⟩
theorem Laws.Runs.syncSearchTimeout (n : Fin 512) (ch : Fin 320) (o : Fin 2) : Laws.Runs.Statement (.syncSearchTimeout n ch o) := ⟨_, Or.inl (fun _ => rfl)⟩
theorem Laws.Runs.noiseMeasurement (n : Fin 512) (ch : Fin 320) (o : Fin 2) : Laws.Runs.Statement (.noiseMeasurement n ch o) := ⟨_, Or.inl (fun _ => rfl)⟩
theorem Laws.Runs.gougeNop (n : Fin 512) (w : W64) : Laws.Runs.Statement (.gougeNop n w) := ⟨_, Or.inl (fun _ => rfl)⟩
theorem Laws.Runs.gougeMov (n : Fin 512) (w : W64) : Laws.Runs.Statement (.gougeMov n w) := ⟨_, Or.inl (fun _ => rfl)⟩
theorem Laws.Runs.add2 (n : Fin 512) (w : W64) : Laws.Runs.Statement (.add2 n w) := ⟨_, Or.inl (fun _ => rfl)⟩
theorem Laws.Runs.sub2 (n : Fin 512) (w : W64) : Laws.Runs.Statement (.sub2 n w) := ⟨_, Or.inl (fun _ => rfl)⟩
theorem Laws.Runs.gougeAnd (n : Fin 512) (w : W64) : Laws.Runs.Statement (.gougeAnd n w) := ⟨_, Or.inl (fun _ => rfl)⟩
theorem Laws.Runs.gougeOr (n : Fin 512) (w : W64) : Laws.Runs.Statement (.gougeOr n w) := ⟨_, Or.inl (fun _ => rfl)⟩
theorem Laws.Runs.gougeXor (n : Fin 512) (w : W64) : Laws.Runs.Statement (.gougeXor n w) := ⟨_, Or.inl (fun _ => rfl)⟩
theorem Laws.Runs.asr2 (n : Fin 512) (w : W64) : Laws.Runs.Statement (.asr2 n w) := ⟨_, Or.inl (fun _ => rfl)⟩
theorem Laws.Runs.pack (n : Fin 512) (w : W64) : Laws.Runs.Statement (.pack n w) := ⟨_, Or.inl (fun _ => rfl)⟩
theorem Laws.Runs.cmp (n : Fin 512) (w : W64) : Laws.Runs.Statement (.cmp n w) := ⟨_, Or.inl (fun _ => rfl)⟩
theorem Laws.Runs.slice (n : Fin 512) (w : W64) : Laws.Runs.Statement (.slice n w) := ⟨_, Or.inl (fun _ => rfl)⟩
theorem Laws.Runs.atan (n : Fin 512) (w : W64) : Laws.Runs.Statement (.atan n w) := ⟨_, Or.inl (fun _ => rfl)⟩
theorem Laws.Runs.cmac (n : Fin 512) (w : W64) : Laws.Runs.Statement (.cmac n w) := ⟨_, Or.inl (fun _ => rfl)⟩
theorem Laws.Runs.rdot2 (n : Fin 512) (w : W64) : Laws.Runs.Statement (.rdot2 n w) := ⟨_, Or.inl (fun _ => rfl)⟩
theorem Laws.Runs.rdot4 (n : Fin 512) (w : W64) : Laws.Runs.Statement (.rdot4 n w) := ⟨_, Or.inl (fun _ => rfl)⟩
theorem Laws.Runs.rmul4 (n : Fin 512) (w : W64) : Laws.Runs.Statement (.rmul4 n w) := ⟨_, Or.inl (fun _ => rfl)⟩
theorem Laws.Runs.dupd (n : Fin 512) (w : W64) : Laws.Runs.Statement (.dupd n w) := ⟨_, Or.inl (fun _ => rfl)⟩
theorem Laws.Runs.ext (n : Fin 512) (w : W64) : Laws.Runs.Statement (.ext n w) := ⟨_, Or.inl (fun _ => rfl)⟩
theorem Laws.Runs.extc (n : Fin 512) (w : W64) : Laws.Runs.Statement (.extc n w) := ⟨_, Or.inl (fun _ => rfl)⟩
theorem Laws.Runs.ldi (n : Fin 512) (w : W64) : Laws.Runs.Statement (.ldi n w) := ⟨_, Or.inl (fun _ => rfl)⟩
theorem Laws.Runs.ldc (n : Fin 512) (w : W64) : Laws.Runs.Statement (.ldc n w) := ⟨_, Or.inl (fun _ => rfl)⟩
theorem Laws.Runs.mvtc (n : Fin 512) (w : W64) : Laws.Runs.Statement (.mvtc n w) := ⟨_, Or.inl (fun _ => rfl)⟩
theorem Laws.Runs.mvfc (n : Fin 512) (w : W64) : Laws.Runs.Statement (.mvfc n w) := ⟨_, Or.inl (fun _ => rfl)⟩
theorem Laws.Runs.addc (n : Fin 512) (w : W64) : Laws.Runs.Statement (.addc n w) := ⟨_, Or.inl (fun _ => rfl)⟩
theorem Laws.Runs.gougeBr (n : Fin 512) (w : W64) : Laws.Runs.Statement (.gougeBr n w) := ⟨_, Or.inl (fun _ => rfl)⟩
theorem Laws.Runs.call (n : Fin 512) (w : W64) : Laws.Runs.Statement (.call n w) := ⟨_, Or.inl (fun _ => rfl)⟩
theorem Laws.Runs.ret (n : Fin 512) (w : W64) : Laws.Runs.Statement (.ret n w) := ⟨_, Or.inl (fun _ => rfl)⟩
theorem Laws.Runs.rep (n : Fin 512) (w : W64) : Laws.Runs.Statement (.rep n w) := ⟨_, Or.inl (fun _ => rfl)⟩
theorem Laws.Runs.gougeLoop (n : Fin 512) (w : W64) : Laws.Runs.Statement (.gougeLoop n w) := ⟨_, Or.inl (fun _ => rfl)⟩
theorem Laws.Runs.rti (n : Fin 512) (w : W64) : Laws.Runs.Statement (.rti n w) := ⟨_, Or.inl (fun _ => rfl)⟩
theorem Laws.Runs.swi (n : Fin 512) (w : W64) : Laws.Runs.Statement (.swi n w) := ⟨_, Or.inl (fun _ => rfl)⟩
theorem Laws.Runs.halt (n : Fin 512) (w : W64) : Laws.Runs.Statement (.halt n w) := ⟨_, Or.inl (fun _ => rfl)⟩
theorem Laws.Runs.gougeTimer (n : Fin 512) : Laws.Runs.Statement (.gougeTimer n) := ⟨_, Or.inl (fun _ => rfl)⟩
theorem Laws.Runs.ggcDoorbell (a : Agent) (value : W32) : Laws.Runs.Statement (.ggcDoorbell a value) := ⟨_, Or.inl (fun _ => rfl)⟩
theorem Laws.Runs.interruptTake (n : Fin 512) : Laws.Runs.Statement (.interruptTake n) := ⟨_, Or.inl (fun _ => rfl)⟩
theorem Laws.Runs.tsuStep (a : Agent) (value : W64) : Laws.Runs.Statement (.tsuStep a value) := ⟨_, Or.inl (fun _ => rfl)⟩
theorem Laws.Runs.ppsInEdge : Laws.Runs.Statement (.ppsInEdge) := ⟨_, Or.inl (fun _ => rfl)⟩
theorem Laws.Runs.tsuRateWrite (a : Agent) (value : W32) : Laws.Runs.Statement (.tsuRateWrite a value) := ⟨_, Or.inl (fun _ => rfl)⟩
theorem Laws.Runs.tsuSlewWrite (a : Agent) (value : W32) : Laws.Runs.Statement (.tsuSlewWrite a value) := ⟨_, Or.inl (fun _ => rfl)⟩
theorem Laws.Runs.slewDone : Laws.Runs.Statement (.slewDone) := ⟨_, Or.inl (fun _ => rfl)⟩
theorem Laws.Runs.tsuHold (a : Agent) (value : W32) : Laws.Runs.Statement (.tsuHold a value) := ⟨_, Or.inl (fun _ => rfl)⟩
theorem Laws.Runs.servoTimeout : Laws.Runs.Statement (.servoTimeout) := ⟨_, Or.inl (fun _ => rfl)⟩
theorem Laws.Runs.ppsTimeout : Laws.Runs.Statement (.ppsTimeout) := ⟨_, Or.inl (fun _ => rfl)⟩
theorem Laws.Runs.tsuNsRead (a : Agent) (wide : Bool) : Laws.Runs.Statement (.tsuNsRead a wide) := ⟨_, Or.inl (fun _ => rfl)⟩
theorem Laws.Runs.tsuTxtsPop (a : Agent) (wide : Bool) : Laws.Runs.Statement (.tsuTxtsPop a wide) := ⟨_, Or.inl (fun _ => rfl)⟩
theorem Laws.Runs.tsuPulseCtrlWrite (a : Agent) (o : Fin 4) (value : W32) : Laws.Runs.Statement (.tsuPulseCtrlWrite a o value) := ⟨_, Or.inl (fun _ => rfl)⟩
theorem Laws.Runs.pulseEdge (o : Fin 4) : Laws.Runs.Statement (.pulseEdge o) := ⟨_, Or.inl (fun _ => rfl)⟩
theorem Laws.Runs.ppsOutEdge : Laws.Runs.Statement (.ppsOutEdge) := ⟨_, Or.inl (fun _ => rfl)⟩
theorem Laws.Runs.faultRecordReceive : Laws.Runs.Statement (.faultRecordReceive) := ⟨_, Or.inl (fun _ => rfl)⟩
theorem Laws.Runs.watchdogExpiry : Laws.Runs.Statement (.watchdogExpiry) := ⟨_, Or.inl (fun _ => rfl)⟩
theorem Laws.Runs.tlsWdogWrite (value : W32) : Laws.Runs.Statement (.tlsWdogWrite value) := ⟨_, Or.inl (fun _ => rfl)⟩
theorem Laws.Runs.meshDoubleBitError (die : Fin 2) (row : Fin 8) (pcol : MeshHit) : Laws.Runs.Statement (.meshDoubleBitError die row pcol) := ⟨_, Or.inl (fun _ => rfl)⟩
theorem Laws.Runs.sramDoubleBitError (t : Fin 320) (bank : BankHit) : Laws.Runs.Statement (.sramDoubleBitError t bank) := ⟨_, Or.inl (fun _ => rfl)⟩
theorem Laws.Runs.dieLinkFlitFailure (link : Fin 3) : Laws.Runs.Statement (.dieLinkFlitFailure link) := ⟨_, Or.inl (fun _ => rfl)⟩
theorem Laws.Runs.retestStart (unit : Nat) : Laws.Runs.Statement (.retestStart unit) := ⟨_, Or.inl (fun _ => rfl)⟩
theorem Laws.Runs.retestWaitExpiry (unit : Nat) : Laws.Runs.Statement (.retestWaitExpiry unit) := ⟨_, Or.inl (fun _ => rfl)⟩
theorem Laws.Runs.sweepTestDue : Laws.Runs.Statement (.sweepTestDue) := ⟨_, Or.inl (fun _ => rfl)⟩
theorem Laws.Runs.unitTestDone (unit : Nat) (pass : Bool) : Laws.Runs.Statement (.unitTestDone unit pass) := ⟨_, Or.inl (fun _ => rfl)⟩
theorem Laws.Runs.historyRecordWrite : Laws.Runs.Statement (.historyRecordWrite) := ⟨_, Or.inl (fun _ => rfl)⟩
theorem Laws.Runs.posSave : Laws.Runs.Statement (.posSave) := ⟨_, Or.inl (fun _ => rfl)⟩
theorem Laws.Runs.hello (pk : Packet) : Laws.Runs.Statement (.hello pk) := ⟨_, Or.inl (fun _ => rfl)⟩
theorem Laws.Runs.compare (pk : Packet) : Laws.Runs.Statement (.compare pk) := ⟨_, Or.inl (fun _ => rfl)⟩
theorem Laws.Runs.matchWaitExpiry (n : Fin 512) : Laws.Runs.Statement (.matchWaitExpiry n) := ⟨_, Or.inl (fun _ => rfl)⟩
theorem Laws.Runs.relinquish (pk : Packet) : Laws.Runs.Statement (.relinquish pk) := ⟨_, Or.inl (fun _ => rfl)⟩
theorem Laws.Runs.missTicksExpiry (n : Fin 512) : Laws.Runs.Statement (.missTicksExpiry n) := ⟨_, Or.inl (fun _ => rfl)⟩
theorem Laws.Runs.takeover (pk : Packet) : Laws.Runs.Statement (.takeover pk) := ⟨_, Or.inl (fun _ => rfl)⟩
theorem Laws.Runs.takeoverEffect (n : Fin 512) : Laws.Runs.Statement (.takeoverEffect n) := ⟨_, Or.inl (fun _ => rfl)⟩
theorem Laws.Runs.replicaRound (r : Nat) : Laws.Runs.Statement (.replicaRound r) := ⟨_, Or.inl (fun _ => rfl)⟩
theorem Laws.Runs.replicaDigest (pk : Packet) : Laws.Runs.Statement (.replicaDigest pk) := ⟨_, Or.inl (fun _ => rfl)⟩
theorem Laws.Runs.windowSeal (w : Nat) : Laws.Runs.Statement (.windowSeal w) := ⟨_, Or.inl (fun _ => rfl)⟩
theorem Laws.Runs.winDigest (pk : Packet) : Laws.Runs.Statement (.winDigest pk) := ⟨_, Or.inl (fun _ => rfl)⟩
theorem Laws.Runs.winResult (pk : Packet) : Laws.Runs.Statement (.winResult pk) := ⟨_, Or.inl (fun _ => rfl)⟩
theorem Laws.Runs.flag (pk : Packet) : Laws.Runs.Statement (.flag pk) := ⟨_, Or.inl (fun _ => rfl)⟩
theorem Laws.Runs.stragglerDetected (g mem : Nat) : Laws.Runs.Statement (.stragglerDetected g mem) := ⟨_, Or.inl (fun _ => rfl)⟩
theorem Laws.Runs.backup (pk : Packet) : Laws.Runs.Statement (.backup pk) := ⟨_, Or.inl (fun _ => rfl)⟩
theorem Laws.Runs.tlsSeqLost (a : Agent) (value : W64) : Laws.Runs.Statement (.tlsSeqLost a value) := ⟨_, Or.inl (fun _ => rfl)⟩
theorem Laws.Runs.tlsJrnlPop (a : Agent) (wide : Bool) : Laws.Runs.Statement (.tlsJrnlPop a wide) := ⟨_, Or.inl (fun _ => rfl)⟩
theorem Laws.Runs.fplDetCfgWrite (a : Agent) (value : W32) : Laws.Runs.Statement (.fplDetCfgWrite a value) := ⟨_, Or.inl (fun _ => rfl)⟩
theorem Laws.Runs.perstNAssert : Laws.Runs.Statement (.perstNAssert) := ⟨_, Or.inr (fun _ => (show Machine.execPerstNAssert _ = _ from rfl))⟩
theorem Laws.Runs.pcieLinkDown : Laws.Runs.Statement (.pcieLinkDown) := ⟨_, Or.inl (fun _ => rfl)⟩
theorem Laws.Runs.pcieHotReset : Laws.Runs.Statement (.pcieHotReset) := ⟨_, Or.inl (fun _ => rfl)⟩
theorem Laws.Runs.pfFunctionLevelReset : Laws.Runs.Statement (.pfFunctionLevelReset) := ⟨_, Or.inl (fun _ => rfl)⟩
theorem Laws.Runs.busMasterEnableSet : Laws.Runs.Statement (.busMasterEnableSet) := ⟨_, Or.inl (fun _ => rfl)⟩
theorem Laws.Runs.vfFunctionLevelReset (i : Fin 128) : Laws.Runs.Statement (.vfFunctionLevelReset i) := ⟨_, Or.inl (fun _ => rfl)⟩
theorem Laws.Runs.vfRemoval (num : Fin 128) : Laws.Runs.Statement (.vfRemoval num) := ⟨_, Or.inl (fun _ => rfl)⟩
theorem Laws.Runs.virInstReset (a : Agent) (i : Fin 128) (value : W32) : Laws.Runs.Statement (.virInstReset a i value) := ⟨_, Or.inl (fun _ => rfl)⟩
theorem Laws.Runs.instanceResetComplete (i : Fin 128) : Laws.Runs.Statement (.instanceResetComplete i) := ⟨_, Or.inl (fun _ => rfl)⟩
theorem Laws.Runs.virInstEnable (a : Agent) (i : Fin 128) (value : W32) : Laws.Runs.Statement (.virInstEnable a i value) := ⟨_, Or.inl (fun _ => rfl)⟩
theorem Laws.Runs.ringCfgWrite (a : Agent) (i : Fin 128) (ring : Fin 3) (value : W64) : Laws.Runs.Statement (.ringCfgWrite a i ring value) := ⟨_, Or.inl (fun _ => rfl)⟩
theorem Laws.Runs.mailboxSend (a : Agent) (w0 w1 w2 w3 w4 w5 w6 w7 : W64) : Laws.Runs.Statement (.mailboxSend a w0 w1 w2 w3 w4 w5 w6 w7) := ⟨_, Or.inl (fun _ => rfl)⟩
theorem Laws.Runs.mailboxPop (a : Agent) (value : W32) : Laws.Runs.Statement (.mailboxPop a value) := ⟨_, Or.inl (fun _ => rfl)⟩
theorem Laws.Runs.msixCoalesceExpiry (i : Fin 128) (v : Nat) : Laws.Runs.Statement (.msixCoalesceExpiry i v) := ⟨_, Or.inl (fun _ => rfl)⟩
theorem Laws.Runs.virJrnlPop (a : Agent) (wide : Bool) : Laws.Runs.Statement (.virJrnlPop a wide) := ⟨_, Or.inl (fun _ => rfl)⟩
theorem Laws.Runs.bootRomStart : Laws.Runs.Statement (.bootRomStart) := ⟨_, Or.inr (fun _ => (show Machine.execBootRomStart _ = _ from rfl))⟩
theorem Laws.Runs.flashReadDone : Laws.Runs.Statement (.flashReadDone) := ⟨_, Or.inl (fun _ => rfl)⟩
theorem Laws.Runs.memoryTrainingDone : Laws.Runs.Statement (.memoryTrainingDone) := ⟨_, Or.inl (fun _ => rfl)⟩
theorem Laws.Runs.configImageApply : Laws.Runs.Statement (.configImageApply) := ⟨_, Or.inl (fun _ => rfl)⟩
theorem Laws.Runs.imageWrite32 (pairs : List (Nat × W32)) : Laws.Runs.Statement (.imageWrite32 pairs) := ⟨_, Or.inl (fun _ => rfl)⟩
theorem Laws.Runs.imageWrite64 (pairs : List (Nat × W64)) : Laws.Runs.Statement (.imageWrite64 pairs) := ⟨_, Or.inl (fun _ => rfl)⟩
theorem Laws.Runs.imageBlock (sp : Space) (off : Nat) (values : List W32) : Laws.Runs.Statement (.imageBlock sp off values) := ⟨_, Or.inl (fun _ => rfl)⟩
theorem Laws.Runs.imageGouge (mask : List Bool) (img : List Byte) : Laws.Runs.Statement (.imageGouge mask img) := ⟨_, Or.inl (fun _ => rfl)⟩
theorem Laws.Runs.imageMemcmd (w0 w1 w2 : W64) (originOk : Bool) : Laws.Runs.Statement (.imageMemcmd w0 w1 w2 originOk) := ⟨_, Or.inl (fun _ => rfl)⟩
theorem Laws.Runs.imageRadioCommit : Laws.Runs.Statement (.imageRadioCommit) := ⟨_, Or.inl (fun _ => rfl)⟩
theorem Laws.Runs.imageEnd : Laws.Runs.Statement (.imageEnd) := ⟨_, Or.inl (fun _ => rfl)⟩
theorem Laws.Runs.attestGo (a : Agent) (value : W32) : Laws.Runs.Statement (.attestGo a value) := ⟨_, Or.inl (fun _ => rfl)⟩
theorem Laws.Runs.attestDone : Laws.Runs.Statement (.attestDone) := ⟨_, Or.inl (fun _ => rfl)⟩
theorem Laws.Runs.i3cRead32 (off : Nat) : Laws.Runs.Statement (.i3cRead32 off) := ⟨_, Or.inl (fun _ => rfl)⟩
theorem Laws.Runs.i3cRead64 (off : Nat) : Laws.Runs.Statement (.i3cRead64 off) := ⟨_, Or.inl (fun _ => rfl)⟩
theorem Laws.Runs.i3cWrite32 (off : Nat) (value : W32) : Laws.Runs.Statement (.i3cWrite32 off value) := ⟨_, Or.inl (fun _ => rfl)⟩
theorem Laws.Runs.i3cWrite64 (off : Nat) (value : W64) : Laws.Runs.Statement (.i3cWrite64 off value) := ⟨_, Or.inl (fun _ => rfl)⟩
theorem Laws.Runs.confirm (a : Agent) : Laws.Runs.Statement (.confirm a) := ⟨_, Or.inl (fun _ => rfl)⟩
theorem Laws.Runs.hostOk (a : Agent) : Laws.Runs.Statement (.hostOk a) := ⟨_, Or.inl (fun _ => rfl)⟩
theorem Laws.Runs.ownerLockWrite (a : Agent) (value : Bool) : Laws.Runs.Statement (.ownerLockWrite a value) := ⟨_, Or.inl (fun _ => rfl)⟩
theorem Laws.Runs.activate (a : Agent) (resetNow : Bool) : Laws.Runs.Statement (.activate a resetNow) := ⟨_, Or.inl (fun _ => rfl)⟩
theorem Laws.Runs.confirmTimeout : Laws.Runs.Statement (.confirmTimeout) := ⟨_, Or.inl (fun _ => rfl)⟩
theorem Laws.Runs.updateStart (a : Agent) (value : W32) : Laws.Runs.Statement (.updateStart a value) := ⟨_, Or.inl (fun _ => rfl)⟩
theorem Laws.Runs.updateEnd (a : Agent) : Laws.Runs.Statement (.updateEnd a) := ⟨_, Or.inl (fun _ => rfl)⟩
theorem Laws.Runs.updateAbort (a : Agent) : Laws.Runs.Statement (.updateAbort a) := ⟨_, Or.inl (fun _ => rfl)⟩
theorem Laws.Runs.fplUpdDataWrite (a : Agent) (value : W64) : Laws.Runs.Statement (.fplUpdDataWrite a value) := ⟨_, Or.inl (fun _ => rfl)⟩
theorem Laws.Runs.updateVerifyDone : Laws.Runs.Statement (.updateVerifyDone) := ⟨_, Or.inl (fun _ => rfl)⟩
theorem Laws.Runs.updateWriteDone (ok : Bool) : Laws.Runs.Statement (.updateWriteDone ok) := ⟨_, Or.inl (fun _ => rfl)⟩
theorem Laws.Runs.fwOffer (pk : Packet) : Laws.Runs.Statement (.fwOffer pk) := ⟨_, Or.inl (fun _ => rfl)⟩
theorem Laws.Runs.fwChunk (pk : Packet) : Laws.Runs.Statement (.fwChunk pk) := ⟨_, Or.inl (fun _ => rfl)⟩
theorem Laws.Runs.fwNak (pk : Packet) : Laws.Runs.Statement (.fwNak pk) := ⟨_, Or.inl (fun _ => rfl)⟩
theorem Laws.Runs.fwResult (pk : Packet) : Laws.Runs.Statement (.fwResult pk) := ⟨_, Or.inl (fun _ => rfl)⟩
theorem Laws.Runs.fwResendTimeout : Laws.Runs.Statement (.fwResendTimeout) := ⟨_, Or.inl (fun _ => rfl)⟩
theorem Laws.Runs.fwTransferTimeout : Laws.Runs.Statement (.fwTransferTimeout) := ⟨_, Or.inl (fun _ => rfl)⟩
theorem Laws.Runs.fwChainResultTimeout : Laws.Runs.Statement (.fwChainResultTimeout) := ⟨_, Or.inl (fun _ => rfl)⟩
theorem Laws.Runs.prtCtrlWrite (a : Agent) (value : W32) : Laws.Runs.Statement (.prtCtrlWrite a value) := ⟨_, Or.inl (fun _ => rfl)⟩
theorem Laws.Runs.leaseExpiry : Laws.Runs.Statement (.leaseExpiry) := ⟨_, Or.inl (fun _ => rfl)⟩
theorem Laws.Runs.prtInjEcc (a : Agent) (value : W64) : Laws.Runs.Statement (.prtInjEcc a value) := ⟨_, Or.inl (fun _ => rfl)⟩
theorem Laws.Runs.prtInjChk (a : Agent) (value : W32) : Laws.Runs.Statement (.prtInjChk a value) := ⟨_, Or.inl (fun _ => rfl)⟩
theorem Laws.Runs.prtInjDig (a : Agent) (value : W32) : Laws.Runs.Statement (.prtInjDig a value) := ⟨_, Or.inl (fun _ => rfl)⟩
theorem Laws.Runs.prtInjLink (a : Agent) (value : W32) : Laws.Runs.Statement (.prtInjLink a value) := ⟨_, Or.inl (fun _ => rfl)⟩
theorem Laws.Runs.pwrGoodLow : Laws.Runs.Statement (.pwrGoodLow) := ⟨_, Or.inr (fun _ => (show Machine.execPwrGoodLow _ = _ from rfl))⟩
theorem Laws.Runs.sysRstNLow : Laws.Runs.Statement (.sysRstNLow) := ⟨_, Or.inr (fun _ => (show Machine.execSysRstNLow _ = _ from rfl))⟩
theorem Laws.Runs.thermalAlert (sensor : Nat) (temp : Int) : Laws.Runs.Statement (.thermalAlert sensor temp) := ⟨_, Or.inr (fun _ => (show Machine.execThermalAlert sensor temp _ = _ from rfl))⟩
theorem Laws.Runs.thermalTrip (sensor : Nat) (temp : Int) : Laws.Runs.Statement (.thermalTrip sensor temp) := ⟨_, Or.inr (fun _ => (show Machine.execThermalTrip sensor temp _ = _ from rfl))⟩
theorem Laws.Runs.trstNLow : Laws.Runs.Statement (.trstNLow) := ⟨_, Or.inr (fun _ => (show Machine.execTrstNLow _ = _ from rfl))⟩
theorem Laws.Runs.bypass : Laws.Runs.Statement (.bypass) := ⟨_, Or.inr (fun _ => (show Machine.execBypass _ = _ from rfl))⟩
theorem Laws.Runs.idcode : Laws.Runs.Statement (.idcode) := ⟨_, Or.inr (fun _ => (show Machine.execIdcode _ = _ from rfl))⟩
theorem Laws.Runs.samplePreload (preload : List Bool) : Laws.Runs.Statement (.samplePreload preload) := ⟨_, Or.inr (fun _ => (show Machine.execSamplePreload preload _ = _ from rfl))⟩
theorem Laws.Runs.extest : Laws.Runs.Statement (.extest) := ⟨_, Or.inr (fun _ => (show Machine.execExtest _ = _ from rfl))⟩
theorem Laws.Runs.clamp : Laws.Runs.Statement (.clamp) := ⟨_, Or.inr (fun _ => (show Machine.execClamp _ = _ from rfl))⟩
theorem Laws.Runs.highz : Laws.Runs.Statement (.highz) := ⟨_, Or.inr (fun _ => (show Machine.execHighz _ = _ from rfl))⟩
theorem Laws.Runs.creditReturn (port : Fin 12) (cls vc : Nat) (units : Credit) : Laws.Runs.Statement (.creditReturn port cls vc units) := ⟨_, Or.inl (fun _ => rfl)⟩
theorem Laws.Runs.marginOkChange (ok : Bool) : Laws.Runs.Statement (.marginOkChange ok) := ⟨_, Or.inl (fun _ => rfl)⟩
theorem Laws.Runs.tailstockRestartDone : Laws.Runs.Statement (.tailstockRestartDone) := ⟨_, Or.inl (fun _ => rfl)⟩
theorem Laws.Runs.uneisPtpMessage (port : Fin 12) (bytes : List Byte) : Laws.Runs.Statement (.uneisPtpMessage port bytes) := ⟨_, Or.inl (fun _ => rfl)⟩
theorem Laws.Runs.perstNDeassert : Laws.Runs.Statement (.perstNDeassert) := ⟨_, Or.inr (fun _ => (show Machine.execPerstNDeassert _ = _ from rfl))⟩
theorem Laws.Runs.vfEnableSet (num : Fin 128) : Laws.Runs.Statement (.vfEnableSet num) := ⟨_, Or.inl (fun _ => rfl)⟩
theorem Laws.Runs.dynamicAddressAssignment (addr : Fin 128) : Laws.Runs.Statement (.dynamicAddressAssignment addr) := ⟨_, Or.inl (fun _ => rfl)⟩
theorem Laws.Runs.updateReceiveDone : Laws.Runs.Statement (.updateReceiveDone) := ⟨_, Or.inl (fun _ => rfl)⟩

end Sys2Proof
end

