-- ==== Sys2Proof/WellFormed.lean ====
section
/-!
DEFINITION. WellFormed.lean: what the operands of a command may be, beyond what their types say: the ranges that the spec gives to units,
codes and addresses. A command that is not well formed names something that the device does not have; `exec` answers for it all the same.
-/

namespace Sys2Proof

/-! ### Operands -/

/-- An agent of R460: VF n is one of 1-127. -/
def Agent.wf : Agent → Bool
  | .vf n => decide (1 ≤ n) && decide (n ≤ 127)
  | _ => true

/-- A packet's header has three words, and its payload 0 to 144 bytes in units of 16 (R256). -/
def Packet.wf (p : Packet) : Bool := p.hdr.length == 3 && decide (p.payload.length ≤ 144) && p.payload.length % 16 == 0

/-- Errors of a stored line: symbols 0-71, 16 bits each (R243). -/
def errsWf (l : List (Nat × Nat)) : Bool := l.all (fun e => decide (e.1 < 72) && decide (0 < e.2) && decide (e.2 < 65536))

/-- An offset of the unified range (R228). -/
def offWf (off : Nat) : Bool := decide (off < 2 ^ 41)

def Upset.wf (u : Upset) : Bool := offWf u.off && errsWf u.errs

/-- A number of a unified extent (R228). -/
def extWf (x : Nat) : Bool := decide (x < 2 ^ 21)

/-- Positions in a step: rows and columns 0-7 (R99, R175). -/
def SumErr.wf (e : SumErr) : Bool :=
  e.prods.all (fun e => decide (e.1 < 8) && decide (e.2.1 < 8)) && e.cols.all (fun c => decide (c < 8)) && e.rows.all (fun r => decide (r < 8))

def StepErr.wf : StepErr → Bool
  | .sums a b => a.wf && b.wf
  | .residue ws => ws.all (fun w => decide (w.row < 8) && decide (w.col < 8) && decide (w.plane < 2) && decide (w.place < 3))
  | .sramSingle b => decide (b < 16)
  | .operand l => decide (l < 2)
  | .tag => true
  | .accParity => true

def StepFault.wf (f : StepFault) : Bool := decide (f.cube < 8) && f.err.wf

def Submitter.wf : Submitter → Bool
  | .host i => decide (i < 128)
  | .serving => true
  | .radio e => decide (e < 32)

def RadioUnit.wf : RadioUnit → Bool
  | .tile t _ => decide (t < 320)
  | .gouge n _ => decide (n < 512)
  | .coding n _ => decide (n < 512)

def OriginUser.wf : OriginUser → Bool
  | .dma t => decide (t < 320)
  | .other => true

/-- Addresses have 48 bits, an EtherType and a tag 16 (R282). -/
def Frame.wf (f : Frame) : Bool :=
  decide (f.dst < 2 ^ 48) && decide (f.src < 2 ^ 48) && decide (f.etype < 65536) &&
  f.tags.all (fun t => decide (t.1 < 65536) && decide (t.2 < 65536))

/-- An access of 1 to 8 bytes whose value fits it (R12). -/
def accessWf (len value : Nat) : Bool := decide (1 ≤ len) && decide (len ≤ 8) && decide (value < 2 ^ (8 * len))

/-- A UNIT code (R401): kind 1-7. -/
def unitWf (u : Nat) : Bool := decide (1 ≤ u / 2 ^ 28) && decide (u / 2 ^ 28 ≤ 7)

/-- A node number (R251). -/
def nodeWf (n : Nat) : Bool := decide (n < 65536)

/-- A slot of a stack (R229): tier 1 or 2. -/
def slotWf (tier stack slot : Nat) : Bool := (tier == 1 || tier == 2) && decide (stack < 16) && decide (slot < 65536)

/-- A sensor of R505: three dies and sixteen stacks. -/
def sensorWf (s : Nat) : Bool := decide (s < 19)

/-- A frame that reached a port, or several upsets, or a packet, on a port's or an engine's behalf. -/
def upsWf (l : List Upset) : Bool := l.all Upset.wf

/-! ### Commands -/

/-- Well-formedness of a command. -/
def Instr.wf : Instr → Bool
  | .registerWrite a _ _ len v => a.wf && accessWf len v
  | .registerReadClear a _ _ len => a.wf && accessWf len 0
  | .radioDeadlineCut u => u.wf
  | .itemSubmit src _ _ _ _ => src.wf
  | .lthCtrlWrite a _ | .lthTickCfgWrite a _ | .ctxLoad a _ | .ctxUnloadSave a _ | .ctxUnloadDiscard a _ | .lthCtxResultPop a _
  | .sqDoorbell a _ | .srvAbort a _ | .srvQConfigWrite a _ _ _ | .srvCtrlWrite a _ | .srvAdapterWrite a _ _ _ | .create a _ _ _ _
  | .destroy a _ _ _ _ | .seal a _ _ _ _ | .setOrigin a _ _ _ _ | .migrate a _ _ _ _ | .digest a _ _ _ _ | .memCmdResultPop a _
  | .unlOpLoad a _ _ _ _ | .unlOpStore a _ _ _ _ | .unlOpAdd a _ _ _ _ | .unlOpMin a _ _ _ _ | .unlOpMax a _ _ _ _ | .unlOpCas a _ _ _ _
  | .unlOpFence a _ _ _ _ | .unlOpResultPop a _ | .unlErrPop a _ | .radCfgCommit a _ | .radRoleCmd a _ | .ringDoorbell a _ _
  | .radioRingCfgWrite a _ _ | .ggcDoorbell a _ | .tsuStep a _ | .tsuRateWrite a _ | .tsuSlewWrite a _ | .tsuHold a _ | .tsuNsRead a _
  | .tsuTxtsPop a _ | .tsuPulseCtrlWrite a _ _ | .tlsSeqLost a _ | .tlsJrnlPop a _ | .fplDetCfgWrite a _ | .virInstReset a _ _
  | .virInstEnable a _ _ | .ringCfgWrite a _ _ _ | .mailboxSend a _ _ _ _ _ _ _ _ | .mailboxPop a _ | .virJrnlPop a _ | .attestGo a _
  | .confirm a | .hostOk a | .ownerLockWrite a _ | .activate a _ | .updateStart a _ | .updateEnd a | .updateAbort a | .fplUpdDataWrite a _
  | .prtCtrlWrite a _ | .prtInjEcc a _ | .prtInjChk a _ | .prtInjDig a _ | .prtInjLink a _ => a.wf
  | .srvProfWrite a off len v => a.wf && decide (off < 0x200) && accessWf len v
  | .swapBringInDone _ ups | .dmaDescriptorStart _ ups => upsWf ups
  | .tileStepIssue _ f => match f.fault with | some x => x.wf | none => true
  | .extentCopyDone x _ | .refetchDone x _ _ => extWf x
  | .oldSlotFree tier stack slot => slotWf tier stack slot
  | .originReadFail off hit => offWf off && hit.wf
  | .scrubRead _ errs => errsWf errs
  | .hostBar4Read _ _ len ups => decide (1 ≤ len) && upsWf ups
  | .hostBar4Write _ _ bytes => !bytes.isEmpty
  | .fabricLoad _ pk ups | .fabricStore _ pk ups | .fabricGets _ pk ups | .fabricAdd _ pk ups | .fabricMin _ pk ups | .fabricMax _ pk ups
  | .fabricCas _ pk ups => pk.wf && upsWf ups
  | .fabricAck _ pk | .fabricData _ pk | .fabricOld _ pk | .inval _ pk | .invalAck _ pk | .announce _ pk | .genQuery _ pk
  | .packetForward _ pk => pk.wf
  | .genQueryTimeout n | .routeLossTimeout n | .forwardHoldTimeout n => nodeWf n
  | .requestTimeout tag => decide (tag < 65536)
  | .portTrainingDone _ lanes => lanes == 0 || lanes == 1 || lanes == 2 || lanes == 4
  | .creditReturn _ cls vc x => decide (cls ≤ 5) && decide (vc < 2) && decide (1 ≤ x.units + x.acked)
  | .fronthaulFrameRx _ f | .iqDataMessage _ f | .oneWayDelayRequest _ f | .requestWithFollowUp _ f | .followUp _ f | .remoteRequest _ f
  | .oneWayDelayResponse _ f => f.wf
  | .retestStart u | .retestWaitExpiry u | .unitTestDone u _ => unitWf u
  | .hello pk | .compare pk | .relinquish pk | .takeover pk | .replicaDigest pk | .winDigest pk | .winResult pk | .flag pk | .backup pk
  | .fwOffer pk | .fwChunk pk | .fwNak pk | .fwResult pk => pk.wf
  | .replicaRound r => decide (r < 64)
  | .windowSeal w => decide (w < 64)
  | .stragglerDetected g k => decide (g < 16) && decide (k < 8)
  | .msixCoalesceExpiry _ v => decide (v < 2048)
  | .imageGouge mask img => mask.length == 512 && img.length == 62952
  | .thermalAlert s _ | .thermalTrip s _ => sensorWf s
  | _ => true

end Sys2Proof
end

