-- ==== Sys2Proof/Tests/Slice0.lean ====
section
/-!
SUPPORT. Tests/Slice0.lean: well-formedness smoke tests, states that meet the hypotheses of the statements, and results of single commands
that the spec gives.
-/

namespace Sys2Proof.Tests
open Sys2Proof Sys2Proof.Machine

/-! ### States -/

/-- A device in service, everything else as after reset; then fields set, then a change of its parts. -/
def dev (l : List (Fld × Nat)) : Dev :=
  l.foldl (fun d e => d.set e.1 e.2) (({} : Dev).set FPL_BOOT_STATUS_IN_SERVICE 1 |>.set FPL_BOOT_STATUS_PHASE 4)
def st (l : List (Fld × Nat)) (f : Dev → Dev := id) (m : Mem := []) : State := { pending := [], mem := m, d := f (dev l) }

def sTls0 (t : Tls) : Dev := (st [] (fun d => { d with tls := t })).d

/-- The state after a command, and a value of it. -/
def after (c : Instr) (s : State) : State := match exec c s with | .next s' => s' | _ => s

theorem test_asks (d : Dev) (off : Nat) (h : d.is FPL_BOOT_STATUS_IN_SERVICE = true) : d.asks .pf .bar0 off :=
  ⟨by simp [Dev.reach, h], by simp [Dev.reach, h], by intro n h; cases h⟩
theorem test_pages (d : Dev) (h : d.is FPL_BOOT_STATUS_IN_SERVICE = true) : d.pages .pf 0 :=
  ⟨rfl, by decide, by intro off w; simp [Dev.reach, h]⟩

/-! ### Well-formedness: an ill-formed term for each check, refused -/

def pk0 : Packet := ⟨[0, 0, 0], []⟩
def fr0 : Frame := ⟨0, 0, [], 0, [], true⟩

theorem test_wf_agent : (Instr.ringDoorbell (.vf 0) 0 0).wf = false ∧ (Instr.confirm (.vf 128)).wf = false ∧ (Instr.confirm .pf).wf = true := by decide
set_option maxRecDepth 4000 in
theorem test_wf_packet : (Instr.fabricAck 0 { pk0 with hdr := [0] }).wf = false ∧ (Instr.fabricAck 0 { pk0 with payload := List.replicate 257 0 }).wf = false ∧
    (Instr.fabricAck 0 pk0).wf = true := by decide
theorem test_wf_ranges : (Instr.refetchDone (2 ^ 21) true true).wf = false ∧ (Instr.extentCopyDone (2 ^ 21 - 1) true).wf = true ∧
    (Instr.oldSlotFree 0 0 0).wf = false ∧ (Instr.oldSlotFree 1 16 0).wf = false ∧ (Instr.oldSlotFree 2 15 65535).wf = true ∧
    (Instr.originReadFail (2 ^ 41) .other).wf = false ∧ (Instr.scrubRead 0 [(72, 1)]).wf = false ∧ (Instr.scrubRead 0 [(71, 65535)]).wf = true ∧
    (Instr.requestTimeout 65536).wf = false ∧ (Instr.genQueryTimeout 65536).wf = false ∧ (Instr.thermalTrip 19 0).wf = false ∧
    (Instr.retestStart 0).wf = false ∧ (Instr.replicaRound 64).wf = false ∧ (Instr.windowSeal 64).wf = false ∧ (Instr.stragglerDetected 16 0).wf = false ∧
    (Instr.msixCoalesceExpiry 0 2048).wf = false := by decide
theorem test_wf_operands : (Instr.registerWrite .pf .bar0 0 0 0).wf = false ∧ (Instr.registerWrite .pf .bar0 0 1 256).wf = false ∧
    (Instr.registerReadClear .pf .bar0 0 9).wf = false ∧ (Instr.srvProfWrite .pf 0x200 4 0).wf = false ∧ (Instr.radioDeadlineCut (.gouge 512 true)).wf = false ∧
    (Instr.itemSubmit (.host 128) 0 0 0 0).wf = false ∧ (Instr.tileStepIssue 0 ⟨false, some ⟨8, .tag⟩⟩).wf = false ∧
    (Instr.tileStepIssue 0 ⟨false, some ⟨7, .operand 2⟩⟩).wf = false ∧ (Instr.tileStepIssue 0 ⟨true, none⟩).wf = true ∧ (Instr.hostBar4Read 0 0 0 []).wf = false ∧
    (Instr.hostBar4Write 0 0 []).wf = false ∧ (Instr.portTrainingDone 0 3).wf = false ∧ (Instr.creditReturn 0 6 0 ⟨1, 0⟩).wf = false ∧ (Instr.creditReturn 0 5 1 ⟨0, 0⟩).wf = false ∧
    (Instr.creditReturn 0 5 1 ⟨0, 1⟩).wf = true ∧ (Instr.fronthaulFrameRx 0 { fr0 with src := 2 ^ 48 }).wf = false ∧ (Instr.imageGouge [] []).wf = false ∧
    (Instr.dmaDescriptorStart 0 [⟨0, [(0, 0)]⟩]).wf = false := by decide

/-! ### States that meet the hypotheses of the statements -/

theorem test_w_IdleStep : (st []).pending = [] ∧ (st []).d.inReset = false ∧ (st []).d.get TSU_RATE_RATE = 0 ∧ (st []).d.tsu.slew = 0 ∧
    (st [] (fun d => { d with pins := { d.pins with held := true } })).d.inReset = true := by decide
theorem test_w_StepKeepsSettled : (st []).settled ∧ ∃ s', step (st []) = .next s' := ⟨by unfold State.settled; decide, _, rfl⟩
theorem test_w_NothingRunsInReset : (st [] (fun d => { d with pins := { d.pins with rstLow := true } })).d.inReset = true ∧
    (Instr.tickBoundary).actsInReset = false := by decide
theorem test_w_ReservedOffsets : (st []).serving ∧ (st []).d.asks .pf .bar0 0x480000 ∧ (st []).d.asks .pf .bar0 0x110000 ∧
    (st []).d.hit .pf .bar0 0x110000 = .none :=
  ⟨by unfold State.serving; decide, test_asks _ _ (by decide), test_asks _ _ (by decide), by decide⟩
def run0 : Run := { item := ⟨[0, 0, 0, 0], 0, 0, 1, 1, 0, 0, none, none, false, false⟩, pc := 0 }
/-- Chuck 2 of tile 5 runs, in a partition of two banks. -/
def chk (c : Chuck) (l : List (Fld × Nat) := []) (r : Run := run0) : State :=
  st ((CUB_SEQ_PART_BANKS 5 2, 3) :: l) (fun d => (d.setTile 5 { cur := some 2 }).setChuck 22 { c with run := some r })

/-- Words that spell a command, from the tables of R159 and R160: the opcode in bits [7:0], FUNC or KIND above it. -/
def scalarWs : List (TileOp × W64) :=
  [(.sopAdd, 0x028), (.sopSub, 0x128), (.sopMul, 0x228), (.sopAnd, 0x328), (.sopOr, 0x428), (.sopXor, 0x528), (.sopShl, 0x628), (.sopShr, 0x728),
   (.sopMovi, 0x828), (.sopCmpeq, 0x928), (.sopCmplt, 0xA28), (.sopCmpltu, 0xB28)]
def vectorWs : List (TileOp × W64) :=
  [(.vopFadd, 0x0020), (.vopFsub, 0x0120), (.vopFmul, 0x0220), (.vopFma, 0x0320), (.vopFmin, 0x0420), (.vopFmax, 0x0520), (.vopFdiv, 0x0620),
   (.vopFsqrt, 0x0720), (.vopFexp, 0x0820), (.vopFlog, 0x0920), (.vopFrsqrt, 0x0A20), (.vopFtanh, 0x0B20), (.vopFrcp, 0x0C20),
   (.vopFcmplt, 0x1020), (.vopFcmple, 0x1120), (.vopFcmpeq, 0x1220), (.vopRsum, 0x1820), (.vopRmax, 0x1920), (.vopRmin, 0x1A20),
   (.vopIadd, 0x2020), (.vopIsub, 0x2120), (.vopAnd, 0x2220), (.vopOr, 0x2320), (.vopXor, 0x2420), (.vopShl, 0x2520), (.vopShr, 0x2620),
   (.vopSar, 0x2720), (.vopRol, 0x2820), (.vopMullo, 0x2920), (.vopMulhi, 0x2A20), (.vopMulhiu, 0x2B20), (.vopCvtf2i, 0x3020),
   (.vopCvti2f, 0x3120), (.vopMov, 0x3820), (.vopSel, 0x3920), (.vopLaneid, 0x3A20)]
theorem test_w_Scalar : (chk {}).serving ∧ ∀ e ∈ scalarWs, tileOp e.2 = some e.1 ∧ (chk {}).d.issues 5 2 true true [0x7FFFFF00, 0xFFFFFFFF] e.2 0 run0 := by
  unfold State.serving Dev.issues; decide
theorem test_w_Vector : ∀ e ∈ vectorWs, tileOp e.2 = some e.1 ∧ (chk {}).d.issues 5 2 true false VOP_USED e.2 0 run0 := by unfold Dev.issues; decide
/-- QMX to MXFP8 E4M3. -/
theorem test_w_Qmx : tileOp 0x180023 = some .qmx ∧ (chk {}).d.issues 5 2 true false QMX_USED 0x180023 0 run0 ∧ fmtIsMX (wfld [0x180023, 0] QMX_TFMT) = true ∧
    (let r := hull ((List.range 4).flatMap (fun _ => [(0, 31), (0, 0)]))
     hullTop r ≤ (chk {}).d.usable 22 ∧ ((chk {}).d.chuck 22).conflicts none r = false) := by unfold Dev.issues; decide
theorem test_w_VectorMemory : (∀ e ∈ ([(.vld, 0x21), (.vst, 0x22), (.qmx, 0x23)] : List (TileOp × W64)), tileOp e.2 = some e.1 ∧
      (chk {}).d.issues 5 2 true false VMEM_USED e.2 0 run0) ∧
    (let s := chk {}
     let a := (s.d.chuck 22).vmemAddr 0x21 0
     let n := efmtBytes (wfld [0x21, 0] VMEM_EFMT)
     wfld [0x21, 0] VMEM_EFMT ≠ 3 ∧ a % n = 0 ∧ a + 128 * n ≤ s.d.usable 22 ∧ (s.d.chuck 22).conflicts (some (a, a + 128 * n - 1)) none = false ∧
       (s.d.chuck 22).conflicts none (some (a, a + 128 * n - 1)) = false) := by unfold Dev.issues; decide
theorem test_w_Sequencer : tileOp 0 = some .nop ∧ (chk {}).d.issues 5 2 true true [0, 0] 0 0 run0 ∧ tileOp 0xFFFF10 = some .cfg ∧
    (chk {}).d.issues 5 2 true false CFG_USED 0xFFFF10 0xFFFFFFFF run0 ∧ tileOp 0x11 = some .cfgk ∧
    (chk {}).d.issues 5 2 true false [0, 0xFFFFFFFFFFFFFFFF] 0x11 0xFFFFFFFFFFFFFFFF run0 := by unfold Dev.issues; decide
theorem test_w_OperandRegisters : tileOp 0x18 = some .opa ∧ (chk {}).d.issues 5 2 true false OPAB_USED 0x18 0 run0 ∧ tileOp 0x19 = some .opb ∧
    (chk {}).d.issues 5 2 true false OPAB_USED 0x19 0 run0 ∧ tileOp 0x1A = some .opc ∧
    (chk {}).d.issues 5 2 true false OPC_USED 0x1A 0x80000000000 run0 ∧ wfld [0x1A, 0x800000000000] OPC_OUT_SHIFT ≤ 16 ∧ tileOp 3 = none ∧
    (chk {}).d.issues 5 2 true true [2 ^ 64 - 1, 2 ^ 64 - 1] 3 0 run0 := by unfold Dev.issues; decide
theorem test_w_Waits : (∀ e ∈ ([(.waitSemaphore, 0x10008), (.waitSemaphore, 8), (.waitMatrixDrain, 0x108), (.waitDma, 0x208)] : List (TileOp × W64)),
      tileOp e.2 = some e.1 ∧ (chk {}).d.issues 5 2 true false [0xFFFFFFFFFF00, 0] e.2 0 run0) ∧
    (chk {}).d.waitMet 5 2 (.sem (wfld [8, 0] WAITC_SEM) (wfld [8, 0] WAITC_VALUE)) = true ∧
    (chk {}).d.waitMet 5 2 (.sem (wfld [0x10008, 0] WAITC_SEM) (wfld [0x10008, 0] WAITC_VALUE)) = false ∧ (chk {}).d.waitMet 5 2 .matrix = true ∧ (chk {}).d.waitMet 5 2 .dma = true ∧
    (chk { dq := [⟨0, [], 0, false, false, false, none, [], false, 0, true⟩] }).d.waitMet 5 2 .dma = false := by unfold Dev.issues; decide
theorem test_w_Semrel : tileOp 0x1F009 = some .semrel ∧ (chk {}).d.issues 5 2 true true WAITC_USED 0x1F009 0 run0 ∧ wfld [0x1F009, 0] WAITC_SEM = 15 ∧
    wfld [0x1F009, 0] WAITC_VALUE = 1 ∧ wfld [0x1F009, 0] WAITC_KIND = 0 ∧ tileOp 0x18009 = some .semrel ∧
    (chk {} [] { run0 with committed := true }).d.issues 5 2 true true WAITC_USED 0x18009 0 { run0 with committed := true } ∧
    wfld [0x18009, 0] WAITC_SEM = 8 := by unfold Dev.issues; decide
theorem test_w_LoopsAndBranches : tileOp 0x40000829 = some .loop ∧ (chk {}).d.issues 5 2 true false LOOPC_USED 0x40000829 0 run0 ∧
    wfld [0x40000829, 0] LOOPC_BODY = 1 ∧ wfld [0x40000829, 0] LOOPC_COUNT = 2 ∧ tileOp 0x40000029 = some .loop ∧
    (chk { loops := [⟨1, 0, 32, 1⟩] }).d.issues 5 2 true false LOOPC_USED 0x40000029 0 run0 ∧ wfld [0x40000029, 0] LOOPC_COUNT = 0 ∧
    tileOp 0x82A = some .br ∧ (chk {}).d.issues 5 2 true false BRC_USED 0x82A 0 run0 ∧ wfld [0x82A, 0] BRC_ALWAYS = 1 := by unfold Dev.issues; decide
theorem test_w_Commit : (chk {}).d.waitMet 5 2 (.commit false) = true ∧ (chk {}).d.waitMet 5 2 (.commit true) = true ∧ run0.item.origin ≠ 2 ∧ run0.heldInc = [] ∧
    (chk { dq := [⟨0, [], 0, false, false, false, none, [], false, 0, true⟩] }).d.waitMet 5 2 (.commit false) = false ∧
    (chk { dq := [⟨0, [], 0, false, false, false, none, [], false, 0, true⟩] }).d.waitMet 5 2 (.commit true) = false ∧
    (chk { dq := [⟨0, [], 0, false, false, false, none, [], false, 0, true⟩] }).d.issues 5 2 true true [0, 0] 1 0 run0 ∧ tileOp 1 = some .end_ ∧ tileOp 2 = some .commit ∧
    (chk { dq := [⟨0, [], 0, false, false, false, none, [], false, 0, true⟩] }).d.issues 5 2 true false [0, 0] 2 0 run0 ∧
    (chk {}).d.issues 5 2 true false [0, 0] 2 0 run0 ∧
    (chk {} [] { run0 with committed := true }).d.issues 5 2 true true [0, 0] 1 0 { run0 with committed := true } := by unfold Dev.issues; decide
/-- M = N = 1, K = 2, FP32, written to local address 0x1000; with C from local address 0x2000. -/
def mmW : W64 := 0x201011B
def sMat (c : W64) : State := chk { opC := (0x4000000, c) }
theorem test_w_Matmul : (sMat 0).serving ∧ tileOp mmW = some .matmul ∧ tileOp 0x201001B = some .matmul ∧ (sMat 0).d.issues 5 2 true false MM_USED mmW 0 run0 ∧
    (sMat 0).d.issues 5 2 true false MM_USED 0x201001B 0 run0 ∧
    (let s := sMat 0
     let p := s.d.matParams 5 2 mmW 0
     p.illegal = none ∧ p.aligned = true ∧ p.empty = false ∧ hullTop (hull p.reads) ≤ s.d.usable 22 ∧ hullTop (hull p.writes) ≤ s.d.usable 22 ∧
      (s.d.chuck 22).mq.length < 4 ∧ (s.d.chuck 22).conflicts (hull p.reads) (hull p.writes) = false ∧ (s.d.matParams 5 2 0x201001B 0).empty = true ∧
      (s.d.matParams 5 2 0x201001B 0).illegal = none ∧ (s.d.matParams 5 2 0x201001B 0).aligned = true) := by unfold State.serving Dev.issues; decide
/-- The same with the operation queued, its set loaded, and its one step issued. -/
def opM (c : W64) (next : Nat) (i : Bool) : MOp := ⟨(sMat c).d.matParams 5 2 mmW 0, [next], [i], 0, none, []⟩
def sMq (c : W64) (next : Nat) (i : Bool) : State := chk { opC := (0x4000000, c), mq := [opM c next i] }
theorem test_w_Steps : (sMq 0 0 false).serving ∧ (sMq 0 0 false).d.cubeChuck 5 = some 2 ∧ activeOp [opM 0 0 false] = some 0 ∧
    pickStep [opM 0 0 false] 0 = some (0, 0) ∧ (opM 0 0 false).p.lanesOn 0 ≠ [] ∧ run0.inject = none := by unfold State.serving; decide
theorem test_w_Bubble : ({ opM 0 0 false with p := { (opM 0 0 false).p with maskK := 0 } } : MOp).p.lanesOn 0 = [] ∧
    pickStep [{ opM 0 0 false with p := { (opM 0 0 false).p with maskK := 0 } }] 0 = some (0, 0) := by decide
theorem test_w_CLoad : loadOp [opM 0x40000002000 0 false] = some 0 ∧ (opM 0x40000002000 0 false).inited.findIdx? (fun b => !b) = some 0 ∧
    (sMq 0x40000002000 0 false).d.cubeChuck 5 = some 2 := by decide
theorem test_w_Drain : (opM 0 1 true).p.nslices = 1 ∧ (opM 0 1 true).next.getD 0 0 = 1 ∧
    (({ opM 0 1 true with p := { (opM 0 1 true).p with n := 32, hold := 1 }, next := [1, 0], inited := [true, false] } : MOp)).p.nblocks = 2 := by decide
def it0 : Item := ⟨[3, 0x40, 0, 0], 0, 0, 1, 9, 0, 0, none, some 0, false, false⟩
/-- Context 3 lives on chuck 1 of tile 5; its item waits in the tile's list behind one whose context is away. -/
def sStart : State :=
  st [(LTH_STATUS_RUNNING, 1), (CUB_SEQ_PART_BANKS 5 1, 3), (LTH_CTX_VALID 3, 1), (LTH_CTX_RESIDENT 3, 1), (LTH_CTX_CHUCK 3, 1), (LTH_CTX_TILE 3, 5)]
    (fun d => (d.setTile 5 { list := [{ it0 with desc := [4, 0, 0, 0], seqNo := 8 }, it0] }).setChuck 21 { ctx := some 3, resident := true })
theorem test_w_ItemStart : sStart.serving ∧ sStart.d.radioRuns 5 = false ∧ sStart.d.lathe.inGuard = false ∧ (sStart.d.tile 5).withheld = false ∧
    sStart.d.tileDisabled 5 = false ∧ sStart.d.is LTH_STATUS_RUNNING = true ∧ (sStart.d.tile 5).cur = none ∧
    (∀ k < 4, (sStart.d.chuck (5 * 4 + k)).wait = none ∧ (sStart.d.chuck (5 * 4 + k)).run = none) ∧ sStart.d.ctxResident 4 = false ∧ sStart.d.ctxResident it0.ctx = true ∧
    sStart.d.ctxChuck it0.ctx = some 21 ∧ (sStart.d.chuck 21).run = none := by unfold State.serving; decide
def sRerun : State := chk {} [] { run0 with stopped := true, det := some none }
theorem test_w_Rerun : sRerun.serving ∧ (sRerun.d.tile 5).cur = some 2 ∧ (sRerun.d.chuck 22).dq = [] := by unfold State.serving; decide
def sRadio : State := st [] (fun d => d.setTile 5 { radio := [{ arrived := true }] })
theorem test_w_RadioItem : sRadio.serving ∧ sRadio.d.tileDisabled 5 = false ∧ (sRadio.d.tile 5).withheld = false ∧ sRadio.d.lathe.inGuard = false ∧ sRadio.d.radioRuns 5 = false ∧
    ((sRadio.d.tile 5).radio[0]?).map (fun x => (x.stage, x.arrived)) = some (0, true) := by unfold State.serving; decide
theorem test_w_Mirror : ((st [] (fun d => d.setTile 5 { mirror := 1 })).d.tile 5).mirror = 1 := by decide
theorem test_w_SeqFault : (dev []).is (CUB_SEQ_FAULT_VALID 5 2) = false ∧ (dev [(CUB_SEQ_FAULT_VALID 5 2, 1)]).is (CUB_SEQ_FAULT_VALID 5 2) = true := by decide
/-- A descriptor at local address 0: 16 bytes from 0x100 to 0x200 of the partition, then semaphore 1. -/
def ddW : Words := [0x100, 0x200, 0x100010, 0x4400000000]
def sDma : State := st [(CUB_SEQ_PART_BANKS 5 2, 3)] (fun d => ((d.setTile 5 { cur := some 2 }).setChuck 22 { run := some run0 }).localWrites 22
  ((wordsBytes ddW).zipIdx.map (fun b => (b.2, b.1.toNat))))
theorem test_w_Dma : sDma.serving ∧ tileOp 0x1000000030 = some .dma ∧
    sDma.d.issues 5 2 true true [0x7FFFFFFCF00, 0] 0x1000000030 0 run0 ∧ wfld [0x1000000030, 0] DMAC_COUNT = 1 ∧ wfld [0x1000000030, 0] DMAC_KIND = 0 ∧
    sDma.d.descAt 22 0 = ddW ∧ sDma.d.descIllegal 22 false ddW = none ∧ descsConflict (sDma.d.chuck 22) [ddW] = false := by
  unfold State.serving Dev.issues; decide
def dop (started : Bool) : DmaOp := ⟨0, ddW, 0, false, started, false, none, [], false, 0, true⟩
theorem test_w_DmaOps : (chk { dq := [dop false] }).serving ∧ (chk { dq := [dop true] }).serving ∧ wfld ddW DD_SEM_EN = 1 ∧ wfld ddW DD_SEM = 1 ∧
    ((chk { dq := [dop true] }).d.tile 5).cur = some 2 := by unfold State.serving; decide
def runC : Run := { run0 with committed := true }
theorem test_w_Notify : tileOp 0x1000000038 = some .notifyServingRecord ∧ (chk {} [] runC).d.issues 5 2 false true DMAC_USED 0x1000000038 4 runC ∧
    tileOp 0x1000000138 = some .notifyInterrupt ∧ (chk {} [] runC).d.issues 5 2 false true DMAC_USED 0x1000000138 4 runC ∧ (chk {} [] runC).d.ctxInst 0 = 0 ∧
    wfld [0x1000000038, 4] DMAC_COUNT = 1 ∧ (chk {} [] runC).serving := by unfold State.serving Dev.issues; decide
/-- A writable object of one extent of tier 1. -/
def objF (o x inst : Nat) : List (Fld × Nat) :=
  [(OBJ_VALID o, 1), (OBJ_WRITABLE o, 1), (OBJ_BASE o, x * 2 ^ 20), (OBJ_EXTENTS o, 1), (OBJ_INSTANCE o, inst), (TMAP_TIER x, 1), (TMAP_WRITABLE x, 1),
    (TMAP_OBJECT x, o)]
/-- A completion ring of 16 entries of an instance in extent 1. -/
def cqF (i : Nat) : List (Fld × Nat) := objF 1 1 i ++ [(CQ_CFG_EN i, 1), (CQ_CFG_BASE i, 0x100), (CQ_CFG_ORDER i, 4)]

def sAir : State := st [(LTH_CTRL_RUN, 1)] (fun d => { d with rad := { d.rad with cells := [(0, { first := 0 })] } })
theorem test_w_LatheRun : (st []).d.asks .pf .bar0 0x40000 ∧ sAir.serving ∧ sAir.d.asks .pf .bar0 0x40008 ∧ sAir.d.get LTH_CTRL_RUN = 1 ∧ sAir.d.rad.cells ≠ [] :=
  ⟨test_asks _ _ (by decide), by unfold State.serving; decide, test_asks _ _ (by decide), by decide⟩
theorem test_w_Boundary : (st []).d.lathe.inGuard = false ∧ (st [] (fun d => { d with lathe := { d.lathe with inGuard := true } })).serving ∧
    (st [] (fun d => { d with lathe := { d.lathe with inGuard := true } })).d.lathe.inGuard = true := by unfold State.serving; decide
/-- A run to cut, an item that waits for its predecessor, and one that waits for its tile: the parts of TickBoundaryRunsInOrder. -/
def sPend (it : Item) (l : List (Fld × Nat)) (g : Lathe → Lathe := id) (tl : Tile := {}) : Dev :=
  (st ([(LTH_CTX_VALID 3, 1), (LTH_CTX_RESIDENT 3, 1), (LTH_CTX_CHUCK 3, 1), (LTH_CTX_TILE 3, 5)] ++ l)
    (fun d => (({ d with lathe := g { d.lathe with pend := [it], ticks := 4 } } : Dev).setTile 5 tl).setChuck 21 { ctx := some 3, resident := true })).d
def itW : Item := { it0 with released := none, desc := [3, 5 * 2 ^ 16 + 1, 0, 0] }
def pred (status : Option Nat) : Dev := sPend { itW with desc := mkWords 4 [(ITEM_CONTEXT, 3), (ITEM_CHAIN, 5), (ITEM_INDEX, 1)] } []
  (fun l => { l with chains := [⟨0, 0, 5, 0, status⟩] })
theorem test_w_Cuts : (let d : Dev := (st [] (fun d => d.setChuck 20 { run := some run0 })).d
     (d.chuck 20).run = some run0 ∧ run0.committed = false ∧ run0.item.origin ≠ 2 ∧ (d.tiles.map (·.1)).Nodup) ∧
    (let it : Item := { it0 with cuts := 2, cutAt := some 3 }
     let e := (itemPost [] (sPend it []) it 5 stDEFERRED it.attempt).bump LTH_CUT_CNT_COUNT 1
     3 ≤ (if it.cutAt.map (· + 1) = some e.lathe.ticks then it.cuts else 0) + 1) ∧
    (sPend it0 []).lathe.pend = [it0] ∧ it0.released.isSome = true ∧ itW.released = none := by decide +kernel
theorem test_w_Release : (sPend itW []).predecessor itW = none ∧
    (∀ st ∈ [none, some stOK, some stABORTED], let d := pred st
     ∃ it ∈ d.lathe.pend, it.released = none ∧ (d.predecessor it).map ChainRec.status = some st) := by decide
theorem test_w_Lists : (let d := sPend it0 [(LTH_STATUS_RUNNING, 1)]
     d.lathe.pend = [it0] ∧ d.get (LTH_CTX_TILE it0.ctx) = 5 ∧ d.ctxResident 3 = true ∧ (d.tile 5).withheld = false ∧ d.tileDisabled 5 = false ∧ d.tls.cures = [] ∧
       d.lathe.dropped = [] ∧ (d.tile 5).list.length < 64 ∧ listCycles (d.tile 5).list + wfld it0.desc ITEM_CYCLE_BOUND ≤ d.inferCycles 5) ∧
    (sPend { it0 with desc := [4, 0, 0, 0] } []).ctxResident 4 = false ∧
    (let it : Item := { it0 with desc := mkWords 4 [(ITEM_CONTEXT, 3), (ITEM_CYCLE_BOUND, 2 ^ 20 - 1)] }
     (sPend it []).inferCycles 5 < wfld it.desc ITEM_CYCLE_BOUND) ∧
    (sPend it0 [] id { list := List.replicate 64 it0 }).inferCycles 5 ≥ 0 ∧ 64 ≤ ((sPend it0 [] id { list := List.replicate 64 it0 }).tile 5).list.length := by decide
theorem test_w_Brings : (let d := (sPend it0 [(LTH_CTX_BANKS 4, 2), (LTH_CTX_TILE 4, 6), (LTH_CTX_VALID 4, 1)])
     d.freeChuckOf (d.get (LTH_CTX_TILE 4)) = some 0 ∧ (lowestBanks (d.banksUsed (d.get (LTH_CTX_TILE 4))) (d.get (LTH_CTX_BANKS 4))).isSome = true) := by decide
theorem test_w_Covers : (∀ st ∈ [1, 2, 3], (dev [(CUB_ROW_MAP_STATE 0, st)]).get (CUB_ROW_MAP_STATE 0) = st) ∧ (dev []).tls.cures = [] ∧
    (dev []).get (CUB_TILE_PHYS_PCOL 5) < 21 ∧ (dev []).unitFaulty (physUnit 5 5) = false ∧ 5 ∉ (dev []).tls.coverFail ∧ (dev []).swapping 5 = false ∧
    5 ∈ (sTls0 { coverFail := [5] }).tls.coverFail := by decide
theorem test_w_Queues : (dev [(SRV_Q_BURST_BURST 1024, 100)]).get (SRV_Q_BURST_BURST 1024) < 2 ^ 24 ∧ (dev []).get (SRV_Q_CREDIT_CREDIT 1024) < 2 ^ 32 ∧
    (dev []).is SRV_STATUS_RUNNING = false ∧ (dev []).is (SRV_PROF_CFG_VALID 0) = false ∧ (dev []).paired 2 = false ∧
    (let d := dev [(TLS_PAIR_VALID 2, 1), (actF (RAD_CELL_VALID 2), 1), (TLS_PAIR_CLASS_DIFF 2, 1)]
     d.paired 2 = true ∧ d.is (TLS_PAIR_CLASS_DIFF 2) = true) ∧
    (let d := dev [(PRT_CTRL_EN, 1), (PRT_CTRL_LEASE, 5)]
     d.is PRT_CTRL_EN = true ∧ d.leaseOver = false ∧ (dev []).is PRT_CTRL_EN = false ∧ ({ d with fpl := { d.fpl with lease := some 6 } } : Dev).leaseOver = true) := by decide
/-- DET_STRICT changes the class, whatever the stepping and the speed grade are. -/
theorem test_w_ClassChange : (dev [(FPL_DET_CFG_DET_STRICT, 1)]).classBoundary.replayClass ≠ (dev [(FPL_DET_CFG_DET_STRICT, 1)]).replayClass := by
  have low (d : Dev) (n : Nat) (h1 : d.get FPL_REPLAY_CLASS_DET_STRICT = n) (h2 : d.is FPL_BOOT_STATUS_FACTORY_BAD = false)
      (h3 : d.get FPL_REPLAY_CLASS_FW_VERSION = 0) : d.replayClass = Config.stepping.toNat + Config.speed.toNat * 2 ^ 8 + n * 2 ^ 12 +
        d.get FPL_REPLAY_CLASS_DIS_HASH * 2 ^ 32 := by
    simp [Dev.replayClass, h1, h2, h3]
  have old := low (dev [(FPL_DET_CFG_DET_STRICT, 1)]) 0 (by decide) (by decide) (by decide)
  have mid := low (((dev [(FPL_DET_CFG_DET_STRICT, 1)]).set FPL_REPLAY_CLASS_DET_STRICT 1).set FPL_REPLAY_CLASS_DIS_HASH (dev [(FPL_DET_CFG_DET_STRICT, 1)]).disHash) 1
    (by decide +kernel) (by decide +kernel) (by decide +kernel)
  have ne : (((dev [(FPL_DET_CFG_DET_STRICT, 1)]).set FPL_REPLAY_CLASS_DET_STRICT 1).set FPL_REPLAY_CLASS_DIS_HASH
      (dev [(FPL_DET_CFG_DET_STRICT, 1)]).disHash).replayClass ≠ (dev [(FPL_DET_CFG_DET_STRICT, 1)]).replayClass := by
    intro h; have k := mid.symm.trans (h.trans old); omega
  have get : (dev [(FPL_DET_CFG_DET_STRICT, 1)]).get FPL_DET_CFG_DET_STRICT = 1 := by decide
  have new := low (dev [(FPL_DET_CFG_DET_STRICT, 1)]).classBoundary 1 (by simp [Dev.classBoundary, get, Dev.classChange, ne]; decide +kernel)
    (by simp [Dev.classBoundary, get, Dev.classChange, ne]; decide +kernel) (by simp [Dev.classBoundary, get, Dev.classChange, ne]; decide +kernel)
  intro h; have k := new.symm.trans (h.trans old); omega
theorem test_w_Followers : (st [(LTH_TICK_CFG_SYNC_MODE, 2)]).serving ∧ (st [(LTH_TICK_CFG_SYNC_MODE, 2)]).d.get LTH_TICK_CFG_SYNC_MODE = 2 ∧
    (st [(LTH_TICK_CFG_SYNC_MODE, 2), (LTH_STATUS_SYNC_LOST, 1)]).d.get LTH_STATUS_SYNC_LOST = 1 ∧ (st []).d.get LTH_TICK_CFG_SYNC_MODE ≠ 2 ∧
    (let s := st [(LTH_TICK_CFG_SYNC_MODE, 2), (LTH_SYNC_CFG_LOSS_EDGES, 3)] (fun d => { d with lathe := { d.lathe with missed := 3 } })
     s.serving ∧ s.d.get LTH_SYNC_CFG_LOSS_EDGES ≤ s.d.lathe.missed ∧ s.d.get LTH_STATUS_SYNC_LOST ≠ 1) ∧
    (st [(LTH_TICK_CFG_SYNC_MODE, 2)]).d.lathe.ticks = 0 ∧
    (let s := st [(LTH_TICK_CFG_SYNC_MODE, 2)] (fun d => { d with lathe := { d.lathe with ticks := 1 } })
     s.serving ∧ s.d.get LTH_TICK_CFG_SYNC_MODE = 2 ∧ s.d.lathe.ticks ≠ 0) := by unfold State.serving; decide
def sCtx : State := st ([(LTH_CTX_TILE 3, 319), (LTH_CTX_BANKS 3, 2), (LTH_CTX_SAVE_HOME 3, 2 ^ 20)] ++ objF 1 1 0)
def sCtxV : State := st ([(LTH_CTX_VALID 3, 1), (LTH_CTX_TILE 3, 319), (LTH_CTX_BANKS 3, 2), (LTH_CTX_SAVE_HOME 3, 2 ^ 20)] ++ objF 1 1 0)
theorem test_w_ItemSubmission : sCtxV.serving ∧ sCtxV.d.itemBad (.host 0) [3, 0, 0, 0] = false ∧ wfld [3, 0, 0, 0] ITEM_CYCLE_BOUND ≤ sCtxV.d.inferCycles 319 ∧
    sCtxV.d.itemBad (.host 1) [3, 0, 0, 0] = true ∧ sCtxV.d.inferCycles 319 < wfld [3, 0xFFFFF00000000, 0, 0] ITEM_CYCLE_BOUND := by unfold State.serving; decide
theorem test_w_RadioSubmission : (let s := st [(actF (LTH_RADIO_TILE_VALID 5), 1)]
     let ws : Words := [0, 0x10000000000000, 0x6000000, 0]
     s.serving ∧ reservedSet ws ITEM_USED = false ∧ wfld ws ITEM_RADIO = 1 ∧ s.d.is (actF (LTH_RADIO_TILE_VALID 5)) = true ∧
       wfld ws ITEM_CYCLE_BOUND + wfld ws ITEM_RELEASE + 96 ≤ wfld ws ITEM_DEADLINE ∧ wfld [0, 0, 0, 0] ITEM_RADIO ≠ 1 ∧
       wfld [0, 0x10000000000000, 0x100000, 0] ITEM_DEADLINE < wfld [0, 0x10000000000000, 0x100000, 0] ITEM_CYCLE_BOUND + 96 ∧
       s.d.is (actF (LTH_RADIO_TILE_VALID 4)) = false) := by unfold State.serving; decide
theorem test_w_ContextCommands : sCtx.serving ∧ sCtx.d.asks .pf .bar0 0x40048 ∧ sCtx.d.lathe.cmdQ = [] ∧ sCtx.d.loadRefused 3 = false ∧
    sCtx.d.loadRefused 4 = true ∧ sCtxV.d.is (LTH_CTX_VALID 3) = true ∧ sCtxV.d.lathe.dropped = [] ∧ sCtx.d.asks .pf .bar0 0x40050 :=
  ⟨by unfold State.serving; decide, test_asks _ _ (by decide), by decide, by decide, by decide, by decide, by decide, test_asks _ _ (by decide)⟩
def sRemove : State := st [(LTH_CTX_VALID 3, 1)] (fun d => { d with lathe := { d.lathe with dropped := [(3, 1, true)] } })
theorem test_w_CtxRemoval : sRemove.serving ∧ sRemove.d.lathe.dropped.find? (fun e => e.1 == 3 && e.2.2) = some (3, 1, true) ∧ sRemove.d.ctxBusy 3 = false ∧
    sRemove.d.lathe.swaps = [] ∧ sRemove.d.lathe.claims = [] ∧ sRemove.d.lathe.cmdQ = [] ∧
    (let s := st [(LTH_CTX_VALID 3, 1)] (fun d => { d with lathe := { d.lathe with dropped := [(3, 1, true)], cmdQ := [(3, 3, 9, false)] } })
     s.serving ∧ s.d.lathe.cmdQ = [(1 + 2, 3, 9, false)] ∧ s.d.lathe.dropped.find? (fun e => e.1 == 3 && e.2.2) = some (3, 1, true) ∧ s.d.ctxBusy 3 = false) ∧
    (let s := st ([(LTH_CTX_VALID 3, 1), (LTH_CTX_SAVE_HOME 3, 2 ^ 20)] ++ objF 1 1 0)
        (fun d => { d with lathe := { d.lathe with dropped := [(3, 0, true)], cmdQ := [(2, 3, 9, false)] } })
     s.serving ∧ s.d.lathe.cmdQ = [(0 + 2, 3, 9, false)] ∧ s.d.lathe.dropped.find? (fun e => e.1 == 3 && e.2.2) = some (3, 0, true) ∧
       s.d.ctxBusy 3 = false ∧ s.d.saveHomeOk 3 = true) := by unfold State.serving; decide
def sSwap (out : Bool) : State :=
  st ([(LTH_CTX_VALID 3, 1), (LTH_CTX_TILE 3, 319), (LTH_CTX_BANKS 3, 2), (LTH_CTX_SAVE_HOME 3, 2 ^ 20)] ++ objF 1 1 0)
    (fun d => { d with lathe := { d.lathe with swaps := [⟨3, 319, 3, out⟩] } }.setChuck 1279 { ctx := some 3 })
theorem test_w_Swaps : (sSwap false).serving ∧ ((sSwap false).d.upsets []).lathe.swaps.find? (fun y => y.ctx == 3 && !y.out) = some ⟨3, 319, 3, false⟩ ∧
    ((sSwap false).d.upsets []).saveHomeOk 3 = true ∧
    (readRange [] ((sSwap false).d.upsets []) (2 ^ 20) (((sSwap false).d.upsets []).nbanks 1279 * 196608) .consumer).2.1 ≠ .held ∧
    (sSwap true).d.lathe.swaps.find? (fun y => y.ctx == 3 && y.out) = some ⟨3, 319, 3, true⟩ := by unfold State.serving; decide
def sQuantum : State := st [(LTH_CTX_VALID 3, 1), (LTH_CTX_TILE 3, 319), (LTH_SWAP_CFG_QUANTUM, 4)]
  (fun d => { d with lathe := { d.lathe with pend := [it0], waited := [(3, 4)] } })
theorem test_w_Quantum : sQuantum.serving ∧ sQuantum.d.get LTH_SWAP_CFG_QUANTUM ≤ sget sQuantum.d.lathe.waited 3 0 ∧ 3 ∈ sQuantum.d.runnable ∧ 3 ∉ sQuantum.d.lathe.widened ∧
    sget sQuantum.d.lathe.waited 4 0 < sQuantum.d.get LTH_SWAP_CFG_QUANTUM ∧ 3 ∉ (st [(LTH_SWAP_CFG_QUANTUM, 4)]).d.runnable :=
  ⟨by unfold State.serving; decide, by decide, by unfold Dev.runnable Dev.waiting; rw [List.mem_filter, List.mem_mergeSort]; decide, by decide, by decide,
    by unfold Dev.runnable Dev.waiting; rw [List.mem_filter, List.mem_mergeSort]; decide⟩
theorem test_w_Deadlines : (let s := st [(LTH_TICK_COUNT_COUNT, 3)] (fun d => { d with rad := { d.rad with cells := [(7, { first := 0 })] } }.setTile 5 { radio := [{ stage := 1 }, { stage := 2 }, { stage := 5 }] }
       |>.setG 7 { item := some (true, 1, 5) })
     s.serving ∧ ((s.d.tile 5).radio[0]?).map (·.stage) = some 1 ∧ ((s.d.tile 5).radio[1]?).map (·.stage) = some 2 ∧ (s.d.gcore 7).item = some (true, 1, 5) ∧
       ((sfind s.d.rad.cells 7).map (fun r => decide (r.first + 3 ≤ s.d.tick))) = some true ∧
       ((sfind s.d.rad.cells 7).map (fun r => decide (r.first < s.d.tick))) = some true ∧ s.d.codingRan 7 true = false ∧ s.d.codingRan 7 false = false ∧
       ((s.d.tile 5).radio[2]?).map (·.stage) = some 5) ∧
    (let s := st [(LTH_TICK_COUNT_COUNT, 3)] (fun d => { d with rad := { d.rad with cells := [(7, { first := 2 })] } })
     s.serving ∧ ((sfind s.d.rad.cells 7).map (fun r => decide (r.first + 3 ≤ s.d.tick))) = some false) := by
  unfold State.serving; decide
/-- A cell on air whose MOD and DEMOD items of the tick are listed and not started. -/
def sGougeDue : State := st [(LTH_TICK_COUNT_COUNT, 9), (GGC_CTRL_EN, 1), (actF (RAD_CH_UL_EN 2241), 1), (actF (RAD_CH_DL_EN 2242), 1)]
  (fun d => { d with rad := { d.rad with cells := [(7, { first := 0 })] } })
theorem test_w_GougeDeadlines : sGougeDue.serving ∧ (sGougeDue.d.gcore 7).item = none ∧ (sGougeDue.d.gcore 7).ran = [] ∧ sGougeDue.d.gougeList 7 = (true, true) ∧
    sGougeDue.d.gougeUp 7 = true ∧ (sGougeDue.d.gougeList 8) = (false, false) := by unfold State.serving; decide
theorem test_w_AccessTypes : (st []).d.asks .pf .bar0 0x81004 ∧ (findRow 0x81004).isSome = true ∧
    (st []).d.hit .pf .bar0 0x81000 = (match findRow 0x81000 with | some r => .reg r.1 r.2 false | none => .none) ∧
    ((findRow 0x8102C).map (fun r => (r.1.is64, decide (0x80000 ≤ r.1.base ∧ r.1.base < 0x100000)))) = some (false, true) ∧
    ((findRow 0x81010).map (fun r => r.1.is64)) = some true ∧ ((findRow 0x81014).map (fun r => r.1.is64)) = some true :=
  ⟨test_asks _ _ (by decide), by decide, by decide, by decide, by decide, by decide⟩
def sVf : State := st [(VIR_STATUS_VF_EN, 1), (VIR_STATUS_NUM_VFS, 2), (VIR_INST_SEQ_SEQ_COUNT 2, 4), (VIR_INST_SEQ_SEQ_BASE 2, 100)]
theorem test_w_VfView : sVf.serving ∧ sVf.d.vfLive 2 = true ∧ 3 < sVf.d.get (VIR_INST_SEQ_SEQ_COUNT 2) ∧ 64 * sVf.d.get (VIR_INST_SEQ_SEQ_COUNT 2) ≤ 256 ∧
    sVf.d.get (VIR_INST_SEQ_SEQ_BASE 2) + 3 < 65536 := by unfold State.serving; decide
/-- Instance 0 has one entry of the given kind waiting in its submission ring in extent 1. -/
def sSq (kind : Byte) : State := st (objF 1 1 0 ++ [(INST_STATUS_STATE 0, 1), (SQ_CFG_EN 0, 1), (SQ_CFG_BASE 0, 0x100), (SQ_CFG_ORDER 0, 4), (SQ_PROD_V 0, 1)]) id
  [((dev (objF 1 1 0)).physAt (2 ^ 20), kind)]
theorem test_w_Sq : (sSq 1).serving ∧ (sSq 1).d.pages .pf 0 ∧ (sSq 1).d.resetting 0 = false ∧
    (sqFetch (sSq 1).mem (sSq 1).d 0).2.map sqKind = some 1 ∧ (sqFetch (sSq 3).mem (sSq 3).d 0).2.map sqKind = some 3 ∧
    (sqFetch [] (st []).d 0).2 = none ∧
    (sqFetch (sSq 2).mem (sSq 2).d 0).2.map (fun x => (x.take 4).map BitVec.toNat) = some [2, 0, 0, 0] ∧
    ringUsed 17 ((sSq 1).d.get (SQ_CONS_V 0)) > 2 ^ (sSq 1).d.get (SQ_CFG_ORDER 0) ∧ ringUsed 16 ((sSq 1).d.get (SQ_CONS_V 0)) ≤ 2 ^ (sSq 1).d.get (SQ_CFG_ORDER 0) :=
  ⟨by unfold State.serving; decide, test_pages _ (by decide), by decide, by decide, by decide, by decide, by decide, by decide, by decide⟩
def dReq : Dev := dev (objF 1 1 0 ++ [(SRV_STATUS_RUNNING, 1), (VIR_INST_SEQ_SEQ_COUNT 0, 8), (SRV_Q_CTRL_VALID 1024, 1), (SRV_Q_BURST_BURST 1024, 100),
  (SRV_KV_CFG_TOTAL, 100), (SRV_PROF_LIMIT_PREFILL_TOKENS 0, 100), (SRV_PROF_LIMIT_MAX_CTX 0, 100), (SRV_PROF_CFG_VALID 0, 1), (SRV_PROF_CFG_TPB 0, 16)])

def wsReq : Words := [0x400000, 0, 0x100000, 1, 0, 0, 0x100000 + 7 * 2 ^ 41, 0]
theorem test_w_AcceptedSubmission : dReq.reqRefused 0 wsReq = false ∧ dReq.reqRefused 1 wsReq = true ∧ (dReq.reqRefused 0 [0x400000, 0, 0x100000, 0, 0, 0, 7 * 2 ^ 41, 0]) = true := by
  decide
/-- Entry 7 of instance 0 in the given state, with its completion ring. -/
def sSeq (state : Nat) (l : List (Fld × Nat) := []) : State :=
  st (cqF 0 ++ [(SEQ_STATE 7, state), (SEQ_SGEN 7, 9), (SEQ_STEP_CNT 7, 3), (SEQ_MAX_NEW 7, 4), (SRV_PROF_LIMIT_MAX_CTX 0, 100)] ++ l)
def tokW (step : Nat) : Words := mkWords 2 [(NTF_SEQ, 7), (NTF_SGEN, 9), (NTF_STEP_CNT, step)]
def fitsW (s : State) (ws : Words) : Bool :=
  decide (s.d.get (SEQ_STATE (wfld ws NTF_SEQ)) = sqACTIVE ∧ wfld ws NTF_SGEN = s.d.get (SEQ_SGEN (wfld ws NTF_SEQ)) ∧
    wfld ws NTF_STEP_CNT = s.d.get (SEQ_STEP_CNT (wfld ws NTF_SEQ)))
theorem test_w_Tokens : (sSeq sqACTIVE).serving ∧ fitsW (sSeq sqACTIVE) (tokW 3) = true ∧ fitsW (sSeq sqACTIVE) (tokW 2) = false ∧
    (sSeq sqACTIVE).d.cqReady 0 2 ∧ sget (sSeq sqACTIVE).d.srv.gens 7 ((sSeq sqACTIVE).d.igen 0) = (sSeq sqACTIVE).d.igen 0 ∧
    (sSeq sqACTIVE).d.get (SEQ_ABORT_REQ 7) ≠ 1 := by unfold State.serving Dev.cqReady Dev.linePlain; decide
/-- Tile 5 has sent the record of STEP_CNT 2 and then that of STEP_CNT 3. -/
def sInbox : State := st [] (fun d => { d with srv := { d.srv with inbox := [tokW 2 ++ [0, 5], tokW 3 ++ [0, 5]] } })
theorem test_w_RecordOrder : sInbox.serving ∧ (sSeq sqACTIVE).d.srv.inbox = [] ∧ (∀ e ∈ [2, 3], (tokW e).length = 2) ∧
    (let w (n : Nat) : W64 × W64 := ((tokW n).headD 0, (tokW n).getLastD 0)
     (sInbox.d.nextRecord (w 2).1 (w 2).2).isSome = true ∧ ¬ sInbox.d.recordArrives (w 3).1 (w 3).2) := by
  unfold State.serving Dev.recordArrives; decide
theorem test_w_Aborts : (sSeq sqQUEUED).d.asks .pf .bar0 0x100040 ∧ (0x90007 : W64).toNat < 2 ^ 24 ∧ (sSeq sqQUEUED).d.cqReady 0 2 ∧
    (sSeq sqQUEUED).d.get (SEQ_ADAPTER 7) < 4096 ∧ (0x90007 : W64).toNat / 65536 = (sSeq sqQUEUED).d.get (SEQ_SGEN 7) ∧
    (sSeq sqPENDING).d.get (SEQ_PAGES 7) = 0 ∧ (sSeq sqPENDING [(SEQ_PAGES 7, 1)]).d.get (SEQ_PAGES 7) ≠ 0 :=
  ⟨test_asks _ _ (by decide), by unfold Dev.cqReady Dev.linePlain; decide⟩
def sStep : State := st [(SEQ_STATE 7, sqACTIVE), (SEQ_SGEN 7, 9)] (fun d => { d with srv := { d.srv with steps := [⟨2, 0, [⟨7, 9, true, false⟩], 0, true⟩] } })
theorem test_w_StepEnd : sStep.serving ∧ sStep.d.srv.steps.any (fun x => x.prof == 2 && x.left == 0) = true ∧ sStep.d.get (SEQ_STATE 7) = sqACTIVE ∧
    sStep.d.get (SEQ_SGEN 7) = 9 ∧ sStep.d.get (SEQ_ABORT_REQ 7) ≠ 1 ∧ sStep.d.get (SEQ_FAILS 7) < 2 := by unfold State.serving; decide
def kvF : List (Fld × Nat) := objF 1 1 0 ++ [(SRV_KV_CFG_TOTAL, 1), (SRV_KV_BASE_BASE, 16), (SRV_KV_LIST_BASE, 0x110000)]
def okSrv (s : State) : Bool := s.d.srvMemoryOk && (List.range 16).all (fun p => !s.d.is (SRV_PROF_CFG_VALID p) || s.d.stepBufOk p)
def sDis (steps : List StepRec) : State := st [(SRV_STATUS_RUNNING, 1), (SRV_CTRL_EN, 1)] (fun d => { d with srv := { d.srv with disable := true, steps := steps } })
theorem test_w_ServingControl : (st []).serving ∧ okSrv (st [(SRV_KV_CFG_TOTAL, 1)]) = false ∧ okSrv (st kvF) = true ∧ (st kvF).d.pagedSeqs = [] ∧
    (st []).d.asks .pf .bar0 0x100000 ∧ (sDis []).d.get SRV_CTRL_EN = 1 ∧ (sDis []).d.srv.disable = true ∧ (sDis []).d.srv.steps = [] ∧
    (sDis [⟨2, 0, [], 1, false⟩]).d.srv.steps ≠ [] ∧ (st []).d.srv.disable = false ∧ ¬ (sDis []).d.lathe.ticks ≠ 0 ∧
    (let s := st [] (fun d => { (sDis []).d with lathe := { d.lathe with ticks := 1, boundaryT := d.T } })
     s.serving ∧ s.d.lathe.ticks ≠ 0 ∧ s.d.T = s.d.lathe.boundaryT ∧ s.d.srv.disable = true ∧ s.d.srv.steps = []) :=
  ⟨by unfold State.serving; decide, by decide, by decide, by decide, test_asks _ _ (by decide), by unfold State.serving; decide⟩
def sProf : State := st [(SRV_PROF_CFG_VALID 2, 1), (SEQ_STATE 7, sqRUNNING), (SEQ_PROFILE 7, 2), (SRV_ADAPTER_REFS 5, 1)]
theorem test_w_QueuesAdaptersProfiles : (st []).serving ∧ (st []).d.asks .pf .bar0 (queueOff 0 .burst) ∧ (∀ e ∈ (st []).d.queueOf 1024, (st []).d.cost e ≤ 5) ∧
    sProf.d.asks .pf .bar0 (0x150000 + 32 * 5 + 8 * 1) ∧ sProf.d.get (SRV_ADAPTER_REFS 5) ≠ 0 ∧ (st []).d.get (SRV_ADAPTER_REFS 5) = 0 ∧
    (st []).d.get (SRV_ADAPTER_A_FMT 5) < 16 ∧ (st []).d.get (SRV_ADAPTER_B_FMT 5) < 16 ∧ sProf.d.asks .pf .bar0 (0x100100 + 32 * 2) ∧
    sProf.d.get (SRV_PROF_CFG_VALID 2) = 1 ∧ (∃ q ∈ sProf.d.liveSeqs, sProf.d.get (SEQ_PROFILE q) = 2) ∧ (st []).d.get (SRV_PROF_CFG_VALID 2) ≠ 1 ∧
    (st []).d.get SRV_CTRL_EN ≠ 1 ∧ (st [(SRV_CTRL_EN, 1)]).d.stepBufOk 2 = false :=
  ⟨by unfold State.serving; decide, test_asks _ _ (by decide), by unfold Dev.queueOf; intro e h; rw [List.mem_mergeSort] at h; revert e; decide,
    test_asks _ _ (by decide), by decide, by decide, by decide, by decide,
    test_asks _ _ (by decide), by decide, ⟨7, by decide, by decide⟩, by decide, by decide, by decide⟩
def objWords (op o first count tier : Nat) : Words :=
  mkWords 3 [(MCMD_OP, op), (MCMD_OBJECT, o), (MCMD_TAG, 5), (MCMD_FIRST, first), (MCMD_COUNT, count), (MCMD_TIER, tier), (MCMD_STACK_MASK, 0xFFFF)]
def sNew : State := st [(OBJ_WRITABLE 1, 1), (OBJ_BASE 1, 2 ^ 20), (OBJ_EXTENTS 1, 2), (OBJ_PREF_TIER 1, 2), (OBJ_STACK_MASK 1, 8), (MEM_STACK_FREE_T2_FREE 3, 9)]
def sObj : State := st (objF 1 1 0)
def sOrg : State := st (objF 1 1 0 ++ [(OBJ_WRITABLE 1, 0), (TMAP_WRITABLE 1, 0)])
theorem test_w_ObjectCommands : sNew.serving ∧ sNew.d.asks .pf .bar0 0x180020 ∧ sNew.d.mem.queue = [] ∧ sNew.d.mem.running = none ∧
    reservedSet [256, 0, 0] MCMD_USED = true ∧ sObj.d.get (OBJ_VALID 1) = 1 ∧ sNew.d.get (OBJ_VALID 1) ≠ 1 ∧
    (allocSlots 2 8 2 sNew.d none []).isSome = true ∧ (∀ k < 2, sNew.d.get (TMAP_TIER (extOf (sNew.d.get (OBJ_BASE 1)) + k)) = 0) ∧
    sNew.d.get (OBJ_ORIGIN_KIND 1) = 0 ∧ sObj.d.wmap 1 = 0 ∧ sObj.d.adapterNames 1 = false ∧ sObj.d.srvMaps 1 = false ∧
    (∀ x ∈ sObj.d.objExts 1, sObj.d.get (TMAP_MIGRATING x) ≠ 1 ∧ sObj.d.get (TMAP_REFETCH x) ≠ 1 ∧ sObj.d.get (TMAP_STACK x) < 16) ∧
    sOrg.d.get (OBJ_WRITABLE 1) ≠ 1 ∧ (∀ x ∈ sOrg.d.objExts 1, sOrg.d.get (TMAP_TIER x) < 3 ∧ sOrg.d.get (TMAP_REFETCH x) ≠ 1) ∧
    reservedSet (objWords 4 1 0 0 3) MCMD_USED = false ∧ peerOriginBad 0 1 = false :=
  ⟨by unfold State.serving; decide, test_asks _ _ (by decide), by decide +kernel⟩
theorem test_w_SealAndDigest : sObj.serving ∧ sObj.d.mem.lines = [] ∧ (∀ x ∈ sObj.d.objExts 1, sObj.d.get (TMAP_TIER x) = 1) ∧
    sObj.d.get (OBJ_WRITABLE 1) = 1 ∧ (∀ x ∈ sObj.d.objExts 1, sObj.d.get (TMAP_MIGRATING x) ≠ 1) := by unfold State.serving; decide
def mv : Move := ⟨1, 2, 4, 6, []⟩
def sMove : State := st (objF 1 1 0) (fun d => { d with mem := { d.mem with moves := [mv], running := some (⟨5 + 65536, 2 ^ 22, 0, true⟩, 0, 1, none) } })
theorem test_w_Migrate : migrateBad sObj.d (objWords 5 1 0 1 2) = false ∧ sObj.d.get (TMAP_OBJECT 1) = 1 ∧ sObj.d.moveRefused 1 1 2 = false ∧
    sObj.d.nextStack 2 0xFFFF none = some (0, 0) ∧ sObj.d.mem.moves = [] ∧ sObj.d.fab.dir = [] ∧ sMove.serving ∧
    sMove.d.mem.running = some (⟨5 + 65536, 2 ^ 22, 0, true⟩, 0, 1, none) ∧ sMove.d.mem.moves = [mv] ∧ wfld [5 + 65536, 2 ^ 22, 0] MCMD_OP = 5 ∧
    wfld [5 + 65536, 2 ^ 22, 0] MCMD_COUNT ≤ 1 ∧ (st [] (fun d => { d with mem := { d.mem with oldSlots := [(1, 0, 0)] } })).d.mem.running = none := by
  unfold State.serving; decide +kernel
def sRefetch : State := st (objF 1 1 0 ++ [(OBJ_WRITABLE 1, 0), (OBJ_ORIGIN_KIND 1, 3), (TMAP_REFETCH 1, 1)])
theorem test_w_MemoryEvents : sRefetch.serving ∧ sRefetch.d.get (TMAP_REFETCH 1) = 1 ∧ (sRefetch.d.extOrigin 1).1 ≠ 4 ∧ sRefetch.d.mem.moves = [] ∧
    (st []).d.get (TMAP_TIER (extOf 0)) < 3 ∧ 3 ≤ (st [(TMAP_TIER 0, 3)]).d.get (TMAP_TIER (extOf 0)) ∧ (st [(MEM_CTRL_SCRUB_EN, 0)]).d.get MEM_CTRL_SCRUB_EN ≠ 1 ∧
    (st [(MEM_CTRL_SCRUB_EN, 1)]).d.get MEM_CTRL_SCRUB_EN = 1 ∧ (st []).d.mem.heatTicks < max 1 ((st []).d.get MEM_HEAT_CFG_PERIOD) ∧
    (let s := st [(TMAP_HEAT 9, 7)] (fun d => { d with mem := { d.mem with heatTicks := 2 ^ 32 } })
     max 1 (s.d.get MEM_HEAT_CFG_PERIOD) ≤ s.d.mem.heatTicks ∧ (s.d.listed (TMAP_HEAT 0) 16 2097152).Nodup) := by unfold State.serving; decide
theorem test_w_HostWindows : 2 ^ 41 ≤ (st [(VIR_PF_WIN_BASE, 2047)]).d.winBase 0 + 2 ^ 30 ∧ sObj.d.winBase 0 + 2 ^ 20 + 128 ≤ 2 ^ 41 ∧
    (∀ k < 128, sObj.d.readPlain (sObj.d.winBase 0 + 2 ^ 20 + k)) ∧ sObj.d.linePlain (sObj.d.winBase 0 + 2 ^ 20) ∧ sVf.d.vfLive 2 = true ∧
    sVf.d.winAllows 2 0 (sVf.d.winBase 2 + 0) = false := by unfold Dev.readPlain Dev.linePlain; decide
/-- Node 5 of generation 11 knows node 6 by generation 12; port 0 is up; extent 1 is a writable object. -/
def fabF : List (Fld × Nat) := objF 1 1 0 ++ [(UNL_CTRL_EN, 1), (UNL_NODE_NODE, 5), (UNL_NODE_GEN, 11), (UNL_GEN_PAIR_GEN_EVEN 3, 12), (UNL_PORT_STATUS_STATE 0, 2)]
def sFab : State := st fabF
def pkt (op dst sgen dgen size atype : Nat) (payload : List Byte := []) : Packet :=
  ⟨mkWords 3 [(PKT_DST, dst), (PKT_SRC, 6), (PKT_TAG, 77), (PKT_OFFSET, 2 ^ 20), (PKT_OP, op), (PKT_SIZE, size), (PKT_SRC_GEN, sgen), (PKT_DST_GEN, dgen),
    (PKT_ATYPE, atype)], payload⟩
theorem test_w_Packets : sFab.serving ∧ (pkt opLOAD 5 12 11 0 0).hdr.length = 3 ∧ sFab.d.get UNL_CTRL_EN = 1 ∧ sFab.d.portUp 0 = true ∧ sFab.d.portUp 1 = false ∧
    5 < pkf (pkt opLOAD 5 12 11 6 0) PKT_SIZE ∧ pkf (pkt opLOAD 5 12 11 5 0) PKT_SIZE ≤ 5 ∧ pkf (pkt opLOAD 9 12 11 5 0) PKT_DST ≠ sFab.d.node ∧
    pkf (pkt opANNOUNCE 9 12 11 5 0) PKT_DST ≠ pkf (pkt opANNOUNCE 9 12 11 5 0) PKT_SRC ∧ pkf (pkt opCAS 5 12 11 5 0) PKT_DST = sFab.d.node ∧
    sFab.d.genOf 6 ≠ 0 ∧ sFab.d.genOf 6 ≠ pkf (pkt opCAS 5 13 11 5 0) PKT_SRC_GEN ∧ sFab.d.genOf 6 = pkf (pkt opCAS 5 12 10 5 0) PKT_SRC_GEN ∧
    pkf (pkt opCAS 5 12 10 5 0) PKT_DST_GEN ≠ sFab.d.gen ∧ (pkt opLOAD 5 12 11 5 0).payload.length % 16 = 0 ∧
    (pkt opSTORE 5 12 11 5 0 [1]).payload.length % 16 ≠ 0 ∧ pkf (pkt opCAS 5 13 11 5 0) PKT_CLASS ≠ clATOMIC ∧ clATOMIC ≤ 5 := by unfold State.serving; decide
theorem test_w_RequestsAtTheHome : sfind sFab.d.fab.rx (streamKey 6 0) = none ∧ pkf (pkt opLOAD 5 12 11 5 0) PKT_SEQ = 0 ∧ sFab.d.streamHeld 6 0 = false ∧
    pkf (pkt opLOAD 5 12 11 5 0) PKT_DST_GEN = sFab.d.gen ∧ sFab.d.readPlain (2 ^ 20) ∧ sFab.d.linePlain (2 ^ 20) ∧ sFab.d.is PRT_INJ_ECC_ARMED = false ∧
    2 ^ 20 % sizeBytes 5 = 0 ∧ sizeBytes 5 ≤ 128 ∧ pkf (pkt opGETS 5 12 11 5 0) PKT_SRC ∉ sFab.d.quad ∧ (2 ^ 20 : Nat) / 2 ^ 41 = 0 ∧
    (2 ^ 41 : Nat) / 2 ^ 41 ≠ 0 ∧ sFab.d.get (TMAP_TIER 0) = 0 ∧ sFab.d.strict = false ∧ atypeOk 5 = true ∧ elemBytes 5 ≤ sizeBytes 5 ∧ atypeOk 1 = true ∧ elemBytes 1 = sizeBytes 0 := by
  unfold Dev.readPlain Dev.linePlain; decide
def rq : FReq := { tag := 77, client := srcRegPort, owner := 0, desc := 0, idx := 0, laddr := 0, len := 4, pk := ⟨mkWords 3 [(PKT_DST, 6), (PKT_TAG, 77)], []⟩ }
def sOut : State := st fabF (fun d => { d with fab := { d.fab with out := [rq], dir := [(dirKey (2 ^ 20), ⟨[], [6], []⟩)] } })
theorem test_w_Responses : sOut.serving ∧ sOut.d.fab.out.find? (fun r => r.tag == 77 && pkf r.pk PKT_DST == 6) = some rq ∧
    pkf (pkt opACK 5 12 11 0 0) PKT_DST_GEN = sOut.d.gen ∧ sFab.d.fab.out.find? (fun r => r.tag == 77 && pkf r.pk PKT_DST == 6) = none ∧ (6 : Nat) ≠ sOut.d.node ∧
    sOut.d.genOf 6 = 12 ∧ pkf (pkt opINVAL_ACK 5 12 11 0 0) PKT_OFFSET = 2 ^ 20 ∧ pkf (pkt opINVAL_ACK 5 12 11 0 0) PKT_SRC = 6 ∧
    sfind sOut.d.fab.dir (dirKey (2 ^ 20)) = some ⟨[], [6], []⟩ := by unfold State.serving; decide
def uo (k node : Nat) : UOp :=
  { id := 0, w0 := w64 (withField (mkWords 1 [(UO_NODE, node), (UO_ATYPE, 1)])[0]!.toNat 0 8 k), offset := 2 ^ 20, data := 7, cmp := 0, bad := false }
def sOps (n stage : Nat) : State := st fabF (fun d => { d with fab := { d.fab with ops := List.replicate n { uo 1 6 with stage := stage }, errLog := [(1, 2, 3, 4)] } })
theorem test_w_RegisterPort : sFab.d.asks .pf .bar0 0x200040 ∧ sFab.d.asks .pf .bar0 0x200060 ∧ sFab.d.asks .pf .bar0 0x200070 ∧ sFab.d.fab.ops = [] ∧
    (∀ k ∈ [1, 2, 3, 4, 5, 6], reservedSet [(uo k 6).w0] UO_USED = false ∧ sFab.d.opRefused (uo k 6) = false ∧ sFab.d.mustHold (sFab.d.opReq (uo k 6)) = false) ∧
    (uo 1 6).f UO_NODE ≠ sFab.d.node ∧ (∀ w < 64, sFab.d.winCovers w 0 (2 ^ 20) = false) ∧ reservedSet [(uo 15 0).w0] UO_USED = false ∧ reservedSet [w64 (15 + 2 ^ 63)] UO_USED = true ∧
    16 ≤ (sOps 16 0).d.fab.ops.length ∧ (sOps 1 2).d.fab.ops = [{ uo 1 6 with stage := 2 }] ∧ ({ uo 1 6 with stage := 0 } : UOp).stage ≠ 2 ∧
    (sOps 1 2).d.fab.errLog = [(1, 2, 3, 4)] :=
  ⟨test_asks _ _ (by decide), test_asks _ _ (by decide), test_asks _ _ (by decide), by decide⟩
def sPort : State := st (fabF ++ [(UNL_PORT_STATUS_STATE 1, 1), (UNL_ROUTE_VALID 6, 1), (UNL_ROUTE_PRIMARY 6, 0)])
def ce (sent : Option Nat) : CombEntry := ⟨opADD, 1, 6, 12, 2 ^ 20, [(0, 1), (1, 0), (2, 0), (3, 0)], 15, [], 0, sent⟩
theorem test_w_Ports : sPort.serving ∧ sPort.d.portUp 0 = true ∧ sPort.d.portUp 1 = false ∧ (sPort.d.port 0).stuck ≠ 15 ∧
    ((dev []).setPort 0 { stuck := 15 }).port 0 = { stuck := 15 } ∧ sPort.d.get (UNL_PORT_STATUS_STATE 0) ≠ 1 ∧ sPort.d.get (UNL_PORT_STATUS_STATE 1) = 1 ∧
    (sPort.d.port 0).queue = [] ∧ sPort.d.fab.out.find? (fun r => r.tag == 77) = none ∧ sOut.d.fab.out.find? (fun r => r.tag == 77) = some rq ∧
    (sPort.d.routePort 6).isSome = true ∧ sOut.d.routePort 6 = none ∧ sPort.d.fab.genHold = [] ∧ sPort.d.fab.ops = [] ∧ sPort.d.genOf 6 ≠ 0 ∧
    sPort.d.genOf 8 = 0 ∧ (8 : Nat) ≠ sPort.d.node ∧ ({ sPort.d.fab with comb := [ce none] } : Fabric).comb[0]? = some (ce none) ∧
    (let x : FPort := { replay := [pkt opLOAD 6 12 11 5 0], stuck := 15, part := 0 }
     x.part < (x.replay.map pkFlits).sum ∧ (x.replay.map pkFlits).sum ≤ x.part + 9 ∧ (x.acknowledge 0).stuck = 15 ∧ (x.acknowledge 9).stuck ≠ 15) := by unfold State.serving; decide
def owd (k : Byte) : Frame := ⟨0, 0, [], 0xAEFE, [0x10, 5, 0, 20, 9, k] ++ List.replicate 18 0, true⟩
/-- Port 1 runs; cell 2 of the active set is on it, on air since tick 3; the tick is 10. -/
def radF : List (Fld × Nat) := [(RAD_CTRL_EN, 1), (RAD_PORT_CFG_EN 1, 1), (RAD_PORT_MAC_MAC 1, 0x42), (LTH_TICK_COUNT_COUNT, 10), (actF (RAD_CELL_VALID 2), 1),
  (actF (RAD_CELL_PORT 2), 1), (actF (RAD_CELL_PCID_HI 2), 7), (actF (RAD_CELL_RX_ANT 2), 2), (actF (RAD_CELL_TX_ANT 2), 1), (RAD_CELL_VALID 2, 1)]
def sCell (r : CellRun := { first := 3 }) : State := st radF (fun d => { d with rad := { d.rad with cells := [(2, r)], owd := [(1, { held := [(9, 7)], own := [(9, 7)] })] } })
theorem test_w_Fronthaul : sCell.serving ∧ sCell.d.portRuns 1 = true ∧ sCell.d.portRuns 0 = false ∧ ({ owd 0 with fcsOk := false } : Frame).fcsOk = false ∧
    (owd 0).fcsOk = true ∧ (owd 0).dst ≠ sCell.d.get (RAD_PORT_MAC_MAC 1) ∧ ({ owd 0 with etype := 0x88F7, dst := 0x011B19000000 } : Frame).payload.length ≤ 9198 ∧
    (∀ k < 6, owdGood (owd (BitVec.ofNat 8 k)) = true ∧ beNat (owd (BitVec.ofNat 8 k)).payload 5 1 = k) ∧ beNat (owd 5).payload 4 1 = 9 ∧
    (sCell.d.owd 1).held.find? (fun h => h.1 == 9) = some (9, 7) ∧ (sCell.d.owd 1).own.find? (fun h => h.1 == 9) = some (9, 7) ∧ (sFab.d.owd 1).own = [] ∧
    (let f : Frame := { owd 3 with payload := [0x18, 5, 0, 20, 9, 3] }
     isOwd f = true ∧ beNat f.payload 5 1 = 3 ∧ owdGood f = false) ∧ sCell.d.stamps 1 = false ∧ (dev [(TSU_CTRL_EN, 1), (TSU_PORT_CFG_EN 1, 1)]).stamps 1 = true ∧
    (sFab.d.owd 1).held.find? (fun h => h.1 == 9) = none := by unfold State.serving; decide
def iqF (pcid : Byte) : Frame := ⟨0x42, 0, [], 0xAEFE, [0x10, 0, 0, 76, 0, pcid, 0, 0x80, 0, 0, 0, 10, 0, 16, 0, 16] ++ List.replicate 64 1, true⟩
theorem test_w_IqData : sCell.d.cellOf 1 (beNat (iqF 0x39).payload 4 2 / 8) = some 2 ∧ sCell.d.cellOf 1 (beNat (iqF 0x41).payload 4 2 / 8) = none ∧
    sizeAgrees (iqF 0x39) = true ∧ (let b := (iqF 0x39).payload
      let c := sCell.d.cellCfg true 2
      let count := beNat b 14 2 % 4096
      beNat b 0 1 = 0x10 ∧ beNat b 1 1 = 0 ∧ beNat b 7 1 = 0x80 ∧ beNat b 14 2 / 4096 = c.ulFmt ∧ c.ulFmt < 3 ∧ beNat b 2 2 = 12 + iqBytes c.ulFmt count ∧ c.ulFmt ≠ 2 ∧
      beNat b 4 2 % 8 < c.rx ∧ c.vlanEn = false ∧ 0 < count ∧ count ≤ 2048 ∧ beNat b 12 2 + count ≤ c.samples (sCell.d.get LTH_TICK_CFG_PERIOD) ∧
      beNat b 12 2 % 16 = 0 ∧ count % 16 = 0 ∧ sCell.d.windowOpen 2 (sCell.d.nearTick (beNat b 8 4)) = true) ∧ sCell.d.rad.iq = [] := by decide
def riTile : State := st [] (fun d => d.setTile 5 { radio := [({} : RItem)] })
set_option maxRecDepth 4000 in
theorem test_w_IqWindows : sfind sCell.d.rad.cells 2 = some { first := 3 } ∧ sfind sCell.d.rad.cells 4 = none ∧ sCell.d.tick ≠ 0 ∧ 3 ≤ sCell.d.tick - 1 ∧
    sCell.d.rad.closed.contains (2, sCell.d.tick - 1) = false ∧ none ∈ sCell.d.received 2 9 0 ((sCell.d.cellCfg true 2).samples (sCell.d.get LTH_TICK_CFG_PERIOD)) ∧
    (riTile.d.tile 5).radio[0]? = some ({} : RItem) ∧ sCell.d.subsOf 2 = [] ∧ sfind ({ first := 3 } : CellRun).egress (sCell.d.tick + 1) = none ∧
    (sCell.d.cellCfg true 2).role = 0 ∧ sCell.d.portRuns (sCell.d.cellCfg true 2).port = true ∧
    (let d := (dev [(actF (RAD_CELL_VALID 2), 1)]); (d.cellCfg true 2).rx = 0) := by decide
/-- A staged set, valid but refused, or admitted; and one that waits to be activated. -/
def sBlocked : State := st [(LTH_RADIO_TILE_VALID 0, 1), (LTH_RADIO_TILE_TILE 0, 5), (LTH_RADIO_TILE_CHUCK0_BANKS 0, 4), (CUB_SEQ_PART_BANKS 5 0, 1), (LTH_CTX_PINNED 3, 1)]
  (fun d => d.setChuck 20 { ctx := some 3 })
def sPendF (p : Nat) : State := st [(RAD_CFG_CTRL_PENDING, p)]
theorem test_w_RadioConfiguration : (sPendF 1).d.asks .pf .bar0 0x280018 ∧ (sPendF 1).d.is RAD_CFG_CTRL_PENDING = true ∧ (sPendF 0).d.is RAD_CFG_CTRL_PENDING = false ∧
    ((dev [(RAD_FRAME_CFG_ITEM_CELLS, 0)]).set RAD_CFG_CTRL_VIEW 0).radioCheck = some (0, 0x1FF, 3) ∧ ((dev []).set RAD_CFG_CTRL_VIEW 0).radioCheck = none ∧
    ((((dev []).set RAD_CFG_ERR_CELL 0).set RAD_CFG_ERR_CH 0x1FF).set RAD_CFG_ERR_CHECK 0).admitVerdict.1 = 0 ∧
    sBlocked.d.radioCheck = none ∧ sBlocked.d.admitVerdict = (6, 0) ∧ (sPendF 0).d.mayActivate = false ∧ (sPendF 1).d.mayActivate = true ∧
    (sPendF 1).d.rad.cells = [] ∧ (sPendF 1).d.regs.Pairwise (fun x y => x.1 < y.1) :=
  ⟨test_asks _ _ (by decide), by decide +kernel⟩
def sDue (m : Nat) : State := st (radF ++ [(TSU_STATUS_VALID, 1), (LTH_STATUS_LOCKED, 1), (LTH_TICK_COUNT_COUNT, 80), (LTH_TICK_CFG_SYNC_MODE, m)])
  (fun d => { d with rad := { d.rad with roles := [(2, (1, 80, false))] } })
theorem test_w_RolesAndRings : (sDue 1).d.asks .pf .bar0 0x280024 ∧ (sDue 1).d.asks .pf .bar0 (0x2A000C + 32 * 5) ∧ (sDue 1).d.asks .pf .bar0 (0x2A0008 + 32 * 5) ∧
    ((sDue 1).d.is RAD_CTRL_EN = true ∧ (sDue 1).d.is TSU_STATUS_VALID = true ∧ (sDue 1).d.is LTH_STATUS_LOCKED = true ∧
      (sDue 1).d.tick % (sDue 1).d.frameTicks = 0 ∧ (sDue 1).d.get LTH_TICK_CFG_SYNC_MODE ≠ 0) ∧ (sDue 0).d.get LTH_TICK_CFG_SYNC_MODE = 0 ∧
    sfind (sDue 1).d.rad.cells 2 = none ∧ (sDue 1).d.is RAD_CFG_CTRL_PENDING = false ∧ (sDue 1).d.is (actF (RAD_CELL_VALID 2)) = true ∧
    (sDue 1).d.is (actF (RAD_CELL_VALID 3)) = false ∧ sfind (sDue 1).d.rad.roles 2 = some (1, 80, false) ∧ 80 ≤ (sDue 1).d.tick ∧ sfind (sDue 1).d.rad.roles 3 = none ∧
    (dev (objF 1 1 0)).insideWritable (some 0) (0x100 * 4096) (128 * 2 ^ 1 * 2 ^ 4) = true ∧ (dev []).insideWritable (some 0) (0x100 * 4096) (128 * 2 ^ 1 * 2 ^ 4) = false ∧
    (dev [(RAD_RING_CFG_VALID 5, 1)]).is (RAD_RING_CFG_VALID 5) = true :=
  ⟨test_asks _ _ (by decide), test_asks _ _ (by decide), test_asks _ _ (by decide), by decide⟩
def sSub : State := st (radF ++ objF 1 1 0 ++ [(RAD_RING_CFG_VALID 5, 1), (RAD_RING_BASE_BASE 5, 0x100), (RAD_RING_CFG_ORDER 5, 4), (RAD_RING_PROD_PROD 5, 1)])
  (fun d => { d with rad := { d.rad with cells := [(2, { first := 3 })] } })
theorem test_w_Submissions : sfind sSub.d.rad.cells 2 = some { first := 3 } ∧ (sSub.d.cellCfg true 2).role = 0 ∧ sSub.d.is (RAD_RING_CFG_VALID 5) = true ∧
    ringUsed (sSub.d.get (RAD_RING_PROD_PROD 5)) (sSub.d.get (RAD_RING_CONS_CONS 5)) ≠ 0 ∧ (sSub.d.subsOf 2).length < 64 ∧ sSub.d.is (RAD_RING_CFG_INT_EN 5) = false ∧
    3 ≤ sSub.d.tick ∧ (dev []).tick < 3 ∧ sfind sSub.d.rad.cells 3 = none ∧ sSub.d.lathe.inGuard = false ∧ sSub.d.codingRan 2 false = false ∧
    sSub.d.codingRan 2 true = false ∧ sSub.d.pool.length = 32 := by decide
def sGg : State := st (radF ++ [(GGC_CTRL_EN, 1), (actF (RAD_CH_UL_EN 641), 1), (actF (RAD_CH_DL_EN 642), 1)])
  (fun d => { d with rad := { d.rad with cells := [(2, { first := 3 })], rx := [(rxKey 2 1 0, { phase := 1 })] } })
/-- One engine is out of the pool, and the tick has more coded bits than the others take. -/
def sShort : State := st radF (fun d => { d with rad := { d.rad with cells := [(2, { first := 3 })], ceBits := 2 ^ 40 },
                                                  tls := { d.tls with units := [(unitEngine 7, { test := 1 })] } })
theorem test_w_Pool : sShort.serving ∧ sShort.d.pool.length = 31 ∧ (codingUl [] (sShort.d.codingPlace 2 false) 2 (sShort.d.tick - 3)).poolShort = true := by
  unfold State.serving; decide +kernel
theorem test_w_GougeItems : sGg.d.is GGC_CTRL_EN = true ∧ (sGg.d.gcore 2).item = none ∧ (sGg.d.gcore 2).ran = [] ∧ sGg.d.rad.loads = [] ∧ (sGg.d.gcore 2).off = false ∧ sGg.d.gougeUp 2 = true ∧ sGg.d.lathe.inGuard = false ∧
    sSub.d.gougeUp 2 = false ∧
    sGg.d.gougeList 2 = (true, true) ∧ (sSub.d.gougeList 2) = (false, false) ∧ sfind sGg.d.rad.rx (rxKey 2 1 0) = some { phase := 1 } ∧
    ((sGg.d.plan true 2).find? (fun x => x.ch == 1)).isSome = true ∧ sfind sSub.d.rad.rx (rxKey 2 1 0) = none := by decide
/-- Core 2 runs an item; further state given. -/
def g0 : GCore := { item := some (true, 0, 0), pc := 9, creg := [(crCYC, 5)] }
def sG (g : GCore) : State := st [] (fun d => d.setG 2 g)
/-- Words of format A without moves, by R360; the operand fields of the second word of a kind are forbidden. -/
def gougeAs : List (GougeOp × W64 × List W64) :=
  [(.nop, 0x0, []), (.mov, 0x400000000000000, []), (.add2, 0x800000000000000, []), (.sub2, 0xC00000000000000, []),
   (.and, 0x1000000000000000, []), (.or, 0x1400000000000000, []), (.xor, 0x1800000000000000, []),
   (.asr2, 0x1C00000000000000, [0x1C00800000000000]),
   (.pack, 0x2000000000000000, []), (.cmp, 0x2400000000000000, []), (.slice, 0x2800000000000000, []), (.atan, 0x2C00000000000000, []),
   (.cmac, 0x4000000000000000, [0x4000010000000000]),
   (.rdot2, 0x4400000000000000, []), (.rdot4, 0x4800000000000000, [0x4800F80000000000]), (.rmul4, 0x4C00000000000000, [0x4C00030000000000]),
   (.dupd, 0x5000000000000000, []), (.ext, 0x5400000000000000, []), (.extc, 0x5800000000000000, [0x5800070000000000])]
/-- Words of format B and C, by R360. -/
def gougeBCs : List (GougeOp × W64) :=
  [(.ldi, 0xC000000000000000), (.ldc, 0xC400000000000000), (.mvtc, 0xC800000000000000), (.mvfc, 0xCC00000000000000),
   (.addc, 0xD000000000000000), (.br, 0xE000000000000000),
   (.call, 0xE400000000000000), (.ret, 0xE800000000000000), (.rep, 0xEC00000000000000),
   (.loop, 0xF000000000003000), (.rti, 0xF400000000000000), (.swi, 0xF800000000000000), (.halt, 0xFC00000000000000)]
theorem test_w_GougeWords : (∀ e ∈ gougeAs, gougeOp e.2.1 = some e.1 ∧ gMoves e.2.1 = [] ∧ e.2.2.all (fun w => gougeOp w == some e.1) = true) ∧
    (∀ e ∈ gougeBCs, gougeOp e.2 = some e.1 ∧ e.2.toNat / 2 ^ 24 % 2 ^ 8 = 0 ∧ e.2.toNat / 2 ^ 32 % 2 ^ 15 = 0 ∧ wfld [e.2] GBC_COND ≤ 4 ∧ wfld [e.2] GBC_CREG ≤ 47) ∧
    gougeOp 0x8000000000000000 = none ∧ wfld [0xF000000000003000] GBC_BODY ≠ 0 := by decide +kernel
theorem test_w_GougeArithmetic : (sG g0).serving ∧ (sG g0).d.gcore 2 = g0 ∧ gMoves 0 = [] ∧ (dev []).get (GGC_FAULT_VALID 2) = 0 ∧
    15 < (g0.args (mkWords 1 [(GA_SB, 16)])[0]!).sb ∧ (g0.args (mkWords 1 [(GA_ACC, 7)])[0]!).acc = 7 ∧ (g0.args (mkWords 1 [(GA_SB, 31)])[0]!).sb = 31 ∧
    gMoves (mkWords 1 [(GA_ACC, 7), (GA_SB, 31)])[0]! = [] := by unfold State.serving; decide
theorem test_w_GougeMoves : (gMoves (mkWords 1 [(GA_MOVE_X, 0x800)])[0]!).map (fun v => (v.store, v.mode)) = [(false, 0)] ∧
    gAccessBad false (g0.cget (crP 0)) = false ∧ ({ g0 with flight := [(5, .reg 3 3, 7)] } : GCore).cyc ≤ 5 := by decide
def b0 : GShadow := ⟨77, 3, 0, 0, 0, [], none⟩
theorem test_w_GougeControl : (sG {}).d.gcore 2 = {} ∧ (sG g0).d.asks .pf .bar0 0x30000C ∧ (0x402 : W32).toNat % 512 = 2 ∧ g0.flight = [] ∧ ({ g0 with creg := [(crTMR, 5), (crCYC, 5)] } : GCore).cget crTMR = ({ g0 with creg := [(crTMR, 5), (crCYC, 5)] } : GCore).cyc ∧
    ¬ (g0.cget crTMR = g0.cyc ∨ g0.was < g0.cget crTMR ∧ g0.cget crTMR < g0.cyc) ∧
    (sG { g0 with creg := [(crIE, 7), (crIPEND, 6)] }).d.gcore 2 = { g0 with creg := [(crIE, 7), (crIPEND, 6)] } ∧
    (({ g0 with creg := [(crIE, 7), (crIPEND, 6)] } : GCore).cget crIE &&& ({ g0 with creg := [(crIE, 7), (crIPEND, 6)] } : GCore).cget crIPEND) ≠ 0 ∧
    ({ g0 with creg := [(crTMR, 9)] } : GCore).cyc < ({ g0 with creg := [(crTMR, 9)] } : GCore).cget crTMR ∧
    (sG { g0 with slots := some (1, none, true), shadow := some b0 }).d.gcore 2 = { g0 with slots := some (1, none, true), shadow := some b0 } ∧
    (sG { g0 with loops := [(0, 3, 10, false)], creg := [(crLC0, 2)] }).d.gcore 2 = { g0 with loops := [(0, 3, 10, false)], creg := [(crLC0, 2)] } ∧
    1 < ({ g0 with loops := [(0, 3, 10, false)], creg := [(crLC0, 2)] } : GCore).cget crLC0 :=
  ⟨by decide, test_asks _ _ (by decide), by decide⟩
theorem test_w_GougeBranches : (let w := (mkWords 1 [(GBC_COND, 4), (GBC_BODY, 3), (GBC_CREG, 0)])[0]!
     w.toNat / 2 ^ 24 % 2 ^ 8 = 0 ∧ wfld [w] GBC_COND ≤ 4 ∧ wfld [w] GBC_BODY ≠ 0 ∧ g0.pc + 1 + wfld [w] GBC_BODY ≤ 4096) ∧ g0.stack.length < 8 ∧
    (0 : W64).toNat / 2 ^ 32 % 2 ^ 15 = 0 ∧ wfld [0] GBC_CREG ≤ 47 ∧ ({ g0 with slots := some (2, some 4, false) } : GCore).slots ≠ none := by decide
def sTsu (l : List (Fld × Nat)) (t : Tsu := {}) : State := st l (fun d => { d with tsu := t })
def tOf (ns : Nat) : Tsu := { fine := ns * 256000000000 }
theorem test_w_TsuCommands : (sTsu [(TSU_CTRL_REF, 1)]).serving ∧ (sTsu []).d.asks .pf .bar0 0x380020 ∧ (sTsu [(TSU_CTRL_REF, 1)]).d.get TSU_CTRL_REF = 1 ∧
    (sTsu []).d.get TSU_STATUS_STEPPED ≠ 1 ∧ (sTsu [(TSU_STATUS_STEPPED, 1)]).d.get TSU_STATUS_STEPPED = 1 ∧ (sTsu []).d.asks .pf .bar0 0x380030 ∧
    (sTsu []).d.asks .pf .bar0 0x380034 ∧ (sTsu []).d.asks .pf .bar0 0x380000 ∧ (sTsu []).d.asks .pf .bar0 0x380008 ∧ (sTsu []).d.asks .pf .bar0 0x380060 ∧
    (sTsu [] { txLog := [⟨1, 2, 3, true, 4⟩] }).d.tsu.txLog = [⟨1, 2, 3, true, 4⟩] ∧ (2 : W32).toNat / 2 % 4 = 1 ∧ (sTsu []).d.get TSU_STATUS_HOLDOVER ≠ 1 :=
  ⟨by unfold State.serving; decide, test_asks _ _ (by decide), by decide, by decide, by decide, test_asks _ _ (by decide), test_asks _ _ (by decide),
    test_asks _ _ (by decide), test_asks _ _ (by decide), test_asks _ _ (by decide), by decide, by decide, by decide⟩
theorem test_w_TsuPps : (let s := sTsu [(TSU_CTRL_REF, 2), (TSU_STATUS_STEPPED, 1), (TSU_SERVO_CFG_PPS_WINDOW, 5)] (tOf 3000000050)
     s.d.T = 3000000050 ∧ (ppsError s.d.T).natAbs ≤ s.d.get TSU_SERVO_CFG_PPS_WINDOW * 1000 ∧ (ppsError s.d.T).natAbs ≤ 100) ∧
    (let s := sTsu [(TSU_CTRL_REF, 2), (TSU_STATUS_STEPPED, 1), (TSU_SERVO_CFG_PPS_WINDOW, 5)] { tOf 3300000050 with rejects := 2 }
     ¬ (ppsError s.d.T).natAbs ≤ s.d.get TSU_SERVO_CFG_PPS_WINDOW * 1000 ∧ 2 ≤ s.d.tsu.rejects) ∧
    (let s := sTsu [(TSU_CTRL_REF, 2), (TSU_STATUS_VALID, 1)]
     s.d.get TSU_CTRL_REF = 2 ∧ s.d.get TSU_STATUS_VALID = 1 ∧ s.d.get TSU_STATUS_HOLDOVER ≠ 1) := by decide
theorem test_w_TsuPulses : (sTsu []).d.asks .pf .bar0 (0x380210 + 32 * 3) ∧
    (let s := sTsu [(TSU_PULSE_START_T 3, 5000), (TSU_PULSE_PERIOD_NS 3, 2000), (TSU_PULSE_WIDTH_NS 3, 8)] (tOf 4000)
     ¬ (s.d.get (TSU_PULSE_WIDTH_NS 3) < 8 ∨ s.d.get (TSU_PULSE_PERIOD_NS 3) ≤ s.d.get (TSU_PULSE_WIDTH_NS 3) ∨ s.d.get (TSU_PULSE_PERIOD_NS 3) < 1000 ∨
       4000000000 < s.d.get (TSU_PULSE_PERIOD_NS 3)) ∧ s.d.T + 1000 ≤ s.d.get (TSU_PULSE_START_T 3) ∧
     (sTsu [(TSU_PULSE_START_T 3, 5000)] (tOf 4001)).d.get (TSU_PULSE_START_T 3) < (sTsu [] (tOf 4001)).d.T + 1000) ∧
    (let p : Pulse := ⟨5000, 2000, 8, 0, 2, 7000, 5008, true⟩
     let s (t : Nat) (p : Pulse) := sTsu [(TSU_CTRL_EN, 1)] { tOf t with pulses := [(3, p)] }
     (s 5 p).d.get TSU_CTRL_EN = 1 ∧ pulsesOf (s 5 p).d 3 = some p ∧ (s 5005 p).d.T + 2 < p.fall ∧ p.fall ≤ (s 5006 p).d.T + 2 ∧
       (s 6997 p).d.T + 2 < p.next ∧ p.next ≤ (s 6998 { p with active := false }).d.T + 2 ∧
       (s 5006 { p with mode := 1 }).d.get (TSU_PULSE_CTRL_POL 3) = p.pol) ∧
    (let s (t last : Nat) := sTsu [(TSU_STATUS_VALID, 1)] { tOf t with ppsLast := last }
     (s 3000000010 2).d.T % 1000000000 ≤ 10 ∧ (s 3000000010 2).d.tsu.ppsLast < (s 3000000010 2).d.T / 1000000000 ∧
       (s 3000000010 3).d.T / 1000000000 ≤ (s 3000000010 3).d.tsu.ppsLast ∧ 10 < (s 3000000011 2).d.T % 1000000000 ∧
       (s 3000000010 2).d.tsu.ppsHigh = false) ∧
    (let t : Tsu := { tOf 3100000000 with ppsHigh := true, ppsFall := 3100000000 }
     (sTsu [] t).d.tsu.ppsFall ≤ (sTsu [] t).d.T ∧ (sTsu [] { t with fine := 0 }).d.T < t.ppsFall) ∧
    (sTsu [] { slew := -5 * finePerNs }).d.tsu.slew ≠ 0 ∧ pulsesOf (sTsu []).d 3 = none ∧ (sTsu [] { ppsHigh := true }).d.tsu.ppsHigh = true ∧
    (sTsu []).d.get TSU_PPS_OUT_CFG_OUT_BEFORE_VALID ≠ 1 ∧ sFab.d.get (UNL_PORT_STATUS_STATE 0) = 2 ∧ sFab.d.get (UNL_PORT_STATUS_STATE 1) ≠ 2 :=
  ⟨test_asks _ _ (by decide), by decide⟩
/-- The Tailstock runs. -/
def tlsF : List (Fld × Nat) := [(TLS_STATUS_RUNNING, 1)]
def sTls (l : List (Fld × Nat)) (t : Tls := {}) : State := st (tlsF ++ l) (fun d => { d with tls := t })
def uG : Nat := unitGouge 2
def cnd : Cond := { pos := 0, temp := 0, mv := 0, load := 7 }
def rec0 (inj conf : Bool) : FaultRec := { unit := uG, inj := inj, confirmed := conf, dkind := 0x10 }
theorem test_w_FaultRecords : (sTls []).serving ∧ (st [(TLS_STATUS_RUNNING, 0)]).d.tlsRuns = false ∧ (sTls [] { inQ := [rec0 false true] }).d.tlsRuns = true ∧
    ((sTls []).d.unit uG).state = 0 ∧ ((sTls []).d.unit uG).inWindow 0 = 0 ∧
    0 < ((sTls [] { units := [(uG, { times := [0] })] }).d.unit uG).inWindow ((sTls []).d.get TLS_POS_POS) ∧
    (2 ≤ ([0, 0].filter (fun t => decide ((sTls []).d.T < t + 60000000000))).length) ∧ (sTls []).d.get TLS_STATUS_HALTED ≠ 1 ∧
    (sTls [] { wdogT := [0] }).d.tls.wdogT ≠ [] ∧ (sTls []).d.tls.retained = [] := by unfold State.serving; decide
def sRetest : State := sTls [] { units := [(uG, { due := true, left := [cnd] })] }
theorem test_w_Tests : sRetest.d.unit uG = { due := true, left := [cnd] } ∧ sRetest.d.testable uG = true ∧ sRetest.d.testWaits uG = false ∧
    sfind sRetest.d.tls.holds (unitDie uG) = none ∧ (sTls [(TLS_CTRL_AUTO_TEST, 1)]).d.get TLS_CTRL_AUTO_TEST = 1 ∧ (sTls []).d.tls.sweep < 320 ∧
    (sTls []).d.tileDisabled 0 = false ∧ (sTls [(TLS_CTRL_AUTO_TEST, 0)]).d.get TLS_CTRL_AUTO_TEST ≠ 1 ∧ (∀ k < 0, (sTls []).d.tileDisabled k = true) ∧
    ((sTls [] { units := [(uG, { test := 1 })] }).d.unit uG).test ≠ 0 ∧ (∀ t, (sTls []).d.testAsk uG = some t → t ∉ (sTls []).d.tls.asks) ∧
    (sTls [] { toFlash := [[1, 2]] }).d.fpl.flash.hist.length < 32768 ∧ (st []).d.asks .pf .bar0 0x28 ∧ (st []).d.asks .pf .bar0 0x3C0028 ∧
    (st []).d.asks .pf .bar0 0x3C0020 ∧ (sTls [] { journal := [([1], true)] }).d.tls.journal = [([1], true)] ∧ (st []).d.get LTH_CTRL_RUN ≠ 1 :=
  ⟨by decide, by decide, by decide, by decide, by decide, by decide, by decide, by decide, by decide, by decide, by intro t h; exact List.not_mem_nil,
    by decide, test_asks _ _ (by decide), test_asks _ _ (by decide), test_asks _ _ (by decide), by decide, by decide⟩
theorem test_w_Restart : (let s := st [] (fun d => { d with tls := { wdogT := [0] } })
     s.serving ∧ s.d.get TLS_STATUS_HALTED ≠ 1 ∧ s.d.tls.wdogT ≠ [] ∧ s.d.get TLS_STATUS_RUNNING ≠ 1 ∧ s.d.tls.results = []) ∧
    (sTls [(TLS_STATUS_HALTED, 1)]).d.get TLS_STATUS_HALTED = 1 ∧ (rec0 false true).failed = false ∧ (rec0 false true).cure = none ∧
    (sTls []).d.tls.toFlash = [] ∧ (sTls []).d.tls.cures = [] := by unfold State.serving; decide
/-- The die of core 2 is at 40 degrees; its retest waits since POS 0. -/
def sWaits (temp pos : Nat) (wait : Option Nat) : State := st (tlsF ++ [(TLS_TEST_CFG_TEMP_TOL, 20), (TLS_TEST_CFG_RETEST_WAIT, 2), (TLS_POS_POS, pos)])
  (fun d => { d with tls := { units := [(uG, { due := true, left := [{ cnd with temp := temp }], wait := wait })] }, pins := { d.pins with temps := [(unitSensor uG, 40)] } })
theorem test_w_RetestWait : (let r (s : State) : UnitRec := s.d.unit uG
     (sWaits 150 0 none).serving ∧ (r (sWaits 150 0 none)).due = true ∧ (r (sWaits 150 0 none)).test = 0 ∧ (r (sWaits 150 0 none)).wait = none ∧
       (sWaits 150 0 none).d.testable uG = true ∧ sfind (sWaits 150 0 none).d.tls.holds (unitDie uG) = none ∧ (sWaits 150 0 none).d.testWaits uG = false ∧
       sfind (sWaits 150 0 none).d.pins.temps (unitSensor uG) = some 40 ∧ (4 * (40 : Int) - 150).natAbs ≤ (sWaits 150 0 none).d.get TLS_TEST_CFG_TEMP_TOL ∧
       ¬ (4 * (40 : Int) - 190).natAbs ≤ (sWaits 190 0 none).d.get TLS_TEST_CFG_TEMP_TOL ∧ (r (sWaits 190 0 (some 0))).wait = some 0 ∧
       (sWaits 190 7199 (some 0)).d.get TLS_POS_POS < 0 + 3600 * (sWaits 190 7199 (some 0)).d.get TLS_TEST_CFG_RETEST_WAIT ∧
       0 + 3600 * (sWaits 190 7200 (some 0)).d.get TLS_TEST_CFG_RETEST_WAIT ≤ (sWaits 190 7200 (some 0)).d.get TLS_POS_POS) ∧
    (let s := st [] (fun d => { d with tls := { units := [(uG, { test := 2, left := [cnd] })] } })
     s.d.tlsRuns = false ∧ (s.d.unit uG).test ≠ 0 ∧ s.d.get TLS_STATUS_HALTED ≠ 1 ∧ s.d.tls.results = [] ∧ s.d.tls.asks = [] ∧ (s.d.unit uG).left.length ≤ 1) := by
  unfold State.serving; decide
theorem test_w_SeqLost : (sSeq sqRUNNING).d.cqReady 0 2 ∧ (0x90007 : W64).toNat / 65536 = (sSeq sqRUNNING).d.get (SEQ_SGEN 7) ∧
    (sSeq sqRUNNING).d.get (SEQ_STATE 7) = sqRUNNING ∧ (sSeq sqRUNNING).d.get (SEQ_ADAPTER 7) < 4096 := by unfold Dev.cqReady Dev.linePlain; decide
/-- A message of node 6, SLOT 9, to node 5; the cell 2 is paired with it. -/
def tmF : List (Fld × Nat) := fabF ++ tlsF ++ [(TLS_PAIR_VALID 2, 1), (TLS_PAIR_NODE 2, 6), (TLS_PAIR_SLOT 2, 9), (actF (RAD_CELL_VALID 2), 1)]
def msgP (type : Nat) (fields : List Nat) : Packet := pkt opMGMT_MSG 5 12 11 0 0 (msgPayload type 9 fields)
def sMsg (l : List (Fld × Nat)) (t : Tls := {}) : State := st (tmF ++ l) (fun d => { d with tls := t, rad := { d.rad with cells := [(2, { first := 0 })] } })
def own0 : CmpEnt := ⟨(7, 1, 5), 33, 0, 0⟩
theorem test_w_Messages : (sMsg []).serving ∧ (msgP 2 [0, 5 * 2 ^ 32 + 519, 33]).hdr.length = 3 ∧ mgmtGate (sMsg []).d (msgP 1 [0]) = ((sMsg []).d, true) ∧
    (sMsg []).d.tlsRuns = true ∧ (∀ k < 10, msgType (msgP k [0]) = k) ∧ pkf (pkt opMGMT_MSG 9 12 11 0 0) PKT_DST ≠ (sMsg []).d.node ∧
    (sMsg []).d.pairOf 6 (msgIndex (msgP 2 [0])) = some 2 ∧ (sMsg []).d.pairOf 6 8 = none ∧
    (sMsg []).d.get (TLS_PAIR_CLASS_DIFF 2) ≠ 1 := by unfold State.serving; decide +kernel
theorem test_w_Pairs : (let s := sMsg [] { mine := [(2, [own0])] }
     let p := msgP (2 + 2 ^ 10) [0, 5 * 2 ^ 32 + 2 ^ 9 + 7, 33]
     let a := leNat ((p.payload.drop 16).take 8)
     msgType p = 2 ∧ leNat (p.payload.take 8) / 2 ^ 10 % 16 = 1 ∧ leNat ((p.payload.drop 24).take 8) = own0.digest ∧
       (sget s.d.tls.mine 2 []).find? (fun x => x.key == (a % 2 ^ 9, a / 2 ^ 9 % 2, a / 2 ^ 32)) = some own0) ∧
    (let s := sMsg [(actF (RAD_CELL_ROLE 2), 1), (TLS_SHADOW_CFG_MODE, 2)]
     s.d.paired 2 = true ∧ s.d.get (actF (RAD_CELL_ROLE 2)) = 1 ∧ sfind s.d.rad.cells 2 ≠ none ∧ sfind s.d.rad.roles 2 = none ∧ 1 ≤ s.d.get TLS_SHADOW_CFG_MODE) ∧
    (sMsg [(TLS_SHADOW_CFG_MODE, 0)]).d.get TLS_SHADOW_CFG_MODE = 0 ∧ (sMsg []).d.get (actF (RAD_CELL_ROLE 2)) = 0 := by decide
def repF : List (Fld × Nat) := [(TLS_REPLICA_VALID 1, 1), (TLS_REPLICA_GROUP 1, 3), (TLS_REPLICA_PEER_VALID 1, 3), (TLS_REPLICA_PEERS 1, 6 + 8 * 65536)]
theorem test_w_Replicas : (let s := sMsg repF
     s.d.is (TLS_REPLICA_VALID 1) = true ∧ s.d.get (TLS_REPLICA_GROUP 1) = msgField (msgP 5 [3, 0, 0, 0, 0]) 0 ∧
       (∀ q < 64, q ≠ 1 → s.d.is (TLS_REPLICA_VALID q) = false) ∧ s.d.replicaPeers 1 = [(0, 6), (1, 8)] ∧
       (s.d.replicaPeers 1).find? (fun p => p.2 == 6) = some (0, 6) ∧ sfind s.d.tls.rounds 7 = none ∧ s.d.get (TLS_REPLICA_STATE 1) = 0) ∧
    (let t : Tls := { rounds := [(4, (0, 8, 1)), (5, (0, 8, 1)), (7, (0, 9, 1))] }
     sfind t.rounds 7 = some (0, 9, 1) ∧ sfind t.rounds 4 = some (0, 8, 1) ∧ sfind t.rounds 5 = some (0, 8, 1)) ∧
    (let s := sMsg repF { steps := [(1, 5)] }
     s.d.get (TLS_REPLICA_N 1) < sget s.d.tls.steps 1 0 ∧ (digestScan s.mem s.d (s.d.get (TLS_REPLICA_OBJECT 1))).2 = .ok) := by decide
def winF (kind state : Nat) : List (Fld × Nat) := [(TLS_CWIN_VALID 1, 1), (TLS_CWIN_KIND 1, kind), (TLS_CWIN_STATE 1, state), (TLS_CWIN_ROUND 1, 4), (TLS_CWIN_LINES 1, 1),
  (TLS_CWIN_PEER0 1, 6), (TLS_CWIN_STATUS_OFF 1, 2 ^ 20)]
theorem test_w_Windows : (let s := sMsg (winF 1 1) { wins := [(1, { terms := [(0, 5)], shut := some (4, 5) })] }
     msgField (msgP 6 [1, 4, 5]) 0 = 1 ∧ s.d.get (TLS_CWIN_ROUND 1) = msgField (msgP 6 [1, 4, 5]) 1 ∧ s.d.linePlain (s.d.get (TLS_CWIN_STATUS_OFF 1)) ∧
       s.d.get (TLS_CWIN_KIND 1) = 1 ∧ s.d.get (TLS_CWIN_PEER0 1) = 6 ∧ s.d.win 1 = { terms := [(0, 5)], shut := some (4, 5) } ∧ s.d.is PRT_INJ_ECC_ARMED = false) ∧
    (let s := sMsg (winF 0 0) { wins := [(1, { terms := [(0, 5)] })] }
     s.d.get (TLS_CWIN_LINES 1) ≤ (s.d.win 1).terms.length ∧ (s.d.win 1).peer = none ∧ s.d.get (TLS_CWIN_STATE 1) = 0 ∧ s.d.get (TLS_CWIN_TILE 1) < 320 ∧
       s.d.is (TLS_CWIN_DRY 1) = false ∧ s.d.linePlain (s.d.get TLS_GO_BASE_BASE + 2 ^ 20)) := by unfold Dev.linePlain; decide
theorem test_w_Waits2 : (let s := sMsg [(LTH_TICK_COUNT_COUNT, 1000)] { mine := [(2, [own0])], heard := [(2, 0)], lags := [(Dev.stragKey 1 0, 9)] }
     ((sget s.d.tls.mine 2 []).filter (fun e => decide (e.tick + s.d.get TLS_SHADOW_CFG_MATCH_WAIT ≤ s.d.tick))).length ≠ 0 ∧ s.d.partnerSilent 2 = true ∧
       2 ∉ s.d.tls.silent ∧ sget s.d.tls.lags (Dev.stragKey 1 0) 0 ≠ 0) ∧
    (let s := sMsg [(TLS_STRAG_VALID 1, 1), (TLS_STRAG_MEMBERS 1, 2), (TLS_STRAG_WAIT_TICKS 1, 3)]
     s.d.is (TLS_STRAG_VALID 1) = true ∧ 0 < s.d.get (TLS_STRAG_MEMBERS 1) ∧ s.d.get (TLS_STRAG_WAIT_TICKS 1) ≤ 9 ∧ sfind s.d.tls.backups (Dev.stragKey 1 0) = none) ∧
    sfind ({ ({} : Rad) with roles := [(2, (0, 40, true))] } : Rad).roles 2 = some (0, 40, true) ∧ (80 % (dev []).frameTicks = 0) := by decide
def vfF : List (Fld × Nat) := [(VIR_STATUS_VF_EN, 1), (VIR_STATUS_NUM_VFS, 2)]
def sVir (l : List (Fld × Nat)) (v : Vir := {}) : State := st l (fun d => { d with vir := v })
theorem test_w_Resets : (st []).d.inReset = false ∧ (st [] (fun d => { d with pins := { d.pins with held := true } })).d.inReset = true ∧ (st []).serving ∧
    (sVir [(INST_STATUS_STATE 1, isRESETTING)] { resets := [(1, (0, false))] }).d.resetting 1 = true ∧ (st []).d.resetting 1 = false ∧ (∀ q ∈ (st []).d.liveSeqs, (st []).d.seqInRange 1 q = false) ∧
    (st []).d.validCtxs = [] ∧ (st []).d.liveSeqs = [] ∧ (∀ n < 128, 0 < n → (st []).d.vfLive n = false) ∧ (st vfF).d.vfLive 2 = true ∧ (st vfF).d.vfLive 1 = true ∧
    (∀ k < 128, 1 < k → k ≠ 2 → (st vfF).d.vfLive k = false) := by unfold State.serving; decide
theorem test_w_Enable : (st []).d.asks .pf .bar0 (0x420000 + 64 * 1) ∧
    (let s := st [(VIR_INST_CTRL_EN 0, 1), (VIR_INST_SEQ_SEQ_COUNT 0, 4), (VIR_INST_SEQ_SEQ_COUNT 1, 4)]
     s.d.get (VIR_INST_CTRL_EN 1) = 0 ∧ s.d.rangeClash 1 = true) ∧ (st []).d.rangeClash 1 = false ∧
    (let s := sVir [(LTH_STATUS_RUNNING, 1)] { resets := [(1, (0, false))] }
     sfind s.d.vir.resets 1 = some (0, false) ∧ s.d.get LTH_STATUS_RUNNING = 1) ∧
    (let s := sVir [] { resets := [(1, (2, true))] }
     sfind s.d.vir.resets 1 = some (2, true) ∧ s.d.validCtxs = []) ∧
    (let s := st [(LTH_CTX_VALID 3, 1), (VIR_INST_CTX_CTX_BASE 1, 2), (VIR_INST_CTX_CTX_COUNT 1, 4), (VIR_INST_CTRL_EN 1, 1)]
       (fun d => { d with vir := { resets := [(1, (2, false))] }, lathe := { d.lathe with swaps := [⟨3, 5, 1, true⟩] } })
     s.serving ∧ sfind s.d.vir.resets 1 = some (2, false) ∧ 3 ∈ s.d.validCtxs ∧ s.d.ctxInst 3 = 1 ∧ s.d.ctxSwapping 3 = true) ∧ sfind (st []).d.vir.resets 1 = none :=
  ⟨test_asks _ _ (by decide), by unfold State.serving; decide⟩
def msg (t tgt gen : Nat) : Words := mkWords 8 [(MSG_TYPE, t), (MSG_TARGET, tgt), (MSG_IGEN, gen), (MSG_SEQ, 7), (MSG_SGEN, 9)]
theorem test_w_Mailboxes : (st []).d.pages .pf 0 ∧ wfld (msg 2 3 1) MSG_TARGET = 3 ∧ (st []).d.igen 0 = 1 ∧ wfld (msg 2 3 1) MSG_IGEN = 1 ∧ (st []).d.mbox 3 = [] ∧
    wfld (msg 2 0 1) MSG_TARGET = 0 ∧ wfld (msg 3 0 1) MSG_TYPE ≠ 2 ∧ wfld (msg 2 3 5) MSG_IGEN ≠ 1 ∧ agentInst .pf ≠ 1 ∧
    (let s := st (cqF 0 ++ [(VIR_INST_SEQ_SEQ_COUNT 0, 16), (SEQ_STATE 7, sqACTIVE), (SEQ_SGEN 7, 9)])
     s.d.seqInRange 0 (wfld (msg 1 0 1) MSG_SEQ) = true ∧ wfld (msg 1 0 1) MSG_SGEN = s.d.get (SEQ_SGEN 7) ∧ s.d.get (SEQ_STATE 7) = sqACTIVE ∧
       s.d.get (SEQ_ABORT_REQ 7) = 0 ∧ s.d.cqReady 0 1) ∧ ((sVir [] { mbox := [(0, [msg 2 0 1])] }).d.mbox 0).length ≤ 64 :=
  ⟨test_pages _ (by decide), by unfold Dev.cqReady Dev.linePlain; decide⟩
theorem test_w_Msix : (let s := sVir [] { msixPend := [(0, 5, 1), (0, 6, 1)], bme := true, recent := [(0, 5, 7, none), (0, 6, 7, some 1), (0, 7, 7, some 4)] }
     (∀ p ∈ s.d.vir.msixPend, p.2.2 = s.d.igen p.1) ∧ (s.d.vir.msixPend.map (fun p => (p.1, p.2.1))).Nodup ∧
       s.d.vir.recent.find? (fun r => r.1 == 0 && r.2.1 == 5) = some (0, 5, 7, none) ∧ s.d.vir.recent.find? (fun r => r.1 == 0 && r.2.1 == 6) = some (0, 6, 7, some 1) ∧
       s.d.vir.recent.find? (fun r => r.1 == 0 && r.2.1 == 7) = some (0, 7, 7, some 4) ∧ s.d.igen 0 = 1 ∧ s.d.vir.recent.find? (fun r => r.1 == 0 && r.2.1 == 8) = none) ∧
    (sVir [] { msixTab := [(23, 0)], fns := [(0, { msixEn := true })] }).d.msixMasked 0 5 = false ∧ (st []).d.msixMasked 0 5 = true := by decide
def je : JrnlEntry := ⟨1, 0, 0, true, false, false, 4, 5, 6⟩
theorem test_w_Journal : (st []).d.asks .pf .bar0 0x400020 ∧ (st [] (fun d => { d with bus := { d.bus with journal := [je] } })).d.bus.journal = [je] ∧
    (let r := ringCfg 0 0
     let v := 4 * 2 ^ r.2.1.lo + 0x100 * 2 ^ r.1.lo + 2 ^ 63
     v / 2 ^ r.2.1.lo % 2 ^ r.2.1.width = 4 ∧ v / 2 ^ r.1.lo % 2 ^ r.1.width = 0x100 ∧
       (st (objF 1 1 0)).d.insideWritable (some 0) (0x100 * 4096) (2 ^ 4 * ringEntry 0) = true ∧ (st []).d.insideWritable (some 0) (0x100 * 4096) (2 ^ 4 * ringEntry 0) = false ∧
       (st [(SQ_CFG_EN 0, 1)]).d.get r.2.2.2 = 1) := ⟨test_asks _ _ (by decide), by decide⟩
/-- A device at a phase of the start-up that is not in service yet. -/
def sPh (ph : Nat) (f : Flash) (g : Fpl → Fpl := id) : State := st [(FPL_BOOT_STATUS_IN_SERVICE, 0), (FPL_BOOT_STATUS_PHASE, ph)] (fun d => { d with fpl := g { d.fpl with flash := f } })
/-- The start-up phases, of StartUpAndAccess and of PerturbationAndPins. -/
theorem test_w_Phases : (∀ ph ∈ [0, 1, 2, 3], (sPh ph {}).d.quiet = true ∧ (sPh ph {}).d.inReset = false ∧ (sPh ph {}).d.pins.held = false ∧
      (sPh ph {}).d.get FPL_BOOT_STATUS_PHASE = ph) ∧ (st [] (fun d => { d with pins := { d.pins with held := true } })).d.pins.held = true := by decide
/-- The slots before a start: one confirmed, one on trial, one that has used its tries with a good other one, and none that can run. -/
def bootFs : List Flash :=
  let t : Slot := { state := 1, tries := 2, shipped := true }
  [{}, { slotA := t }, { slotA := { t with tries := 0 }, slotB := { t with tries := 1 } }, { slotA := { state := 3 } }]
theorem test_w_Boot : (∀ f ∈ bootFs, (sPh 0 f).d.quiet = true ∧ (sPh 0 f).d.inReset = false ∧ (sPh 0 f).d.get FPL_BOOT_STATUS_PHASE = 0 ∧
      (sPh 0 f).d.fpl.flash.load = f ∧ f.active < 2) ∧
    (let f (i : Nat) : Flash := bootFs.getD i {}
     let x (i : Nat) : Slot := (f i).slot 0
     let fit (y : Slot) : Prop := (y.state = 1 ∨ y.state = 2) ∧ y.verifies 0 = true
     ((x 0).state = 2 ∧ (x 0).verifies 0 = true) ∧ ((x 1).state = 1 ∧ 0 < (x 1).tries ∧ (x 1).verifies 0 = true) ∧
       ((x 2).state = 1 ∧ (x 2).tries = 0 ∧ fit ((f 2).slot 1)) ∧ (¬ fit (x 3) ∧ ¬ fit ((f 3).slot 1))) := by decide
/-- Time 0 has found firmware. -/
def sFlash : State := sPh 1 {} (fun p => { p with fwDigest := [1] })
theorem test_w_FlashRead : sFlash.d.quiet = true ∧ sFlash.d.inReset = false ∧ sFlash.d.get FPL_BOOT_STATUS_PHASE = 1 ∧ sFlash.d.fpl.fwDigest ≠ [] ∧
    (∀ e ∈ sFlash.d.retainedIn.fpl.flash.units, e.2.state ≠ 2) ∧ (sPh 1 {}).d.fpl.fwDigest = [] ∧ (sPh 1 {}).d.inReset = false := by decide
theorem test_w_Image : (sPh 3 {}).d.get FPL_BOOT_STATUS_PHASE = 3 ∧ (sPh 3 {}).d.fpl.flash.selected = none ∧ (sPh 3 {}).d.get RAD_CFG_CTRL_PENDING ≠ 1 ∧
    (let s : State := { sPh 3 {} with d := (sPh 3 {}).d.set RAD_CFG_CTRL_PENDING 1 }
     s.d.quiet = true ∧ s.d.inReset = false ∧ s.d.get FPL_BOOT_STATUS_PHASE = 3 ∧ s.d.get RAD_CFG_CTRL_PENDING = 1) ∧
    (sPh 3 {}).d.quiet = true ∧ (sPh 3 {}).d.inReset = false ∧ leNat (([0x0F, 0, 0, 0, 0, 0, 0, 0] : List Byte).take 1) = 0x0F ∧
    7 ≤ leNat (([9, 0, 0, 0, 0, 0, 0, 0] : List Byte).take 1) ∧ ([] : List Byte).length ≠ gougeImageBytes ∧ (List.replicate gougeImageBytes (0 : Byte)).length = gougeImageBytes :=
  ⟨by decide, by decide, by decide, by decide, by decide, by decide, by decide, by decide, by decide, List.length_replicate⟩
theorem test_w_Attest : (st []).d.asks .pf .bar0 0x68 ∧ (st []).d.fpl.applying = false ∧ (st []).d.get FPL_ATTEST_CTRL_BUSY ≠ 1 ∧ (st []).d.quiet = true ∧
    (st [(FPL_ATTEST_CTRL_BUSY, 1)]).d.get FPL_ATTEST_CTRL_BUSY = 1 ∧ (st [(FPL_BOOT_STATUS_ID_OK, 0)]).d.get FPL_BOOT_STATUS_ID_OK ≠ 1 ∧
    (st [(FPL_BOOT_STATUS_ID_OK, 1)]).d.get FPL_BOOT_STATUS_ID_OK = 1 ∧ (sPh 3 {}).d.reach .i3c .bar0 0x40000 false = false ∧ (st []).d.get FPL_BOOT_STATUS_PHASE ≠ 0 ∧
    (sPh 3 {}).d.reach .i3c .bar0 0x40000 true = false ∧ (sPh 3 {}).d.fpl.applying = false ∧ (st []).d.inReset = false := ⟨test_asks _ _ (by decide), by decide⟩
def sUpd (l : List (Fld × Nat)) (u : Upd) (f : Flash := {}) (g : Fpl → Fpl := id) : State :=
  st (fabF ++ tlsF ++ [(FPL_SUPPLY_MARGIN_OK, 1)] ++ l) (fun d => { d with fpl := g { d.fpl with flash := f, upd := u } })
def ch (stage : Nat) : Chain := { id := 7, off := 0, stage := stage, heard := 20, prog := 20 }
def fwP (type word : Nat) (bytes : List Byte) : Packet := pkt opMGMT_MSG 5 12 11 0 0 (fwPayload type 7 word bytes)
theorem test_w_Updates : (sUpd [] {}).serving ∧ (sUpd [] {}).d.get FPL_FW_CTRL_HOST_ACK_REQ < 2 ∧ (sUpd [] {}).d.get FPL_FW_CTRL_OWNER_LOCK < 2 ∧
    (sUpd [] {}).d.get FPL_UPD_CTRL_TARGET < 2 ∧ (sUpd [] {}).d.get FPL_UPD_CTRL_SRC_MODE < 2 ∧ (sUpd [] {}).d.get FPL_UPD_CTRL_FORWARD < 2 ∧ (sUpd [] {}).d.get FPL_UPD_CTRL_STATE < 8 ∧
    (sUpd [] {}).d.asks .pf .bar0 0x18 ∧ (sUpd [] {}).d.asks .pf .bar0 0x30 ∧ (sUpd [] {}).d.asks .pf .bar0 0x40 ∧
    (let f : Flash := { slotA := { state := 1, tries := 2, shipped := true }, slotB := { state := 2, shipped := true } }
     let s := sUpd [(TLS_POS_POS, 120)] {} f (fun p => { p with fwDigest := [1] })
     s.d.get TLS_STATUS_RUNNING = 1 ∧ (s.d.get FPL_FW_CTRL_HOST_ACK_REQ = 1 → s.d.get FPL_FW_CTRL_HOST_OK = 1) ∧ (f.slot s.d.booted).state = 1 ∧ s.d.activateBad = none ∧
       s.d.fpl.fwDigest ≠ [] ∧ s.d.fpl.released + 120 ≤ s.d.get TLS_POS_POS ∧ s.d.tls.inQ = [] ∧ s.d.tls.retained = []) ∧ (sUpd [] {}).d.activateBad = some 0x0B :=
  ⟨by unfold State.serving; decide, by decide, by decide, by decide, by decide, by decide, by decide, test_asks _ _ (by decide), test_asks _ _ (by decide),
    test_asks _ _ (by decide), by decide, by decide⟩
theorem test_w_UpdateStates : (sUpd [] {}).d.updBad 0 = none ∧ (sUpd [(FPL_SUPPLY_MARGIN_OK, 0)] {}).d.updBad 0 = some 2 ∧ (sUpd [] {}).d.updBusy = false ∧
    (sUpd [(FPL_UPD_CTRL_STATE, 1)] {}).d.updBusy = true ∧ (0x1000001 : W32).toNat / 2 % 4 = 0 ∧
    (let s := sUpd [(FPL_UPD_CTRL_STATE, 1)] { mode := 1 }
     s.d.get FPL_UPD_CTRL_STATE = 1 ∧ s.d.fpl.upd.mode = 1 ∧ s.d.fpl.upd.total + 8 ≤ imageMax) ∧
    (let s := sUpd [(FPL_UPD_CTRL_STATE, 1), (FPL_UPD_SRC_OFFSET, 2 ^ 20)] { mode := 0 }
     (readRange s.mem s.d (s.d.get FPL_UPD_SRC_OFFSET / 64 * 64) 64 .consumer).2.1 = .ok) ∧
    (let s := sUpd [(FPL_UPD_CTRL_STATE, 1)] { mode := 0 }
     let r := (readRange s.mem s.d (s.d.get FPL_UPD_SRC_OFFSET / 64 * 64) 64 .consumer).2.1
     r ≠ .ok ∧ r ≠ .held) ∧ (sUpd [(FPL_UPD_CTRL_STATE, 2)] {}).d.get FPL_UPD_CTRL_STATE = 2 ∧ (sUpd [(FPL_UPD_CTRL_STATE, 3)] {}).d.get FPL_BOOT_STATUS_PHASE = 4 := by decide
theorem test_w_Chains : (let u : Upd := { total := 256, up := some (6, 7), pieces := [(128, [])] }
     fwWord (fwP 0x21 0 []) = 0 ∧ fwId (fwP 0x21 0 []) = 7 ∧ pkf (fwP 0x21 0 []) PKT_SRC = 6 ∧ u.up = some (pkf (fwP 0x21 0 []) PKT_SRC, fwId (fwP 0x21 0 [])) ∧
       (∀ k < 2, 128 * k ≠ 0 → sfind u.pieces (128 * k) ≠ none) ∧ fwWord (fwP 0x20 256 []) ≤ imageMax ∧ ({} : Upd).up ≠ some (6, 7) ∧ ({} : Upd).sent = []) ∧
    (({ sent := [[1, 2]] } : Upd).sent.any (fun x => x.take 32 == (fwBytes (fwP 0x20 2 [1, 2])).take 32) = true) ∧
    (let s := sUpd [(FPL_CHAIN_NODE 1, 6), (FPL_CHAIN_VALID 1, 1)] { chain := [(1, ch 1)] }
     s.d.transferOf (fwP 0x22 128 []) = some (0, 1, ch 1) ∧ s.d.fpl.upd.own = none ∧ (sUpd [] {}).d.transferOf (fwP 0x22 128 []) = none ∧
       s.d.fpl.upd.chain.any (fun e => e.2.stage != 2) = true ∧ (ch 1).stage < 2 ∧ s.d.get FPL_UPD_CTRL_STATE ≠ 1) ∧
    (let u : Upd := { fwd := true }
     u.fwd = true ∧ [(1 : Byte)] ∉ u.sent) ∧ mgmtGate (sUpd [] {}).d (fwP 0x20 2 []) = ((sUpd [] {}).d, true) ∧ msgType (fwP 0x23 0 []) = 0x23 ∧
    (fwP 0x20 2 []).hdr.length = 3 ∧ (sUpd [] { chain := [(1, ch 1)], own := some (stOK, 0) }).d.fpl.upd.own = some (stOK, 0) := by decide
def sPrt (l : List (Fld × Nat)) (lease : Option Nat := none) : State := st l (fun d => { d with fpl := { d.fpl with lease := lease } })
theorem test_w_Perturbation : (st []).serving ∧ (st []).d.asks .pf .bar0 0x440000 ∧ (st []).d.asks .pf .bar0 0x440030 ∧ (st []).d.asks .pf .bar0 0x440038 ∧
    (st []).d.asks .pf .bar0 0x440040 ∧ (st []).d.asks .pf .bar0 0x440044 ∧ (sPrt [(PRT_CTRL_HELD, 1)]).d.get PRT_CTRL_HELD = 1 ∧ (Agent.pf : Agent) ≠ .tailstock ∧
    ¬ ((st []).d.get PRT_CTRL_HELD = 1 ∧ (Agent.pf : Agent) ≠ .tailstock) ∧ (st []).d.fpl.lease = none ∧
    (let s (j : Nat) : State := sPrt [(PRT_CTRL_LEASE, 5)] (some j)
     (s 6).serving ∧ (s 6).d.fpl.lease = some 6 ∧ (s 6).d.get PRT_CTRL_LEASE ≠ 0 ∧ (s 6).d.get PRT_CTRL_LEASE < 6 ∧ 5 ≤ (s 5).d.get PRT_CTRL_LEASE) :=
  ⟨by unfold State.serving; decide, test_asks _ _ (by decide), test_asks _ _ (by decide), test_asks _ _ (by decide), test_asks _ _ (by decide), test_asks _ _ (by decide),
    by unfold State.serving; decide⟩
theorem test_w_Injections : (let v : W64 := 0x8000020000000000
     v.toNat / 2 ^ 41 % 8 = 1 ∧ 2 ^ 63 ≤ v.toNat) ∧ (let v : W64 := 0x80000A0000000000
     4 < v.toNat / 2 ^ 41 % 8) ∧ (0x8000013F : W32).toNat % 512 = 319 ∧ (0x80000140 : W32).toNat % 512 = 320 ∧ 2 ^ 31 ≤ (0x8000010B : W32).toNat ∧
    (0x8000010B : W32).toNat % 16 = 11 ∧ (0x8000010B : W32).toNat / 2 ^ 8 % 256 = 1 ∧ (0x8000010C : W32).toNat % 16 = 12 := by decide
theorem test_w_Pins : (st []).d.quiet = true ∧ (sensorLevels 3).1 ≤ 95 ∧ (94 : Int) < (sensorLevels 3).1 ∧ (sensorLevels 3).2.2 ≤ 105 ∧ (st []).d.tls.inQ = [] ∧ (st []).d.tls.retained = [] ∧
    (sput (st []).d.pins.temps 3 89).all (fun e => decide (e.2 < (sensorLevels e.1).2.1)) = true ∧
    (sput (st []).d.pins.temps 3 91).all (fun e => decide (e.2 < (sensorLevels e.1).2.1)) = false ∧ (st []).d.inReset = false ∧
    (let s := st [] (fun d => { d with pins := { d.pins with rstLow := true } })
     s.d.quiet = true ∧ s.d.inReset = true) := by decide

/-! ### Results that the spec gives -/

def sumF (l : List FVal) : FVal := l.foldl FVal.add (.fin false 0 0)
/-- The worked MXFP8 step of 04_number_formats_and_arithmetic.md. -/
theorem test_mxfp8_step :
    let p (a b : Nat) : FVal := ((elemVal 3 a).mul (elemVal 3 b)).mul ((e8m0 0x7C).mul (e8m0 0x81))
    let v := sumF [p 0x3C 0x42, p 0xAC 0x7E, p 0x01 0x36]
    accUpdate 0x42C80000 v (.fin false 1 0) (.fin false 1 0) = 0x418F01C0 ∧ drainFloat fmtBF16 false 0x418F01C0 = (0x418F, false) := by decide +kernel
/-- The worked DFT factor of the same file. -/
theorem test_dft_factor : accComplex 0 (-23170000) 15 = (BitVec.ofInt 32 (-707), false) ∧ accComplex 0 (-69510000) 15 = (BitVec.ofInt 32 (-2121), false) ∧
    drainComplex 0 (BitVec.ofInt 32 (-707)) (BitVec.ofInt 32 (-2121)) = (0xF7B7FD3D, false) := by decide +kernel
/-- R506. -/
theorem test_idcode : (after .idcode (st [])).d.out.tdo = [0x21648A4D] := by decide
/-- R360: a sum of ADD2 that leaves 16 bits is clamped and sets SAT. -/
theorem test_add2_saturates : ((after (.add2 2 (mkWords 1 [(GA_OP, 2), (GA_SB, 1), (GA_DST, 3)])[0]!) (sG { g0 with regs := [(0, 0x00017FFF), (1, 0x00010001)] })).d.gcore 2).cget crSR = 8 := by
  decide +kernel
/-- The command at the front runs; on an empty queue the block idles. -/
theorem test_step : (match step { st [] with pending := [.idcode, .bypass] } with | .next s => (s.pending, s.d.out.tdo) | _ => ([], [])) = ([.bypass], [0x21648A4D]) := by decide +kernel
theorem test_decode : decodeTableWord 32 0 = none := rfl
/-- R451: a ring outside every object of the instance is refused. -/
theorem test_ring_refused : (after (.ringCfgWrite .pf 0 0 (0x8000000000000004)) (st [])).d.get (INST_STATUS_RING_REFUSED 0) = 1 := by decide +kernel
/-- R446: a read of the PF beyond the range answers all ones. -/
theorem test_window_beyond : (after (.hostBar4Read 0 (2 ^ 30) 2 []) (st [(VIR_PF_WIN_BASE, 2047)])).d.mem.hostData = [0xFF, 0xFF] := by decide +kernel
/-- R505: 95 °C at a stack pulls THERM_ALERT_N low. -/
theorem test_thermal_alert : (after (.thermalAlert 3 95) (st [])).d.pins.thermLow = true ∧ (after (.thermalAlert 3 94) (st [])).d.pins.thermLow = false := by decide +kernel

/-! ### Further states that meet the hypotheses of the statements -/

theorem test_w_PortOffsets (d : Dev) (h : d.is FPL_BOOT_STATUS_IN_SERVICE = true) :
    ∀ off ∈ [0x40020, 0x40030, 0x100108, 0x100110, 0x100118], d.asks .pf .bar0 off := fun _ _ => test_asks _ _ h
theorem test_w_DmaOrder : (∀ k < 2, ((chk { dq := [dop true, { dop false with id := 1 }] }).d.chuck (20 + k)).nextDma = none) ∧
    ({ dq := [dop true] } : Chuck).conflicts (descRanges ddW).1 (descRanges ddW).2 = true ∧ ({ dq := [] } : Chuck).conflicts (descRanges ddW).1 (descRanges ddW).2 = false ∧
    (let o := dop true
     o.held = false ∧ o.waits = [] ∧ o.fail = none ∧ o.cut = false ∧ ((chk { ctx := some 3, dq := [o] }).d.chuck 22).ctx.isSome = true) ∧
    (3 : W64).toNat % 2048 = 3 := by decide
/-- A cell on air with a transmit antenna and an uplink channel, whose burst for interval 14 has come. -/
def sDl : State := st (radF ++ [(actF (RAD_CH_UL_EN 641), 1)])
  (fun d => { d with rad := { d.rad with cells := [(2, { first := 3 })], subs := [(2, [⟨[0, 0, 0, 0], [], 0, 14, none⟩])] } })
theorem test_w_CodingDue : sDl.serving ∧ sfind sDl.d.rad.cells 2 = some { first := 3 } ∧ sDl.d.codingRan 2 true = false ∧ (sDl.d.cellCfg true 2).role = 0 ∧
    0 < (sDl.d.cellCfg true 2).tx ∧ sDl.d.codingOpen 2 true = true ∧ (sDl.d.cellCfg true 2).plan.any (fun x => x.ul) = true ∧ 3 + 3 ≤ sDl.d.tick ∧ 3 < sDl.d.tick := by
  unfold State.serving; decide +kernel
theorem test_w_SyncLimit : (let x := (sGg.d.plan true 2).find? (fun x => x.ch == 1)
     let lim := (x.map (fun x => syncLimit (sGg.d.mode true 2 x.mode))).getD 0
     (x.isSome = true ∧ ([] : List Bool).length < lim) ∧ lim ≤ (List.replicate 16 false).length) ∧
    (∀ k < 128, sSub.d.readPlain (2 ^ 20 + k)) := by unfold Dev.readPlain; decide
theorem test_w_Held : (1 ∈ sRefetch.d.objExts 1 ∧ sRefetch.d.get (TMAP_REFETCH 1) = 1) ∧ reservedSet (objWords 6 1 0 0 0) MCMD_USED = false ∧
    (st []).d.writeHeld 0 = false ∧ packetGood (pkt 0xEE 5 12 11 0 0) = false ∧ (2 : Nat) ^ 30 + 2 ^ 9 ≤ 2 ^ (st []).d.vir.rbar ∧ (st []).d.vir.rbar = 41 := by decide
theorem test_w_LateTimer : (let g : GCore := { g0 with creg := [(crTMR, 4), (crCYC, 5)], was := 3 }
     g.item ≠ none ∧ g.was < g.cget crTMR ∧ g.cget crTMR < g.cyc ∧ g.held = none ∧ g.flight = []) := by decide
theorem test_w_FirstRetests : (let s := sTls [] { units := [(uG, { due := true, first := true, left := [cnd] })] }
     (∃ e ∈ s.d.tls.units, e.2.first = true ∧ s.d.testable e.1 = true) ∧ (s.d.unit uG).first = true) ∧
    (sTls []).d.tls.units = [] ∧ (sTls [] { toFlash := [[1, 2]] }).d.fpl.flash.units.length < 8192 := by decide
theorem test_w_OwnInjection : (let s := sMsg (winF 1 1 ++ [(PRT_CTRL_MASK_INJ, 1)]) { wins := [(1, { inj := some 4 })] }
     (s.d.win 1).inj = some 4 ∧ s.d.get PRT_CTRL_MASK_INJ = 1) ∧ (sMsg (winF 1 1 ++ [(PRT_CTRL_MASK_INJ, 0)])).d.get PRT_CTRL_MASK_INJ ≠ 1 := by decide
/-- A scan whose first line waits for a re-fetch answers so. -/
theorem test_scan_held (m : Mem) (d : Dev) (base n : Nat) (h : (readLine m d base .internal).2 = .held) (hr : d.is (TMAP_REFETCH (extOf base)) = true) :
    (scanLines m d base (n + 1)).2 = .held := by
  have keep : ∀ (f : Dev × LineRes → Nat → Dev × LineRes), (∀ r i, r.2 = .held → (f r i).2 = .held) →
      ∀ (l : List Nat) r, r.2 = .held → (l.foldl f r).2 = .held := by
    intro f hf l
    induction l with
    | nil => intro r hh; exact hh
    | cons a t ih => intro r hh; exact ih _ (hf r a hh)
  unfold scanLines
  rw [List.range_eq_range', List.range'_succ, List.foldl_cons]
  refine keep _ ?_ _ _ ?_
  · intro r i hh
    dsimp only
    split <;> simp [hh]
  · simp [hr, h]
theorem test_w_HeldRound : (let s := sMsg (repF ++ objF 1 1 0 ++ [(TLS_REPLICA_OBJECT 1, 1), (TMAP_REFETCH 1, 1)]) { steps := [(1, 5)] }
     s.d.tlsRuns = true ∧ 1 ∉ s.d.tls.roundWait ∧ s.d.get (TLS_REPLICA_STATE 1) ≠ 1 ∧ s.d.get (TLS_REPLICA_N 1) < sget s.d.tls.steps 1 0 ∧
       s.d.get (OBJ_EXTENTS (s.d.get (TLS_REPLICA_OBJECT 1))) * 8192 = 8191 + 1 ∧
       (readLine s.mem s.d (s.d.get (OBJ_BASE (s.d.get (TLS_REPLICA_OBJECT 1)))) .internal).2 = .held ∧
       s.d.is (TMAP_REFETCH (extOf (s.d.get (OBJ_BASE (s.d.get (TLS_REPLICA_OBJECT 1)))))) = true) := by decide
theorem test_w_LiveReset : (let s := sSeq sqACTIVE [(VIR_INST_SEQ_SEQ_COUNT 0, 16), (LTH_CTX_VALID 3, 1)]
     s.d.resetting 0 = false ∧ 7 ∈ s.d.liveSeqs ∧ s.d.seqInRange 0 7 = true ∧ s.d.get (SEQ_INSTANCE 7) = 0 ∧ s.d.get (SEQ_STATE 7) ≠ sqFREE ∧
       s.d.get (SEQ_STATE 7) ≠ sqLEAVING ∧ s.d.get (LTH_CTX_VALID 3) = 1 ∧ s.d.ctxInst 3 = 0 ∧ 3 ∈ s.d.validCtxs) ∧
    (let s := { sSeq sqACTIVE [(VIR_INST_SEQ_SEQ_COUNT 0, 16)] with pending := [] }
     (∀ q ∈ s.d.liveSeqs, s.d.seqInRange 0 q = true → s.d.get (SEQ_INSTANCE q) = 0) ∧
       sfind ({ s.d.srv with gens := [(7, s.d.igen 0)] } : Srv).gens 7 = some (s.d.igen 0)) ∧
    (st [] (fun d => { d with vir := { d.vir with linkUp := true } })).d.vir.linkUp = true ∧ (st []).d.vir.linkUp = false := by decide
theorem test_w_Trained : (let t : Training := ⟨[1], crc32 [1], 0⟩
     ({} : Dev).fpl.flash.training = none ∧ crc32 t.results = t.crc) ∧ (dev [(FPL_BOOT_STATUS_FULL_TRAIN, 1)]).get FPL_BOOT_STATUS_FULL_TRAIN = 1 ∧
    (dev [(FPL_BOOT_STATUS_ID_OK, 1)]).get FPL_BOOT_STATUS_ID_OK = 1 ∧ (sPh 3 {}).d.fpl.image = none ∧ ((0x440000 : Nat) ≤ 0x440080 ∧ (0x440080 : Nat) < 0x480000) := by decide
/-- The largest read of a start-up: 28.27 MiB (R467). -/
theorem test_start_read : startReadMax = 29638720 := by decide
theorem test_w_BootedOnTrial : (let f : Flash := { slotA := { state := 1, tries := 2, shipped := true }, slotB := { state := 2, shipped := true } }
     let s := sUpd [(TLS_POS_POS, 120)] {} f (fun p => { p with fwDigest := [1], bootState := 1 })
     s.d.get TLS_STATUS_RUNNING = 1 ∧ s.d.fpl.bootState = 1 ∧ (s.d.fpl.flash.slot s.d.booted).state = 1 ∧ s.d.fpl.released + 120 ≤ s.d.get TLS_POS_POS) ∧
    (sUpd [] {}).d.fpl.bootState ≠ 1 := by decide
theorem test_w_Timeouts : (let u : Upd := { chain := [(1, ch 1)], began := 20 }
     let s (pos : Nat) (own : Option (Nat × Nat)) : State := sUpd [(TLS_POS_POS, pos)] { u with own := own }
     (s 21 none).serving ∧ (s 21 none).d.fpl.past = [] ∧ (s 21 none).d.fpl.upd.chain = [(1, ch 1)] ∧ (ch 1).stage = 1 ∧ (ch 1).heard + 1 ≤ (s 21 none).d.get TLS_POS_POS ∧
       (s 20 none).d.get TLS_POS_POS < (ch 1).heard + 1 ∧ (ch 1).prog + 10 ≤ (s 30 none).d.get TLS_POS_POS ∧ (s 29 none).d.get TLS_POS_POS < (ch 1).prog + 10 ∧
       u.began + 300 ≤ (s 320 none).d.get TLS_POS_POS ∧ (s 0 (some (stOK, 0))).d.fpl.upd.own = some (stOK, 0) ∧ (s 0 none).d.get FPL_UPD_CTRL_STATE ≠ 1) ∧
    (let s := sUpd [(FPL_UPD_CTRL_STATE, 1), (TLS_POS_POS, 10)] { mode := 2 }
     s.d.get FPL_UPD_CTRL_STATE = 1 ∧ s.d.fpl.upd.mode = 2 ∧ s.d.fpl.upd.prog + 10 ≤ s.d.get TLS_POS_POS ∧ s.d.fpl.upd.chain = [] ∧ s.d.fpl.upd.own = none) ∧
    ({ chain := [(1, ch 1)] } : Upd).waits = true ∧ ({} : Upd).waits = false := by unfold State.serving; decide
/-- Armed injections on targets that are there, and on targets that are not. -/
def dInj : Dev := dev (objF 1 1 0 ++ [(PRT_INJ_ECC_ARMED, 1), (PRT_INJ_ECC_OFFSET, 2 ^ 20), (PRT_INJ_ECC_SYMBOLS, 2), (PRT_INJ_CHK_ARMED, 1), (PRT_INJ_CHK_TILE, 5),
  (PRT_INJ_DIG_ARMED, 1), (PRT_INJ_DIG_KINDS, 2), (PRT_INJ_DIG_COUNT, 1), (PRT_INJ_LINK_ARMED, 1), (PRT_INJ_LINK_PORT, 3), (PRT_INJ_LINK_COUNT, 20)])
theorem test_w_Firing : dInj.get PRT_INJ_ECC_ARMED = 1 ∧ dInj.get PRT_INJ_ECC_OFFSET / 128 = (2 ^ 20) / 128 ∧ dInj.get (TMAP_TIER (extOf (2 ^ 20))) ≠ 0 ∧
    dInj.get (TMAP_WRITABLE 1) = 1 ∧ dInj.dirBusy (2 ^ 20) = false ∧ dInj.get (TMAP_MIGRATING 1) ≠ 1 ∧ dInj.get (TMAP_REFETCH 1) ≠ 1 ∧
    dInj.get PRT_INJ_CHK_ARMED = 1 ∧ dInj.get PRT_INJ_CHK_TILE = 5 ∧ run0.item.origin ≠ 2 ∧ run0.rerun = false ∧
    ({ run0 with rerun := true, inject := some (0, 1, 0, 3) } : Run).inject = some (0, 1, 0, 3) ∧ dInj.get PRT_INJ_DIG_ARMED = 1 ∧
    (dInj.get PRT_INJ_DIG_KINDS).testBit 1 = true ∧ (dInj.get PRT_INJ_DIG_KINDS).testBit 0 = false ∧ dInj.get PRT_INJ_DIG_COUNT ≤ dInj.tls.dig + 1 ∧
    dInj.get PRT_INJ_LINK_ARMED = 1 ∧ dInj.get PRT_INJ_LINK_PORT = 3 ∧ (dInj.port 3).stuck < 16 ∧ dInj.tls.link + 16 < dInj.get PRT_INJ_LINK_COUNT ∧
    dInj.get (UNL_PORT_STATUS_STATE 3) = 0 ∧ dInj.tileDisabled 5 = false := by decide
/-- R492, R175: the planted error is found in its MAC row; the flits that follow the first sixteen meet the rest of COUNT. -/
theorem test_injections : (detection true (fun _ _ => true) (injected 2 5 1 31).err).map (fun x => (x.kind, x.row, x.rows, x.cols, x.layers)) = some (1, some 5, 32, 1, 2) ∧ ((dInj.linkInject 3).port 3).stuck = 16 ∧
    (dInj.linkInject 3).tls.link = 16 ∧ (dInj.sentDigest 1 6).2 = 7 ∧ (dInj.sentDigest 1 6).1.get PRT_STATUS_FIRED_DIG = 1 ∧
    ((writeLine [] dInj (2 ^ 20) (List.replicate 128 0)).1.lineErr (dInj.lineAt (2 ^ 20))).errs = [(6, 0xFFFF), (7, 0xFFFF)] := by decide +kernel
/-- R506: EXTEST in reset drives the pins from the cells, and shows the pins whose level that changes. -/
theorem test_extest : (let s := st [] (fun d => { d with pins := { d.pins with rstLow := true, bsr := [false, false, false, false, true] } })
     (after .extest s).d.pinLevel pinPPS_OUT = 1 ∧ (after .highz s).d.pinLevel pinPPS_OUT = lvlZ ∧ (after .extest (st [])).d.pins.tap = tapBYPASS ∧
       s.d.pinLevel pinPPS_OUT ≠ lvlZ ∧ (st []).d.pins.tap < tapEXTEST) := by decide +kernel

end Sys2Proof.Tests
end

section
/-! The order of a tile's records, the end of a step and its rows without a token (R31, R212, R419). -/
namespace Sys2Proof.Machine

/-- A command whose operation leaves a serving device as it is answers the state. -/
theorem State.serving.run_same {s : State} (hs : s.serving) {f : Mem → Dev → Dev} (h : f s.mem s.d = s.d) :
    run f s = .next s := by
  obtain ⟨-, hr, hq, -, -⟩ := hs
  rw [run_quiet f s hr (by rw [h]; exact hq), h]

/-- A record of a tile that sent another one earlier does nothing before its turn (R31). -/
theorem tokenRow_of_not_arrives {m : Mem} {d : Dev} {w0 w1 : W64} (h : ¬ d.recordArrives w0 w1) : tokenRow m d w0 w1 = d := by
  rw [Dev.recordArrives, not_or, Bool.not_eq_true, Option.isSome_eq_false_iff, Option.isNone_iff_eq_none] at h
  obtain ⟨hn, hw⟩ := h
  have hany : d.srv.inbox.any (fun r => r.take 2 == [w0, w1]) = true := by simpa using hw
  simp only [tokenRow, hn, hany, if_true]

/-- The end of a step whose items have all ended: no step of the profile is left in flight. -/
theorem stepEndOp_steps_prof {m : Mem} {d : Dev} {p : Nat} (h : d.srv.steps.any (fun x => x.prof == p && x.left == 0) = true) :
    ∀ x ∈ (stepEndOp m d p).srv.steps, x.prof ≠ p := by
  obtain ⟨st, hst⟩ := Option.isSome_iff_exists.mp (List.find?_isSome.mpr (List.any_eq_true.mp h))
  intro x hx
  simp only [stepEndOp, hst, List.mem_filter, bne_iff_ne] at hx
  exact hx.2

/-- A row without a token below its third failure counts it and returns to PENDING or RUNNING (R212). -/
theorem rowFailed_below_three {m : Mem} {d : Dev} {r : SRow} (ht : r.token = false) (hst : d.get (SEQ_STATE r.seq) = sqACTIVE)
    (hg : d.get (SEQ_SGEN r.seq) = r.sgen) (ha : d.get (SEQ_ABORT_REQ r.seq) ≠ 1) (hf : d.get (SEQ_FAILS r.seq) < 2) :
    rowFailed m d r = (d.set (SEQ_FAILS r.seq) (d.get (SEQ_FAILS r.seq) + 1)).set (SEQ_STATE r.seq) (if r.prefill then sqPENDING else sqRUNNING) := by
  have hmod : (d.get (SEQ_FAILS r.seq) + 1) % 2 ^ (SEQ_FAILS r.seq).width = d.get (SEQ_FAILS r.seq) + 1 := Nat.mod_eq_of_lt (show _ < 4 by omega)
  simp only [rowFailed, Dev.is, ht, hst, hg, Dev.get_set_same, hmod, bne_self_eq_false, Bool.or_self, Bool.false_eq_true, if_false]
  rw [if_neg (by simpa using ha), if_neg (by omega)]

theorem SEQ_FAILS_key_ne_STATE (q : Nat) : Fld.key (SEQ_FAILS q) ≠ Fld.key (SEQ_STATE q) := by
  simp [Fld.key, SEQ_FAILS, SEQ_STATE]

end Sys2Proof.Machine

open Sys2Proof Sys2Proof.Machine in
/-- Settles O34: a record before its turn leaves the device (log 57), the end of a step filters the
steps in flight, and a failed row below three failures makes two register writes (R212, log 55). -/
theorem stepEndAndFailedRows : Obligations.StepEndAndFailedRows := by
  refine ⟨fun s w0 w1 hs hn => hs.run_same (tokenRow_of_not_arrives hn), fun s p hs ha => ⟨?_, stepEndOp_steps_prof ha⟩, ?_⟩
  · obtain ⟨-, hr, -⟩ := hs
    rw [show exec (.stepEnd p) s = _ from run_next _ s hr, stepEndRow, if_pos ha]
  · intro m d r ht hst hg ha hf
    rw [rowFailed_below_three ht hst hg ha hf]
    refine ⟨?_, ?_, fun f h1 h2 => ?_⟩
    · rw [Dev.get_set_ne _ _ _ _ (SEQ_FAILS_key_ne_STATE _), Dev.get_set_same]
      exact Nat.mod_eq_of_lt (show _ < 4 by omega)
    · rw [Dev.get_set_same]; cases r.prefill <;> rfl
    · rw [Dev.get_set_ne _ _ _ _ h2, Dev.get_set_ne _ _ _ _ h1]
end

section
/-!
Nothing that settles after a command changes the pins: rules for conditionals and folds, then one rule per operation that `settle` reaches,
in the order of the model. The one operation that could move FAULT_N is a detection that makes its unit FAULTY; see `Dev.detected_pins`.
-/
namespace Sys2Proof.Machine

@[simp] theorem ite_pins (c : Prop) [Decidable c] (a b : Dev) : (if c then a else b).pins = if c then a.pins else b.pins :=
  apply_ite Dev.pins c a b

@[simp] theorem ite_fst_pins {α : Type} (c : Prop) [Decidable c] (a b : Dev × α) :
    (if c then a else b).1.pins = if c then a.1.pins else b.1.pins := apply_ite (fun r : Dev × α => r.1.pins) c a b

@[simp] theorem foldl_pins {α : Type} {f : Dev → α → Dev} {d : Dev} (h : ∀ e a, e.pins = d.pins → (f e a).pins = d.pins) (l : List α) :
    (l.foldl f d).pins = d.pins := List.foldlRecOn l f (motive := fun e => e.pins = d.pins) rfl fun e he a _ => h e a he

@[simp] theorem foldl_set_pins {α : Type} (l : List α) (f : α → Fld) (v : α → Nat) (d : Dev) :
    (l.foldl (fun d a => d.set (f a) (v a)) d).pins = d.pins := by
  rw [foldl_pins]; exact fun _ _ h => h

@[simp] theorem foldl_fst_pins {α β : Type} {f : Dev × β → α → Dev × β} {r : Dev × β}
    (h : ∀ q a, q.1.pins = r.1.pins → (f q a).1.pins = r.1.pins) (l : List α) : (l.foldl f r).1.pins = r.1.pins :=
  List.foldlRecOn l f (motive := fun q => q.1.pins = r.1.pins) rfl fun q hq a _ => h q a hq

/-! ### Registers, edges and bytes of the stacks -/

@[simp] theorem Dev.bump_pins (d : Dev) (f : Fld) (n : Nat) : (d.bump f n).pins = d.pins := by simp [Dev.bump]
@[simp] theorem Dev.raise_pins (d : Dev) (f : Fld) (n : Nat) : (d.raise f n).pins = d.pins := by simp [Dev.raise]
@[simp] theorem Dev.edgeAt_pins (d : Dev) (pin level t : Nat) : (d.edgeAt pin level t).pins = d.pins := by simp [Dev.edgeAt]

@[simp] theorem Dev.physPuts_pins (d : Dev) (k : Nat) (l : List Byte) : (d.physPuts k l).pins = d.pins := by
  induction l generalizing d k with
  | nil => rfl
  | cons b l ih => simp [Dev.physPuts, ih]

/-! ### Packets that leave -/

@[simp] theorem Dev.txLog_pins (d : Dev) (s : TxStamp) : (d.txLog s).pins = d.pins := by simp [Dev.txLog]
@[simp] theorem Dev.ptpStampOut_pins (d : Dev) (i : Nat) (bytes : List Byte) : (d.ptpStampOut i bytes).1.pins = d.pins := by simp [Dev.ptpStampOut]
@[simp] theorem Dev.setGenOf_pins (d : Dev) (n g : Nat) : (d.setGenOf n g).pins = d.pins := by simp [Dev.setGenOf]
@[simp] theorem Dev.linkInject_pins (d : Dev) (p : Nat) : (d.linkInject p).pins = d.pins := by simp [Dev.linkInject]
@[simp] theorem Dev.stampLeaving_pins (d : Dev) (p : Nat) (pk : Packet) : (d.stampLeaving p pk).1.pins = d.pins := by simp [Dev.stampLeaving]

@[simp] theorem Dev.pump_pins (d : Dev) (p n : Nat) : (d.pump p n).pins = d.pins := by
  induction n generalizing d with
  | zero => rfl
  | succ n ih =>
    simp only [Dev.pump]
    split
    · rfl
    · split <;> simp [ih]

@[simp] theorem Dev.toPort_pins (d : Dev) (p : Nat) (pk : Packet) : (d.toPort p pk).pins = d.pins := by simp [Dev.toPort]

@[simp] theorem Dev.sendPacket_pins (d : Dev) (pk : Packet) : (d.sendPacket pk).pins = d.pins := by
  simp only [Dev.sendPacket, ite_pins]
  cases d.routePort (pkf pk PKT_DST) <;> simp

theorem foldl_sendPacket_pins {α : Type} (l : List α) (f : Dev → α → Packet) (d : Dev) :
    (l.foldl (fun d a => d.sendPacket (f d a)) d).pins = d.pins := by simp

@[simp] theorem Dev.respond_pins (d : Dev) (req : Packet) (op status : Nat) (payload : List Byte) :
    (d.respond req op status payload).pins = d.pins := by
  simp [Dev.respond]

@[simp] theorem Dev.sendMgmt_pins (d : Dev) (dst op : Nat) (payload : List Byte) : (d.sendMgmt dst op payload).pins = d.pins := by simp [Dev.sendMgmt]

/-! ### Memory: reads, writes and errors of lines -/

@[simp] theorem xorSymbols_pins (m : Mem) (d : Dev) (line : Nat) (es : List (Nat × Nat)) : (xorSymbols m d line es).pins = d.pins := by
  simp [xorSymbols]

@[simp] theorem Dev.setLineErr_pins (d : Dev) (k : Nat) (e : LineErr) : (d.setLineErr k e).pins = d.pins := by simp [Dev.setLineErr]
@[simp] theorem Dev.upsets_pins (d : Dev) (us : List Upset) : (d.upsets us).pins = d.pins := by simp [Dev.upsets]
@[simp] theorem Dev.countPoison_pins (d : Dev) (x : Nat) : (d.countPoison x).pins = d.pins := by simp [Dev.countPoison]
@[simp] theorem Dev.report_pins (d : Dev) (r : FaultRec) : (d.report r).pins = d.pins := by simp [Dev.report]

@[simp] theorem Dev.contain_pins (d : Dev) (c : ResetCause) (unit detail : Nat) : (d.contain c unit detail).pins = d.pins := by
  unfold Dev.contain
  split <;> simp

@[simp] theorem Dev.injected_pins (d : Dev) (inj : Bool) : (d.injected inj).pins = d.pins := by simp [Dev.injected]
@[simp] theorem Dev.lastUE_pins (d : Dev) (off stack tier action : Nat) : (d.lastUE off stack tier action).pins = d.pins := by simp [Dev.lastUE]

@[simp] theorem Dev.uncorrectable_pins (d : Dev) (off : Nat) (who : Reader) : (d.uncorrectable off who).1.pins = d.pins := by
  unfold Dev.uncorrectable
  split <;> simp

@[simp] theorem Dev.hold_pins (d : Dev) (x : Nat) (a : HeldAccess) : (d.hold x a).pins = d.pins := by simp [Dev.hold]
@[simp] theorem Dev.originFailed_pins (d : Dev) (off : Nat) : (d.originFailed off).pins = d.pins := by simp [Dev.originFailed]

@[simp] theorem readLine_pins (m : Mem) (d : Dev) (off : Nat) (who : Reader) : (readLine m d off who).1.pins = d.pins := by
  simp only [readLine]
  repeat' split
  all_goals simp

@[simp] theorem readLines_pins (m : Mem) (who : Reader) (n : Nat) (d : Dev) (off : Nat) : (readLines m who n d off).1.pins = d.pins := by
  induction n generalizing d off with
  | zero => rfl
  | succ n ih =>
    simp only [readLines]
    split <;> simp [ih]

@[simp] theorem readRange_pins (m : Mem) (d : Dev) (off len : Nat) (who : Reader) : (readRange m d off len who).1.pins = d.pins := by simp [readRange]
@[simp] theorem Dev.injectEcc_pins (d : Dev) (off k : Nat) : (d.injectEcc off k).pins = d.pins := by simp [Dev.injectEcc]
@[simp] theorem Dev.setDir_pins (d : Dev) (k : Nat) (e : DirEntry) : (d.setDir k e).pins = d.pins := by simp [Dev.setDir]

@[simp] theorem Dev.startW_pins (d : Dev) (k : Nat) : (d.startW k).pins = d.pins := by
  unfold Dev.startW
  split <;> simp

@[simp] theorem Dev.dirHold_pins (d : Dev) (k : Nat) (a : HeldAccess) : (d.dirHold k a).pins = d.pins := by
  simp only [Dev.dirHold]
  split <;> simp

@[simp] theorem writeLine_pins (m : Mem) (d : Dev) (off : Nat) (bytes : List Byte) : (writeLine m d off bytes).1.pins = d.pins := by simp [writeLine]

@[simp] theorem writeLines_pins (m : Mem) (n : Nat) (d : Dev) (off : Nat) (bytes : List Byte) : (writeLines m n d off bytes).1.pins = d.pins := by
  induction n generalizing d off bytes with
  | zero => rfl
  | succ n ih =>
    simp only [writeLines]
    split
    · rfl
    · split <;> simp [ih]

@[simp] theorem writeRange_pins (m : Mem) (d : Dev) (off : Nat) (bytes : List Byte) : (writeRange m d off bytes).1.pins = d.pins := by
  simp [writeRange]

@[simp] theorem Dev.deviceWrite_pins (m : Mem) (d : Dev) (off : Nat) (bytes : List Byte) : (Dev.deviceWrite m d off bytes).pins = d.pins := by
  simp [Dev.deviceWrite]

@[simp] theorem Dev.holdBehind_pins (d : Dev) (off : Nat) (a : HeldAccess) : (d.holdBehind off a).pins = d.pins := by simp [Dev.holdBehind]

/-! ### Memory: slots, objects and commands -/

@[simp] theorem Dev.freeStep_pins (d : Dev) (tier stack : Nat) (up : Bool) : (d.freeStep tier stack up).pins = d.pins := by simp [Dev.freeStep]
@[simp] theorem Dev.takeSlot_pins (d : Dev) (tier stack slot : Nat) : (d.takeSlot tier stack slot).pins = d.pins := by simp [Dev.takeSlot]
@[simp] theorem Dev.dropSlot_pins (d : Dev) (tier stack slot : Nat) : (d.dropSlot tier stack slot).pins = d.pins := by simp [Dev.dropSlot]

theorem allocSlots_pins {tier mask n : Nat} {d : Dev} {prev : Option Nat} {acc l : List (Nat × Nat)} {e : Dev}
    (h : allocSlots tier mask n d prev acc = some (e, l)) : e.pins = d.pins := by
  induction n generalizing d prev acc with
  | zero => cases h; rfl
  | succ n ih =>
    simp only [allocSlots] at h
    split at h
    · cases h
    · rw [ih h, Dev.takeSlot_pins]

@[simp] theorem Dev.writeSlot_pins (d : Dev) (tier stack slot : Nat) (bytes : List Byte) : (d.writeSlot tier stack slot bytes).pins = d.pins := by
  simp [Dev.writeSlot]

@[simp] theorem Dev.injectSlot_pins (d : Dev) (x tier stack slot : Nat) : (d.injectSlot x tier stack slot).pins = d.pins := by simp [Dev.injectSlot]

@[simp] theorem Dev.fillSlot_pins (d : Dev) (x tier stack slot : Nat) (bytes : List Byte) : (d.fillSlot x tier stack slot bytes).pins = d.pins := by
  simp [Dev.fillSlot]

@[simp] theorem scanLines_pins (m : Mem) (d : Dev) (base n : Nat) : (scanLines m d base n).1.pins = d.pins := by simp [scanLines]
@[simp] theorem digestScan_pins (m : Mem) (d : Dev) (o : Nat) : (digestScan m d o).1.pins = d.pins := by simp [digestScan]
@[simp] theorem Dev.memResult_pins (d : Dev) (c : MemCmd) (status done : Nat) : (d.memResult c status done).pins = d.pins := by simp [Dev.memResult]

@[simp] theorem memCreate_pins (m : Mem) (d : Dev) (o : Nat) (ok : Bool) : (memCreate m d o ok).1.pins = d.pins := by
  simp only [memCreate]
  split
  · rfl
  · split
    · split
      · rfl
      next e l h => split <;> simp [allocSlots_pins h]
    · split <;> simp

@[simp] theorem Dev.unmap_pins (d : Dev) (x : Nat) : (d.unmap x).pins = d.pins := by simp [Dev.unmap]
@[simp] theorem memDestroy_pins (d : Dev) (o : Nat) : (memDestroy d o).1.pins = d.pins := by simp [memDestroy]

@[simp] theorem memSeal_pins (m : Mem) (d : Dev) (o : Nat) : (memSeal m d o).1.pins = d.pins := by
  simp only [memSeal]
  repeat' split
  all_goals simp

@[simp] theorem memSetOrigin_pins (d : Dev) (o kind arg : Nat) : (memSetOrigin d o kind arg).1.pins = d.pins := by simp [memSetOrigin]

@[simp] theorem memDigest_pins (m : Mem) (d : Dev) (o : Nat) (ok : Bool) : (memDigest m d o ok).1.pins = d.pins := by
  simp only [memDigest]
  split
  · rfl
  · split
    · simp
    · split <;> simp

@[simp] theorem Dev.recall_pins (d : Dev) (x : Nat) : (d.recall x).pins = d.pins := by simp [Dev.recall]
@[simp] theorem switchExtent_pins (d : Dev) (v : Move) : (switchExtent d v).pins = d.pins := by simp [switchExtent]

@[simp] theorem migrateAdvance_pins (m : Mem) (n : Nat) (d : Dev) : (migrateAdvance m n d).pins = d.pins := by
  induction n generalizing d with
  | zero => rfl
  | succ n ih =>
    simp only [migrateAdvance]
    repeat' split
    all_goals simp [ih]

@[simp] theorem Dev.replicaReload_pins (d : Dev) (o st : Nat) : (d.replicaReload o st).pins = d.pins := by simp [Dev.replicaReload]

@[simp] theorem memRun_pins (m : Mem) (d : Dev) (c : MemCmd) : (memRun m d c).pins = d.pins := by
  have hd := memDigest_pins m d (wfld [c.w0, c.w1, c.w2] MCMD_OBJECT) c.originOk
  simp only [memRun]
  repeat' split
  all_goals simp_all

@[simp] theorem memDrain_pins (m : Mem) (n : Nat) (d : Dev) : (memDrain m n d).pins = d.pins := by
  induction n generalizing d with
  | zero => rfl
  | succ n ih =>
    simp only [memDrain]
    split
    · split <;> simp [ih]
    · rfl

@[simp] theorem Dev.memStatus_pins (d : Dev) : d.memStatus.pins = d.pins := by simp [Dev.memStatus]

@[simp] theorem memResume_pins (m : Mem) (d : Dev) : (memResume m d).pins = d.pins := by
  unfold memResume
  split <;> simp

/-! ### Vectors, rings, chains and items -/

@[simp] theorem Dev.msixSend_pins (d : Dev) (i v gen : Nat) : (d.msixSend i v gen).pins = d.pins := by simp [Dev.msixSend]

@[simp] theorem Dev.raiseVector_pins (d : Dev) (i v gen : Nat) : (d.raiseVector i v gen).pins = d.pins := by
  unfold Dev.raiseVector
  split <;> simp

@[simp] theorem Dev.ringLost_pins (d : Dev) (i : Nat) (iq : Bool) : (d.ringLost i iq).pins = d.pins := by simp [Dev.ringLost]

@[simp] theorem ringPost_pins (m : Mem) (d : Dev) (i gen : Nat) (iq : Bool) (bytes : List Byte) : (ringPost m d i gen iq bytes).pins = d.pins := by
  simp [ringPost]

@[simp] theorem itemPost_pins (m : Mem) (d : Dev) (it : Item) (source status attempt : Nat) :
    (itemPost m d it source status attempt).pins = d.pins := by
  simp [itemPost]

@[simp] theorem radioPost_pins (m : Mem) (d : Dev) (source status attempt : Nat) (tag : Option Nat) :
    (radioPost m d source status attempt tag).pins = d.pins := by
  simp [radioPost]

@[simp] theorem Dev.chainSet_pins (d : Dev) (it : Item) (st : Option Nat) : (d.chainSet it st).pins = d.pins := by simp [Dev.chainSet]
@[simp] theorem Dev.chainJoin_pins (d : Dev) (it : Item) : (d.chainJoin it).pins = d.pins := by simp [Dev.chainJoin]
@[simp] theorem Dev.stepFinal_pins (d : Dev) (num status : Nat) : (d.stepFinal num status).pins = d.pins := by simp [Dev.stepFinal]

@[simp] theorem itemFinal_pins (m : Mem) (d : Dev) (it : Item) (source status attempt : Nat) :
    (itemFinal m d it source status attempt).pins = d.pins := by
  simp [itemFinal]

@[simp] theorem itemSubmitOp_pins (m : Mem) (d : Dev) (src : Submitter) (ws : Words) : (itemSubmitOp m d src ws).pins = d.pins := by
  unfold itemSubmitOp
  split <;> simp

@[simp] theorem itemCut_pins (m : Mem) (d : Dev) (it : Item) (tile : Nat) : (itemCut m d it tile).pins = d.pins := by simp [itemCut]
@[simp] theorem Dev.closeRun_pins (d : Dev) (tc : Nat) : (d.closeRun tc).pins = d.pins := by simp [Dev.closeRun]

@[simp] theorem cutRun_pins (m : Mem) (d : Dev) (tc : Nat) : (cutRun m d tc).pins = d.pins := by
  unfold cutRun
  split <;> simp

@[simp] theorem Dev.localPut_pins (d : Dev) (tc a : Nat) (v : Byte) : (d.localPut tc a v).pins = d.pins := by simp [Dev.localPut]

@[simp] theorem Dev.localPuts_pins (d : Dev) (tc a : Nat) (l : List Byte) : (d.localPuts tc a l).pins = d.pins := by
  induction l generalizing d a with
  | nil => rfl
  | cons b l ih => simp [Dev.localPuts, ih]

@[simp] theorem submitStep_pins (m : Mem) (p num n : Nat) (d : Dev) : (submitStep m p num n d).pins = d.pins := by
  induction n generalizing d with
  | zero => rfl
  | succ n ih =>
    simp [submitStep, ih]

/-! ### Runs of a tile -/

@[simp] theorem Dev.seqFault_pins (d : Dev) (t c off cause : Nat) (tail : Bool) : (d.seqFault t c off cause tail).pins = d.pins := by
  simp [Dev.seqFault]

@[simp] theorem Dev.tileShow_pins (d : Dev) (t : Nat) : (d.tileShow t).pins = d.pins := by
  unfold Dev.tileShow
  split <;> simp

@[simp] theorem Dev.freshCfg_pins (d : Dev) (t c : Nat) : (d.freshCfg t c).pins = d.pins := by simp [Dev.freshCfg]
@[simp] theorem Dev.makeCur_pins (d : Dev) (t c : Nat) : (d.makeCur t c).pins = d.pins := by simp [Dev.makeCur]
@[simp] theorem Dev.dispatch_pins (d : Dev) (t c : Nat) (r : Run) : (d.dispatch t c r).pins = d.pins := by simp [Dev.dispatch]
@[simp] theorem Dev.radioStage_pins (d : Dev) (t i stage : Nat) : (d.radioStage t i stage).pins = d.pins := by simp [Dev.radioStage]

@[simp] theorem Dev.radioStart_pins (d : Dev) (t i : Nat) : (d.radioStart t i).pins = d.pins := by
  simp only [Dev.radioStart, Dev.radioStage_pins, Dev.dispatch_pins, Dev.raise_pins, ite_pins]
  cases (d.tile t).cur <;> simp

@[simp] theorem Dev.radioLeave_pins (d : Dev) (t : Nat) : (d.radioLeave t).pins = d.pins := by
  simp only [Dev.radioLeave]
  split
  · simp
  · split <;> simp

@[simp] theorem Dev.semAdd_pins (d : Dev) (c s n : Nat) : (d.semAdd c s n).pins = d.pins := by
  unfold Dev.semAdd
  split <;> simp

@[simp] theorem Dev.semTake_pins (d : Dev) (t c s n : Nat) : (d.semTake t c s n).pins = d.pins := by simp [Dev.semTake]

@[simp] theorem Dev.goTo_pins (d : Dev) (tc pc : Nat) : (d.goTo tc pc).pins = d.pins := by
  simp only [Dev.goTo]
  split <;> simp

@[simp] theorem Dev.advance_pins (d : Dev) (tc : Nat) : (d.advance tc).pins = d.pins := by
  unfold Dev.advance
  split <;> simp

@[simp] theorem Dev.wake_pins (d : Dev) (t : Nat) : (d.wake t).pins = d.pins := by
  simp only [Dev.wake]
  split
  · rfl
  · split <;> simp

@[simp] theorem Dev.applyHeld_pins (d : Dev) (t c : Nat) (r : Run) : (d.applyHeld t c r).pins = d.pins := by simp [Dev.applyHeld]

@[simp] theorem commitItem_pins (m : Mem) (d : Dev) (t c : Nat) : (commitItem m d t c).pins = d.pins := by
  simp only [commitItem]
  split <;> simp

@[simp] theorem resume_pins (m : Mem) (t n : Nat) (d : Dev) : (resume m t n d).pins = d.pins := by
  induction n generalizing d with
  | zero => rfl
  | succ n ih =>
    simp only [resume]
    split
    · rfl
    · split <;> simp [ih]

@[simp] theorem endRun_pins (m : Mem) (d : Dev) (t c : Nat) : (endRun m d t c).pins = d.pins := by simp [endRun]

@[simp] theorem stopItem_pins (m : Mem) (d : Dev) (t c status : Nat) : (stopItem m d t c status).pins = d.pins := by
  unfold stopItem
  split <;> simp

@[simp] theorem illegal_pins (m : Mem) (d : Dev) (t c off cause : Nat) : (illegal m d t c off cause).pins = d.pins := by
  unfold illegal
  split <;> simp

/-! ### Outputs of radio items -/

@[simp] theorem Dev.setCell_pins (d : Dev) (n : Nat) (x : CellRun) : (d.setCell n x).pins = d.pins := by simp [Dev.setCell]
@[simp] theorem Dev.passFlags_pins (d : Dev) (t : Nat) (cpx drain : Bool) : (d.passFlags t cpx drain).pins = d.pins := by simp [Dev.passFlags]
@[simp] theorem Dev.putResult_pins (d : Dev) (t : Nat) (rows : List (List W32)) : (d.putResult t rows).pins = d.pins := by simp [Dev.putResult]

@[simp] theorem radioOutput_pins (d : Dev) (t : Nat) (it : RItem) (n : Nat) : (radioOutput d t it n).pins = d.pins := by
  simp only [radioOutput, forN]
  split
  · rfl
  · split <;> simp

@[simp] theorem moveOutputs_pins (d : Dev) (t i : Nat) : (moveOutputs d t i).pins = d.pins := by
  unfold moveOutputs
  split <;> simp

/-! ### Windows of the Tailstock -/

@[simp] theorem Dev.sendMsg_pins (d : Dev) (dst type index : Nat) (fields : List Nat) : (d.sendMsg dst type index fields).pins = d.pins := by
  simp [Dev.sendMsg]

@[simp] theorem Dev.setWin_pins (d : Dev) (w : Nat) (x : Cwin) : (d.setWin w x).pins = d.pins := by simp [Dev.setWin]
@[simp] theorem Dev.winWrite_pins (d : Dev) (w off : Nat) (bytes : List Byte) : (d.winWrite w off bytes).pins = d.pins := by simp [Dev.winWrite]

@[simp] theorem Dev.winReceive_pins (d : Dev) (src off : Nat) (bytes : List Byte) : (d.winReceive src off bytes).pins = d.pins := by
  simp [Dev.winReceive]

@[simp] theorem Dev.winSend_pins (d : Dev) (dst off : Nat) (bytes : List Byte) : (d.winSend dst off bytes).1.pins = d.pins := by simp [Dev.winSend]
@[simp] theorem Dev.addMiss_pins (d : Dev) (n k : Nat) (dl : Bool) (reason : Nat) : (d.addMiss n k dl reason).pins = d.pins := by simp [Dev.addMiss]

/-! ### Requests of this node -/

@[simp] theorem Dev.setQc_pins (d : Dev) (k : Nat) (v : Nat × List Byte) : (d.setQc k v).pins = d.pins := by simp [Dev.setQc]
@[simp] theorem Dev.qcDrop_pins (d : Dev) (node off : Nat) : (d.qcDrop node off).pins = d.pins := by simp [Dev.qcDrop]

@[simp] theorem Dev.qcFill_pins (d : Dev) (node off : Nat) (data : List Byte) : (d.qcFill node off data).pins = d.pins := by
  simp only [Dev.qcFill]
  repeat' split
  all_goals simp

@[simp] theorem Dev.qcPoison_pins (d : Dev) (node : Nat) : (d.qcPoison node).pins = d.pins := by simp [Dev.qcPoison]
@[simp] theorem Dev.launch_pins (d : Dev) (r : FReq) : (d.launch r).pins = d.pins := by simp [Dev.launch]
@[simp] theorem Dev.fabIssue_pins (d : Dev) (r : FReq) : (d.fabIssue r).pins = d.pins := by simp [Dev.fabIssue]
@[simp] theorem Dev.fabKick_pins (d : Dev) (ask : Bool) : (d.fabKick ask).pins = d.pins := by simp [Dev.fabKick]

@[simp] theorem Dev.logError_pins (d : Dev) (status client node off : Nat) : (d.logError status client node off).pins = d.pins := by
  simp [Dev.logError]

@[simp] theorem Dev.setOp_pins (d : Dev) (u : UOp) : (d.setOp u).pins = d.pins := by simp [Dev.setOp]

@[simp] theorem Dev.opDone_pins (d : Dev) (id status node : Nat) (data : List Byte) : (d.opDone id status node data).pins = d.pins := by
  unfold Dev.opDone
  split <;> simp

@[simp] theorem Dev.fenceDone_pins (d : Dev) (u : UOp) : (d.fenceDone u).pins = d.pins := by simp [Dev.fenceDone]

@[simp] theorem Dev.fabSend_pins (d : Dev) (r : FReq) (done : Dev → Dev) (h : ∀ d, (done d).pins = d.pins) :
    (d.fabSend r done).pins = d.pins := by
  simp [Dev.fabSend, h]

@[simp] theorem Dev.opPump_pins (d : Dev) (n : Nat) : (d.opPump n).pins = d.pins := by
  induction n generalizing d with
  | zero => rfl
  | succ n ih =>
    simp only [Dev.opPump]
    split
    · rfl
    · simp [ih]

@[simp] theorem Dev.dmaReqDone_pins (d : Dev) (tc id idx status node off : Nat) :
    (d.dmaReqDone tc id idx status node off).pins = d.pins := by simp [Dev.dmaReqDone]

@[simp] theorem Dev.combDone_pins (d : Dev) (id status : Nat) : (d.combDone id status).pins = d.pins := by
  simp only [Dev.combDone]
  split
  · rfl
  · exact foldl_sendPacket_pins ..

@[simp] theorem Dev.reqDone_pins (d : Dev) (r : FReq) (status : Nat) (data : List Byte) : (d.reqDone r status data).pins = d.pins := by
  simp [Dev.reqDone]

@[simp] theorem Dev.streamLost_pins (d : Dev) (r : FReq) : (d.streamLost r).pins = d.pins := by simp [Dev.streamLost]

@[simp] theorem Dev.complete_pins (d : Dev) (r : FReq) (status : Nat) (data : List Byte) : (d.complete r status data).pins = d.pins := by
  simp [Dev.complete]

@[simp] theorem Dev.responseIn_pins (d : Dev) (pk : Packet) : (d.responseIn pk).pins = d.pins := by
  simp only [Dev.responseIn]
  repeat' split
  all_goals simp

/-! ### Requests at their home -/

@[simp] theorem homeRead_pins (m : Mem) (d : Dev) (pk : Packet) (off n : Nat) : (homeRead m d pk off n).pins = d.pins := by
  simp only [homeRead]
  split <;> simp

@[simp] theorem homeGets_pins (m : Mem) (d : Dev) (pk : Packet) (off : Nat) : (homeGets m d pk off).pins = d.pins := by
  simp only [homeGets]
  repeat' split
  all_goals simp

@[simp] theorem homeWrite_pins (m : Mem) (d : Dev) (pk : Packet) (off n : Nat) : (homeWrite m d pk off n).pins = d.pins := by
  simp only [homeWrite, ite_pins]
  split
  · simp
  · split <;> simp

@[simp] theorem homeApply_pins (m : Mem) (d : Dev) (pk : Packet) : (homeApply m d pk).pins = d.pins := by simp [homeApply]

@[simp] theorem rxDrain_pins (m : Mem) (src cls n : Nat) (d : Dev) : (rxDrain m src cls n d).pins = d.pins := by
  induction n generalizing d with
  | zero => rfl
  | succ n ih =>
    simp only [rxDrain]
    repeat' split
    all_goals simp [ih]

/-! ### Streams, generations and ports -/

@[simp] theorem Dev.dropHeld_pins (d : Dev) (src cls : Nat) : (d.dropHeld src cls).pins = d.pins := by simp [Dev.dropHeld]

@[simp] theorem streamIn_pins (m : Mem) (d : Dev) (pk : Packet) : (streamIn m d pk).pins = d.pins := by
  simp only [streamIn]
  split <;> simp

@[simp] theorem Dev.memberReset_pins (d : Dev) (node : Nat) : (d.memberReset node).pins = d.pins := by
  rw [Dev.memberReset, foldl_pins, Dev.qcPoison_pins]
  intro e a h
  simp [h]

@[simp] theorem Dev.learnGen_pins (d : Dev) (node gen : Nat) : (d.learnGen node gen).pins = d.pins := by simp [Dev.learnGen]
@[simp] theorem Dev.genCheck_pins (d : Dev) (pk : Packet) (answer : Bool) : (d.genCheck pk answer).1.pins = d.pins := by simp [Dev.genCheck]
@[simp] theorem Dev.returnLost_pins (d : Dev) (pk : Packet) : (d.returnLost pk).pins = d.pins := by simp [Dev.returnLost]
@[simp] theorem Dev.announceIn_pins (d : Dev) (port : Nat) (pk : Packet) : (d.announceIn port pk).pins = d.pins := by simp [Dev.announceIn]
@[simp] theorem Dev.genQueryIn_pins (d : Dev) (pk : Packet) : (d.genQueryIn pk).pins = d.pins := by simp [Dev.genQueryIn]
@[simp] theorem Dev.invalIn_pins (d : Dev) (pk : Packet) : (d.invalIn pk).pins = d.pins := by simp [Dev.invalIn]

@[simp] theorem Dev.invalAckIn_pins (d : Dev) (pk : Packet) : (d.invalAckIn pk).pins = d.pins := by
  simp only [Dev.invalAckIn]
  split <;> simp

@[simp] theorem Dev.creditsBack_pins (d : Dev) : d.creditsBack.pins = d.pins := by simp [Dev.creditsBack]
@[simp] theorem packetHome_pins (m : Mem) (d : Dev) (port : Nat) (pk : Packet) : (packetHome m d port pk).pins = d.pins := by simp [packetHome]
@[simp] theorem Dev.setPortState_pins (d : Dev) (p state width : Nat) : (d.setPortState p state width).pins = d.pins := by simp [Dev.setPortState]
@[simp] theorem Dev.portTrain_pins (d : Dev) (p : Nat) : (d.portTrain p).pins = d.pins := by simp [Dev.portTrain]
@[simp] theorem Dev.portRetrain_pins (d : Dev) (p : Nat) : (d.portRetrain p).pins = d.pins := by simp [Dev.portRetrain]
@[simp] theorem fabricReleased_pins (m : Mem) (d : Dev) (pk : Packet) : (fabricReleased m d pk).pins = d.pins := by simp [fabricReleased]

/-! ### Records and detections -/

@[simp] theorem Dev.journalAdd_pins (d : Dev) (w : Words) (unproven : Bool) : (d.journalAdd w unproven).pins = d.pins := by simp [Dev.journalAdd]

@[simp] theorem Dev.record_pins (d : Dev) (u event dkind : Nat) (part : Bool) (c : Cond) (detail tag : Nat) (masked : Bool) :
    (d.record u event dkind part c detail tag masked).pins = d.pins := by
  simp [Dev.record]

/-- Only a confirmed or failed detection can end in FAULTY and so reach FAULT_N (R404); those that settle makes are neither. -/
@[simp] theorem Dev.detected_pins {d : Dev} {f : FaultRec} (hc : f.confirmed = false) (hf : f.failed = false) : (d.detected f).pins = d.pins := by
  simp [Dev.detected, hc, hf]

/-! ### Radio rings and submissions -/

@[simp] theorem Dev.radioVector_pins (d : Dev) (q : Nat) : (d.radioVector q).pins = d.pins := by simp [Dev.radioVector]
@[simp] theorem Dev.setUnseen_pins (d : Dev) (q : Nat) (l : List Nat) : (d.setUnseen q l).pins = d.pins := by simp [Dev.setUnseen]

@[simp] theorem showEntries_pins (q n : Nat) (d : Dev) : (showEntries q n d).pins = d.pins := by
  induction n generalizing d with
  | zero => rfl
  | succ n ih =>
    simp only [showEntries]
    split <;> simp [ih]

@[simp] theorem entryLineDone_pins (d : Dev) (q k off : Nat) : (entryLineDone d q k off).pins = d.pins := by simp [entryLineDone]
@[simp] theorem Dev.queueRec_pins (d : Dev) (n : Nat) (r : RadRec) : (d.queueRec n r).pins = d.pins := by simp [Dev.queueRec]
@[simp] theorem Dev.setSubs_pins (d : Dev) (n : Nat) (l : List Sub) : (d.setSubs n l).pins = d.pins := by simp [Dev.setSubs]

@[simp] theorem Dev.txReturn_pins (d : Dev) (n : Nat) (s : Sub) (status reason : Nat) : (d.txReturn n s status reason).pins = d.pins := by
  simp [Dev.txReturn]

@[simp] theorem Dev.binsStop_pins (d : Dev) (n j : Nat) (s : Sub) : (d.binsStop n j s).pins = d.pins := by
  unfold Dev.binsStop
  split <;> simp

@[simp] theorem Dev.remade_pins (d : Dev) (n : Nat) : (d.remade n).pins = d.pins := by
  simp only [Dev.remade]
  split <;> simp

@[simp] theorem Dev.dlMiss_pins (d : Dev) (n j reason : Nat) : (d.dlMiss n j reason).pins = d.pins := by simp [Dev.dlMiss]

/-! ### Host reads and DMA -/

@[simp] theorem hostReadPieces_pins (m : Mem) (fn base : Nat) (l : List (Nat × Nat)) (d : Dev) (acc : List Byte) :
    (hostReadPieces m fn base l d acc).1.pins = d.pins := by
  induction l generalizing d acc with
  | nil => rfl
  | cons p l ih =>
    simp only [hostReadPieces]
    split
    · exact ih ..
    · split <;> simp [ih]

@[simp] theorem Dev.winCount_pins (d : Dev) (fn base : Nat) (ps : List (Nat × Nat)) : (d.winCount fn base ps).pins = d.pins := by simp [Dev.winCount]

@[simp] theorem hostReadOp_pins (m : Mem) (d : Dev) (fn off len : Nat) (ups : List Upset) : (hostReadOp m d fn off len ups).pins = d.pins := by
  simp only [hostReadOp]
  repeat' split
  all_goals simp

@[simp] theorem Dev.issueReqs_pins (d : Dev) (tc id : Nat) (direct : Bool) (rs : List FReq) : (d.issueReqs tc id direct rs).pins = d.pins := by
  rw [Dev.issueReqs, foldl_pins]
  · simp
  · cases direct <;> simp

@[simp] theorem dmaLoad_pins (d : Dev) (t tc : Nat) (o : DmaOp) : (dmaLoad d t tc o).pins = d.pins := by simp [dmaLoad]
@[simp] theorem dmaSend_pins (d : Dev) (t tc : Nat) (o : DmaOp) (direct : Bool) : (dmaSend d t tc o direct).pins = d.pins := by simp [dmaSend]
@[simp] theorem Dev.setDma_pins (d : Dev) (tc : Nat) (o : DmaOp) : (d.setDma tc o).pins = d.pins := by simp [Dev.setDma]

@[simp] theorem dmaWriteRow_pins (m : Mem) (d : Dev) (tc id off : Nat) (bytes : List Byte) : (dmaWriteRow m d tc id off bytes).pins = d.pins := by
  simp [dmaWriteRow]

@[simp] theorem Dev.tailFault_pins (m : Mem) (d : Dev) (t c : Nat) (o : DmaOp) (cause : Nat) (stop : Bool) :
    (Dev.tailFault m d t c o cause stop).pins = d.pins := by
  simp [Dev.tailFault]

@[simp] theorem dmaRows_pins (m : Mem) (d : Dev) (tc : Nat) (o : DmaOp) (dstTc : Nat) (l : List (Nat × Nat)) :
    (dmaRows m d tc o dstTc l).1.pins = d.pins := by
  induction l generalizing d with
  | nil => rfl
  | cons r l ih =>
    simp only [dmaRows]
    split <;> simp [ih]

@[simp] theorem dmaPerform_pins (m : Mem) (d : Dev) (t c : Nat) (o : DmaOp) (dstTc : Nat) : (dmaPerform m d t c o dstTc).pins = d.pins := by
  simp only [dmaPerform]
  repeat' split
  all_goals simp

@[simp] theorem dmaStartOne_pins (m : Mem) (d : Dev) (t c : Nat) (o : DmaOp) : (dmaStartOne m d t c o).pins = d.pins := by
  simp only [dmaStartOne]
  split <;> simp

@[simp] theorem dmaRetry_pins (m : Mem) (d : Dev) (tc id : Nat) : (dmaRetry m d tc id).pins = d.pins := by
  unfold dmaRetry
  split <;> simp

@[simp] theorem dmaLineDone_pins (d : Dev) (tc id off : Nat) : (dmaLineDone d tc id off).pins = d.pins := by simp [dmaLineDone]

/-! ### Radio items that ended -/

@[simp] theorem Dev.missUl_pins (d : Dev) (n k reason : Nat) : (d.missUl n k reason).pins = d.pins := by
  simp only [Dev.missUl]
  split <;> simp

@[simp] theorem Dev.itemMiss_pins (d : Dev) (r : RItem) : (d.itemMiss r).pins = d.pins := by simp [Dev.itemMiss]

@[simp] theorem Dev.radioFollow_pins (d : Dev) : d.radioFollow.pins = d.pins := by
  rw [Dev.radioFollow, foldl_pins]
  intro d1 e h1
  rw [foldl_pins, h1]
  intro d2 i h2
  split
  · exact h2
  · simp [h2]

/-! ### Messages between Tailstocks -/

@[simp] theorem Dev.setRole_pins (d : Dev) (n role k : Nat) (takeover : Bool) : (d.setRole n role k takeover).pins = d.pins := by simp [Dev.setRole]
@[simp] theorem Dev.takeover_pins (d : Dev) (n : Nat) : (d.takeover n).pins = d.pins := by simp [Dev.takeover]
@[simp] theorem Dev.prtDisarm_pins (d : Dev) : d.prtDisarm.pins = d.pins := by simp [Dev.prtDisarm]
@[simp] theorem Dev.sentDigest_pins (d : Dev) (kind v : Nat) : (d.sentDigest kind v).1.pins = d.pins := by simp [Dev.sentDigest]
@[simp] theorem Dev.sendHello_pins (d : Dev) (n : Nat) : (d.sendHello n).pins = d.pins := by simp [Dev.sendHello]

@[simp] theorem helloIn_pins (d : Dev) (pk : Packet) : (helloIn d pk).pins = d.pins := by
  unfold helloIn
  split <;> simp

@[simp] theorem Dev.setProbe_pins (d : Dev) (n : Nat) (x : Probe) : (d.setProbe n x).pins = d.pins := by simp [Dev.setProbe]

@[simp] theorem Dev.suspect_pins (d : Dev) (unit dkind : Nat) : (d.suspect unit dkind).pins = d.pins :=
  Dev.detected_pins rfl rfl

@[simp] theorem Dev.compared_pins (d : Dev) (n : Nat) (own : CmpEnt) (other : Nat) : (d.compared n own other).pins = d.pins := by simp [Dev.compared]

@[simp] theorem Dev.theirEntry_pins (d : Dev) (n : Nat) (e : CmpEnt) : (d.theirEntry n e).pins = d.pins := by
  simp only [Dev.theirEntry]
  split <;> simp

@[simp] theorem compareIn_pins (d : Dev) (pk : Packet) : (compareIn d pk).pins = d.pins := by
  unfold compareIn
  split
  · rfl
  · rw [ite_pins, foldl_pins fun e i h => (Dev.theirEntry_pins ..).trans h, ite_self]
    rfl

@[simp] theorem Dev.trigger_pins (d : Dev) (n least : Nat) (kind : EvKind) : (d.trigger n least kind).pins = d.pins := by simp [Dev.trigger]

@[simp] theorem relinquishIn_pins (d : Dev) (pk : Packet) : (relinquishIn d pk).pins = d.pins := by
  unfold relinquishIn
  split <;> simp

@[simp] theorem takeoverIn_pins (d : Dev) (pk : Packet) : (takeoverIn d pk).pins = d.pins := by
  unfold takeoverIn
  split <;> simp

@[simp] theorem Dev.setRound_pins (d : Dev) (k : Nat) (v : Nat × Nat × Nat) : (d.setRound k v).pins = d.pins := by simp [Dev.setRound]

@[simp] theorem Dev.replicaTell_pins (d : Dev) (r dg : Nat) (expelled : Bool) : (d.replicaTell r dg expelled).pins = d.pins := by
  simp [Dev.replicaTell]

@[simp] theorem expelSelf_pins (m : Mem) (d : Dev) (r : Nat) : (expelSelf m d r).pins = d.pins := by simp [expelSelf]
@[simp] theorem Dev.replicaMatch_pins (d : Dev) (r : Nat) : (d.replicaMatch r).pins = d.pins := by simp [Dev.replicaMatch]
@[simp] theorem Dev.stageBad_pins (d : Dev) : d.stageBad.pins = d.pins := by simp [Dev.stageBad]

@[simp] theorem replicaEval_pins (m : Mem) (d : Dev) (r : Nat) : (replicaEval m d r).pins = d.pins := by
  simp only [replicaEval]
  repeat' split
  all_goals simp

@[simp] theorem replicaIn_pins (m : Mem) (d : Dev) (pk : Packet) : (replicaIn m d pk).pins = d.pins := by
  simp only [replicaIn]
  rw [foldl_pins]
  intro e r h
  split <;> simp [h]

@[simp] theorem winStatus_pins (m : Mem) (d : Dev) (w round status digest : Nat) : (winStatus m d w round status digest).pins = d.pins := by
  simp [winStatus]

@[simp] theorem Dev.winRearm_pins (d : Dev) (w : Nat) : (d.winRearm w).pins = d.pins := by simp [Dev.winRearm]
@[simp] theorem Dev.winClear_pins (d : Dev) (w : Nat) : (d.winClear w).pins = d.pins := by simp [Dev.winClear]

@[simp] theorem winCompare_pins (m : Mem) (d : Dev) (w : Nat) : (winCompare m d w).pins = d.pins := by
  simp only [winCompare]
  split <;> simp

@[simp] theorem Dev.winAnswer_pins (d : Dev) (w node pw round dg : Nat) : (d.winAnswer w node pw round dg).pins = d.pins := by
  unfold Dev.winAnswer
  split <;> simp

@[simp] theorem winDigestIn_pins (m : Mem) (d : Dev) (pk : Packet) : (winDigestIn m d pk).pins = d.pins := by simp [winDigestIn]
@[simp] theorem winResultIn_pins (m : Mem) (d : Dev) (pk : Packet) : (winResultIn m d pk).pins = d.pins := by simp [winResultIn]
@[simp] theorem flagIn_pins (d : Dev) (pk : Packet) : (flagIn d pk).pins = d.pins := by simp [flagIn]
@[simp] theorem backupIn_pins (m : Mem) (d : Dev) (pk : Packet) : (backupIn m d pk).pins = d.pins := by simp [backupIn]

@[simp] theorem tlsMsg_pins (m : Mem) (d : Dev) (pk : Packet) : (tlsMsg m d pk).pins = d.pins := by
  unfold tlsMsg
  split <;> simp

/-! ### Transfers of firmware -/

@[simp] theorem Dev.updShow_pins (d : Dev) (state status reason : Nat) : (d.updShow state status reason).pins = d.pins := by simp [Dev.updShow]

@[simp] theorem Dev.sendFw_pins (d : Dev) (dst type id word : Nat) (bytes : List Byte) : (d.sendFw dst type id word bytes).pins = d.pins := by
  simp [Dev.sendFw]

@[simp] theorem Dev.fwAnswer_pins (d : Dev) (dst id status reason node : Nat) : (d.fwAnswer dst id status reason node).pins = d.pins := by
  simp [Dev.fwAnswer]

@[simp] theorem Dev.updBegin_pins (d : Dev) (target mode : Nat) (fwd : Bool) (up : Option (Nat × Nat)) (total : Nat) :
    (d.updBegin target mode fwd up total).pins = d.pins := by
  simp [Dev.updBegin]

@[simp] theorem Dev.updAnswer_pins (d : Dev) (u : Upd) (v : Nat × Nat × Nat) : (d.updAnswer u v).pins = d.pins := by
  unfold Dev.updAnswer
  split <;> simp

@[simp] theorem Dev.pastFinish_pins (d : Dev) : d.pastFinish.pins = d.pins := by simp [Dev.pastFinish]

@[simp] theorem Dev.updFinish_pins (d : Dev) : d.updFinish.pins = d.pins := by
  simp only [Dev.updFinish]
  split <;> simp

@[simp] theorem fwOfferOp_pins (d : Dev) (pk : Packet) : (fwOfferOp d pk).pins = d.pins := by
  unfold fwOfferOp
  repeat' split
  all_goals simp

@[simp] theorem fwChunkOp_pins (d : Dev) (pk : Packet) : (fwChunkOp d pk).pins = d.pins := by
  simp only [fwChunkOp]
  repeat' split
  all_goals simp

@[simp] theorem Dev.setUpdAt_pins (d : Dev) (k : Nat) (u : Upd) : (d.setUpdAt k u).pins = d.pins := by simp [Dev.setUpdAt]
@[simp] theorem Dev.setChain_pins (d : Dev) (k i : Nat) (c : Chain) : (d.setChain k i c).pins = d.pins := by simp [Dev.setChain]
@[simp] theorem Dev.streamFrom_pins (d : Dev) (k i : Nat) (c : Chain) (off : Nat) : (d.streamFrom k i c off).pins = d.pins := by simp [Dev.streamFrom]

@[simp] theorem fwNakOp_pins (d : Dev) (pk : Packet) : (fwNakOp d pk).pins = d.pins := by
  unfold fwNakOp
  split <;> simp

@[simp] theorem Dev.chainEnd_pins (d : Dev) (k i : Nat) (c : Chain) (status reason node : Nat) :
    (d.chainEnd k i c status reason node).pins = d.pins := by
  simp [Dev.chainEnd]

@[simp] theorem fwResultOp_pins (d : Dev) (pk : Packet) : (fwResultOp d pk).pins = d.pins := by
  unfold fwResultOp
  split <;> simp

/-! ### What a command leaves is settled -/

@[simp] theorem selfMsg_pins (m : Mem) (d : Dev) (pk : Packet) : (selfMsg m d pk).pins = d.pins := by
  unfold selfMsg
  split <;> simp

@[simp] theorem selfPacket_pins (m : Mem) (d : Dev) (pk : Packet) : (selfPacket m d pk).pins = d.pins := by simp [selfPacket]

@[simp] theorem goOn_pins (m : Mem) (d : Dev) (a : HeldAccess) : (goOn m d a).pins = d.pins := by
  unfold goOn
  split <;> simp

@[simp] theorem settleLoop_pins (m : Mem) (n : Nat) (d : Dev) : (settleLoop m n d).pins = d.pins := by
  induction n generalizing d with
  | zero => rfl
  | succ n ih =>
    simp only [settleLoop]
    repeat' split
    all_goals simp [ih]

@[simp] theorem Dev.stuckPorts_pins (d : Dev) : d.stuckPorts.pins = d.pins := by simp [Dev.stuckPorts]

/-- What a command leaves to settle drives no pin: FAULT_N moves in the command itself or not at all. -/
@[simp] theorem settle_pins (m : Mem) (d : Dev) : (settle m d).pins = d.pins := by simp [settle]

end Sys2Proof.Machine
end

section
/-! A detection at the end of the window of another (R403): a serving state in which its cure (R180) overwrites TLS_POS first. -/
namespace Sys2Proof.Machine

/-- A command ends in a chip reset, which lists no register, or leaves the pins as its last operation left them. -/
theorem finish_regs_or_pins (s : State) (d : Dev) : (finish s d).d.regs = [] ∨ (finish s d).d.pins = d.pins := by
  unfold finish
  split
  · exact .inl rfl
  · exact .inr rfl

/-! ### A serving state that no device has

`State.serving` bounds neither the keys of the chucks nor the numbers of a held increment's semaphore, and the address of
CUB_SEQ_SEM_COUNT grows with both: chuck 13292 would lie on tile 3323, and there the counter of semaphore 137 is TLS_POS. The detection
found the unit 604800 s after its last one, so it ends in FAULTY; but its cure disables tile 0, which ends item 7, lets chuck 1 commit and
apply its increment, and so moves TLS_POS out of the window before the detection looks at it. -/

def strayItem (n : Nat) : Item := { desc := [], origin := 0, inst := 0, igen := 0, seqNo := n }

def strayUnit : Nat := unitEngine 5

def strayRec : FaultRec := { unit := strayUnit, confirmed := true, dkind := 0x10, cure := some (0, none, some 7) }

def strayDev : Dev :=
  { regs := [(Fld.key FPL_BOOT_STATUS_IN_SERVICE, 1), (Fld.key CUB_CHK_CFG_AUTO_TILE, 0), (Fld.key TLS_STATUS_RUNNING, 1),
      (Fld.key TLS_POS_POS, 604800)]
    chucks := [(0, { run := some { item := strayItem 7, pc := 0 } }),
      (1, { run := some { item := strayItem 8, pc := 0, heldInc := [(0, 5, 137)] }, wait := some (.commit false) }),
      (13292, { ctx := some 5, resident := true })]
    tls := { inQ := [strayRec], units := [(strayUnit, { times := [0] })] } }

def strayState : State := { pending := [], mem := [], d := strayDev }

theorem strayState_serving : strayState.serving := by
  unfold State.serving
  decide +kernel

theorem strayDev_after : (faultReceiveOp [] strayDev).quiet = true ∧ (faultReceiveOp [] strayDev).get TLS_POS_POS = 604801 ∧
    (faultReceiveOp [] strayDev).regs ≠ [] ∧ (faultReceiveOp [] strayDev).pins.faultLow = false := by
  decide +kernel

theorem faultRecordReceive_stray : exec .faultRecordReceive strayState = .next { strayState with d := faultReceiveOp [] strayDev } :=
  run_quiet _ strayState (by decide) strayDev_after.1

end Sys2Proof.Machine

open Sys2Proof Sys2Proof.Machine in
/-- Refutes O55: in `strayState` a confirmed detection within the window of another leaves its unit SUSPECT and FAULT_N high, since
TLS_POS, which an increment of the cure overwrites, is past the window by then; no `d'` with FAULT_N low settles to that state. -/
theorem not_faultsAndTests : ¬ Obligations.FaultsAndTests := by
  unfold Obligations.FaultsAndTests
  intro h
  obtain ⟨-, hrec, -⟩ := h strayState strayState_serving
  obtain ⟨-, hagain⟩ := hrec strayRec [] (by decide +kernel) rfl rfl rfl
  obtain ⟨d', hd, -, -, hlow⟩ := hagain (by decide +kernel) (by decide +kernel)
  obtain ⟨-, -, hregs, hpin⟩ := strayDev_after
  have hX : finish strayState (settle strayState.mem d') = { strayState with d := faultReceiveOp [] strayDev } :=
    Host.Outcome.next.inj (hd.symm.trans faultRecordReceive_stray)
  obtain hr | hp := finish_regs_or_pins strayState (settle strayState.mem d')
  · rw [hX] at hr
    exact hregs hr
  · rw [hX] at hp
    rw [← settle_pins strayState.mem d', ← hp, hpin] at hlow
    cases hlow
end
